-- ==== Sys2Proof/Word.lean ====
section
/-! DEFINITION. The word types of the OCN-9640 model and their plainest arithmetic. -/
namespace Sys2Proof

/-- A 32-bit register word, the unit of every access to a register page (R499). -/
abbrev Word := BitVec 32

/-- One byte of a buffer. -/
abbrev Byte := BitVec 8

/-- Bits `[lo + w - 1 : lo]` of a natural number. -/
def bitsOf (n lo w : Nat) : Nat := (n / 2 ^ lo) % 2 ^ w

/-- Bit `k` of a mask. -/
def bitOf (n k : Nat) : Bool := n.testBit k

/-- A mask with bit `k` set. -/
def setBit (n k : Nat) : Nat := n ||| 2 ^ k

/-- A mask with bit `k` cleared. -/
def clrBit (n k : Nat) : Nat := if n.testBit k then n - 2 ^ k else n

/-- A mask with bit `k` as told. -/
def putBit (n k : Nat) (b : Bool) : Nat := if b then setBit n k else clrBit n k

/-- The mask AND NOT another, over 32 bits. -/
def maskOff (n m : Nat) : Nat := n &&& (m ^^^ (2 ^ 32 - 1))

/-- The number a two's complement field of `w` bits stands for. -/
def signedOf (w n : Nat) : Int := if 2 ^ (w - 1) ≤ n then (n : Int) - (2 ^ w : Nat) else (n : Int)

/-- The two's complement field of `w` bits that stands for a number. -/
def ofSigned (w : Nat) (z : Int) : Nat := (z % ((2 ^ w : Nat) : Int)).toNat

/-- A sum that stays at the greatest value of a `w`-bit counter. -/
def satAdd (w a b : Nat) : Nat := min (a + b) (2 ^ w - 1)

/-- The least multiple of `m` at or above `n`. -/
def ceilTo (n m : Nat) : Nat := ((n + m - 1) / m) * m

/-- The quotient rounded up. -/
def ceilDiv (n m : Nat) : Nat := (n + m - 1) / m

/-- One as a flag. -/
def flag (b : Bool) : Nat := if b then 1 else 0

end Sys2Proof
end

