-- ==== Sys2Proof/Machine/Table.lean ====
section
/-! DEFINITION. The sparse canonical tables State is made of: the page types of the register directory, one field of a
register, the key of one stored field, and the list that holds the stored values in rising order of their keys. -/
namespace Sys2Proof.Machine

/-- The page types of Table 20.1 (R524), and after them the tables of entries that software reads through a window
(R527): flow contexts, route entries, crosspoint entries, mix inputs, source status bits and next-hop entries. -/
inductive Page where
  | global | reset | power | thermal | nvm | keys | event | busmatrix | service | supervisor
  | repair | ledger | route | refmgr | synthctl | gpio | quad | vin | vout | ce
  | memch | fabric | syncmgr | flow | audio | aport | mesh | meshctl | synth | eth
  | fc | rte | xpt | mixin | astat | nh
  deriving DecidableEq, Repr

/-- The TYPE of PAGE_ID, Table 20.1; the window tables take numbers no page has. -/
def Page.code : Page → Nat
  | .global => 0x01 | .reset => 0x02 | .power => 0x03 | .thermal => 0x04 | .nvm => 0x05 | .keys => 0x06
  | .event => 0x07 | .busmatrix => 0x08 | .service => 0x09 | .supervisor => 0x0A | .repair => 0x0B
  | .ledger => 0x0C | .route => 0x0D | .refmgr => 0x0E | .synthctl => 0x0F | .gpio => 0x10 | .quad => 0x11
  | .vin => 0x12 | .vout => 0x13 | .ce => 0x14 | .memch => 0x15 | .fabric => 0x16 | .syncmgr => 0x17
  | .flow => 0x18 | .audio => 0x19 | .aport => 0x1A | .mesh => 0x1B | .meshctl => 0x1C | .synth => 0x1D
  | .eth => 0x1E | .fc => 0x80 | .rte => 0x81 | .xpt => 0x82 | .mixin => 0x83 | .astat => 0x84 | .nh => 0x85

/-- How the reset value of a field is given: one value, a value for the instances below a bound and 0 for the rest,
a value for index 0 only, or a value for each instance in turn. -/
inductive Reset where
  | const (v : Nat)
  | below (n v : Nat)
  | atIdx0 (v : Nat)
  | perInst (l : List Nat)
  deriving DecidableEq, Repr

/-- The reset value at an instance and an index. -/
def Reset.at : Reset → Nat → Nat → Nat
  | .const v, _, _ => v
  | .below n v, i, _ => if i < n then v else 0
  | .atIdx0 v, _, k => if k = 0 then v else 0
  | .perInst l, i, _ => l.getD i 0

/-- A number list that tells one way of giving a reset value from every other. -/
def Reset.code : Reset → List Nat
  | .const v => [0, v]
  | .below n v => [1, n, v]
  | .atIdx0 v => [2, v]
  | .perInst l => 3 :: l

/-- One field of a register: its page type, the byte offset of the (first) register, its low bit, its width and its
reset value. Fields from offset 0x1000 up are the device's own scalars, which no access reaches. -/
structure Field where
  page : Page
  off : Nat
  lo : Nat
  width : Nat
  rst : Reset
  deriving DecidableEq, Repr

/-- What tells one stored field from another: the field, the page instance, and the index in an array of registers. -/
structure RegKey where
  field : Field
  inst : Nat
  idx : Nat
  deriving DecidableEq, Repr

/-- The reset value of what the key names. -/
def RegKey.default (k : RegKey) : Nat := k.field.rst.at k.inst k.idx

/-- The number list by which keys are ordered. -/
def RegKey.code (k : RegKey) : List Nat :=
  k.field.page.code :: k.inst :: k.field.off :: k.idx :: k.field.lo :: k.field.width :: k.field.rst.code

/-- Lexicographic order of number lists. -/
def lexLt : List Nat → List Nat → Bool
  | [], [] => false
  | [], _ :: _ => true
  | _ :: _, [] => false
  | a :: as, b :: bs => if a < b then true else if a = b then lexLt as bs else false

/-- A sparse table of values by number: strictly rising keys. -/
abbrev NTable (α : Type) := List (Nat × α)

/-- A sparse table of field values by key: strictly rising keys. -/
abbrev RTable := List (RegKey × Nat)

/-- The value under a number, if the table lists it. -/
def NTable.find {α : Type} : NTable α → Nat → Option α
  | [], _ => none
  | (k, v) :: t, n => if k = n then some v else NTable.find t n

/-- The table without a number. -/
def NTable.erase {α : Type} : NTable α → Nat → NTable α
  | [], _ => []
  | (k, v) :: t, n => if k = n then NTable.erase t n else (k, v) :: NTable.erase t n

/-- The table with a pair put in at its place in the order. -/
def NTable.insert {α : Type} : NTable α → Nat → α → NTable α
  | [], n, a => [(n, a)]
  | (k, v) :: t, n, a => if n < k then (n, a) :: (k, v) :: t else (k, v) :: NTable.insert t n a

/-- The table with a number set to a value. -/
def NTable.put {α : Type} (t : NTable α) (n : Nat) (a : α) : NTable α := NTable.insert (NTable.erase t n) n a

/-- The value under a number in a table whose unlisted entries read as `d`. -/
def NTable.getD {α : Type} (t : NTable α) (n : Nat) (d : α) : α := (NTable.find t n).getD d

/-- The table with a number set to a value, unlisted where the value is what an unlisted entry reads as. -/
def NTable.putD {α : Type} [DecidableEq α] (t : NTable α) (n : Nat) (a d : α) : NTable α :=
  if a = d then NTable.erase t n else NTable.put t n a

/-- The value under a key, if the table lists it. -/
def RTable.find : RTable → RegKey → Option Nat
  | [], _ => none
  | (k, v) :: t, n => if k = n then some v else RTable.find t n

/-- The table without a key. -/
def RTable.erase : RTable → RegKey → RTable
  | [], _ => []
  | (k, v) :: t, n => if k = n then RTable.erase t n else (k, v) :: RTable.erase t n

/-- The table with a pair put in at its place in the order. -/
def RTable.insert : RTable → RegKey → Nat → RTable
  | [], n, a => [(n, a)]
  | (k, v) :: t, n, a =>
    if lexLt n.code k.code then (n, a) :: (k, v) :: t else (k, v) :: RTable.insert t n a

/-- The table with a key set to a value. -/
def RTable.put (t : RTable) (n : RegKey) (a : Nat) : RTable := RTable.insert (RTable.erase t n) n a

/-- The value under a key; an unlisted key reads as its reset value. -/
def RTable.get (t : RTable) (n : RegKey) : Nat := (RTable.find t n).getD n.default

/-- The table with a key set to a value cut to the field's width, unlisted where that is the reset value. -/
def RTable.set (t : RTable) (n : RegKey) (a : Nat) : RTable :=
  if a % 2 ^ n.field.width = n.default then RTable.erase t n else RTable.put t n (a % 2 ^ n.field.width)

/-- The table without the entries a test names: what a reset of those fields leaves. -/
def RTable.drop (t : RTable) (p : RegKey → Bool) : RTable := t.filter (fun e => !p e.1)

/-- The canonical form of a field table: keys strictly rising, every value within its field, none at its reset value. -/
def RTable.wf (t : RTable) : Prop :=
  t.Pairwise (fun a b => lexLt a.1.code b.1.code = true) ∧
    ∀ e ∈ t, e.2 ≠ e.1.default ∧ e.2 < 2 ^ e.1.field.width

/-- The canonical form of the table of shadow values: keys strictly rising, every value within its field. -/
def RTable.wfShadow (t : RTable) : Prop :=
  t.Pairwise (fun a b => lexLt a.1.code b.1.code = true) ∧ ∀ e ∈ t, e.2 < 2 ^ e.1.field.width

/-- The canonical form of a table by number: keys strictly rising. -/
def NTable.wf {α : Type} (t : NTable α) : Prop := t.Pairwise (fun a b => a.1 < b.1)

end Sys2Proof.Machine
end

