-- ==== Sys2Proof/Machine/Layout.lean ====
section
/-! DEFINITION. The access codes of R508 and the row of a page's layout. -/
namespace Sys2Proof.Machine

/-- The access codes of Table 19.4 (R508). -/
inductive Access where
  | rw | ro | w1c | w1s | wo | rws | rwl
  deriving DecidableEq, Repr

/-- One row of a page's layout: a field, the byte distance and the number of the registers of its array, its access
code, and the instances of the page that have it (elsewhere it reads 0 and ignores writes). -/
structure LayoutRow where
  field : Field
  stride : Nat
  count : Nat
  acc : Access
  instLo : Nat
  instHi : Nat
  deriving DecidableEq, Repr

end Sys2Proof.Machine
end

