-- ==== Sys2Proof/Machine/FieldsControl.lean ====
section
/-! DEFINITION. The storage layout of the register fields of the control pages, as the tables of the spec give them: one definition per field,
the event bits of each page, and for each page the list of its fields with access codes. -/
namespace Sys2Proof.Machine

/-- Part number (R529, Table 20.4). -/
def GLOBAL.CHIP_ID_PART : Field := ⟨.global, 0x40, 0, 16, .const 0x9640⟩
/-- 0 OCN-9640-B, 1 OCN-9640-L (R529, Table 20.4). -/
def GLOBAL.CHIP_ID_VARIANT : Field := ⟨.global, 0x40, 16, 4, .const 0⟩
/-- Version of the running firmware, from its manifest; 0 with no image running (R529, Table 20.4). -/
def GLOBAL.FW_VER_PATCH : Field := ⟨.global, 0x44, 0, 8, .const 0⟩
/-- Version of the running firmware, from its manifest; 0 with no image running (R529, Table 20.4). -/
def GLOBAL.FW_VER_MINOR : Field := ⟨.global, 0x44, 8, 8, .const 0⟩
/-- Version of the running firmware, from its manifest; 0 with no image running (R529, Table 20.4). -/
def GLOBAL.FW_VER_MAJOR : Field := ⟨.global, 0x44, 16, 8, .const 0⟩
/-- RESET.SEQ_STAT.LOADED (R529, Table 20.4). -/
def GLOBAL.SUMMARY_LOADED : Field := ⟨.global, 0x48, 0, 1, .const 0⟩
/-- SUPERVISOR.STAT.MODE reads FLYWHEEL or FLYWHEEL_HOLD (R529, Table 20.4). -/
def GLOBAL.SUMMARY_FLYWHEEL : Field := ⟨.global, 0x48, 1, 1, .const 0⟩
/-- KEYS.LC_STAT.TAMPER_HOLD (R529, Table 20.4). -/
def GLOBAL.SUMMARY_TAMPER_HOLD : Field := ⟨.global, 0x48, 2, 1, .const 0⟩
/-- KEYS.LC_STAT.STATE (R529, Table 20.4). -/
def GLOBAL.SUMMARY_LC_STATE : Field := ⟨.global, 0x48, 3, 2, .const 0⟩
/-- THERMAL.STAT.STAGE (R529, Table 20.4). -/
def GLOBAL.SUMMARY_STAGE : Field := ⟨.global, 0x48, 5, 3, .const 0⟩
/-- REFMGR.RM_STAT.STATE reads LOCKED (R529, Table 20.4). -/
def GLOBAL.SUMMARY_REF_LOCKED : Field := ⟨.global, 0x48, 8, 1, .const 0⟩
/-- REPAIR.STAT.SHED_COUNT is not 0 (R529, Table 20.4). -/
def GLOBAL.SUMMARY_PROT_SHED : Field := ⟨.global, 0x48, 9, 1, .const 0⟩
/-- BUSMATRIX.PCIE_STAT.LINK_UP (R529, Table 20.4). -/
def GLOBAL.SUMMARY_PCIE_UP : Field := ⟨.global, 0x48, 10, 1, .const 0⟩
/-- MESHCTL.STAT.SELF_ID (R529, Table 20.4). -/
def GLOBAL.SUMMARY_MEMBER_ID : Field := ⟨.global, 0x48, 11, 3, .const 0⟩
/-- MESHCTL.STAT.STATE reads MEMBER (R529, Table 20.4). -/
def GLOBAL.SUMMARY_MEMBER : Field := ⟨.global, 0x48, 14, 1, .const 0⟩
/-- Requests refused in 0x60 to 0x6F (R529, Table 20.4). -/
def GLOBAL.SUMMARY_CTRL_REFUSING : Field := ⟨.global, 0x48, 15, 1, .const 0⟩
/-- Under R528; held per master (R529, Table 20.4). -/
def GLOBAL.WIN_CFG_FLOW_APERTURE : Field := ⟨.global, 0x4C, 0, 1, .const 0⟩
/-- No effect on the device; kept across CONTROL reset (R529, Table 20.4). -/
def GLOBAL.SCRATCH_DATA : Field := ⟨.global, 0x50, 0, 32, .const 0⟩
/-- EVT_STAT [0]: A SUMMARY bit changed (R529, Table 20.4). -/
abbrev GLOBAL.EV_SUMMARY_CHG : Nat := 0
/-- Fields of the GLOBAL page, part 0. -/
def GLOBAL.layout0 : List LayoutRow := [
  ⟨GLOBAL.CHIP_ID_PART, 0, 1, .ro, 0, 262143⟩,
  ⟨GLOBAL.CHIP_ID_VARIANT, 0, 1, .ro, 0, 262143⟩,
  ⟨GLOBAL.FW_VER_PATCH, 0, 1, .ro, 0, 262143⟩,
  ⟨GLOBAL.FW_VER_MINOR, 0, 1, .ro, 0, 262143⟩,
  ⟨GLOBAL.FW_VER_MAJOR, 0, 1, .ro, 0, 262143⟩,
  ⟨GLOBAL.SUMMARY_LOADED, 0, 1, .ro, 0, 262143⟩,
  ⟨GLOBAL.SUMMARY_FLYWHEEL, 0, 1, .ro, 0, 262143⟩,
  ⟨GLOBAL.SUMMARY_TAMPER_HOLD, 0, 1, .ro, 0, 262143⟩,
  ⟨GLOBAL.SUMMARY_LC_STATE, 0, 1, .ro, 0, 262143⟩,
  ⟨GLOBAL.SUMMARY_STAGE, 0, 1, .ro, 0, 262143⟩,
  ⟨GLOBAL.SUMMARY_REF_LOCKED, 0, 1, .ro, 0, 262143⟩,
  ⟨GLOBAL.SUMMARY_PROT_SHED, 0, 1, .ro, 0, 262143⟩,
  ⟨GLOBAL.SUMMARY_PCIE_UP, 0, 1, .ro, 0, 262143⟩,
  ⟨GLOBAL.SUMMARY_MEMBER_ID, 0, 1, .ro, 0, 262143⟩,
  ⟨GLOBAL.SUMMARY_MEMBER, 0, 1, .ro, 0, 262143⟩,
  ⟨GLOBAL.SUMMARY_CTRL_REFUSING, 0, 1, .ro, 0, 262143⟩,
  ⟨GLOBAL.WIN_CFG_FLOW_APERTURE, 0, 1, .rw, 0, 262143⟩,
  ⟨GLOBAL.SCRATCH_DATA, 0, 1, .rw, 0, 262143⟩]
/-- The fields of the GLOBAL page with their access codes. -/
def GLOBAL.layout : List LayoutRow := GLOBAL.layout0

/-- Under R421 (R444, Table 15.8). -/
def RESET.CFG_ESCALATE_EN : Field := ⟨.reset, 0x40, 0, 1, .const 0⟩
/-- XO_IN cycles, 256 to 65,536 (R444, Table 15.8). -/
def RESET.GAP_CYCLES : Field := ⟨.reset, 0x44, 0, 17, .const 0x400⟩
/-- DEVICE reset; reads 0 (R444, Table 15.8). -/
def RESET.CTL_DEVICE : Field := ⟨.reset, 0x48, 0, 1, .const 0⟩
/-- CONTROL reset; reads 0 (R444, Table 15.8). -/
def RESET.CTL_CONTROL : Field := ⟨.reset, 0x48, 1, 1, .const 0⟩
/-- Must be 0x0A55 in the same write, or the write is ignored (R444, Table 15.8). -/
def RESET.CTL_KEY : Field := ⟨.reset, 0x48, 16, 16, .const 0⟩
/-- Bit n - 1 holds PDn; kept across DEVICE (R444, Table 15.8). -/
def RESET.DOM_HOLD_MASK : Field := ⟨.reset, 0x4C, 0, 22, .const 0⟩
/-- Pulse under R423; reads 0 (R444, Table 15.8). -/
def RESET.DOM_PULSE_MASK : Field := ⟨.reset, 0x50, 0, 22, .const 0⟩
/-- Bit n - 1: PDn held or waiting (R444, Table 15.8). -/
def RESET.DOM_STAT_HELD : Field := ⟨.reset, 0x54, 0, 25, .const 0⟩
/-- Next step, 1 to 13; 0 idle (R444, Table 15.8). -/
def RESET.SEQ_STAT_NEXT : Field := ⟨.reset, 0x58, 0, 4, .const 0⟩
/-- Sequence running (R444, Table 15.8). -/
def RESET.SEQ_STAT_BUSY : Field := ⟨.reset, 0x58, 8, 1, .const 0⟩
/-- Under R430 (R444, Table 15.8). -/
def RESET.SEQ_STAT_LOADED : Field := ⟨.reset, 0x58, 9, 1, .const 0⟩
/-- Under R430 (R444, Table 15.8). -/
def RESET.SEQ_STAT_EMPTY : Field := ⟨.reset, 0x58, 10, 1, .const 0⟩
/-- 0 none, 1 A, 2 B (R444, Table 15.8). -/
def RESET.SEQ_STAT_BANK : Field := ⟨.reset, 0x58, 11, 2, .const 0⟩
/-- Sampled under R431 (R444, Table 15.8). -/
def RESET.BOOT_STAT_BOOTMODE : Field := ⟨.reset, 0x5C, 0, 4, .const 0⟩
/-- 0 none, 1 slot A, 2 slot B (R444, Table 15.8). -/
def RESET.BOOT_STAT_IMAGE : Field := ⟨.reset, 0x5C, 4, 2, .const 0⟩
/-- Under R432 (R444, Table 15.8). -/
def RESET.BOOT_STAT_FIRST_START : Field := ⟨.reset, 0x5C, 8, 1, .const 0⟩
/-- MEMBER_ID pins (R444, Table 15.8). -/
def RESET.BOOT_STAT_STRAP : Field := ⟨.reset, 0x5C, 16, 3, .const 0⟩
/-- Table 15.1 (R444, Table 15.8). -/
def RESET.LAST_CAUSE_CAUSE : Field := ⟨.reset, 0x60, 0, 4, .const 0⟩
/-- Uptime at that cause; [31:0], then [47:32] at [15:0] (R444, Table 15.8). -/
def RESET.CAUSE_STAMP_LO_STAMP : Field := ⟨.reset, 0x64, 0, 32, .const 0⟩
/-- Uptime at that cause; [31:0], then [47:32] at [15:0] (R444, Table 15.8). -/
def RESET.CAUSE_STAMP_HI_STAMP : Field := ⟨.reset, 0x68, 0, 16, .const 0⟩
/-- Uptime counter; a read of LO latches HI (R444, Table 15.8). -/
def RESET.UPTIME_LO_COUNT : Field := ⟨.reset, 0x6C, 0, 32, .const 0⟩
/-- Uptime counter; a read of LO latches HI (R444, Table 15.8). -/
def RESET.UPTIME_HI_COUNT : Field := ⟨.reset, 0x70, 0, 16, .const 0⟩
/-- [31:0], then [47:32] at [15:0]; a read of LO latches HI and RTC_SUB (R444, Table 15.8). -/
def RESET.RTC_S_LO_SECONDS : Field := ⟨.reset, 0x74, 0, 32, .const 0⟩
/-- [31:0], then [47:32] at [15:0]; a read of LO latches HI and RTC_SUB (R444, Table 15.8). -/
def RESET.RTC_S_HI_SECONDS : Field := ⟨.reset, 0x78, 0, 16, .const 0⟩
/-- XTAL32 periods (R444, Table 15.8). -/
def RESET.RTC_SUB_FRACTION : Field := ⟨.reset, 0x7C, 0, 15, .const 0⟩
/-- Under R437 (R444, Table 15.8). -/
def RESET.BKP_STAT_LOST_AT_START : Field := ⟨.reset, 0x80, 0, 1, .const 0⟩
/-- VBAT below 1.8 V (R444, Table 15.8). -/
def RESET.BKP_STAT_VBAT_LOW : Field := ⟨.reset, 0x80, 1, 1, .const 0⟩
/-- A record held, not yet copied (R444, Table 15.8). -/
def RESET.BKP_STAT_SHUT_REC : Field := ⟨.reset, 0x80, 2, 1, .const 0⟩
/-- Under R440 (R444, Table 15.8). -/
def RESET.BKP_STAT_TAMPER_LATCHED : Field := ⟨.reset, 0x80, 3, 1, .const 0⟩
/-- Under R438 (R444, Table 15.8). -/
def RESET.BKP_STAT_XTAL32_FAIL : Field := ⟨.reset, 0x80, 4, 1, .const 0⟩
/-- The backup copy of GAP passes its check (R444, Table 15.8). -/
def RESET.BKP_STAT_GAP_COPY_OK : Field := ⟨.reset, 0x80, 5, 1, .const 0⟩
/-- Resets of CAUSE k, 1 to 11; saturating (R444, Table 15.8). -/
def RESET.RST_COUNT_COUNT : Field := ⟨.reset, 0xC0, 0, 16, .const 0⟩
/-- Shutdown record, as laid out in the chapter Thermal Management (R444, Table 15.8). -/
def RESET.SHUT_REC_DATA : Field := ⟨.reset, 0x100, 0, 32, .const 0⟩
/-- EVT_STAT [0]: A release sequence ended (R444, Table 15.8). -/
abbrev RESET.EV_SEQ_DONE : Nat := 0
/-- EVT_STAT [1]: Under R422 (R444, Table 15.8). -/
abbrev RESET.EV_HELD_NVM : Nat := 1
/-- EVT_STAT [2]: Under R437 (R444, Table 15.8). -/
abbrev RESET.EV_BKP_LOST : Nat := 2
/-- EVT_STAT [3]: Shutdown record copied under R438 (R444, Table 15.8). -/
abbrev RESET.EV_SHUT_REC : Nat := 3
/-- EVT_STAT [4]: Under R430 (R444, Table 15.8). -/
abbrev RESET.EV_CFG_EMPTY : Nat := 4
/-- EVT_STAT [5]: Under R431 (R444, Table 15.8). -/
abbrev RESET.EV_BOOT_FAIL : Nat := 5
/-- EVT_STAT [6]: Under R425 (R444, Table 15.8). -/
abbrev RESET.EV_CFG_BLOCKED : Nat := 6
/-- EVT_STAT [7]: Under R421 (R444, Table 15.8). -/
abbrev RESET.EV_PD25_FAIL : Nat := 7
/-- Fields of the RESET page, part 0. -/
def RESET.layout0 : List LayoutRow := [
  ⟨RESET.CFG_ESCALATE_EN, 0, 1, .rw, 0, 262143⟩,
  ⟨RESET.GAP_CYCLES, 0, 1, .rws, 0, 262143⟩,
  ⟨RESET.CTL_DEVICE, 0, 1, .w1s, 0, 262143⟩,
  ⟨RESET.CTL_CONTROL, 0, 1, .w1s, 0, 262143⟩,
  ⟨RESET.CTL_KEY, 0, 1, .wo, 0, 262143⟩,
  ⟨RESET.DOM_HOLD_MASK, 0, 1, .rw, 0, 262143⟩,
  ⟨RESET.DOM_PULSE_MASK, 0, 1, .w1s, 0, 262143⟩,
  ⟨RESET.DOM_STAT_HELD, 0, 1, .ro, 0, 262143⟩,
  ⟨RESET.SEQ_STAT_NEXT, 0, 1, .ro, 0, 262143⟩,
  ⟨RESET.SEQ_STAT_BUSY, 0, 1, .ro, 0, 262143⟩,
  ⟨RESET.SEQ_STAT_LOADED, 0, 1, .ro, 0, 262143⟩,
  ⟨RESET.SEQ_STAT_EMPTY, 0, 1, .ro, 0, 262143⟩,
  ⟨RESET.SEQ_STAT_BANK, 0, 1, .ro, 0, 262143⟩,
  ⟨RESET.BOOT_STAT_BOOTMODE, 0, 1, .ro, 0, 262143⟩,
  ⟨RESET.BOOT_STAT_IMAGE, 0, 1, .ro, 0, 262143⟩,
  ⟨RESET.BOOT_STAT_FIRST_START, 0, 1, .ro, 0, 262143⟩,
  ⟨RESET.BOOT_STAT_STRAP, 0, 1, .ro, 0, 262143⟩,
  ⟨RESET.LAST_CAUSE_CAUSE, 0, 1, .ro, 0, 262143⟩,
  ⟨RESET.CAUSE_STAMP_LO_STAMP, 0, 1, .ro, 0, 262143⟩,
  ⟨RESET.CAUSE_STAMP_HI_STAMP, 0, 1, .ro, 0, 262143⟩]
/-- Fields of the RESET page, part 1. -/
def RESET.layout1 : List LayoutRow := [
  ⟨RESET.UPTIME_LO_COUNT, 0, 1, .ro, 0, 262143⟩,
  ⟨RESET.UPTIME_HI_COUNT, 0, 1, .ro, 0, 262143⟩,
  ⟨RESET.RTC_S_LO_SECONDS, 0, 1, .ro, 0, 262143⟩,
  ⟨RESET.RTC_S_HI_SECONDS, 0, 1, .ro, 0, 262143⟩,
  ⟨RESET.RTC_SUB_FRACTION, 0, 1, .ro, 0, 262143⟩,
  ⟨RESET.BKP_STAT_LOST_AT_START, 0, 1, .ro, 0, 262143⟩,
  ⟨RESET.BKP_STAT_VBAT_LOW, 0, 1, .ro, 0, 262143⟩,
  ⟨RESET.BKP_STAT_SHUT_REC, 0, 1, .ro, 0, 262143⟩,
  ⟨RESET.BKP_STAT_TAMPER_LATCHED, 0, 1, .ro, 0, 262143⟩,
  ⟨RESET.BKP_STAT_XTAL32_FAIL, 0, 1, .ro, 0, 262143⟩,
  ⟨RESET.BKP_STAT_GAP_COPY_OK, 0, 1, .ro, 0, 262143⟩,
  ⟨RESET.RST_COUNT_COUNT, 4, 11, .ro, 0, 262143⟩,
  ⟨RESET.SHUT_REC_DATA, 4, 8, .ro, 0, 262143⟩]
/-- The fields of the RESET page with their access codes. -/
def RESET.layout : List LayoutRow := RESET.layout0 ++ RESET.layout1

/-- Bit n - 1 powers PDn, PD1 to PD21 (R445, Table 15.9). -/
def POWER.DOM_REQ_ON : Field := ⟨.power, 0x40, 0, 21, .const 0x1fffff⟩
/-- Bit n - 1: PDn powered (R445, Table 15.9). -/
def POWER.DOM_STAT_POWERED : Field := ⟨.power, 0x44, 0, 25, .const 0⟩
/-- VDD_CORE, VDD_SRAM, VDDA_SER, VDDH_SER, VDD2_MEM, VDDQ_MEM, VDD1_MEM, VDDIO_A, VDDIO_B, VDD_AON, from bit 0 (R445, Table 15.9). -/
def POWER.RAIL_STAT_GOOD : Field := ⟨.power, 0x48, 0, 10, .const 0⟩
/-- Bank detected at 3.3 V (R445, Table 15.9). -/
def POWER.RAIL_STAT_IO_A_3V3 : Field := ⟨.power, 0x48, 16, 1, .const 0⟩
/-- Bank detected at 3.3 V (R445, Table 15.9). -/
def POWER.RAIL_STAT_IO_B_3V3 : Field := ⟨.power, 0x48, 17, 1, .const 0⟩
/-- Under R440; reads 0 (R445, Table 15.9). -/
def POWER.STBY_ENTER : Field := ⟨.power, 0x4C, 0, 1, .const 0⟩
/-- Entry in progress (R445, Table 15.9). -/
def POWER.STBY_BUSY : Field := ⟨.power, 0x4C, 1, 1, .const 0⟩
/-- Under R441 (R445, Table 15.9). -/
def POWER.STBY_WAKE_PIN_EN : Field := ⟨.power, 0x4C, 8, 1, .const 1⟩
/-- Under R441 (R445, Table 15.9). -/
def POWER.STBY_LINK_WAKE_EN : Field := ⟨.power, 0x4C, 9, 1, .const 0⟩
/-- Must be 0x0A55 with ENTER (R445, Table 15.9). -/
def POWER.STBY_KEY : Field := ⟨.power, 0x4C, 16, 16, .const 0⟩
/-- GPIO inputs that wake (R445, Table 15.9). -/
def POWER.WAKE_GPIO_MASK : Field := ⟨.power, 0x50, 0, 32, .const 0⟩
/-- 0 none, 1 WAKE, 2 GPIO, 3 link (R445, Table 15.9). -/
def POWER.WAKE_CAUSE_SOURCE : Field := ⟨.power, 0x54, 0, 2, .const 0⟩
/-- GPIO that woke (R445, Table 15.9). -/
def POWER.WAKE_CAUSE_GPIO : Field := ⟨.power, 0x54, 8, 5, .const 0⟩
/-- Link that woke (R445, Table 15.9). -/
def POWER.WAKE_CAUSE_LINK : Field := ⟨.power, 0x54, 16, 3, .const 0⟩
/-- EVT_STAT [0]: A domain switched on or off (R445, Table 15.9). -/
abbrev POWER.EV_DOM_CHG : Nat := 0
/-- EVT_STAT [1]: A rail left its limits without falling below power-good (R445, Table 15.9). -/
abbrev POWER.EV_RAIL_FAULT : Nat := 1
/-- EVT_STAT [2]: Under R439 (R445, Table 15.9). -/
abbrev POWER.EV_CFG_BLOCKED : Nat := 2
/-- Fields of the POWER page, part 0. -/
def POWER.layout0 : List LayoutRow := [
  ⟨POWER.DOM_REQ_ON, 0, 1, .rws, 0, 262143⟩,
  ⟨POWER.DOM_STAT_POWERED, 0, 1, .ro, 0, 262143⟩,
  ⟨POWER.RAIL_STAT_GOOD, 0, 1, .ro, 0, 262143⟩,
  ⟨POWER.RAIL_STAT_IO_A_3V3, 0, 1, .ro, 0, 262143⟩,
  ⟨POWER.RAIL_STAT_IO_B_3V3, 0, 1, .ro, 0, 262143⟩,
  ⟨POWER.STBY_ENTER, 0, 1, .w1s, 0, 262143⟩,
  ⟨POWER.STBY_BUSY, 0, 1, .ro, 0, 262143⟩,
  ⟨POWER.STBY_WAKE_PIN_EN, 0, 1, .rw, 0, 262143⟩,
  ⟨POWER.STBY_LINK_WAKE_EN, 0, 1, .rw, 0, 262143⟩,
  ⟨POWER.STBY_KEY, 0, 1, .wo, 0, 262143⟩,
  ⟨POWER.WAKE_GPIO_MASK, 0, 1, .rw, 0, 262143⟩,
  ⟨POWER.WAKE_CAUSE_SOURCE, 0, 1, .ro, 0, 262143⟩,
  ⟨POWER.WAKE_CAUSE_GPIO, 0, 1, .ro, 0, 262143⟩,
  ⟨POWER.WAKE_CAUSE_LINK, 0, 1, .ro, 0, 262143⟩]
/-- The fields of the POWER page with their access codes. -/
def POWER.layout : List LayoutRow := POWER.layout0

/-- deg C, 1 to 10 (R462, Table 16.5). -/
def THERMAL.CFG_HYST : Field := ⟨.thermal, 0x40, 0, 4, .const 2⟩
/-- Seconds, 1 to 60 (R462, Table 16.5). -/
def THERMAL.CFG_DWELL : Field := ⟨.thermal, 0x40, 8, 6, .const 5⟩
/-- Under R459 (R462, Table 16.5). -/
def THERMAL.CFG_RESTART_EN : Field := ⟨.thermal, 0x40, 16, 1, .const 1⟩
/-- deg C, 60 to 100 (R462, Table 16.5). -/
def THERMAL.CFG_RESTART_TEMP : Field := ⟨.thermal, 0x40, 20, 7, .const 0x5f⟩
/-- 0 plane B off, 1 plane A off (R462, Table 16.5). -/
def THERMAL.CFG_T4_PLANE : Field := ⟨.thermal, 0x40, 28, 1, .const 0⟩
/-- Under R455 (R462, Table 16.5). -/
def THERMAL.CFG_OFFLOAD_EN : Field := ⟨.thermal, 0x40, 29, 1, .const 1⟩
/-- 0 none, 1 to 5 for T1 to T5 (R462, Table 16.5). -/
def THERMAL.STAT_STAGE : Field := ⟨.thermal, 0x44, 0, 3, .const 0⟩
/-- Under R452 (R462, Table 16.5). -/
def THERMAL.STAT_RISE_ACTIVE : Field := ⟨.thermal, 0x44, 3, 1, .const 0⟩
/-- TCTL at or above 112 deg C (R462, Table 16.5). -/
def THERMAL.STAT_CRIT : Field := ⟨.thermal, 0x44, 4, 1, .const 0⟩
/-- Under R449 (R462, Table 16.5). -/
def THERMAL.STAT_HOLD : Field := ⟨.thermal, 0x44, 5, 1, .const 0⟩
/-- Sensor setting TCTL (R462, Table 16.5). -/
def THERMAL.STAT_HOT : Field := ⟨.thermal, 0x44, 8, 5, .const 0⟩
/-- 0.1 deg C, two's complement (R462, Table 16.5). -/
def THERMAL.STAT_TCTL : Field := ⟨.thermal, 0x44, 16, 16, .const 0⟩
/-- Bit k for THSk (R462, Table 16.5). -/
def THERMAL.FAILED_MASK : Field := ⟨.thermal, 0x48, 0, 32, .const 0⟩
/-- Bit k for THSk (R462, Table 16.5). -/
def THERMAL.SUSPECT_MASK_MASK : Field := ⟨.thermal, 0x4C, 0, 32, .const 0⟩
/-- 0.01 deg C/s, two's complement (R462, Table 16.5). -/
def THERMAL.RISE_RATE_RATE : Field := ⟨.thermal, 0x50, 0, 16, .const 0⟩
/-- Sensor addressed (R462, Table 16.5). -/
def THERMAL.SENSOR_CTL_INDEX : Field := ⟨.thermal, 0x54, 0, 5, .const 0⟩
/-- Self-test the sensor; reads 0 (R462, Table 16.5). -/
def THERMAL.SENSOR_CTL_TEST : Field := ⟨.thermal, 0x54, 8, 1, .const 0⟩
/-- Thermal restarts in the last hour (R462, Table 16.5). -/
def THERMAL.RESTART_COUNT : Field := ⟨.thermal, 0x58, 0, 2, .const 0⟩
/-- Under R459 (R462, Table 16.5). -/
def THERMAL.RESTART_LOCKOUT : Field := ⟨.thermal, 0x58, 8, 1, .const 0⟩
/-- Value in use, 0.1 deg C, two's complement (R462, Table 16.5). -/
def THERMAL.THS_TEMP : Field := ⟨.thermal, 0x100, 0, 16, .const 0⟩
/-- 0 OK, 1 SUSPECT, 2 FAILED (R462, Table 16.5). -/
def THERMAL.THS_STATE : Field := ⟨.thermal, 0x100, 16, 2, .const 0⟩
/-- Value in use is an estimate (R462, Table 16.5). -/
def THERMAL.THS_ESTIMATE : Field := ⟨.thermal, 0x100, 18, 1, .const 0⟩
/-- Count of neighbours, 2 to 4 (R462, Table 16.5). -/
def THERMAL.THS_NEIGH : Field := ⟨.thermal, 0x100, 19, 5, .const 4⟩
/-- Learned offset, 0.1 deg C, two's complement (R462, Table 16.5). -/
def THERMAL.THS_OFFSET : Field := ⟨.thermal, 0x104, 0, 16, .const 0⟩
/-- Model prediction, 0.1 deg C (R462, Table 16.5). -/
def THERMAL.THS_MODEL : Field := ⟨.thermal, 0x104, 16, 16, .const 0⟩
/-- Header counter; saturating (R462). -/
def THERMAL.CNT_STAGE_ENTRIES : Field := ⟨.thermal, 0x28, 0, 32, .const 0⟩
/-- Header counter; saturating (R462). -/
def THERMAL.CNT_SENSOR_FAILS : Field := ⟨.thermal, 0x2C, 0, 32, .const 0⟩
/-- Header counter; saturating (R462). -/
def THERMAL.CNT_RISE_ENTRIES : Field := ⟨.thermal, 0x30, 0, 32, .const 0⟩
/-- EVT_STAT [0]: Under R451 (R462, Table 16.5). -/
abbrev THERMAL.EV_STAGE_UP : Nat := 0
/-- EVT_STAT [1]: Under R451 (R462, Table 16.5). -/
abbrev THERMAL.EV_STAGE_DOWN : Nat := 1
/-- EVT_STAT [2]: Under R456 (R462, Table 16.5). -/
abbrev THERMAL.EV_CRITICAL : Nat := 2
/-- EVT_STAT [3]: Under R447 and R448 (R462, Table 16.5). -/
abbrev THERMAL.EV_SUSPECT : Nat := 3
/-- EVT_STAT [4]: Under R447 and R448 (R462, Table 16.5). -/
abbrev THERMAL.EV_SENSOR_FAIL : Nat := 4
/-- EVT_STAT [5]: Under R452 (R462, Table 16.5). -/
abbrev THERMAL.EV_RISE : Nat := 5
/-- EVT_STAT [6]: Under R455 (R462, Table 16.5). -/
abbrev THERMAL.EV_OFFLOAD : Nat := 6
/-- EVT_STAT [7]: Commit not applied (R462, Table 16.5). -/
abbrev THERMAL.EV_CFG_BLOCKED : Nat := 7
/-- Fields of the THERMAL page, part 0. -/
def THERMAL.layout0 : List LayoutRow := [
  ⟨THERMAL.CFG_HYST, 0, 1, .rw, 0, 262143⟩,
  ⟨THERMAL.CFG_DWELL, 0, 1, .rw, 0, 262143⟩,
  ⟨THERMAL.CFG_RESTART_EN, 0, 1, .rw, 0, 262143⟩,
  ⟨THERMAL.CFG_RESTART_TEMP, 0, 1, .rw, 0, 262143⟩,
  ⟨THERMAL.CFG_T4_PLANE, 0, 1, .rw, 0, 262143⟩,
  ⟨THERMAL.CFG_OFFLOAD_EN, 0, 1, .rw, 0, 262143⟩,
  ⟨THERMAL.STAT_STAGE, 0, 1, .ro, 0, 262143⟩,
  ⟨THERMAL.STAT_RISE_ACTIVE, 0, 1, .ro, 0, 262143⟩,
  ⟨THERMAL.STAT_CRIT, 0, 1, .ro, 0, 262143⟩,
  ⟨THERMAL.STAT_HOLD, 0, 1, .ro, 0, 262143⟩,
  ⟨THERMAL.STAT_HOT, 0, 1, .ro, 0, 262143⟩,
  ⟨THERMAL.STAT_TCTL, 0, 1, .ro, 0, 262143⟩,
  ⟨THERMAL.FAILED_MASK, 0, 1, .ro, 0, 262143⟩,
  ⟨THERMAL.SUSPECT_MASK_MASK, 0, 1, .ro, 0, 262143⟩,
  ⟨THERMAL.RISE_RATE_RATE, 0, 1, .ro, 0, 262143⟩,
  ⟨THERMAL.SENSOR_CTL_INDEX, 0, 1, .rw, 0, 262143⟩,
  ⟨THERMAL.SENSOR_CTL_TEST, 0, 1, .w1s, 0, 262143⟩,
  ⟨THERMAL.RESTART_COUNT, 0, 1, .ro, 0, 262143⟩,
  ⟨THERMAL.RESTART_LOCKOUT, 0, 1, .ro, 0, 262143⟩,
  ⟨THERMAL.THS_TEMP, 8, 32, .ro, 0, 262143⟩]
/-- Fields of the THERMAL page, part 1. -/
def THERMAL.layout1 : List LayoutRow := [
  ⟨THERMAL.THS_STATE, 8, 32, .ro, 0, 262143⟩,
  ⟨THERMAL.THS_ESTIMATE, 8, 32, .ro, 0, 262143⟩,
  ⟨THERMAL.THS_NEIGH, 8, 32, .ro, 0, 262143⟩,
  ⟨THERMAL.THS_OFFSET, 8, 32, .ro, 0, 262143⟩,
  ⟨THERMAL.THS_MODEL, 8, 32, .ro, 0, 262143⟩,
  ⟨THERMAL.CNT_STAGE_ENTRIES, 0, 1, .ro, 0, 262143⟩,
  ⟨THERMAL.CNT_SENSOR_FAILS, 0, 1, .ro, 0, 262143⟩,
  ⟨THERMAL.CNT_RISE_ENTRIES, 0, 1, .ro, 0, 262143⟩]
/-- The fields of the THERMAL page with their access codes. -/
def THERMAL.layout : List LayoutRow := THERMAL.layout0 ++ THERMAL.layout1

/-- Table 17.5; loaded from the calibration region at start (R480, Table 17.8). -/
def NVM.CFG_PROTECT : Field := ⟨.nvm, 0x40, 0, 2, .const 0⟩
/-- Minutes, 1 to 255; 0 is treated as 1 (R480, Table 17.8). -/
def NVM.CFG_COUNTER_PERIOD : Field := ⟨.nvm, 0x40, 8, 8, .const 0xa⟩
/-- Under R472; reads 0 (R480, Table 17.8). -/
def NVM.CTL_STORE : Field := ⟨.nvm, 0x44, 0, 1, .const 0⟩
/-- Under R473; reads 0 (R480, Table 17.8). -/
def NVM.CTL_ABORT : Field := ⟨.nvm, 0x44, 1, 1, .const 0⟩
/-- STORE as a snapshot; reads 0 (R480, Table 17.8). -/
def NVM.CTL_SNAPSHOT : Field := ⟨.nvm, 0x44, 2, 1, .const 0⟩
/-- Under R473; reads 0 (R480, Table 17.8). -/
def NVM.CTL_DISCARD : Field := ⟨.nvm, 0x44, 3, 1, .const 0⟩
/-- Scan under R465; reads 0 (R480, Table 17.8). -/
def NVM.CTL_SELFTEST : Field := ⟨.nvm, 0x44, 4, 1, .const 0⟩
/-- 0 IDLE, 1 WAIT_TEMP, 2 MERGE, 3 WRITE, 4 SELFTEST (R480, Table 17.8). -/
def NVM.STAT_STATE : Field := ⟨.nvm, 0x48, 0, 3, .const 0⟩
/-- Under R473 (R480, Table 17.8). -/
def NVM.STAT_QUEUED : Field := ⟨.nvm, 0x48, 4, 1, .const 0⟩
/-- Under R471 (R480, Table 17.8). -/
def NVM.STAT_STAGE_OVF : Field := ⟨.nvm, 0x48, 5, 1, .const 0⟩
/-- Under R470 (R480, Table 17.8). -/
def NVM.STAT_AUTH_UNVERIFIED : Field := ⟨.nvm, 0x48, 6, 1, .const 0⟩
/-- Bank in use under R469: 0 none, 1 A, 2 B (R480, Table 17.8). -/
def NVM.STAT_VALID : Field := ⟨.nvm, 0x48, 8, 2, .const 0⟩
/-- 0 none, 1 DONE, 2 TEMP, 3 WRITE_FAIL, 4 PROTECTED, 5 SEALED, 6 ABORTED (R480, Table 17.8). -/
def NVM.STAT_RESULT : Field := ⟨.nvm, 0x48, 12, 4, .const 0⟩
/-- SEQ of the valid record (R480, Table 17.8). -/
def NVM.SEQ : Field := ⟨.nvm, 0x4C, 0, 32, .const 0⟩
/-- STAMP [31:0] of the valid record (R480, Table 17.8). -/
def NVM.STAMP_LO_STAMP : Field := ⟨.nvm, 0x50, 0, 32, .const 0⟩
/-- STAMP [47:32] (R480, Table 17.8). -/
def NVM.STAMP_HI_STAMP : Field := ⟨.nvm, 0x54, 0, 16, .const 0⟩
/-- Entries held, 0 to 16,384 (R480, Table 17.8). -/
def NVM.STAGE_ENTRIES : Field := ⟨.nvm, 0x58, 0, 15, .const 0⟩
/-- Entries staged after tST (R480, Table 17.8). -/
def NVM.STAGE_AFTER_TST : Field := ⟨.nvm, 0x58, 16, 15, .const 0⟩
/-- Words written in the current commit (R480, Table 17.8). -/
def NVM.PROGRESS_WORDS : Field := ⟨.nvm, 0x5C, 0, 18, .const 0⟩
/-- LENGTH of the valid record (R480, Table 17.8). -/
def NVM.LENGTH : Field := ⟨.nvm, 0x60, 0, 18, .const 0⟩
/-- 0 valid, 1 MAGIC or FORMAT, 2 uncorrectable word, 3 CRC, 4 authenticator (R480, Table 17.8). -/
def NVM.BANK_STAT_A_CHECK : Field := ⟨.nvm, 0x64, 0, 3, .const 0⟩
/-- 0 valid, 1 MAGIC or FORMAT, 2 uncorrectable word, 3 CRC, 4 authenticator (R480, Table 17.8). -/
def NVM.BANK_STAT_B_CHECK : Field := ⟨.nvm, 0x64, 4, 3, .const 0⟩
/-- SEQ read from each bank at load (R480, Table 17.8). -/
def NVM.A_SEQ_SEQ : Field := ⟨.nvm, 0x68, 0, 32, .const 0⟩
/-- SEQ read from each bank at load (R480, Table 17.8). -/
def NVM.B_SEQ_SEQ : Field := ⟨.nvm, 0x6C, 0, 32, .const 0⟩
/-- Word of the last error (R480, Table 17.8). -/
def NVM.ERR_ADDR_WORD : Field := ⟨.nvm, 0x70, 0, 19, .const 0⟩
/-- 0 uncorrectable, 1 write failure (R480, Table 17.8). -/
def NVM.ERR_ADDR_KIND : Field := ⟨.nvm, 0x70, 24, 1, .const 0⟩
/-- Word addressed (R480, Table 17.8). -/
def NVM.RAW_ADDR_WORD : Field := ⟨.nvm, 0x74, 0, 19, .const 0⟩
/-- Data bits [31:0] and [63:32] (R480, Table 17.8). -/
def NVM.RAW_LO_DATA : Field := ⟨.nvm, 0x78, 0, 32, .const 0⟩
/-- Data bits [31:0] and [63:32] (R480, Table 17.8). -/
def NVM.RAW_HI_DATA : Field := ⟨.nvm, 0x7C, 0, 32, .const 0⟩
/-- Under R478; read 0 (R480, Table 17.8). -/
def NVM.RAW_CTL_READ : Field := ⟨.nvm, 0x80, 0, 1, .const 0⟩
/-- Under R478; read 0 (R480, Table 17.8). -/
def NVM.RAW_CTL_WRITE : Field := ⟨.nvm, 0x80, 1, 1, .const 0⟩
/-- Access ended (R480, Table 17.8). -/
def NVM.RAW_CTL_DONE : Field := ⟨.nvm, 0x80, 8, 1, .const 0⟩
/-- 0 clean, 1 corrected, 2 uncorrectable, 3 refused (R480, Table 17.8). -/
def NVM.RAW_CTL_ERR : Field := ⟨.nvm, 0x80, 9, 2, .const 0⟩
/-- Header counter; saturating (R480). -/
def NVM.CNT_STORES : Field := ⟨.nvm, 0x28, 0, 32, .const 0⟩
/-- Header counter; saturating (R480). -/
def NVM.CNT_CORRECTED : Field := ⟨.nvm, 0x2C, 0, 32, .const 0⟩
/-- Header counter; saturating (R480). -/
def NVM.CNT_UNCORRECTABLE : Field := ⟨.nvm, 0x30, 0, 32, .const 0⟩
/-- Header counter; saturating (R480). -/
def NVM.CNT_WRITE_FAILS : Field := ⟨.nvm, 0x34, 0, 32, .const 0⟩
/-- Header counter; saturating (R480). -/
def NVM.CNT_TEMP_WAITS : Field := ⟨.nvm, 0x38, 0, 32, .const 0⟩
/-- EVT_STAT [0]: Under R472 (R480, Table 17.8). -/
abbrev NVM.EV_STORE_DONE : Nat := 0
/-- EVT_STAT [1]: Under R472 (R480, Table 17.8). -/
abbrev NVM.EV_STORE_FAIL : Nat := 1
/-- EVT_STAT [2]: Under R474 (R480, Table 17.8). -/
abbrev NVM.EV_TEMP_WAIT : Nat := 2
/-- EVT_STAT [3]: Under R471 (R480, Table 17.8). -/
abbrev NVM.EV_STAGE_FULL : Nat := 3
/-- EVT_STAT [4]: Under Table 17.3 (R480, Table 17.8). -/
abbrev NVM.EV_SEQ_TIE : Nat := 4
/-- EVT_STAT [5]: Under R469 (R480, Table 17.8). -/
abbrev NVM.EV_BANK_REJECTED : Nat := 5
/-- EVT_STAT [6]: Under R465 (R480, Table 17.8). -/
abbrev NVM.EV_UNCORR : Nat := 6
/-- EVT_STAT [7]: Under R470 (R480, Table 17.8). -/
abbrev NVM.EV_AUTH_FAIL : Nat := 7
/-- EVT_STAT [8]: Under R477 (R480, Table 17.8). -/
abbrev NVM.EV_CFG_BLOCKED : Nat := 8
/-- EVT_STAT [9]: Array scan ended (R480, Table 17.8). -/
abbrev NVM.EV_SELFTEST_DONE : Nat := 9
/-- Fields of the NVM page, part 0. -/
def NVM.layout0 : List LayoutRow := [
  ⟨NVM.CFG_PROTECT, 0, 1, .rw, 0, 262143⟩,
  ⟨NVM.CFG_COUNTER_PERIOD, 0, 1, .rw, 0, 262143⟩,
  ⟨NVM.CTL_STORE, 0, 1, .w1s, 0, 262143⟩,
  ⟨NVM.CTL_ABORT, 0, 1, .w1s, 0, 262143⟩,
  ⟨NVM.CTL_SNAPSHOT, 0, 1, .w1s, 0, 262143⟩,
  ⟨NVM.CTL_DISCARD, 0, 1, .w1s, 0, 262143⟩,
  ⟨NVM.CTL_SELFTEST, 0, 1, .w1s, 0, 262143⟩,
  ⟨NVM.STAT_STATE, 0, 1, .ro, 0, 262143⟩,
  ⟨NVM.STAT_QUEUED, 0, 1, .ro, 0, 262143⟩,
  ⟨NVM.STAT_STAGE_OVF, 0, 1, .ro, 0, 262143⟩,
  ⟨NVM.STAT_AUTH_UNVERIFIED, 0, 1, .ro, 0, 262143⟩,
  ⟨NVM.STAT_VALID, 0, 1, .ro, 0, 262143⟩,
  ⟨NVM.STAT_RESULT, 0, 1, .ro, 0, 262143⟩,
  ⟨NVM.SEQ, 0, 1, .ro, 0, 262143⟩,
  ⟨NVM.STAMP_LO_STAMP, 0, 1, .ro, 0, 262143⟩,
  ⟨NVM.STAMP_HI_STAMP, 0, 1, .ro, 0, 262143⟩,
  ⟨NVM.STAGE_ENTRIES, 0, 1, .ro, 0, 262143⟩,
  ⟨NVM.STAGE_AFTER_TST, 0, 1, .ro, 0, 262143⟩,
  ⟨NVM.PROGRESS_WORDS, 0, 1, .ro, 0, 262143⟩,
  ⟨NVM.LENGTH, 0, 1, .ro, 0, 262143⟩]
/-- Fields of the NVM page, part 1. -/
def NVM.layout1 : List LayoutRow := [
  ⟨NVM.BANK_STAT_A_CHECK, 0, 1, .ro, 0, 262143⟩,
  ⟨NVM.BANK_STAT_B_CHECK, 0, 1, .ro, 0, 262143⟩,
  ⟨NVM.A_SEQ_SEQ, 0, 1, .ro, 0, 262143⟩,
  ⟨NVM.B_SEQ_SEQ, 0, 1, .ro, 0, 262143⟩,
  ⟨NVM.ERR_ADDR_WORD, 0, 1, .ro, 0, 262143⟩,
  ⟨NVM.ERR_ADDR_KIND, 0, 1, .ro, 0, 262143⟩,
  ⟨NVM.RAW_ADDR_WORD, 0, 1, .rw, 0, 262143⟩,
  ⟨NVM.RAW_LO_DATA, 0, 1, .rw, 0, 262143⟩,
  ⟨NVM.RAW_HI_DATA, 0, 1, .rw, 0, 262143⟩,
  ⟨NVM.RAW_CTL_READ, 0, 1, .w1s, 0, 262143⟩,
  ⟨NVM.RAW_CTL_WRITE, 0, 1, .w1s, 0, 262143⟩,
  ⟨NVM.RAW_CTL_DONE, 0, 1, .ro, 0, 262143⟩,
  ⟨NVM.RAW_CTL_ERR, 0, 1, .ro, 0, 262143⟩,
  ⟨NVM.CNT_STORES, 0, 1, .ro, 0, 262143⟩,
  ⟨NVM.CNT_CORRECTED, 0, 1, .ro, 0, 262143⟩,
  ⟨NVM.CNT_UNCORRECTABLE, 0, 1, .ro, 0, 262143⟩,
  ⟨NVM.CNT_WRITE_FAILS, 0, 1, .ro, 0, 262143⟩,
  ⟨NVM.CNT_TEMP_WAITS, 0, 1, .ro, 0, 262143⟩]
/-- The fields of the NVM page with their access codes. -/
def NVM.layout : List LayoutRow := NVM.layout0 ++ NVM.layout1

/-- 0 BLANK, 1 FIELD, 2 SERVICE, 3 RETIRED (R496, Table 18.7). -/
def KEYS.LC_STAT_STATE : Field := ⟨.keys, 0x40, 0, 2, .const 0⟩
/-- Tamper-hold in force (R496, Table 18.7). -/
def KEYS.LC_STAT_TAMPER_HOLD : Field := ⟨.keys, 0x40, 4, 1, .const 0⟩
/-- Key store sealed (R496, Table 18.7). -/
def KEYS.LC_STAT_SEALED : Field := ⟨.keys, 0x40, 5, 1, .const 0⟩
/-- Root present (R496, Table 18.7). -/
def KEYS.LC_STAT_ROOT_VALID : Field := ⟨.keys, 0x40, 6, 1, .const 0⟩
/-- Minutes of SERVICE left, 0 to 480 (R496, Table 18.7). -/
def KEYS.LC_STAT_SERVICE_LEFT : Field := ⟨.keys, 0x40, 16, 9, .const 0⟩
/-- Sources enabled; SERVICE only (R496, Table 18.7). -/
def KEYS.TAMPER_CFG_PIN_EN : Field := ⟨.keys, 0x44, 0, 1, .const 1⟩
/-- Sources enabled; SERVICE only (R496, Table 18.7). -/
def KEYS.TAMPER_CFG_VGLITCH_EN : Field := ⟨.keys, 0x44, 1, 1, .const 1⟩
/-- Sources enabled; SERVICE only (R496, Table 18.7). -/
def KEYS.TAMPER_CFG_CGLITCH_EN : Field := ⟨.keys, 0x44, 2, 1, .const 1⟩
/-- Under Table 18.4; SERVICE only (R496, Table 18.7). -/
def KEYS.TAMPER_CFG_STRICT : Field := ⟨.keys, 0x44, 4, 1, .const 0⟩
/-- GPIO of R493; SERVICE only (R496, Table 18.7). -/
def KEYS.TAMPER_CFG_CONFIRM_GPIO : Field := ⟨.keys, 0x44, 8, 5, .const 0⟩
/-- 0 none, 1 pin, 2 voltage, 3 clock, 4 KEY_REGION (R496, Table 18.7). -/
def KEYS.TAMPER_STAT_SOURCE : Field := ⟨.keys, 0x48, 0, 3, .const 0⟩
/-- The alarm fell during a key operation (R496, Table 18.7). -/
def KEYS.TAMPER_STAT_IN_KEY_OP : Field := ⟨.keys, 0x48, 3, 1, .const 0⟩
/-- Root destroyed (R496, Table 18.7). -/
def KEYS.TAMPER_STAT_ROOT_LOST : Field := ⟨.keys, 0x48, 4, 1, .const 0⟩
/-- 16 to 63 (R496, Table 18.7). -/
def KEYS.REQ_SLOT : Field := ⟨.keys, 0x4C, 0, 6, .const 0⟩
/-- 1 DERIVE, 2 DESTROY (R496, Table 18.7). -/
def KEYS.REQ_OP : Field := ⟨.keys, 0x4C, 8, 2, .const 0⟩
/-- Submit; reads 0 (R496, Table 18.7). -/
def KEYS.REQ_GO : Field := ⟨.keys, 0x4C, 31, 1, .const 0⟩
/-- Slot 0 to 63, or 0x40 to 0x44 for mesh, seal, service, attest, log (R496, Table 18.7). -/
def KEYS.REQ_IMG_PARENT : Field := ⟨.keys, 0x50, 0, 7, .const 0⟩
/-- Link cipher, record authenticator, service responder, log signer, attestation, from bit 8 (R496, Table 18.7). -/
def KEYS.REQ_IMG_ENGINES : Field := ⟨.keys, 0x50, 8, 5, .const 0⟩
/-- BLANK, FIELD, SERVICE, RETIRED, from bit 16 (R496, Table 18.7). -/
def KEYS.REQ_IMG_LCMASK : Field := ⟨.keys, 0x50, 16, 4, .const 0⟩
/-- Re-derive under R487 (R496, Table 18.7). -/
def KEYS.REQ_IMG_AUTO : Field := ⟨.keys, 0x50, 20, 1, .const 0⟩
/-- Bytes, 1 to 32 (R496, Table 18.7). -/
def KEYS.REQ_IMG_LABEL_LEN : Field := ⟨.keys, 0x50, 24, 6, .const 0⟩
/-- Label bytes, byte 0 at LABEL[0] [7:0] (R496, Table 18.7). -/
def KEYS.LABEL : Field := ⟨.keys, 0x54, 0, 32, .const 0⟩
/-- 0x00 or a code in 0x40 to 0x4F (R496, Table 18.7). -/
def KEYS.RESP_CODE : Field := ⟨.keys, 0x74, 0, 8, .const 0⟩
/-- Decided; being decided, GO ignored (R496, Table 18.7). -/
def KEYS.RESP_DONE : Field := ⟨.keys, 0x74, 8, 1, .const 0⟩
/-- Decided; being decided, GO ignored (R496, Table 18.7). -/
def KEYS.RESP_BUSY : Field := ⟨.keys, 0x74, 9, 1, .const 0⟩
/-- Boot measurement, most significant word first (R496, Table 18.7). -/
def KEYS.MEAS_M : Field := ⟨.keys, 0x80, 0, 32, .const 0⟩
/-- 0 none, 1 A, 2 B (R496, Table 18.7). -/
def KEYS.IMAGE_STAT_SLOT : Field := ⟨.keys, 0xB0, 0, 2, .const 0⟩
/-- Under R489 (R496, Table 18.7). -/
def KEYS.IMAGE_STAT_A_BAD : Field := ⟨.keys, 0xB0, 2, 1, .const 0⟩
/-- Under R489 (R496, Table 18.7). -/
def KEYS.IMAGE_STAT_B_BAD : Field := ⟨.keys, 0xB0, 3, 1, .const 0⟩
/-- Maker image key fused (R496, Table 18.7). -/
def KEYS.IMAGE_STAT_MAKER_SET : Field := ⟨.keys, 0xB0, 4, 1, .const 0⟩
/-- Running SVN (R496, Table 18.7). -/
def KEYS.IMAGE_STAT_SVN : Field := ⟨.keys, 0xB0, 16, 16, .const 0⟩
/-- Lowest SVN accepted (R496, Table 18.7). -/
def KEYS.MIN_SVN_SVN : Field := ⟨.keys, 0xB4, 0, 16, .const 0⟩
/-- Under R489; reads 0 (R496, Table 18.7). -/
def KEYS.CTL_SVN_COMMIT : Field := ⟨.keys, 0xB8, 0, 1, .const 0⟩
/-- Under Table 18.1; reads 0 (R496, Table 18.7). -/
def KEYS.CTL_SERVICE_EXIT : Field := ⟨.keys, 0xB8, 1, 1, .const 0⟩
/-- Must be 0x0A55 in the same write, or the write is ignored (R496, Table 18.7). -/
def KEYS.CTL_KEY : Field := ⟨.keys, 0xB8, 16, 16, .const 0⟩
/-- 64-bit device identity (R496, Table 18.7). -/
def KEYS.DEV_ID_LO_ID : Field := ⟨.keys, 0xC0, 0, 32, .const 0⟩
/-- 64-bit device identity (R496, Table 18.7). -/
def KEYS.DEV_ID_HI_ID : Field := ⟨.keys, 0xC4, 0, 32, .const 0⟩
/-- 0 EMPTY, 1 LIVE, 2 STALE (R496, Table 18.7). -/
def KEYS.SLOT_STAT_STATE : Field := ⟨.keys, 0x100, 0, 2, .const 0⟩
/-- As REQ_IMG.PARENT (R496, Table 18.7). -/
def KEYS.SLOT_STAT_PARENT : Field := ⟨.keys, 0x100, 8, 7, .const 0⟩
/-- As REQ_IMG (R496, Table 18.7). -/
def KEYS.SLOT_STAT_ENGINES : Field := ⟨.keys, 0x100, 16, 5, .const 0⟩
/-- As REQ_IMG (R496, Table 18.7). -/
def KEYS.SLOT_STAT_LCMASK : Field := ⟨.keys, 0x100, 24, 4, .const 0⟩
/-- As REQ_IMG (R496, Table 18.7). -/
def KEYS.SLOT_STAT_AUTO : Field := ⟨.keys, 0x100, 28, 1, .const 0⟩
/-- P-384 public key, x then y, most significant word first (R496, Table 18.7). -/
def KEYS.ATTEST_PUB_KEY : Field := ⟨.keys, 0x200, 0, 32, .const 0⟩
/-- Header counter; saturating (R496). -/
def KEYS.CNT_DERIVES : Field := ⟨.keys, 0x28, 0, 32, .const 0⟩
/-- Header counter; saturating (R496). -/
def KEYS.CNT_TAMPERS : Field := ⟨.keys, 0x2C, 0, 32, .const 0⟩
/-- Header counter; saturating (R496). -/
def KEYS.CNT_STALE_REFUSALS : Field := ⟨.keys, 0x30, 0, 32, .const 0⟩
/-- Header counter; saturating (R496). -/
def KEYS.CNT_LC_CHANGES : Field := ⟨.keys, 0x34, 0, 32, .const 0⟩
/-- EVT_STAT [0]: Under R492 (R496, Table 18.7). -/
abbrev KEYS.EV_TAMPER : Nat := 0
/-- EVT_STAT [1]: Life-cycle state changed (R496, Table 18.7). -/
abbrev KEYS.EV_LC_CHG : Nat := 1
/-- EVT_STAT [2]: A slot became STALE (R496, Table 18.7). -/
abbrev KEYS.EV_STALE : Nat := 2
/-- EVT_STAT [3]: Under R490 (R496, Table 18.7). -/
abbrev KEYS.EV_MEAS_CHG : Nat := 3
/-- EVT_STAT [4]: Under R491 (R496, Table 18.7). -/
abbrev KEYS.EV_CFG_BLOCKED : Nat := 4
/-- EVT_STAT [5]: A request decided (R496, Table 18.7). -/
abbrev KEYS.EV_REQ_DONE : Nat := 5
/-- Fields of the KEYS page, part 0. -/
def KEYS.layout0 : List LayoutRow := [
  ⟨KEYS.LC_STAT_STATE, 0, 1, .ro, 0, 262143⟩,
  ⟨KEYS.LC_STAT_TAMPER_HOLD, 0, 1, .ro, 0, 262143⟩,
  ⟨KEYS.LC_STAT_SEALED, 0, 1, .ro, 0, 262143⟩,
  ⟨KEYS.LC_STAT_ROOT_VALID, 0, 1, .ro, 0, 262143⟩,
  ⟨KEYS.LC_STAT_SERVICE_LEFT, 0, 1, .ro, 0, 262143⟩,
  ⟨KEYS.TAMPER_CFG_PIN_EN, 0, 1, .rw, 0, 262143⟩,
  ⟨KEYS.TAMPER_CFG_VGLITCH_EN, 0, 1, .rw, 0, 262143⟩,
  ⟨KEYS.TAMPER_CFG_CGLITCH_EN, 0, 1, .rw, 0, 262143⟩,
  ⟨KEYS.TAMPER_CFG_STRICT, 0, 1, .rw, 0, 262143⟩,
  ⟨KEYS.TAMPER_CFG_CONFIRM_GPIO, 0, 1, .rw, 0, 262143⟩,
  ⟨KEYS.TAMPER_STAT_SOURCE, 0, 1, .ro, 0, 262143⟩,
  ⟨KEYS.TAMPER_STAT_IN_KEY_OP, 0, 1, .ro, 0, 262143⟩,
  ⟨KEYS.TAMPER_STAT_ROOT_LOST, 0, 1, .ro, 0, 262143⟩,
  ⟨KEYS.REQ_SLOT, 0, 1, .rw, 0, 262143⟩,
  ⟨KEYS.REQ_OP, 0, 1, .rw, 0, 262143⟩,
  ⟨KEYS.REQ_GO, 0, 1, .w1s, 0, 262143⟩,
  ⟨KEYS.REQ_IMG_PARENT, 0, 1, .rw, 0, 262143⟩,
  ⟨KEYS.REQ_IMG_ENGINES, 0, 1, .rw, 0, 262143⟩,
  ⟨KEYS.REQ_IMG_LCMASK, 0, 1, .rw, 0, 262143⟩,
  ⟨KEYS.REQ_IMG_AUTO, 0, 1, .rw, 0, 262143⟩]
/-- Fields of the KEYS page, part 1. -/
def KEYS.layout1 : List LayoutRow := [
  ⟨KEYS.REQ_IMG_LABEL_LEN, 0, 1, .rw, 0, 262143⟩,
  ⟨KEYS.LABEL, 4, 8, .wo, 0, 262143⟩,
  ⟨KEYS.RESP_CODE, 0, 1, .ro, 0, 262143⟩,
  ⟨KEYS.RESP_DONE, 0, 1, .ro, 0, 262143⟩,
  ⟨KEYS.RESP_BUSY, 0, 1, .ro, 0, 262143⟩,
  ⟨KEYS.MEAS_M, 4, 12, .ro, 0, 262143⟩,
  ⟨KEYS.IMAGE_STAT_SLOT, 0, 1, .ro, 0, 262143⟩,
  ⟨KEYS.IMAGE_STAT_A_BAD, 0, 1, .ro, 0, 262143⟩,
  ⟨KEYS.IMAGE_STAT_B_BAD, 0, 1, .ro, 0, 262143⟩,
  ⟨KEYS.IMAGE_STAT_MAKER_SET, 0, 1, .ro, 0, 262143⟩,
  ⟨KEYS.IMAGE_STAT_SVN, 0, 1, .ro, 0, 262143⟩,
  ⟨KEYS.MIN_SVN_SVN, 0, 1, .ro, 0, 262143⟩,
  ⟨KEYS.CTL_SVN_COMMIT, 0, 1, .w1s, 0, 262143⟩,
  ⟨KEYS.CTL_SERVICE_EXIT, 0, 1, .w1s, 0, 262143⟩,
  ⟨KEYS.CTL_KEY, 0, 1, .wo, 0, 262143⟩,
  ⟨KEYS.DEV_ID_LO_ID, 0, 1, .ro, 0, 262143⟩,
  ⟨KEYS.DEV_ID_HI_ID, 0, 1, .ro, 0, 262143⟩,
  ⟨KEYS.SLOT_STAT_STATE, 4, 64, .ro, 0, 262143⟩,
  ⟨KEYS.SLOT_STAT_PARENT, 4, 64, .ro, 0, 262143⟩,
  ⟨KEYS.SLOT_STAT_ENGINES, 4, 64, .ro, 0, 262143⟩]
/-- Fields of the KEYS page, part 2. -/
def KEYS.layout2 : List LayoutRow := [
  ⟨KEYS.SLOT_STAT_LCMASK, 4, 64, .ro, 0, 262143⟩,
  ⟨KEYS.SLOT_STAT_AUTO, 4, 64, .ro, 0, 262143⟩,
  ⟨KEYS.ATTEST_PUB_KEY, 4, 24, .ro, 0, 262143⟩,
  ⟨KEYS.CNT_DERIVES, 0, 1, .ro, 0, 262143⟩,
  ⟨KEYS.CNT_TAMPERS, 0, 1, .ro, 0, 262143⟩,
  ⟨KEYS.CNT_STALE_REFUSALS, 0, 1, .ro, 0, 262143⟩,
  ⟨KEYS.CNT_LC_CHANGES, 0, 1, .ro, 0, 262143⟩]
/-- The fields of the KEYS page with their access codes. -/
def KEYS.layout : List LayoutRow := KEYS.layout0 ++ KEYS.layout1 ++ KEYS.layout2

/-- EGn: bit b is source 32n + b asserted; n 0 to 35 (R530, Table 20.5). -/
def EVENT.GRP_ASSERT_ASSERTED : Field := ⟨.event, 0x40, 0, 32, .const 0⟩
/-- Bit k: edge latched on GPIOk, source 596 + k (R530, Table 20.5). -/
def EVENT.GPIO_LATCH_EDGE : Field := ⟨.event, 0x100, 0, 32, .const 0⟩
/-- 1: the bit does not assert its source (R530, Table 20.5). -/
def EVENT.GPIO_MASK_MASK : Field := ⟨.event, 0x104, 0, 32, .const 0⟩
/-- Route of sources 596 to 627 (R530, Table 20.5). -/
def EVENT.GPIO_ROUTE_ROUTE : Field := ⟨.event, 0x108, 0, 12, .const 0xc00⟩
/-- Bit k: source 628 + k asserted, in the order of Table 19.7 (R530, Table 20.5). -/
def EVENT.LEVEL_STAT_LEVEL : Field := ⟨.event, 0x10C, 0, 12, .const 0⟩
/-- 1: the source does not assert (R530, Table 20.5). -/
def EVENT.LEVEL_MASK_MASK : Field := ⟨.event, 0x110, 0, 12, .const 0⟩
/-- Route of source 628 + k, k 0 to 11 (R530, Table 20.5). -/
def EVENT.LEVEL_ROUTE_ROUTE : Field := ⟨.event, 0x140, 0, 12, .const 0xc00⟩
/-- Bit b: doorbell DB(32g + b) set; g 0 to 15 (R530, Table 20.5). -/
def EVENT.DB_STAT_DB : Field := ⟨.event, 0x180, 0, 32, .const 0⟩
/-- 1: the doorbell does not assert its source (R530, Table 20.5). -/
def EVENT.DB_MASK_MASK : Field := ⟨.event, 0x1C0, 0, 32, .const 0⟩
/-- Route of doorbells DB(32g) to DB(32g + 31) (R530, Table 20.5). -/
def EVENT.DB_ROUTE_ROUTE : Field := ⟨.event, 0x200, 0, 12, .const 0xc00⟩
/-- Doorbell addressed, 0 to 511 (R530, Table 20.5). -/
def EVENT.DB_CTL_INDEX : Field := ⟨.event, 0x240, 0, 9, .const 0⟩
/-- Under R531 (R530, Table 20.5). -/
def EVENT.DB_CTL_SET : Field := ⟨.event, 0x240, 16, 1, .const 0⟩
/-- Under R531 (R530, Table 20.5). -/
def EVENT.DB_CTL_CLEAR : Field := ⟨.event, 0x240, 17, 1, .const 0⟩
/-- Next ring index, 0 to 16,383 (R530, Table 20.5). -/
def EVENT.LOG_HEAD_NEXT : Field := ⟨.event, 0x250, 0, 14, .const 0⟩
/-- SEQ of the last entry written (R530, Table 20.5). -/
def EVENT.LOG_HEAD_SEQ : Field := ⟨.event, 0x250, 16, 12, .const 0⟩
/-- Entries waiting in AON, 0 to 1,024 (R530, Table 20.5). -/
def EVENT.LOG_QUEUE_DEPTH : Field := ⟨.event, 0x254, 0, 11, .const 0⟩
/-- Ring entry shown (R530, Table 20.5). -/
def EVENT.LOG_SEL_INDEX : Field := ⟨.event, 0x258, 0, 14, .const 0⟩
/-- Entry of Table 19.8, words W0 to W3, low half first (R530, Table 20.5). -/
def EVENT.LOG_DATA_DATA : Field := ⟨.event, 0x260, 0, 32, .const 0⟩
/-- Header counter; saturating (R530). -/
def EVENT.CNT_LOG_ENTRIES : Field := ⟨.event, 0x28, 0, 32, .const 0⟩
/-- Header counter; saturating (R530). -/
def EVENT.CNT_LOG_LOST : Field := ⟨.event, 0x2C, 0, 32, .const 0⟩
/-- Header counter; saturating (R530). -/
def EVENT.CNT_REPEATS : Field := ⟨.event, 0x30, 0, 32, .const 0⟩
/-- EVT_STAT [0]: The log ring wrapped (R530, Table 20.5). -/
abbrev EVENT.EV_LOG_WRAP : Nat := 0
/-- Fields of the EVENT page, part 0. -/
def EVENT.layout0 : List LayoutRow := [
  ⟨EVENT.GRP_ASSERT_ASSERTED, 4, 36, .ro, 0, 262143⟩,
  ⟨EVENT.GPIO_LATCH_EDGE, 0, 1, .w1c, 0, 262143⟩,
  ⟨EVENT.GPIO_MASK_MASK, 0, 1, .rw, 0, 262143⟩,
  ⟨EVENT.GPIO_ROUTE_ROUTE, 0, 1, .rw, 0, 262143⟩,
  ⟨EVENT.LEVEL_STAT_LEVEL, 0, 1, .ro, 0, 262143⟩,
  ⟨EVENT.LEVEL_MASK_MASK, 0, 1, .rw, 0, 262143⟩,
  ⟨EVENT.LEVEL_ROUTE_ROUTE, 4, 12, .rw, 0, 262143⟩,
  ⟨EVENT.DB_STAT_DB, 4, 16, .ro, 0, 262143⟩,
  ⟨EVENT.DB_MASK_MASK, 4, 16, .rw, 0, 262143⟩,
  ⟨EVENT.DB_ROUTE_ROUTE, 4, 16, .rw, 0, 262143⟩,
  ⟨EVENT.DB_CTL_INDEX, 0, 1, .wo, 0, 262143⟩,
  ⟨EVENT.DB_CTL_SET, 0, 1, .wo, 0, 262143⟩,
  ⟨EVENT.DB_CTL_CLEAR, 0, 1, .wo, 0, 262143⟩,
  ⟨EVENT.LOG_HEAD_NEXT, 0, 1, .ro, 0, 262143⟩,
  ⟨EVENT.LOG_HEAD_SEQ, 0, 1, .ro, 0, 262143⟩,
  ⟨EVENT.LOG_QUEUE_DEPTH, 0, 1, .ro, 0, 262143⟩,
  ⟨EVENT.LOG_SEL_INDEX, 0, 1, .rw, 0, 262143⟩,
  ⟨EVENT.LOG_DATA_DATA, 4, 8, .ro, 0, 262143⟩,
  ⟨EVENT.CNT_LOG_ENTRIES, 0, 1, .ro, 0, 262143⟩,
  ⟨EVENT.CNT_LOG_LOST, 0, 1, .ro, 0, 262143⟩]
/-- Fields of the EVENT page, part 1. -/
def EVENT.layout1 : List LayoutRow := [
  ⟨EVENT.CNT_REPEATS, 0, 1, .ro, 0, 262143⟩]
/-- The fields of the EVENT page with their access codes. -/
def EVENT.layout : List LayoutRow := EVENT.layout0 ++ EVENT.layout1

/-- Subsystem identifiers; take effect at the next training (R523, Table 19.11). -/
def BUSMATRIX.SUBSYS_SVID : Field := ⟨.busmatrix, 0x40, 0, 16, .const 0⟩
/-- Subsystem identifiers; take effect at the next training (R523, Table 19.11). -/
def BUSMATRIX.SUBSYS_SSID : Field := ⟨.busmatrix, 0x40, 16, 16, .const 0⟩
/-- us, 0 to 1,000 (R523, Table 19.11). -/
def BUSMATRIX.MSIX_CFG_HOLDOFF : Field := ⟨.busmatrix, 0x44, 0, 10, .const 0⟩
/-- Data link active (R523, Table 19.11). -/
def BUSMATRIX.PCIE_STAT_LINK_UP : Field := ⟨.busmatrix, 0x48, 0, 1, .const 0⟩
/-- Negotiated rate while LINK_UP: 1 to 4 for 2.5 to 16.0 GT/s; 0 while the link is down (R498) (R523, Table 19.11). -/
def BUSMATRIX.PCIE_STAT_SPEED : Field := ⟨.busmatrix, 0x48, 1, 3, .const 0⟩
/-- Negotiated width while LINK_UP: 1, 2 or 4 lanes; 0 while the link is down (R498) (R523, Table 19.11). -/
def BUSMATRIX.PCIE_STAT_WIDTH : Field := ⟨.busmatrix, 0x48, 4, 3, .const 0⟩
/-- As set by the host (R523, Table 19.11). -/
def BUSMATRIX.PCIE_STAT_MSIX_EN : Field := ⟨.busmatrix, 0x48, 7, 1, .const 0⟩
/-- As set by the host (R523, Table 19.11). -/
def BUSMATRIX.PCIE_STAT_FN_MASK : Field := ⟨.busmatrix, 0x48, 8, 1, .const 0⟩
/-- Internal address [31:0] (R523, Table 19.11). -/
def BUSMATRIX.ERR_ADDR_LO_ADDR : Field := ⟨.busmatrix, 0x50, 0, 32, .const 0⟩
/-- Internal address [39:32] (R523, Table 19.11). -/
def BUSMATRIX.ERR_ADDR_HI_ADDR : Field := ⟨.busmatrix, 0x54, 0, 8, .const 0⟩
/-- Master ID (R523, Table 19.11). -/
def BUSMATRIX.ERR_INFO_MASTER : Field := ⟨.busmatrix, 0x58, 0, 3, .const 0⟩
/-- 1 decode miss; 2 window (R507); 3 lock or master (R514); 4 unit or domain state (R526); 5 width or access type, including a write to an RO area of a table window (R499); 6 poisoned (R502) (R523, Table 19.11). -/
def BUSMATRIX.ERR_INFO_KIND : Field := ⟨.busmatrix, 0x58, 4, 3, .const 0⟩
/-- 1: write (R523, Table 19.11). -/
def BUSMATRIX.ERR_INFO_WRITE : Field := ⟨.busmatrix, 0x58, 8, 1, .const 0⟩
/-- Clearing frees the register for the next error (R523, Table 19.11). -/
def BUSMATRIX.ERR_INFO_VALID : Field := ⟨.busmatrix, 0x58, 31, 1, .const 0⟩
/-- Bit g releases group g; reads 0 (R523, Table 19.11). -/
def BUSMATRIX.GROUP_COMMIT_GO : Field := ⟨.busmatrix, 0x60, 1, 15, .const 0⟩
/-- Bit 16 + g: a commit waits in group g (R523, Table 19.11). -/
def BUSMATRIX.GROUP_COMMIT_WAITING : Field := ⟨.busmatrix, 0x60, 17, 15, .const 0⟩
/-- First 4 KiB unit (R523, Table 19.11). -/
def BUSMATRIX.WIN_BASE : Field := ⟨.busmatrix, 0x100, 0, 28, .const 0⟩
/-- Last 4 KiB unit (R523, Table 19.11). -/
def BUSMATRIX.WIN_LIMIT : Field := ⟨.busmatrix, 0x104, 0, 28, .const 0⟩
/-- Masks by master ID (R523, Table 19.11). -/
def BUSMATRIX.WIN_RD : Field := ⟨.busmatrix, 0x108, 0, 7, .const 0⟩
/-- Masks by master ID (R523, Table 19.11). -/
def BUSMATRIX.WIN_WR : Field := ⟨.busmatrix, 0x108, 8, 7, .const 0⟩
/-- Window in force (R523, Table 19.11). -/
def BUSMATRIX.WIN_VALID : Field := ⟨.busmatrix, 0x108, 31, 1, .const 0⟩
/-- Header counter; saturating (R523). -/
def BUSMATRIX.CNT_DECODE_ERRS : Field := ⟨.busmatrix, 0x28, 0, 32, .const 0⟩
/-- Header counter; saturating (R523). -/
def BUSMATRIX.CNT_WIN_DENIES : Field := ⟨.busmatrix, 0x2C, 0, 32, .const 0⟩
/-- Header counter; saturating (R523). -/
def BUSMATRIX.CNT_LOCK_DENIES : Field := ⟨.busmatrix, 0x30, 0, 32, .const 0⟩
/-- Header counter; saturating (R523). -/
def BUSMATRIX.CNT_LINK_DOWNS : Field := ⟨.busmatrix, 0x34, 0, 32, .const 0⟩
/-- Header counter; saturating (R523). -/
def BUSMATRIX.CNT_ACCESS_ERRS : Field := ⟨.busmatrix, 0x38, 0, 32, .const 0⟩
/-- EVT_STAT [0]: Decode miss (R523, Table 19.11). -/
abbrev BUSMATRIX.EV_DECODE_ERR : Nat := 0
/-- EVT_STAT [1]: Refused by a window (R523, Table 19.11). -/
abbrev BUSMATRIX.EV_WIN_DENY : Nat := 1
/-- EVT_STAT [2]: RWL write with the lock closed, or master excluded (R523, Table 19.11). -/
abbrev BUSMATRIX.EV_LOCK_DENY : Nat := 2
/-- EVT_STAT [3]: PCIe link change (R523, Table 19.11). -/
abbrev BUSMATRIX.EV_LINK_DOWN : Nat := 3
/-- EVT_STAT [4]: PCIe link change (R523, Table 19.11). -/
abbrev BUSMATRIX.EV_LINK_UP : Nat := 4
/-- EVT_STAT [5]: Under R521 (R523, Table 19.11). -/
abbrev BUSMATRIX.EV_LOG_LOST : Nat := 5
/-- EVT_STAT [6]: Error of ERR_INFO.KIND 4, 5 or 6, under R506 (R523, Table 19.11). -/
abbrev BUSMATRIX.EV_ACCESS_ERR : Nat := 6
/-- Fields of the BUSMATRIX page, part 0. -/
def BUSMATRIX.layout0 : List LayoutRow := [
  ⟨BUSMATRIX.SUBSYS_SVID, 0, 1, .rwl, 0, 262143⟩,
  ⟨BUSMATRIX.SUBSYS_SSID, 0, 1, .rwl, 0, 262143⟩,
  ⟨BUSMATRIX.MSIX_CFG_HOLDOFF, 0, 1, .rw, 0, 262143⟩,
  ⟨BUSMATRIX.PCIE_STAT_LINK_UP, 0, 1, .ro, 0, 262143⟩,
  ⟨BUSMATRIX.PCIE_STAT_SPEED, 0, 1, .ro, 0, 262143⟩,
  ⟨BUSMATRIX.PCIE_STAT_WIDTH, 0, 1, .ro, 0, 262143⟩,
  ⟨BUSMATRIX.PCIE_STAT_MSIX_EN, 0, 1, .ro, 0, 262143⟩,
  ⟨BUSMATRIX.PCIE_STAT_FN_MASK, 0, 1, .ro, 0, 262143⟩,
  ⟨BUSMATRIX.ERR_ADDR_LO_ADDR, 0, 1, .ro, 0, 262143⟩,
  ⟨BUSMATRIX.ERR_ADDR_HI_ADDR, 0, 1, .ro, 0, 262143⟩,
  ⟨BUSMATRIX.ERR_INFO_MASTER, 0, 1, .ro, 0, 262143⟩,
  ⟨BUSMATRIX.ERR_INFO_KIND, 0, 1, .ro, 0, 262143⟩,
  ⟨BUSMATRIX.ERR_INFO_WRITE, 0, 1, .ro, 0, 262143⟩,
  ⟨BUSMATRIX.ERR_INFO_VALID, 0, 1, .w1c, 0, 262143⟩,
  ⟨BUSMATRIX.GROUP_COMMIT_GO, 0, 1, .w1s, 0, 262143⟩,
  ⟨BUSMATRIX.GROUP_COMMIT_WAITING, 0, 1, .ro, 0, 262143⟩,
  ⟨BUSMATRIX.WIN_BASE, 16, 16, .rwl, 0, 262143⟩,
  ⟨BUSMATRIX.WIN_LIMIT, 16, 16, .rwl, 0, 262143⟩,
  ⟨BUSMATRIX.WIN_RD, 16, 16, .rwl, 0, 262143⟩,
  ⟨BUSMATRIX.WIN_WR, 16, 16, .rwl, 0, 262143⟩]
/-- Fields of the BUSMATRIX page, part 1. -/
def BUSMATRIX.layout1 : List LayoutRow := [
  ⟨BUSMATRIX.WIN_VALID, 16, 16, .rwl, 0, 262143⟩,
  ⟨BUSMATRIX.CNT_DECODE_ERRS, 0, 1, .ro, 0, 262143⟩,
  ⟨BUSMATRIX.CNT_WIN_DENIES, 0, 1, .ro, 0, 262143⟩,
  ⟨BUSMATRIX.CNT_LOCK_DENIES, 0, 1, .ro, 0, 262143⟩,
  ⟨BUSMATRIX.CNT_LINK_DOWNS, 0, 1, .ro, 0, 262143⟩,
  ⟨BUSMATRIX.CNT_ACCESS_ERRS, 0, 1, .ro, 0, 262143⟩]
/-- The fields of the BUSMATRIX page with their access codes. -/
def BUSMATRIX.layout : List LayoutRow := BUSMATRIX.layout0 ++ BUSMATRIX.layout1

/-- 0 115,200; 1 230,400; 2 460,800; 3 921,600; 4 3,000,000; 5 to 7 treated as 0 (R551, Table 21.6). -/
def SERVICE.CFG_BAUD : Field := ⟨.service, 0x40, 0, 3, .const 0⟩
/-- Under R539 (R551, Table 21.6). -/
def SERVICE.CFG_ECHO : Field := ⟨.service, 0x40, 4, 1, .const 1⟩
/-- Minutes, 1 to 255; 0 is treated as 1 (R551, Table 21.6). -/
def SERVICE.CFG_IDLE : Field := ⟨.service, 0x40, 8, 8, .const 0x1e⟩
/-- 0 OPEN, 1 CHALLENGED, 2 SERVICE, 3 CONFIRM (R551, Table 21.6). -/
def SERVICE.STAT_SESSION : Field := ⟨.service, 0x44, 0, 2, .const 0⟩
/-- Under R484 (R551, Table 21.6). -/
def SERVICE.STAT_LOCKED_OUT : Field := ⟨.service, 0x44, 2, 1, .const 0⟩
/-- Under R546 (R551, Table 21.6). -/
def SERVICE.STAT_TEST_BUSY : Field := ⟨.service, 0x44, 3, 1, .const 0⟩
/-- Seconds, 0 to 600 (R551, Table 21.6). -/
def SERVICE.STAT_LOCKOUT_LEFT : Field := ⟨.service, 0x44, 4, 10, .const 0⟩
/-- Under R543 (R551, Table 21.6). -/
def SERVICE.CMD_CTR_COUNT : Field := ⟨.service, 0x48, 0, 32, .const 0⟩
/-- 0 low, 1 0.5 Hz, 2 1 Hz, 3 2 Hz, 4 4 Hz, 5 8 Hz, 6 16 Hz (R551, Table 21.6). -/
def SERVICE.FF_STAT_BEAT : Field := ⟨.service, 0x4C, 0, 3, .const 0⟩
/-- FF_ANA in 0.1 V steps, 2 to 17 (R551, Table 21.6). -/
def SERVICE.FF_STAT_ANA : Field := ⟨.service, 0x4C, 4, 5, .const 2⟩
/-- Row of Table 21.4; 0 reset (R551, Table 21.6). -/
def SERVICE.FF_STAT_ROW : Field := ⟨.service, 0x4C, 9, 4, .const 0⟩
/-- Under R549 (R551, Table 21.6). -/
def SERVICE.FF_STAT_OVERRIDE_ON : Field := ⟨.service, 0x4C, 16, 1, .const 0⟩
/-- Acted on only in a SERVICE session (R551, Table 21.6). -/
def SERVICE.FF_CTL_OVERRIDE : Field := ⟨.service, 0x50, 0, 1, .const 0⟩
/-- As FF_STAT.BEAT (R551, Table 21.6). -/
def SERVICE.FF_CTL_BEAT : Field := ⟨.service, 0x50, 1, 3, .const 0⟩
/-- 2 to 17; other values treated as 2 (R551, Table 21.6). -/
def SERVICE.FF_CTL_ANA : Field := ⟨.service, 0x50, 4, 5, .const 2⟩
/-- Header counter; saturating (R551). -/
def SERVICE.CNT_LINES : Field := ⟨.service, 0x28, 0, 32, .const 0⟩
/-- Header counter; saturating (R551). -/
def SERVICE.CNT_AUTH_FAILS : Field := ⟨.service, 0x2C, 0, 32, .const 0⟩
/-- Header counter; saturating (R551). -/
def SERVICE.CNT_TAG_FAILS : Field := ⟨.service, 0x30, 0, 32, .const 0⟩
/-- Header counter; saturating (R551). -/
def SERVICE.CNT_RX_OVERRUNS : Field := ⟨.service, 0x34, 0, 32, .const 0⟩
/-- EVT_STAT [0]: Under R542 and R544 (R551, Table 21.6). -/
abbrev SERVICE.EV_SESSION_START : Nat := 0
/-- EVT_STAT [1]: Under R542 and R544 (R551, Table 21.6). -/
abbrev SERVICE.EV_SESSION_END : Nat := 1
/-- EVT_STAT [2]: Signature failed (R551, Table 21.6). -/
abbrev SERVICE.EV_AUTH_FAIL : Nat := 2
/-- EVT_STAT [3]: Lockout of R484 began (R551, Table 21.6). -/
abbrev SERVICE.EV_LOCKOUT : Nat := 3
/-- EVT_STAT [4]: Under R543 (R551, Table 21.6). -/
abbrev SERVICE.EV_TAG_FAIL : Nat := 4
/-- EVT_STAT [5]: Under R539 (R551, Table 21.6). -/
abbrev SERVICE.EV_RX_OVERRUN : Nat := 5
/-- EVT_STAT [6]: Under R545 (R551, Table 21.6). -/
abbrev SERVICE.EV_CONFIRM_WAIT : Nat := 6
/-- EVT_STAT [7]: FF_ANA row changed (R551, Table 21.6). -/
abbrev SERVICE.EV_FF_CHG : Nat := 7
/-- Fields of the SERVICE page, part 0. -/
def SERVICE.layout0 : List LayoutRow := [
  ⟨SERVICE.CFG_BAUD, 0, 1, .rw, 0, 262143⟩,
  ⟨SERVICE.CFG_ECHO, 0, 1, .rw, 0, 262143⟩,
  ⟨SERVICE.CFG_IDLE, 0, 1, .rw, 0, 262143⟩,
  ⟨SERVICE.STAT_SESSION, 0, 1, .ro, 0, 262143⟩,
  ⟨SERVICE.STAT_LOCKED_OUT, 0, 1, .ro, 0, 262143⟩,
  ⟨SERVICE.STAT_TEST_BUSY, 0, 1, .ro, 0, 262143⟩,
  ⟨SERVICE.STAT_LOCKOUT_LEFT, 0, 1, .ro, 0, 262143⟩,
  ⟨SERVICE.CMD_CTR_COUNT, 0, 1, .ro, 0, 262143⟩,
  ⟨SERVICE.FF_STAT_BEAT, 0, 1, .ro, 0, 262143⟩,
  ⟨SERVICE.FF_STAT_ANA, 0, 1, .ro, 0, 262143⟩,
  ⟨SERVICE.FF_STAT_ROW, 0, 1, .ro, 0, 262143⟩,
  ⟨SERVICE.FF_STAT_OVERRIDE_ON, 0, 1, .ro, 0, 262143⟩,
  ⟨SERVICE.FF_CTL_OVERRIDE, 0, 1, .rw, 0, 262143⟩,
  ⟨SERVICE.FF_CTL_BEAT, 0, 1, .rw, 0, 262143⟩,
  ⟨SERVICE.FF_CTL_ANA, 0, 1, .rw, 0, 262143⟩,
  ⟨SERVICE.CNT_LINES, 0, 1, .ro, 0, 262143⟩,
  ⟨SERVICE.CNT_AUTH_FAILS, 0, 1, .ro, 0, 262143⟩,
  ⟨SERVICE.CNT_TAG_FAILS, 0, 1, .ro, 0, 262143⟩,
  ⟨SERVICE.CNT_RX_OVERRUNS, 0, 1, .ro, 0, 262143⟩]
/-- The fields of the SERVICE page with their access codes. -/
def SERVICE.layout : List LayoutRow := SERVICE.layout0

/-- 0 Phobos, 1 Deimos, 3 none (R419, Table 14.12). -/
def SUPERVISOR.STAT_ACTIVE : Field := ⟨.supervisor, 0x40, 0, 2, .const 3⟩
/-- 0 OFF, 1 BOOT, 2 SYNC, 3 STANDBY, 4 ACTIVE, 5 FAILED, 6 RETIRED (R419, Table 14.12). -/
def SUPERVISOR.STAT_PHOBOS : Field := ⟨.supervisor, 0x40, 2, 3, .const 0⟩
/-- As PHOBOS (R419, Table 14.12). -/
def SUPERVISOR.STAT_DEIMOS : Field := ⟨.supervisor, 0x40, 5, 3, .const 0⟩
/-- 0 DUAL, 1 SINGLE, 2 FAILOVER, 3 FLYWHEEL, 4 FLYWHEEL_HOLD, 5 LEDGER_REBUILD (R419, Table 14.12). -/
def SUPERVISOR.STAT_MODE : Field := ⟨.supervisor, 0x40, 8, 3, .const 0⟩
/-- Restart attempt, 0 to 3 (R419, Table 14.12). -/
def SUPERVISOR.STAT_ATTEMPT : Field := ⟨.supervisor, 0x40, 12, 2, .const 0⟩
/-- Seconds to the next attempt; saturating at 255 (R419, Table 14.12). -/
def SUPERVISOR.STAT_BACKOFF : Field := ⟨.supervisor, 0x40, 16, 8, .const 0⟩
/-- Heartbeats received; wrap (R419, Table 14.12). -/
def SUPERVISOR.HB_PHOBOS_HB : Field := ⟨.supervisor, 0x44, 0, 16, .const 0⟩
/-- Heartbeats received; wrap (R419, Table 14.12). -/
def SUPERVISOR.HB_DEIMOS_HB : Field := ⟨.supervisor, 0x44, 16, 16, .const 0⟩
/-- Entries the STANDBY supervisor has not applied (R419, Table 14.12). -/
def SUPERVISOR.JOURNAL_LAG : Field := ⟨.supervisor, 0x48, 0, 20, .const 0⟩
/-- Under R406 (R419, Table 14.12). -/
def SUPERVISOR.JOURNAL_IN_SYNC : Field := ⟨.supervisor, 0x48, 31, 1, .const 0⟩
/-- Under R409; reads 0 (R419, Table 14.12). -/
def SUPERVISOR.CTL_SWITCHOVER : Field := ⟨.supervisor, 0x4C, 0, 1, .const 0⟩
/-- Under R411; reads 0 (R419, Table 14.12). -/
def SUPERVISOR.CTL_RETRY : Field := ⟨.supervisor, 0x4C, 1, 1, .const 0⟩
/-- Self-test the STANDBY supervisor; reads 0 (R419, Table 14.12). -/
def SUPERVISOR.CTL_RETEST_STANDBY : Field := ⟨.supervisor, 0x4C, 2, 1, .const 0⟩
/-- 1 heartbeat, 2 stall, 3 memory error, 4 fatal self-report, 5 SWITCHOVER, 6 self-test failed (R419, Table 14.12). -/
def SUPERVISOR.LAST_CAUSE_CAUSE : Field := ⟨.supervisor, 0x50, 0, 4, .const 0⟩
/-- 0 Phobos, 1 Deimos (R419, Table 14.12). -/
def SUPERVISOR.LAST_CAUSE_WHO : Field := ⟨.supervisor, 0x50, 4, 1, .const 0⟩
/-- Header counter; saturating (R419). -/
def SUPERVISOR.CNT_FAILOVERS : Field := ⟨.supervisor, 0x28, 0, 32, .const 0⟩
/-- Header counter; saturating (R419). -/
def SUPERVISOR.CNT_FLYWHEELS : Field := ⟨.supervisor, 0x2C, 0, 32, .const 0⟩
/-- Header counter; saturating (R419). -/
def SUPERVISOR.CNT_RESTARTS : Field := ⟨.supervisor, 0x30, 0, 32, .const 0⟩
/-- Header counter; saturating (R419). -/
def SUPERVISOR.CNT_HB_MISSES : Field := ⟨.supervisor, 0x34, 0, 32, .const 0⟩
/-- EVT_STAT [0]: Under R407 (R419, Table 14.12). -/
abbrev SUPERVISOR.EV_FAILOVER : Nat := 0
/-- EVT_STAT [1]: A supervisor entered STANDBY with IN_SYNC (R419, Table 14.12). -/
abbrev SUPERVISOR.EV_STANDBY_READY : Nat := 1
/-- EVT_STAT [2]: Under R409 (R419, Table 14.12). -/
abbrev SUPERVISOR.EV_SUP_RETIRED : Nat := 2
/-- EVT_STAT [3]: Under R410 and R412 (R419, Table 14.12). -/
abbrev SUPERVISOR.EV_FLYWHEEL_IN : Nat := 3
/-- EVT_STAT [4]: Under R410 and R412 (R419, Table 14.12). -/
abbrev SUPERVISOR.EV_FLYWHEEL_OUT : Nat := 4
/-- EVT_STAT [5]: An attempt of R411 failed (R419, Table 14.12). -/
abbrev SUPERVISOR.EV_RESTART_FAIL : Nat := 5
/-- EVT_STAT [6]: Three attempts failed (R419, Table 14.12). -/
abbrev SUPERVISOR.EV_FLYWHEEL_HOLD : Nat := 6
/-- EVT_STAT [7]: Under R409, or a journal check failed (R419, Table 14.12). -/
abbrev SUPERVISOR.EV_JOURNAL_ERR : Nat := 7
/-- Fields of the SUPERVISOR page, part 0. -/
def SUPERVISOR.layout0 : List LayoutRow := [
  ⟨SUPERVISOR.STAT_ACTIVE, 0, 1, .ro, 0, 262143⟩,
  ⟨SUPERVISOR.STAT_PHOBOS, 0, 1, .ro, 0, 262143⟩,
  ⟨SUPERVISOR.STAT_DEIMOS, 0, 1, .ro, 0, 262143⟩,
  ⟨SUPERVISOR.STAT_MODE, 0, 1, .ro, 0, 262143⟩,
  ⟨SUPERVISOR.STAT_ATTEMPT, 0, 1, .ro, 0, 262143⟩,
  ⟨SUPERVISOR.STAT_BACKOFF, 0, 1, .ro, 0, 262143⟩,
  ⟨SUPERVISOR.HB_PHOBOS_HB, 0, 1, .ro, 0, 262143⟩,
  ⟨SUPERVISOR.HB_DEIMOS_HB, 0, 1, .ro, 0, 262143⟩,
  ⟨SUPERVISOR.JOURNAL_LAG, 0, 1, .ro, 0, 262143⟩,
  ⟨SUPERVISOR.JOURNAL_IN_SYNC, 0, 1, .ro, 0, 262143⟩,
  ⟨SUPERVISOR.CTL_SWITCHOVER, 0, 1, .w1s, 0, 262143⟩,
  ⟨SUPERVISOR.CTL_RETRY, 0, 1, .w1s, 0, 262143⟩,
  ⟨SUPERVISOR.CTL_RETEST_STANDBY, 0, 1, .w1s, 0, 262143⟩,
  ⟨SUPERVISOR.LAST_CAUSE_CAUSE, 0, 1, .ro, 0, 262143⟩,
  ⟨SUPERVISOR.LAST_CAUSE_WHO, 0, 1, .ro, 0, 262143⟩,
  ⟨SUPERVISOR.CNT_FAILOVERS, 0, 1, .ro, 0, 262143⟩,
  ⟨SUPERVISOR.CNT_FLYWHEELS, 0, 1, .ro, 0, 262143⟩,
  ⟨SUPERVISOR.CNT_RESTARTS, 0, 1, .ro, 0, 262143⟩,
  ⟨SUPERVISOR.CNT_HB_MISSES, 0, 1, .ro, 0, 262143⟩]
/-- The fields of the SUPERVISOR page with their access codes. -/
def SUPERVISOR.layout : List LayoutRow := SUPERVISOR.layout0

/-- 1: supervisor policy steps enabled (R418, Table 14.11). -/
def REPAIR.CFG_AUTO : Field := ⟨.repair, 0x40, 0, 1, .const 1⟩
/-- Minutes between tests of unselected synthesiser halves and the standby supervisor; 0 is treated as 1 (R418, Table 14.11). -/
def REPAIR.CFG_IDLE_TEST_PERIOD : Field := ⟨.repair, 0x40, 8, 8, .const 0xf⟩
/-- Under R393 (R418, Table 14.11). -/
def REPAIR.CFG_DOMAIN_RESET_EN : Field := ⟨.repair, 0x40, 16, 1, .const 1⟩
/-- Under R392, 1 to 15; 0 is treated as 1 (R418, Table 14.11). -/
def REPAIR.CFG_RETIRE_LIMIT : Field := ⟨.repair, 0x40, 20, 4, .const 3⟩
/-- Outputs with protection shed (R418, Table 14.11). -/
def REPAIR.STAT_SHED_COUNT : Field := ⟨.repair, 0x44, 0, 8, .const 0⟩
/-- Shedding in progress (R418, Table 14.11). -/
def REPAIR.STAT_SHEDDING : Field := ⟨.repair, 0x44, 8, 1, .const 0⟩
/-- Plane out of service (R418, Table 14.11). -/
def REPAIR.STAT_PLANE_A_OUT : Field := ⟨.repair, 0x44, 9, 1, .const 0⟩
/-- Plane out of service (R418, Table 14.11). -/
def REPAIR.STAT_PLANE_B_OUT : Field := ⟨.repair, 0x44, 10, 1, .const 0⟩
/-- Entries queued for a supervisor, 0 to 256 (R418, Table 14.11). -/
def REPAIR.STAT_QUEUE : Field := ⟨.repair, 0x44, 16, 9, .const 0⟩
/-- Next step-log index, 0 to 3,967 (R418, Table 14.11). -/
def REPAIR.LOG_HEAD_NEXT : Field := ⟨.repair, 0x48, 0, 12, .const 0⟩
/-- SEQ of the last entry (R418, Table 14.11). -/
def REPAIR.LOG_HEAD_SEQ : Field := ⟨.repair, 0x48, 16, 16, .const 0⟩
/-- Step-log entry shown (R418, Table 14.11). -/
def REPAIR.LOG_SEL_INDEX : Field := ⟨.repair, 0x4C, 0, 12, .const 0⟩
/-- Entry words, low half first (R418, Table 14.11). -/
def REPAIR.LOG_DATA_DATA : Field := ⟨.repair, 0x50, 0, 32, .const 0⟩
/-- Retirement entry shown (R418, Table 14.11). -/
def REPAIR.RET_SEL_INDEX : Field := ⟨.repair, 0x70, 0, 9, .const 0⟩
/-- Retirement entry: UNIT, then SUB [7:0] and uptime [31:8] of retirement (R418, Table 14.11). -/
def REPAIR.RET_DATA_DATA : Field := ⟨.repair, 0x74, 0, 32, .const 0⟩
/-- Output to clear (R418, Table 14.11). -/
def REPAIR.AVAIL_CLR_VO : Field := ⟨.repair, 0x7C, 0, 8, .const 0⟩
/-- Clear every output; reads 0 (R418, Table 14.11). -/
def REPAIR.AVAIL_CLR_ALL : Field := ⟨.repair, 0x7C, 30, 1, .const 0⟩
/-- Clear FRAMES, DEFECTIVE and LATE of VO; reads 0 (R418, Table 14.11). -/
def REPAIR.AVAIL_CLR_GO : Field := ⟨.repair, 0x7C, 31, 1, .const 0⟩
/-- Shedding priority, 0 lowest to 3 highest (R418, Table 14.11). -/
def REPAIR.PROT_CFG_PRIO : Field := ⟨.repair, 0x400, 0, 2, .const 0⟩
/-- Protection shed (R418, Table 14.11). -/
def REPAIR.PROT_CFG_SHED : Field := ⟨.repair, 0x400, 8, 1, .const 0⟩
/-- Twin in service and proved (R418, Table 14.11). -/
def REPAIR.PROT_CFG_TWIN_UP : Field := ⟨.repair, 0x400, 9, 1, .const 0⟩
/-- 0 plane A copy, 1 plane B copy (R418, Table 14.11). -/
def REPAIR.PROT_CFG_SEL : Field := ⟨.repair, 0x400, 10, 1, .const 0⟩
/-- P2 output without its formation copy (R418, Table 14.11). -/
def REPAIR.PROT_CFG_P2_DEGRADED : Field := ⟨.repair, 0x400, 11, 1, .const 0⟩
/-- Frames counted; wraps (R418, Table 14.11). -/
def REPAIR.FRAMES_COUNT : Field := ⟨.repair, 0x404, 0, 32, .const 0⟩
/-- Saturating (R418, Table 14.11). -/
def REPAIR.DEFECTIVE_COUNT : Field := ⟨.repair, 0x408, 0, 32, .const 0⟩
/-- Saturating (R418, Table 14.11). -/
def REPAIR.LATE_COUNT : Field := ⟨.repair, 0x40C, 0, 32, .const 0⟩
/-- Header counter; saturating (R418). -/
def REPAIR.CNT_LADDER_STEPS : Field := ⟨.repair, 0x28, 0, 32, .const 0⟩
/-- Header counter; saturating (R418). -/
def REPAIR.CNT_RETIREMENTS : Field := ⟨.repair, 0x2C, 0, 32, .const 0⟩
/-- Header counter; saturating (R418). -/
def REPAIR.CNT_SHEDS : Field := ⟨.repair, 0x30, 0, 32, .const 0⟩
/-- Header counter; saturating (R418). -/
def REPAIR.CNT_LINE_SWAPS : Field := ⟨.repair, 0x34, 0, 32, .const 0⟩
/-- Header counter; saturating (R418). -/
def REPAIR.CNT_TWIN_MISMATCH : Field := ⟨.repair, 0x38, 0, 32, .const 0⟩
/-- EVT_STAT [0]: Step-log entry written (R418, Table 14.11). -/
abbrev REPAIR.EV_STEP : Nat := 0
/-- EVT_STAT [1]: Unit retired (R418, Table 14.11). -/
abbrev REPAIR.EV_RETIRED : Nat := 1
/-- EVT_STAT [2]: Under R403 and R404 (R418, Table 14.11). -/
abbrev REPAIR.EV_SHED : Nat := 2
/-- EVT_STAT [3]: Under R403 and R404 (R418, Table 14.11). -/
abbrev REPAIR.EV_RESTORED : Nat := 3
/-- EVT_STAT [4]: Under R397 (R418, Table 14.11). -/
abbrev REPAIR.EV_TWIN_MISMATCH : Nat := 4
/-- EVT_STAT [5]: Under R400 (R418, Table 14.11). -/
abbrev REPAIR.EV_PLANE_LOST : Nat := 5
/-- EVT_STAT [6]: A defective or late frame counted (R418, Table 14.11). -/
abbrev REPAIR.EV_DEFECTIVE : Nat := 6
/-- EVT_STAT [7]: Under R414 (R418, Table 14.11). -/
abbrev REPAIR.EV_QUEUE_LOST : Nat := 7
/-- EVT_STAT [8]: Under R414 (R418, Table 14.11). -/
abbrev REPAIR.EV_RETIRE_MAP_FULL : Nat := 8
/-- Fields of the REPAIR page, part 0. -/
def REPAIR.layout0 : List LayoutRow := [
  ⟨REPAIR.CFG_AUTO, 0, 1, .rw, 0, 262143⟩,
  ⟨REPAIR.CFG_IDLE_TEST_PERIOD, 0, 1, .rw, 0, 262143⟩,
  ⟨REPAIR.CFG_DOMAIN_RESET_EN, 0, 1, .rw, 0, 262143⟩,
  ⟨REPAIR.CFG_RETIRE_LIMIT, 0, 1, .rw, 0, 262143⟩,
  ⟨REPAIR.STAT_SHED_COUNT, 0, 1, .ro, 0, 262143⟩,
  ⟨REPAIR.STAT_SHEDDING, 0, 1, .ro, 0, 262143⟩,
  ⟨REPAIR.STAT_PLANE_A_OUT, 0, 1, .ro, 0, 262143⟩,
  ⟨REPAIR.STAT_PLANE_B_OUT, 0, 1, .ro, 0, 262143⟩,
  ⟨REPAIR.STAT_QUEUE, 0, 1, .ro, 0, 262143⟩,
  ⟨REPAIR.LOG_HEAD_NEXT, 0, 1, .ro, 0, 262143⟩,
  ⟨REPAIR.LOG_HEAD_SEQ, 0, 1, .ro, 0, 262143⟩,
  ⟨REPAIR.LOG_SEL_INDEX, 0, 1, .rw, 0, 262143⟩,
  ⟨REPAIR.LOG_DATA_DATA, 4, 8, .ro, 0, 262143⟩,
  ⟨REPAIR.RET_SEL_INDEX, 0, 1, .rw, 0, 262143⟩,
  ⟨REPAIR.RET_DATA_DATA, 4, 2, .ro, 0, 262143⟩,
  ⟨REPAIR.AVAIL_CLR_VO, 0, 1, .rw, 0, 262143⟩,
  ⟨REPAIR.AVAIL_CLR_ALL, 0, 1, .w1s, 0, 262143⟩,
  ⟨REPAIR.AVAIL_CLR_GO, 0, 1, .w1s, 0, 262143⟩,
  ⟨REPAIR.PROT_CFG_PRIO, 16, 192, .rw, 0, 262143⟩,
  ⟨REPAIR.PROT_CFG_SHED, 16, 192, .ro, 0, 262143⟩]
/-- Fields of the REPAIR page, part 1. -/
def REPAIR.layout1 : List LayoutRow := [
  ⟨REPAIR.PROT_CFG_TWIN_UP, 16, 192, .ro, 0, 262143⟩,
  ⟨REPAIR.PROT_CFG_SEL, 16, 192, .ro, 0, 262143⟩,
  ⟨REPAIR.PROT_CFG_P2_DEGRADED, 16, 192, .ro, 0, 262143⟩,
  ⟨REPAIR.FRAMES_COUNT, 16, 192, .ro, 0, 262143⟩,
  ⟨REPAIR.DEFECTIVE_COUNT, 16, 192, .ro, 0, 262143⟩,
  ⟨REPAIR.LATE_COUNT, 16, 192, .ro, 0, 262143⟩,
  ⟨REPAIR.CNT_LADDER_STEPS, 0, 1, .ro, 0, 262143⟩,
  ⟨REPAIR.CNT_RETIREMENTS, 0, 1, .ro, 0, 262143⟩,
  ⟨REPAIR.CNT_SHEDS, 0, 1, .ro, 0, 262143⟩,
  ⟨REPAIR.CNT_LINE_SWAPS, 0, 1, .ro, 0, 262143⟩,
  ⟨REPAIR.CNT_TWIN_MISMATCH, 0, 1, .ro, 0, 262143⟩]
/-- The fields of the REPAIR page with their access codes. -/
def REPAIR.layout : List LayoutRow := REPAIR.layout0 ++ REPAIR.layout1

/-- L0 of R156, 0.1 Gbit/s (R533, Table 20.6). -/
def LEDGER.FAB_L0_L0 : Field := ⟨.ledger, 0x40, 0, 16, .const 0⟩
/-- LA and LB of R156, 0.1 Gbit/s (R533, Table 20.6). -/
def LEDGER.FAB_AB_LA : Field := ⟨.ledger, 0x44, 0, 16, .const 0⟩
/-- LA and LB of R156, 0.1 Gbit/s (R533, Table 20.6). -/
def LEDGER.FAB_AB_LB : Field := ⟨.ledger, 0x44, 16, 16, .const 0⟩
/-- As SYNCMGR.MEM_TOTAL.BW (R533, Table 20.6). -/
def LEDGER.MEM_BW : Field := ⟨.ledger, 0x48, 0, 14, .const 0⟩
/-- As SYNCMGR.MEM_TOTAL.CAP (R533, Table 20.6). -/
def LEDGER.MEM_CAP : Field := ⟨.ledger, 0x48, 16, 15, .const 0⟩
/-- Shares charged, 0 to 144 (R533, Table 20.6). -/
def LEDGER.ENGINES_SHARES : Field := ⟨.ledger, 0x4C, 0, 8, .const 0⟩
/-- Assignable engines with 4 free shares (R533, Table 20.6). -/
def LEDGER.ENGINES_FREE : Field := ⟨.ledger, 0x4C, 8, 6, .const 0⟩
/-- Spares free for a hard fault, 0 to 4 (R533, Table 20.6). -/
def LEDGER.ENGINES_SPARES : Field := ⟨.ledger, 0x4C, 16, 3, .const 0⟩
/-- Contexts allocated (R533, Table 20.6). -/
def LEDGER.FLOW_CONTEXTS : Field := ⟨.ledger, 0x50, 0, 19, .const 0⟩
/-- Source and destination channels charged (R533, Table 20.6). -/
def LEDGER.AUDIO_CH_AS : Field := ⟨.ledger, 0x54, 0, 16, .const 0⟩
/-- Source and destination channels charged (R533, Table 20.6). -/
def LEDGER.AUDIO_CH_AD : Field := ⟨.ledger, 0x54, 16, 16, .const 0⟩
/-- Converters allocated, 0 to 256 (R533, Table 20.6). -/
def LEDGER.AUDIO_PROC_SRUS : Field := ⟨.ledger, 0x58, 0, 9, .const 0⟩
/-- Long-delay channels, 0 to 4,096 (R533, Table 20.6). -/
def LEDGER.AUDIO_PROC_POOL : Field := ⟨.ledger, 0x58, 16, 13, .const 0⟩
/-- Mix-bus pool inputs assigned, 0 to 8,192 (R533, Table 20.6). -/
def LEDGER.MIX_INPUTS : Field := ⟨.ledger, 0x5C, 0, 14, .const 0⟩
/-- Largest link charge, 0.1 Gbit/s; per link in MESH[n].LOAD (R533, Table 20.6). -/
def LEDGER.LINKS_MAX : Field := ⟨.ledger, 0x60, 0, 13, .const 0⟩
/-- A supervisor decides requests (R533, Table 20.6). -/
def LEDGER.STAT_SERVING : Field := ⟨.ledger, 0x64, 0, 1, .const 0⟩
/-- Under R412 (R533, Table 20.6). -/
def LEDGER.STAT_REBUILDING : Field := ⟨.ledger, 0x64, 1, 1, .const 0⟩
/-- Under R43 (R533, Table 20.6). -/
def LEDGER.STAT_PRESSURE : Field := ⟨.ledger, 0x64, 2, 1, .const 0⟩
/-- Under R215 (R533, Table 20.6). -/
def LEDGER.STAT_RESERVE_SPENT : Field := ⟨.ledger, 0x64, 3, 1, .const 0⟩
/-- Code of the last refusal (R533, Table 20.6). -/
def LEDGER.LAST_REF_CODE : Field := ⟨.ledger, 0x68, 0, 8, .const 0⟩
/-- Index of the failing take or request, 0 to 4,095 (R533, Table 20.6). -/
def LEDGER.LAST_REF_INDEX : Field := ⟨.ledger, 0x68, 8, 12, .const 0⟩
/-- Member of the failing part; this member's SELF_ID for a request decided here alone, and 0 outside a formation (R533, Table 20.6). -/
def LEDGER.LAST_REF_MEMBER : Field := ⟨.ledger, 0x68, 20, 3, .const 0⟩
/-- Master ID of Table 19.2 to which the request is attributed under R533; 7 for a request that the device makes of its own (R533, Table 20.6). -/
def LEDGER.LAST_REF_MASTER : Field := ⟨.ledger, 0x68, 23, 3, .const 0⟩
/-- PAGE_ID of the page through which the request came (R533, Table 20.6). -/
def LEDGER.LAST_REF_PAGE_PAGE_ID : Field := ⟨.ledger, 0x6C, 0, 32, .const 0⟩
/-- Uptime of the refusal; [31:0], then [47:32] at [15:0]; a read of LO latches HI (R533, Table 20.6). -/
def LEDGER.LAST_REF_STAMP_LO_STAMP : Field := ⟨.ledger, 0x70, 0, 32, .const 0⟩
/-- Uptime of the refusal; [31:0], then [47:32] at [15:0]; a read of LO latches HI (R533, Table 20.6). -/
def LEDGER.LAST_REF_STAMP_HI_STAMP : Field := ⟨.ledger, 0x74, 0, 16, .const 0⟩
/-- Header counter; saturating (R533). -/
def LEDGER.CNT_ADMITTED : Field := ⟨.ledger, 0x28, 0, 32, .const 0⟩
/-- Header counter; saturating (R533). -/
def LEDGER.CNT_REFUSED : Field := ⟨.ledger, 0x2C, 0, 32, .const 0⟩
/-- Header counter; saturating (R533). -/
def LEDGER.CNT_REBUILDS : Field := ⟨.ledger, 0x30, 0, 32, .const 0⟩
/-- EVT_STAT [0]: A request refused (R533, Table 20.6). -/
abbrev LEDGER.EV_REFUSAL : Nat := 0
/-- EVT_STAT [1]: Ledger pressure under R43 began or ended (R533, Table 20.6). -/
abbrev LEDGER.EV_PRESSURE_ON : Nat := 1
/-- EVT_STAT [2]: Ledger pressure under R43 began or ended (R533, Table 20.6). -/
abbrev LEDGER.EV_PRESSURE_OFF : Nat := 2
/-- EVT_STAT [3]: Rebuild under R412 ended (R533, Table 20.6). -/
abbrev LEDGER.EV_REBUILT : Nat := 3
/-- Fields of the LEDGER page, part 0. -/
def LEDGER.layout0 : List LayoutRow := [
  ⟨LEDGER.FAB_L0_L0, 0, 1, .ro, 0, 262143⟩,
  ⟨LEDGER.FAB_AB_LA, 0, 1, .ro, 0, 262143⟩,
  ⟨LEDGER.FAB_AB_LB, 0, 1, .ro, 0, 262143⟩,
  ⟨LEDGER.MEM_BW, 0, 1, .ro, 0, 262143⟩,
  ⟨LEDGER.MEM_CAP, 0, 1, .ro, 0, 262143⟩,
  ⟨LEDGER.ENGINES_SHARES, 0, 1, .ro, 0, 262143⟩,
  ⟨LEDGER.ENGINES_FREE, 0, 1, .ro, 0, 262143⟩,
  ⟨LEDGER.ENGINES_SPARES, 0, 1, .ro, 0, 262143⟩,
  ⟨LEDGER.FLOW_CONTEXTS, 0, 1, .ro, 0, 262143⟩,
  ⟨LEDGER.AUDIO_CH_AS, 0, 1, .ro, 0, 262143⟩,
  ⟨LEDGER.AUDIO_CH_AD, 0, 1, .ro, 0, 262143⟩,
  ⟨LEDGER.AUDIO_PROC_SRUS, 0, 1, .ro, 0, 262143⟩,
  ⟨LEDGER.AUDIO_PROC_POOL, 0, 1, .ro, 0, 262143⟩,
  ⟨LEDGER.MIX_INPUTS, 0, 1, .ro, 0, 262143⟩,
  ⟨LEDGER.LINKS_MAX, 0, 1, .ro, 0, 262143⟩,
  ⟨LEDGER.STAT_SERVING, 0, 1, .ro, 0, 262143⟩,
  ⟨LEDGER.STAT_REBUILDING, 0, 1, .ro, 0, 262143⟩,
  ⟨LEDGER.STAT_PRESSURE, 0, 1, .ro, 0, 262143⟩,
  ⟨LEDGER.STAT_RESERVE_SPENT, 0, 1, .ro, 0, 262143⟩,
  ⟨LEDGER.LAST_REF_CODE, 0, 1, .ro, 0, 262143⟩]
/-- Fields of the LEDGER page, part 1. -/
def LEDGER.layout1 : List LayoutRow := [
  ⟨LEDGER.LAST_REF_INDEX, 0, 1, .ro, 0, 262143⟩,
  ⟨LEDGER.LAST_REF_MEMBER, 0, 1, .ro, 0, 262143⟩,
  ⟨LEDGER.LAST_REF_MASTER, 0, 1, .ro, 0, 262143⟩,
  ⟨LEDGER.LAST_REF_PAGE_PAGE_ID, 0, 1, .ro, 0, 262143⟩,
  ⟨LEDGER.LAST_REF_STAMP_LO_STAMP, 0, 1, .ro, 0, 262143⟩,
  ⟨LEDGER.LAST_REF_STAMP_HI_STAMP, 0, 1, .ro, 0, 262143⟩,
  ⟨LEDGER.CNT_ADMITTED, 0, 1, .ro, 0, 262143⟩,
  ⟨LEDGER.CNT_REFUSED, 0, 1, .ro, 0, 262143⟩,
  ⟨LEDGER.CNT_REBUILDS, 0, 1, .ro, 0, 262143⟩]
/-- The fields of the LEDGER page with their access codes. -/
def LEDGER.layout : List LayoutRow := LEDGER.layout0 ++ LEDGER.layout1

/-- Destination slot (R535, Table 20.7). -/
def ROUTE.TAKE_DST_SLOT : Field := ⟨.route, 0x40, 0, 9, .const 0⟩
/-- W0 layout of Table 5.6; reset: AFV set, FTB_FRAMES 1, AXFADE 5 ms, VALID clear (R535, Table 20.7). -/
def ROUTE.TAKE_ENTRY_W0 : Field := ⟨.route, 0x44, 0, 32, .const 0xa088000⟩
/-- Submit the take; reads 0 (R535, Table 20.7). -/
def ROUTE.TAKE_CTL_GO : Field := ⟨.route, 0x48, 0, 1, .const 0⟩
/-- 1: GO holds the take under R167 (R535, Table 20.7). -/
def ROUTE.TAKE_CTL_BATCH : Field := ⟨.route, 0x48, 1, 1, .const 0⟩
/-- Member of the destination, under R377 (R535, Table 20.7). -/
def ROUTE.TAKE_CTL_DMEMBER : Field := ⟨.route, 0x48, 4, 3, .const 0⟩
/-- 0: the destination is on this member (R535, Table 20.7). -/
def ROUTE.TAKE_CTL_DM_VALID : Field := ⟨.route, 0x48, 7, 1, .const 0⟩
/-- Commit the held takes; reads 0 (R535, Table 20.7). -/
def ROUTE.SALVO_CTL_GO : Field := ⟨.route, 0x4C, 0, 1, .const 0⟩
/-- Discard the held takes; reads 0 (R535, Table 20.7). -/
def ROUTE.SALVO_CTL_ABORT : Field := ⟨.route, 0x4C, 1, 1, .const 0⟩
/-- 1: commit at SALVO_AT under R173 (R535, Table 20.7). -/
def ROUTE.SALVO_CTL_TIMED : Field := ⟨.route, 0x4C, 2, 1, .const 0⟩
/-- Takes held, 0 to 512 (R535, Table 20.7). -/
def ROUTE.SALVO_CTL_HELD : Field := ⟨.route, 0x4C, 16, 10, .const 0⟩
/-- Commit instant, system seconds [31:0] (R535, Table 20.7). -/
def ROUTE.SALVO_AT_S_SECONDS : Field := ⟨.route, 0x50, 0, 32, .const 0⟩
/-- Commit instant, nanoseconds (R535, Table 20.7). -/
def ROUTE.SALVO_AT_NS_NS : Field := ⟨.route, 0x54, 0, 30, .const 0⟩
/-- Ledger code (R535, Table 20.7). -/
def ROUTE.RESP_CODE : Field := ⟨.route, 0x58, 0, 8, .const 0⟩
/-- Index of the first failing take, 0 to 511; 512 for a 513th held take under R171; 0 for a salvo-wide failure under R45 (R535, Table 20.7). -/
def ROUTE.RESP_INDEX : Field := ⟨.route, 0x58, 8, 10, .const 0⟩
/-- Decided; being decided, GO ignored (R535, Table 20.7). -/
def ROUTE.RESP_DONE : Field := ⟨.route, 0x58, 24, 1, .const 0⟩
/-- Decided; being decided, GO ignored (R535, Table 20.7). -/
def ROUTE.RESP_BUSY : Field := ⟨.route, 0x58, 25, 1, .const 0⟩
/-- Timed salvo admitted, its commit instant not yet reached (R535, Table 20.7). -/
def ROUTE.RESP_WAITING : Field := ⟨.route, 0x58, 26, 1, .const 0⟩
/-- GPIO pin, 0 to 31 (R535, Table 20.7). -/
def ROUTE.SALVO_TRIG_GPIO : Field := ⟨.route, 0x5C, 0, 5, .const 0⟩
/-- 1: an edge commits under R536 (R535, Table 20.7). -/
def ROUTE.SALVO_TRIG_EN : Field := ⟨.route, 0x5C, 8, 1, .const 0⟩
/-- Destination of the latest ROUTE event (R535, Table 20.7). -/
def ROUTE.EVT_DST_SLOT : Field := ⟨.route, 0x60, 0, 9, .const 0⟩
/-- Header counter; saturating (R535). -/
def ROUTE.CNT_TAKES : Field := ⟨.route, 0x28, 0, 32, .const 0⟩
/-- Header counter; saturating (R535). -/
def ROUTE.CNT_SALVOS : Field := ⟨.route, 0x2C, 0, 32, .const 0⟩
/-- Header counter; saturating (R535). -/
def ROUTE.CNT_REFUSALS : Field := ⟨.route, 0x30, 0, 32, .const 0⟩
/-- Header counter; saturating (R535). -/
def ROUTE.CNT_KIND_CHANGES : Field := ⟨.route, 0x34, 0, 32, .const 0⟩
/-- EVT_STAT [0]: Under R161 (R535, Table 20.7). -/
abbrev ROUTE.EV_KIND_CHG : Nat := 0
/-- EVT_STAT [1]: Under R162 (R535, Table 20.7). -/
abbrev ROUTE.EV_LOCK_LOST : Nat := 1
/-- EVT_STAT [2]: Under R164 (R535, Table 20.7). -/
abbrev ROUTE.EV_SYNC_DENIED : Nat := 2
/-- EVT_STAT [3]: Under R183 (R535, Table 20.7). -/
abbrev ROUTE.EV_SRC_FMT : Nat := 3
/-- EVT_STAT [4]: A take acted at its tSW (R535, Table 20.7). -/
abbrev ROUTE.EV_TAKE_ACTED : Nat := 4
/-- EVT_STAT [5]: A SALVO_CTL.GO, written or made by a GPIO edge, met an empty buffer; under R536 (R535, Table 20.7). -/
abbrev ROUTE.EV_TRIG_EMPTY : Nat := 5
/-- EVT_STAT [6]: Under R536 (R535, Table 20.7). -/
abbrev ROUTE.EV_TRIG_IGNORED : Nat := 6
/-- Fields of the ROUTE page, part 0. -/
def ROUTE.layout0 : List LayoutRow := [
  ⟨ROUTE.TAKE_DST_SLOT, 0, 1, .rw, 0, 262143⟩,
  ⟨ROUTE.TAKE_ENTRY_W0, 0, 1, .rw, 0, 262143⟩,
  ⟨ROUTE.TAKE_CTL_GO, 0, 1, .w1s, 0, 262143⟩,
  ⟨ROUTE.TAKE_CTL_BATCH, 0, 1, .rw, 0, 262143⟩,
  ⟨ROUTE.TAKE_CTL_DMEMBER, 0, 1, .rw, 0, 262143⟩,
  ⟨ROUTE.TAKE_CTL_DM_VALID, 0, 1, .rw, 0, 262143⟩,
  ⟨ROUTE.SALVO_CTL_GO, 0, 1, .w1s, 0, 262143⟩,
  ⟨ROUTE.SALVO_CTL_ABORT, 0, 1, .w1s, 0, 262143⟩,
  ⟨ROUTE.SALVO_CTL_TIMED, 0, 1, .rw, 0, 262143⟩,
  ⟨ROUTE.SALVO_CTL_HELD, 0, 1, .ro, 0, 262143⟩,
  ⟨ROUTE.SALVO_AT_S_SECONDS, 0, 1, .rw, 0, 262143⟩,
  ⟨ROUTE.SALVO_AT_NS_NS, 0, 1, .rw, 0, 262143⟩,
  ⟨ROUTE.RESP_CODE, 0, 1, .ro, 0, 262143⟩,
  ⟨ROUTE.RESP_INDEX, 0, 1, .ro, 0, 262143⟩,
  ⟨ROUTE.RESP_DONE, 0, 1, .ro, 0, 262143⟩,
  ⟨ROUTE.RESP_BUSY, 0, 1, .ro, 0, 262143⟩,
  ⟨ROUTE.RESP_WAITING, 0, 1, .ro, 0, 262143⟩,
  ⟨ROUTE.SALVO_TRIG_GPIO, 0, 1, .rw, 0, 262143⟩,
  ⟨ROUTE.SALVO_TRIG_EN, 0, 1, .rw, 0, 262143⟩,
  ⟨ROUTE.EVT_DST_SLOT, 0, 1, .ro, 0, 262143⟩]
/-- Fields of the ROUTE page, part 1. -/
def ROUTE.layout1 : List LayoutRow := [
  ⟨ROUTE.CNT_TAKES, 0, 1, .ro, 0, 262143⟩,
  ⟨ROUTE.CNT_SALVOS, 0, 1, .ro, 0, 262143⟩,
  ⟨ROUTE.CNT_REFUSALS, 0, 1, .ro, 0, 262143⟩,
  ⟨ROUTE.CNT_KIND_CHANGES, 0, 1, .ro, 0, 262143⟩]
/-- The fields of the ROUTE page with their access codes. -/
def ROUTE.layout : List LayoutRow := ROUTE.layout0 ++ ROUTE.layout1

/-- Bit k: GPIOk drives (R569, Table 22.10). -/
def GPIO.DIR_OUT_EN : Field := ⟨.gpio, 0x40, 0, 32, .const 0⟩
/-- Level driven (R569, Table 22.10). -/
def GPIO.OUT_LEVEL : Field := ⟨.gpio, 0x44, 0, 32, .const 0⟩
/-- Level at the pin, within 1 us (R569, Table 22.10). -/
def GPIO.IN_LEVEL : Field := ⟨.gpio, 0x48, 0, 32, .const 0⟩
/-- 1: drive low only (R569, Table 22.10). -/
def GPIO.OD_OPEN_DRAIN : Field := ⟨.gpio, 0x4C, 0, 32, .const 0⟩
/-- Edges latched in EVENT.GPIO_LATCH (R569, Table 22.10). -/
def GPIO.EDGE_RISE_EDGE : Field := ⟨.gpio, 0x50, 0, 32, .const 0⟩
/-- Edges latched in EVENT.GPIO_LATCH (R569, Table 22.10). -/
def GPIO.EDGE_FALL_EDGE : Field := ⟨.gpio, 0x54, 0, 32, .const 0⟩
/-- Master enabled (R569, Table 22.10). -/
def GPIO.I2C_CFG_EN : Field := ⟨.gpio, 0x80, 0, 1, .const 0⟩
/-- 0 100 kHz, 1 400 kHz, 2 1 MHz; 3 is treated as 0 (R569, Table 22.10). -/
def GPIO.I2C_CFG_SPEED : Field := ⟨.gpio, 0x80, 1, 2, .const 0⟩
/-- Poll under R570 (R569, Table 22.10). -/
def GPIO.I2C_CFG_POLL_EN : Field := ⟨.gpio, 0x80, 3, 1, .const 0⟩
/-- 7-bit address polled (R569, Table 22.10). -/
def GPIO.I2C_CFG_POLL_ADDR : Field := ⟨.gpio, 0x80, 8, 7, .const 0x50⟩
/-- Register polled (R569, Table 22.10). -/
def GPIO.I2C_CFG_POLL_REG : Field := ⟨.gpio, 0x80, 16, 8, .const 0⟩
/-- ms, 1 to 255; 0 is treated as 1 (R569, Table 22.10). -/
def GPIO.I2C_CFG_POLL_PERIOD : Field := ⟨.gpio, 0x80, 24, 8, .const 0x64⟩
/-- One-byte transfer (R569, Table 22.10). -/
def GPIO.I2C_XFER_ADDR : Field := ⟨.gpio, 0x84, 0, 7, .const 0⟩
/-- One-byte transfer (R569, Table 22.10). -/
def GPIO.I2C_XFER_REG : Field := ⟨.gpio, 0x84, 8, 8, .const 0⟩
/-- One-byte transfer (R569, Table 22.10). -/
def GPIO.I2C_XFER_DATA : Field := ⟨.gpio, 0x84, 16, 8, .const 0⟩
/-- 1 write, 0 read (R569, Table 22.10). -/
def GPIO.I2C_XFER_WRITE : Field := ⟨.gpio, 0x84, 24, 1, .const 0⟩
/-- Start; reads 0 (R569, Table 22.10). -/
def GPIO.I2C_XFER_GO : Field := ⟨.gpio, 0x84, 31, 1, .const 0⟩
/-- Byte read last (R569, Table 22.10). -/
def GPIO.I2C_STAT_DATA : Field := ⟨.gpio, 0x88, 0, 8, .const 0⟩
/-- Byte polled last (R569, Table 22.10). -/
def GPIO.I2C_STAT_POLL_VAL : Field := ⟨.gpio, 0x88, 8, 8, .const 0⟩
/-- Transfer outcome; GO ignored while BUSY (R569, Table 22.10). -/
def GPIO.I2C_STAT_DONE : Field := ⟨.gpio, 0x88, 16, 1, .const 0⟩
/-- Transfer outcome; GO ignored while BUSY (R569, Table 22.10). -/
def GPIO.I2C_STAT_NACK : Field := ⟨.gpio, 0x88, 17, 1, .const 0⟩
/-- Transfer outcome; GO ignored while BUSY (R569, Table 22.10). -/
def GPIO.I2C_STAT_TIMEOUT : Field := ⟨.gpio, 0x88, 18, 1, .const 0⟩
/-- Transfer outcome; GO ignored while BUSY (R569, Table 22.10). -/
def GPIO.I2C_STAT_BUSY : Field := ⟨.gpio, 0x88, 19, 1, .const 0⟩
/-- EVT_STAT [7:0]: Per master: the polled byte changed (R569, Table 22.10). -/
abbrev GPIO.EV_I2C_CHG : Nat := 0
/-- EVT_STAT [15:8]: Per master: NACK, timeout, or SDA held low for 10 ms (R569, Table 22.10). -/
abbrev GPIO.EV_I2C_ERR : Nat := 8
/-- Fields of the GPIO page, part 0. -/
def GPIO.layout0 : List LayoutRow := [
  ⟨GPIO.DIR_OUT_EN, 0, 1, .rws, 0, 262143⟩,
  ⟨GPIO.OUT_LEVEL, 0, 1, .rw, 0, 262143⟩,
  ⟨GPIO.IN_LEVEL, 0, 1, .ro, 0, 262143⟩,
  ⟨GPIO.OD_OPEN_DRAIN, 0, 1, .rws, 0, 262143⟩,
  ⟨GPIO.EDGE_RISE_EDGE, 0, 1, .rws, 0, 262143⟩,
  ⟨GPIO.EDGE_FALL_EDGE, 0, 1, .rws, 0, 262143⟩,
  ⟨GPIO.I2C_CFG_EN, 16, 8, .rws, 0, 262143⟩,
  ⟨GPIO.I2C_CFG_SPEED, 16, 8, .rws, 0, 262143⟩,
  ⟨GPIO.I2C_CFG_POLL_EN, 16, 8, .rws, 0, 262143⟩,
  ⟨GPIO.I2C_CFG_POLL_ADDR, 16, 8, .rws, 0, 262143⟩,
  ⟨GPIO.I2C_CFG_POLL_REG, 16, 8, .rws, 0, 262143⟩,
  ⟨GPIO.I2C_CFG_POLL_PERIOD, 16, 8, .rws, 0, 262143⟩,
  ⟨GPIO.I2C_XFER_ADDR, 16, 8, .rw, 0, 262143⟩,
  ⟨GPIO.I2C_XFER_REG, 16, 8, .rw, 0, 262143⟩,
  ⟨GPIO.I2C_XFER_DATA, 16, 8, .rw, 0, 262143⟩,
  ⟨GPIO.I2C_XFER_WRITE, 16, 8, .rw, 0, 262143⟩,
  ⟨GPIO.I2C_XFER_GO, 16, 8, .w1s, 0, 262143⟩,
  ⟨GPIO.I2C_STAT_DATA, 16, 8, .ro, 0, 262143⟩,
  ⟨GPIO.I2C_STAT_POLL_VAL, 16, 8, .ro, 0, 262143⟩,
  ⟨GPIO.I2C_STAT_DONE, 16, 8, .ro, 0, 262143⟩]
/-- Fields of the GPIO page, part 1. -/
def GPIO.layout1 : List LayoutRow := [
  ⟨GPIO.I2C_STAT_NACK, 16, 8, .ro, 0, 262143⟩,
  ⟨GPIO.I2C_STAT_TIMEOUT, 16, 8, .ro, 0, 262143⟩,
  ⟨GPIO.I2C_STAT_BUSY, 16, 8, .ro, 0, 262143⟩]
/-- The fields of the GPIO page with their access codes. -/
def GPIO.layout : List LayoutRow := GPIO.layout0 ++ GPIO.layout1

end Sys2Proof.Machine
end

