-- ==== Sys2Proof/Machine/FieldsMedia.lean ====
section
/-! DEFINITION. The storage layout of the register fields of the flow, audio, reference, synthesiser and formation pages, as the tables of the spec give them: one definition per field,
the event bits of each page, and for each page the list of its fields with access codes. -/
namespace Sys2Proof.Machine

/-- Under R332 (R342, Table 11.7). -/
def REFMGR.RM_CFG_REVERT : Field := ⟨.refmgr, 0x40, 0, 1, .const 1⟩
/-- Under R332 (R342, Table 11.7). -/
def REFMGR.RM_CFG_MANUAL : Field := ⟨.refmgr, 0x40, 1, 1, .const 0⟩
/-- Slot selected with MANUAL (R342, Table 11.7). -/
def REFMGR.RM_CFG_FORCE_SLOT : Field := ⟨.refmgr, 0x40, 4, 4, .const 0⟩
/-- Seconds, 0 to 10; larger values read 10 (R342, Table 11.7). -/
def REFMGR.RM_CFG_HOLDOFF : Field := ⟨.refmgr, 0x40, 8, 4, .const 1⟩
/-- Table 11.3 (R342, Table 11.7). -/
def REFMGR.RM_CFG_XO_CLASS : Field := ⟨.refmgr, 0x40, 12, 2, .const 0⟩
/-- 0.01 ppm steps, 1 to 1,000 (R342, Table 11.7). -/
def REFMGR.RM_CFG_DISPUTE_THR : Field := ⟨.refmgr, 0x40, 16, 14, .const 0x64⟩
/-- mHz, 1 to 1,000,000 (R342, Table 11.7). -/
def REFMGR.LOOP_CFG_BW_TRACK : Field := ⟨.refmgr, 0x44, 0, 20, .const 0x64⟩
/-- Seconds, 1 to 255; 0 is treated as 1 (R342, Table 11.7). -/
def REFMGR.LOOP_CFG_HOLD_AVG : Field := ⟨.refmgr, 0x44, 24, 8, .const 0xa⟩
/-- 0 FREE_RUN, 1 ACQUIRE, 2 LOCKED, 3 HOLDOVER, 4 DISPUTE, 5 PREPARE (R342, Table 11.7). -/
def REFMGR.RM_STAT_STATE : Field := ⟨.refmgr, 0x48, 0, 3, .const 0⟩
/-- Slot ACTIVE (R342, Table 11.7). -/
def REFMGR.RM_STAT_ACTIVE : Field := ⟨.refmgr, 0x48, 4, 4, .const 0⟩
/-- A slot is ACTIVE (R342, Table 11.7). -/
def REFMGR.RM_STAT_ACTIVE_VALID : Field := ⟨.refmgr, 0x48, 8, 1, .const 0⟩
/-- Slot in PREPARE (R342, Table 11.7). -/
def REFMGR.RM_STAT_PENDING : Field := ⟨.refmgr, 0x48, 12, 4, .const 0⟩
/-- A switch is in PREPARE (R342, Table 11.7). -/
def REFMGR.RM_STAT_PENDING_VALID : Field := ⟨.refmgr, 0x48, 16, 1, .const 0⟩
/-- Loop bandwidth in use, mHz (R342, Table 11.7). -/
def REFMGR.BW_NOW_BW : Field := ⟨.refmgr, 0x4C, 0, 20, .const 0⟩
/-- System time seconds [31:0] (R342, Table 11.7). -/
def REFMGR.SYSTIME_S_LO_SECONDS : Field := ⟨.refmgr, 0x50, 0, 32, .const 0⟩
/-- System time seconds [47:32] (R342, Table 11.7). -/
def REFMGR.SYSTIME_S_HI_SECONDS : Field := ⟨.refmgr, 0x54, 0, 16, .const 0⟩
/-- Nanoseconds (R342, Table 11.7). -/
def REFMGR.SYSTIME_NS_NS : Field := ⟨.refmgr, 0x58, 0, 30, .const 0⟩
/-- Sub-second part of Delta, two's complement (R342, Table 11.7). -/
def REFMGR.LAST_STEP_NS_NS : Field := ⟨.refmgr, 0x5C, 0, 32, .const 0⟩
/-- Whole seconds of Delta, two's complement (R342, Table 11.7). -/
def REFMGR.LAST_STEP_S_SECONDS : Field := ⟨.refmgr, 0x60, 0, 32, .const 0⟩
/-- Seconds in HOLDOVER; saturating (R342, Table 11.7). -/
def REFMGR.HOLD_STAT_AGE : Field := ⟨.refmgr, 0x64, 0, 16, .const 0⟩
/-- Predicted phase error bound, 10 ns steps; saturating (R342, Table 11.7). -/
def REFMGR.HOLD_STAT_ERR : Field := ⟨.refmgr, 0x64, 16, 16, .const 0⟩
/-- Seconds, TAI minus UTC (R342, Table 11.7). -/
def REFMGR.UTC_CFG_UTC_OFFSET : Field := ⟨.refmgr, 0x68, 0, 16, .const 0x25⟩
/-- Under R328 (R342, Table 11.7). -/
def REFMGR.UTC_CFG_USE_PTP : Field := ⟨.refmgr, 0x68, 16, 1, .const 1⟩
/-- Slot of the latest event (R342, Table 11.7). -/
def REFMGR.EVT_SLOT_SLOT : Field := ⟨.refmgr, 0x6C, 0, 4, .const 0⟩
/-- 0.01 ppm steps, 10 to 5,000 (R342, Table 11.7). -/
def REFMGR.TOL_CFG_FREQ_TOL : Field := ⟨.refmgr, 0x70, 0, 16, .const 0x1f4⟩
/-- Table 11.1; 0 none (R342, Table 11.7). -/
def REFMGR.RC_CFG_KIND : Field := ⟨.refmgr, 0x100, 0, 4, .const 0⟩
/-- 0 preferred, 15 least (R342, Table 11.7). -/
def REFMGR.RC_CFG_RANK : Field := ⟨.refmgr, 0x100, 4, 4, .const 0⟩
/-- Slot enabled (R342, Table 11.7). -/
def REFMGR.RC_CFG_EN : Field := ⟨.refmgr, 0x100, 8, 1, .const 0⟩
/-- PTP instance 0 to 3, VI 0 to 95, or member 0 to 7 (R342, Table 11.7). -/
def REFMGR.RC_CFG_SOURCE : Field := ⟨.refmgr, 0x100, 16, 7, .const 0⟩
/-- 0.1 s steps, 2 to 255 (R342, Table 11.7). -/
def REFMGR.RC_CFG_QUAL_TIME : Field := ⟨.refmgr, 0x100, 24, 8, .const 0x14⟩
/-- 0 DISABLED, 1 ABSENT, 2 QUALIFYING, 3 QUALIFIED, 4 ACTIVE, 5 REJECTED (R342, Table 11.7). -/
def REFMGR.RC_STAT_STATE : Field := ⟨.refmgr, 0x104, 0, 3, .const 0⟩
/-- Under R331 (R342, Table 11.7). -/
def REFMGR.RC_STAT_RETURN : Field := ⟨.refmgr, 0x104, 3, 1, .const 0⟩
/-- Carries time of day (R342, Table 11.7). -/
def REFMGR.RC_STAT_TIME : Field := ⟨.refmgr, 0x104, 4, 1, .const 0⟩
/-- RC_PHASE valid (R342, Table 11.7). -/
def REFMGR.RC_STAT_PHASE_VALID : Field := ⟨.refmgr, 0x104, 5, 1, .const 0⟩
/-- Against the calibrated oscillator, 0.001 ppm, two's complement (R342, Table 11.7). -/
def REFMGR.RC_FREQ_OFFSET : Field := ⟨.refmgr, 0x108, 0, 24, .const 0⟩
/-- Frequency measured (R342, Table 11.7). -/
def REFMGR.RC_FREQ_VALID : Field := ⟨.refmgr, 0x108, 31, 1, .const 0⟩
/-- Phase against system time, reduced under R335; two's complement; saturating (R342, Table 11.7). -/
def REFMGR.RC_PHASE_NS : Field := ⟨.refmgr, 0x10C, 0, 32, .const 0⟩
/-- As Table 3.8; REFA, REFB and SDI (R342, Table 11.7). -/
def REFMGR.RC_DETECT_RASTER : Field := ⟨.refmgr, 0x110, 0, 3, .const 0⟩
/-- As Table 3.8 (R342, Table 11.7). -/
def REFMGR.RC_DETECT_RATE : Field := ⟨.refmgr, 0x110, 4, 3, .const 0⟩
/-- 1: tri-level sync (R342, Table 11.7). -/
def REFMGR.RC_DETECT_TRILEVEL : Field := ⟨.refmgr, 0x110, 8, 1, .const 0⟩
/-- ST 318 ten-field identification present (R342, Table 11.7). -/
def REFMGR.RC_DETECT_TENFIELD : Field := ⟨.refmgr, 0x110, 9, 1, .const 0⟩
/-- Sync amplitude, mV (R342, Table 11.7). -/
def REFMGR.RC_DETECT_AMPL : Field := ⟨.refmgr, 0x110, 20, 12, .const 0⟩
/-- Ethernet port 4q + n (R343, Table 11.8). -/
def REFMGR.PTP_CFG_PORT : Field := ⟨.refmgr, 0x400, 0, 7, .const 0⟩
/-- domainNumber (R343, Table 11.8). -/
def REFMGR.PTP_CFG_DOMAIN : Field := ⟨.refmgr, 0x400, 8, 8, .const 0x7f⟩
/-- 1: UDP over IPv6 (R343, Table 11.8). -/
def REFMGR.PTP_CFG_IPV6 : Field := ⟨.refmgr, 0x400, 16, 1, .const 0⟩
/-- 1: Delay_Req by unicast (R343, Table 11.8). -/
def REFMGR.PTP_CFG_DREQ_UNICAST : Field := ⟨.refmgr, 0x400, 17, 1, .const 0⟩
/-- announceReceiptTimeout, 2 to 10 (R343, Table 11.8). -/
def REFMGR.PTP_CFG_ANN_TIMEOUT : Field := ⟨.refmgr, 0x400, 24, 4, .const 3⟩
/-- Highest clockClass accepted (R343, Table 11.8). -/
def REFMGR.PTP_CFG2_CLASS_MAX : Field := ⟨.refmgr, 0x404, 0, 8, .const 0xf8⟩
/-- DSCP of Delay_Req (R343, Table 11.8). -/
def REFMGR.PTP_CFG2_DSCP : Field := ⟨.refmgr, 0x404, 8, 6, .const 0x2e⟩
/-- VLAN identifier (R343, Table 11.8). -/
def REFMGR.PTP_CFG2_VLAN : Field := ⟨.refmgr, 0x404, 16, 12, .const 0⟩
/-- 1: tagged (R343, Table 11.8). -/
def REFMGR.PTP_CFG2_VLAN_EN : Field := ⟨.refmgr, 0x404, 28, 1, .const 0⟩
/-- Grandmaster clockIdentity, low word first (R343, Table 11.8). -/
def REFMGR.GM_ID_LO_ID : Field := ⟨.refmgr, 0x408, 0, 32, .const 0⟩
/-- Grandmaster clockIdentity, low word first (R343, Table 11.8). -/
def REFMGR.GM_ID_HI_ID : Field := ⟨.refmgr, 0x40C, 0, 32, .const 0⟩
/-- Grandmaster clockClass (R343, Table 11.8). -/
def REFMGR.PTP_STAT_GM_CLASS : Field := ⟨.refmgr, 0x410, 0, 8, .const 0xff⟩
/-- stepsRemoved (R343, Table 11.8). -/
def REFMGR.PTP_STAT_STEPS : Field := ⟨.refmgr, 0x410, 8, 8, .const 0⟩
/-- Servo in SLAVE state (R343, Table 11.8). -/
def REFMGR.PTP_STAT_SLAVE : Field := ⟨.refmgr, 0x410, 16, 1, .const 0⟩
/-- Master is two-step (R343, Table 11.8). -/
def REFMGR.PTP_STAT_TWO_STEP : Field := ⟨.refmgr, 0x410, 17, 1, .const 0⟩
/-- Synchronization metadata TLV received (R343, Table 11.8). -/
def REFMGR.PTP_STAT_SM_TLV : Field := ⟨.refmgr, 0x410, 18, 1, .const 0⟩
/-- offsetFromMaster, two's complement (R343, Table 11.8). -/
def REFMGR.OFFSET_NS : Field := ⟨.refmgr, 0x414, 0, 32, .const 0⟩
/-- meanPathDelay (R343, Table 11.8). -/
def REFMGR.MPD_NS : Field := ⟨.refmgr, 0x418, 0, 32, .const 0⟩
/-- currentUtcOffset (R343, Table 11.8). -/
def REFMGR.UTC_STAT_OFFSET : Field := ⟨.refmgr, 0x41C, 0, 16, .const 0⟩
/-- Announce flags (R343, Table 11.8). -/
def REFMGR.UTC_STAT_VALID : Field := ⟨.refmgr, 0x41C, 16, 1, .const 0⟩
/-- Announce flags (R343, Table 11.8). -/
def REFMGR.UTC_STAT_LEAP61 : Field := ⟨.refmgr, 0x41C, 17, 1, .const 0⟩
/-- Announce flags (R343, Table 11.8). -/
def REFMGR.UTC_STAT_LEAP59 : Field := ⟨.refmgr, 0x41C, 18, 1, .const 0⟩
/-- Messages received; saturating (R343, Table 11.8). -/
def REFMGR.ANN_RX_COUNT : Field := ⟨.refmgr, 0x420, 0, 32, .const 0⟩
/-- Messages received; saturating (R343, Table 11.8). -/
def REFMGR.SYNC_RX_COUNT : Field := ⟨.refmgr, 0x424, 0, 32, .const 0⟩
/-- Header counter; saturating (R342). -/
def REFMGR.CNT_SWITCHES : Field := ⟨.refmgr, 0x28, 0, 32, .const 0⟩
/-- Header counter; saturating (R342). -/
def REFMGR.CNT_HOLDOVERS : Field := ⟨.refmgr, 0x2C, 0, 32, .const 0⟩
/-- Header counter; saturating (R342). -/
def REFMGR.CNT_ABANDONS : Field := ⟨.refmgr, 0x30, 0, 32, .const 0⟩
/-- Header counter; saturating (R342). -/
def REFMGR.CNT_DISPUTES : Field := ⟨.refmgr, 0x34, 0, 32, .const 0⟩
/-- EVT_STAT [0]: tRS passed (R342, Table 11.7). -/
abbrev REFMGR.EV_SWITCH : Nat := 0
/-- EVT_STAT [1]: HOLDOVER entered (R342, Table 11.7). -/
abbrev REFMGR.EV_HOLDOVER : Nat := 1
/-- EVT_STAT [2]: A slot changed state (R342, Table 11.7). -/
abbrev REFMGR.EV_QUAL_CHG : Nat := 2
/-- EVT_STAT [3]: Under R338 or R339 (R342, Table 11.7). -/
abbrev REFMGR.EV_DISPUTE : Nat := 3
/-- EVT_STAT [4]: Under R337 (R342, Table 11.7). -/
abbrev REFMGR.EV_ABANDON : Nat := 4
/-- EVT_STAT [5]: Grandmaster identity changed (R342, Table 11.7). -/
abbrev REFMGR.EV_GM_CHG : Nat := 5
/-- EVT_STAT [6]: Under R324 (R342, Table 11.7). -/
abbrev REFMGR.EV_CFG_BLOCKED : Nat := 6
/-- EVT_STAT [7]: Leap second announced or applied (R342, Table 11.7). -/
abbrev REFMGR.EV_LEAP : Nat := 7
/-- Fields of the REFMGR page, part 0. -/
def REFMGR.layout0 : List LayoutRow := [
  ⟨REFMGR.RM_CFG_REVERT, 0, 1, .rw, 0, 262143⟩,
  ⟨REFMGR.RM_CFG_MANUAL, 0, 1, .rw, 0, 262143⟩,
  ⟨REFMGR.RM_CFG_FORCE_SLOT, 0, 1, .rw, 0, 262143⟩,
  ⟨REFMGR.RM_CFG_HOLDOFF, 0, 1, .rw, 0, 262143⟩,
  ⟨REFMGR.RM_CFG_XO_CLASS, 0, 1, .rw, 0, 262143⟩,
  ⟨REFMGR.RM_CFG_DISPUTE_THR, 0, 1, .rw, 0, 262143⟩,
  ⟨REFMGR.LOOP_CFG_BW_TRACK, 0, 1, .rw, 0, 262143⟩,
  ⟨REFMGR.LOOP_CFG_HOLD_AVG, 0, 1, .rw, 0, 262143⟩,
  ⟨REFMGR.RM_STAT_STATE, 0, 1, .ro, 0, 262143⟩,
  ⟨REFMGR.RM_STAT_ACTIVE, 0, 1, .ro, 0, 262143⟩,
  ⟨REFMGR.RM_STAT_ACTIVE_VALID, 0, 1, .ro, 0, 262143⟩,
  ⟨REFMGR.RM_STAT_PENDING, 0, 1, .ro, 0, 262143⟩,
  ⟨REFMGR.RM_STAT_PENDING_VALID, 0, 1, .ro, 0, 262143⟩,
  ⟨REFMGR.BW_NOW_BW, 0, 1, .ro, 0, 262143⟩,
  ⟨REFMGR.SYSTIME_S_LO_SECONDS, 0, 1, .ro, 0, 262143⟩,
  ⟨REFMGR.SYSTIME_S_HI_SECONDS, 0, 1, .ro, 0, 262143⟩,
  ⟨REFMGR.SYSTIME_NS_NS, 0, 1, .ro, 0, 262143⟩,
  ⟨REFMGR.LAST_STEP_NS_NS, 0, 1, .ro, 0, 262143⟩,
  ⟨REFMGR.LAST_STEP_S_SECONDS, 0, 1, .ro, 0, 262143⟩,
  ⟨REFMGR.HOLD_STAT_AGE, 0, 1, .ro, 0, 262143⟩]
/-- Fields of the REFMGR page, part 1. -/
def REFMGR.layout1 : List LayoutRow := [
  ⟨REFMGR.HOLD_STAT_ERR, 0, 1, .ro, 0, 262143⟩,
  ⟨REFMGR.UTC_CFG_UTC_OFFSET, 0, 1, .rw, 0, 262143⟩,
  ⟨REFMGR.UTC_CFG_USE_PTP, 0, 1, .rw, 0, 262143⟩,
  ⟨REFMGR.EVT_SLOT_SLOT, 0, 1, .ro, 0, 262143⟩,
  ⟨REFMGR.TOL_CFG_FREQ_TOL, 0, 1, .rw, 0, 262143⟩,
  ⟨REFMGR.RC_CFG_KIND, 32, 16, .rws, 0, 262143⟩,
  ⟨REFMGR.RC_CFG_RANK, 32, 16, .rws, 0, 262143⟩,
  ⟨REFMGR.RC_CFG_EN, 32, 16, .rws, 0, 262143⟩,
  ⟨REFMGR.RC_CFG_SOURCE, 32, 16, .rws, 0, 262143⟩,
  ⟨REFMGR.RC_CFG_QUAL_TIME, 32, 16, .rws, 0, 262143⟩,
  ⟨REFMGR.RC_STAT_STATE, 32, 16, .ro, 0, 262143⟩,
  ⟨REFMGR.RC_STAT_RETURN, 32, 16, .ro, 0, 262143⟩,
  ⟨REFMGR.RC_STAT_TIME, 32, 16, .ro, 0, 262143⟩,
  ⟨REFMGR.RC_STAT_PHASE_VALID, 32, 16, .ro, 0, 262143⟩,
  ⟨REFMGR.RC_FREQ_OFFSET, 32, 16, .ro, 0, 262143⟩,
  ⟨REFMGR.RC_FREQ_VALID, 32, 16, .ro, 0, 262143⟩,
  ⟨REFMGR.RC_PHASE_NS, 32, 16, .ro, 0, 262143⟩,
  ⟨REFMGR.RC_DETECT_RASTER, 32, 16, .ro, 0, 262143⟩,
  ⟨REFMGR.RC_DETECT_RATE, 32, 16, .ro, 0, 262143⟩,
  ⟨REFMGR.RC_DETECT_TRILEVEL, 32, 16, .ro, 0, 262143⟩]
/-- Fields of the REFMGR page, part 2. -/
def REFMGR.layout2 : List LayoutRow := [
  ⟨REFMGR.RC_DETECT_TENFIELD, 32, 16, .ro, 0, 262143⟩,
  ⟨REFMGR.RC_DETECT_AMPL, 32, 16, .ro, 0, 262143⟩,
  ⟨REFMGR.PTP_CFG_PORT, 64, 4, .rws, 0, 262143⟩,
  ⟨REFMGR.PTP_CFG_DOMAIN, 64, 4, .rws, 0, 262143⟩,
  ⟨REFMGR.PTP_CFG_IPV6, 64, 4, .rws, 0, 262143⟩,
  ⟨REFMGR.PTP_CFG_DREQ_UNICAST, 64, 4, .rws, 0, 262143⟩,
  ⟨REFMGR.PTP_CFG_ANN_TIMEOUT, 64, 4, .rws, 0, 262143⟩,
  ⟨REFMGR.PTP_CFG2_CLASS_MAX, 64, 4, .rws, 0, 262143⟩,
  ⟨REFMGR.PTP_CFG2_DSCP, 64, 4, .rws, 0, 262143⟩,
  ⟨REFMGR.PTP_CFG2_VLAN, 64, 4, .rws, 0, 262143⟩,
  ⟨REFMGR.PTP_CFG2_VLAN_EN, 64, 4, .rws, 0, 262143⟩,
  ⟨REFMGR.GM_ID_LO_ID, 64, 4, .ro, 0, 262143⟩,
  ⟨REFMGR.GM_ID_HI_ID, 64, 4, .ro, 0, 262143⟩,
  ⟨REFMGR.PTP_STAT_GM_CLASS, 64, 4, .ro, 0, 262143⟩,
  ⟨REFMGR.PTP_STAT_STEPS, 64, 4, .ro, 0, 262143⟩,
  ⟨REFMGR.PTP_STAT_SLAVE, 64, 4, .ro, 0, 262143⟩,
  ⟨REFMGR.PTP_STAT_TWO_STEP, 64, 4, .ro, 0, 262143⟩,
  ⟨REFMGR.PTP_STAT_SM_TLV, 64, 4, .ro, 0, 262143⟩,
  ⟨REFMGR.OFFSET_NS, 64, 4, .ro, 0, 262143⟩,
  ⟨REFMGR.MPD_NS, 64, 4, .ro, 0, 262143⟩]
/-- Fields of the REFMGR page, part 3. -/
def REFMGR.layout3 : List LayoutRow := [
  ⟨REFMGR.UTC_STAT_OFFSET, 64, 4, .ro, 0, 262143⟩,
  ⟨REFMGR.UTC_STAT_VALID, 64, 4, .ro, 0, 262143⟩,
  ⟨REFMGR.UTC_STAT_LEAP61, 64, 4, .ro, 0, 262143⟩,
  ⟨REFMGR.UTC_STAT_LEAP59, 64, 4, .ro, 0, 262143⟩,
  ⟨REFMGR.ANN_RX_COUNT, 64, 4, .ro, 0, 262143⟩,
  ⟨REFMGR.SYNC_RX_COUNT, 64, 4, .ro, 0, 262143⟩,
  ⟨REFMGR.CNT_SWITCHES, 0, 1, .ro, 0, 262143⟩,
  ⟨REFMGR.CNT_HOLDOVERS, 0, 1, .ro, 0, 262143⟩,
  ⟨REFMGR.CNT_ABANDONS, 0, 1, .ro, 0, 262143⟩,
  ⟨REFMGR.CNT_DISPUTES, 0, 1, .ro, 0, 262143⟩]
/-- The fields of the REFMGR page with their access codes. -/
def REFMGR.layout : List LayoutRow := REFMGR.layout0 ++ REFMGR.layout1 ++ REFMGR.layout2 ++ REFMGR.layout3

/-- Arm SYNC_IN; reads 0 (R361, Table 12.9). -/
def SYNTHCTL.SYNC_ARM_ARM : Field := ⟨.synthctl, 0x40, 0, 1, .const 0⟩
/-- Waiting for an edge (R361, Table 12.9). -/
def SYNTHCTL.SYNC_ARM_ARMED : Field := ⟨.synthctl, 0x40, 1, 1, .const 0⟩
/-- 0 held low, 1 clock, 2 frame pulse of 1 us at each tALIGN (R361, Table 12.9). -/
def SYNTHCTL.SYNCOUT_CFG_MODE : Field := ⟨.synthctl, 0x44, 0, 2, .const 0⟩
/-- Timing synthesiser, 0 to 11 (R361, Table 12.9). -/
def SYNTHCTL.SYNCOUT_CFG_SYN : Field := ⟨.synthctl, 0x44, 2, 4, .const 0⟩
/-- Output, 0 to 5 (R361, Table 12.9). -/
def SYNTHCTL.SYNCOUT_CFG_OUT : Field := ⟨.synthctl, 0x44, 6, 3, .const 0⟩
/-- Frame pulse rate, as Table 3.8 (R361, Table 12.9). -/
def SYNTHCTL.SYNCOUT_CFG_RATE : Field := ⟨.synthctl, 0x44, 12, 3, .const 0⟩
/-- Clock mode divider, 1 to 65,535; 0 is treated as 1 (R361, Table 12.9). -/
def SYNTHCTL.SYNCOUT_CFG_DIV : Field := ⟨.synthctl, 0x44, 16, 16, .const 1⟩
/-- Code driven, Table 12.7 (R361, Table 12.9). -/
def SYNTHCTL.LOCKANA_CODE : Field := ⟨.synthctl, 0x48, 0, 3, .const 0⟩
/-- 1: drive FORCE (R361, Table 12.9). -/
def SYNTHCTL.LOCKANA_OVERRIDE : Field := ⟨.synthctl, 0x48, 8, 1, .const 0⟩
/-- Code driven with OVERRIDE (R361, Table 12.9). -/
def SYNTHCTL.LOCKANA_FORCE : Field := ⟨.synthctl, 0x48, 9, 3, .const 0⟩
/-- Per pair: both halves in service (R361, Table 12.9). -/
def SYNTHCTL.PAIR_SUM_BOTH : Field := ⟨.synthctl, 0x4C, 0, 8, .const 0⟩
/-- Per pair: one half in service (R361, Table 12.9). -/
def SYNTHCTL.PAIR_SUM_ONE : Field := ⟨.synthctl, 0x4C, 8, 8, .const 0⟩
/-- Per timing synthesiser: LOCKED (R361, Table 12.9). -/
def SYNTHCTL.PAIR_SUM_TS_LOCKED : Field := ⟨.synthctl, 0x4C, 16, 12, .const 0⟩
/-- EVT_STAT [0]: SYNC_IN edge applied (R361, Table 12.9). -/
abbrev SYNTHCTL.EV_SYNC_DONE : Nat := 0
/-- EVT_STAT [1]: SYNC_OUT gated under R355 (R361, Table 12.9). -/
abbrev SYNTHCTL.EV_SYNCOUT_GATED : Nat := 1
/-- EVT_STAT [2]: Under R354 (R361, Table 12.9). -/
abbrev SYNTHCTL.EV_PAIR_DOUBLE : Nat := 2
/-- EVT_STAT [3]: Under R351 (R361, Table 12.9). -/
abbrev SYNTHCTL.EV_CFG_BLOCKED : Nat := 3
/-- Fields of the SYNTHCTL page, part 0. -/
def SYNTHCTL.layout0 : List LayoutRow := [
  ⟨SYNTHCTL.SYNC_ARM_ARM, 0, 1, .w1s, 0, 262143⟩,
  ⟨SYNTHCTL.SYNC_ARM_ARMED, 0, 1, .ro, 0, 262143⟩,
  ⟨SYNTHCTL.SYNCOUT_CFG_MODE, 0, 1, .rws, 0, 262143⟩,
  ⟨SYNTHCTL.SYNCOUT_CFG_SYN, 0, 1, .rws, 0, 262143⟩,
  ⟨SYNTHCTL.SYNCOUT_CFG_OUT, 0, 1, .rws, 0, 262143⟩,
  ⟨SYNTHCTL.SYNCOUT_CFG_RATE, 0, 1, .rws, 0, 262143⟩,
  ⟨SYNTHCTL.SYNCOUT_CFG_DIV, 0, 1, .rws, 0, 262143⟩,
  ⟨SYNTHCTL.LOCKANA_CODE, 0, 1, .ro, 0, 262143⟩,
  ⟨SYNTHCTL.LOCKANA_OVERRIDE, 0, 1, .rw, 0, 262143⟩,
  ⟨SYNTHCTL.LOCKANA_FORCE, 0, 1, .rw, 0, 262143⟩,
  ⟨SYNTHCTL.PAIR_SUM_BOTH, 0, 1, .ro, 0, 262143⟩,
  ⟨SYNTHCTL.PAIR_SUM_ONE, 0, 1, .ro, 0, 262143⟩,
  ⟨SYNTHCTL.PAIR_SUM_TS_LOCKED, 0, 1, .ro, 0, 262143⟩]
/-- The fields of the SYNTHCTL page with their access codes. -/
def SYNTHCTL.layout : List LayoutRow := SYNTHCTL.layout0

/-- Integer divider, 257 to 360 (R360, Table 12.8). -/
def SYNTH.SYN_N_N : Field := ⟨.synth, 0x40, 0, 9, .perInst [305, 305, 305, 305, 305, 305, 305, 305, 331, 331, 303, 297, 308, 308, 303, 308, 329, 329, 329, 329]⟩
/-- Fraction in 2?^2? (R360, Table 12.8). -/
def SYNTH.SYN_FRAC_FRAC : Field := ⟨.synth, 0x44, 0, 28, .perInst [149130809, 149130809, 149130809, 149130809, 67190804, 67190804, 67190804, 67190804, 147370237, 147370237, 109362593, 91069214, 172328935, 172328935, 109362593, 172328935, 58547651, 58547651, 58547651, 58547651]⟩
/-- Timing synthesisers: steering under R350 (R360, Table 12.8). -/
def SYNTH.SYN_CTL_STEER_EN : Field := ⟨.synth, 0x48, 0, 1, .const 1⟩
/-- Unit or half A: 0 OFF, 1 BAND, 2 ACQUIRE, 3 LOCKED, 4 HOLD, 5 FAILED, 6 RETIRED (R360, Table 12.8). -/
def SYNTH.SYN_STAT_STATE : Field := ⟨.synth, 0x4C, 0, 3, .const 0⟩
/-- Pairs: half B, as STATE (R360, Table 12.8). -/
def SYNTH.SYN_STAT_STATE_B : Field := ⟨.synth, 0x4C, 4, 3, .const 0⟩
/-- VCO band, unit or half A (R360, Table 12.8). -/
def SYNTH.SYN_STAT_BAND : Field := ⟨.synth, 0x4C, 8, 6, .const 0⟩
/-- Pairs: half B (R360, Table 12.8). -/
def SYNTH.SYN_STAT_BAND_B : Field := ⟨.synth, 0x4C, 16, 6, .const 0⟩
/-- Pairs: 0 half A, 1 half B (R360, Table 12.8). -/
def SYNTH.SYN_STAT_SEL : Field := ⟨.synth, 0x4C, 24, 1, .const 0⟩
/-- ISP3: control islands on XO_IN (R360, Table 12.8). -/
def SYNTH.SYN_STAT_FALLBACK : Field := ⟨.synth, 0x4C, 25, 1, .const 0⟩
/-- Steering offset, 0.0001 ppm, two's complement (R360, Table 12.8). -/
def SYNTH.STEER_OFFSET : Field := ⟨.synth, 0x50, 0, 24, .const 0⟩
/-- 1 to 1,023; 0 is treated as 1 (R360, Table 12.8). -/
def SYNTH.OUT_CFG_DIV : Field := ⟨.synth, 0x60, 0, 10, .const 0x50⟩
/-- 1/32 VCO period (R360, Table 12.8). -/
def SYNTH.OUT_CFG_DLY : Field := ⟨.synth, 0x60, 16, 12, .const 0⟩
/-- 1: output running (R360, Table 12.8). -/
def SYNTH.OUT_CFG_EN : Field := ⟨.synth, 0x60, 28, 1, .const 0⟩
/-- Divider restarted by SYNC_IN (R360, Table 12.8). -/
def SYNTH.OUT_CFG_SYNC_EN : Field := ⟨.synth, 0x60, 29, 1, .const 0⟩
/-- Output running now (R360, Table 12.8). -/
def SYNTH.OUT_CFG_RUN : Field := ⟨.synth, 0x60, 31, 1, .const 0⟩
/-- Change to the other half if it is LOCKED; reads 0 (R360, Table 12.8). -/
def SYNTH.ISP_CTL_SWAP : Field := ⟨.synth, 0x80, 0, 1, .const 0⟩
/-- Self-test the unselected half; reads 0 (R360, Table 12.8). -/
def SYNTH.ISP_CTL_TEST : Field := ⟨.synth, 0x80, 1, 1, .const 0⟩
/-- Header counter; saturating (R360). -/
def SYNTH.CNT_LOCK_LOSSES : Field := ⟨.synth, 0x28, 0, 32, .const 0⟩
/-- Header counter; saturating (R360). -/
def SYNTH.CNT_HOLDS : Field := ⟨.synth, 0x2C, 0, 32, .const 0⟩
/-- Header counter; saturating (R360). -/
def SYNTH.CNT_BAND_SEARCHES : Field := ⟨.synth, 0x30, 0, 32, .const 0⟩
/-- EVT_STAT [0]: Under R352 (R360, Table 12.8). -/
abbrev SYNTH.EV_LOCK_LOST : Nat := 0
/-- EVT_STAT [1]: LOCKED re-entered (R360, Table 12.8). -/
abbrev SYNTH.EV_RELOCK : Nat := 1
/-- EVT_STAT [2]: HOLD entered, or a pair changed half (R360, Table 12.8). -/
abbrev SYNTH.EV_HOLD_SWAP : Nat := 2
/-- EVT_STAT [3]: FAILED or RETIRED (R360, Table 12.8). -/
abbrev SYNTH.EV_FAILED : Nat := 3
/-- EVT_STAT [4]: Under R351 (R360, Table 12.8). -/
abbrev SYNTH.EV_CFG_BLOCKED : Nat := 4
/-- Fields of the SYNTH page, part 0. -/
def SYNTH.layout0 : List LayoutRow := [
  ⟨SYNTH.SYN_N_N, 0, 1, .rw, 0, 262143⟩,
  ⟨SYNTH.SYN_FRAC_FRAC, 0, 1, .rw, 0, 262143⟩,
  ⟨SYNTH.SYN_CTL_STEER_EN, 0, 1, .rw, 0, 262143⟩,
  ⟨SYNTH.SYN_STAT_STATE, 0, 1, .ro, 0, 262143⟩,
  ⟨SYNTH.SYN_STAT_STATE_B, 0, 1, .ro, 0, 262143⟩,
  ⟨SYNTH.SYN_STAT_BAND, 0, 1, .ro, 0, 262143⟩,
  ⟨SYNTH.SYN_STAT_BAND_B, 0, 1, .ro, 0, 262143⟩,
  ⟨SYNTH.SYN_STAT_SEL, 0, 1, .ro, 0, 262143⟩,
  ⟨SYNTH.SYN_STAT_FALLBACK, 0, 1, .ro, 0, 262143⟩,
  ⟨SYNTH.STEER_OFFSET, 0, 1, .ro, 0, 262143⟩,
  ⟨SYNTH.OUT_CFG_DIV, 4, 6, .rws, 0, 11⟩,
  ⟨SYNTH.OUT_CFG_DLY, 4, 6, .rws, 0, 11⟩,
  ⟨SYNTH.OUT_CFG_EN, 4, 6, .rws, 0, 11⟩,
  ⟨SYNTH.OUT_CFG_SYNC_EN, 4, 6, .rws, 0, 11⟩,
  ⟨SYNTH.OUT_CFG_RUN, 4, 6, .ro, 0, 11⟩,
  ⟨SYNTH.ISP_CTL_SWAP, 0, 1, .w1s, 12, 19⟩,
  ⟨SYNTH.ISP_CTL_TEST, 0, 1, .w1s, 12, 19⟩,
  ⟨SYNTH.CNT_LOCK_LOSSES, 0, 1, .ro, 0, 262143⟩,
  ⟨SYNTH.CNT_HOLDS, 0, 1, .ro, 0, 262143⟩,
  ⟨SYNTH.CNT_BAND_SEARCHES, 0, 1, .ro, 0, 262143⟩]
/-- The fields of the SYNTH page with their access codes. -/
def SYNTH.layout : List LayoutRow := SYNTH.layout0

/-- 1: host packet path enabled (R151, Table 4.9). -/
def FLOW.FE_CTL_HOST_EN : Field := ⟨.flow, 0x40, 0, 1, .const 0⟩
/-- 1: copy IGMP and MLD to host queue 0 (R151, Table 4.9). -/
def FLOW.FE_CTL_HOST_IGMP : Field := ⟨.flow, 0x40, 1, 1, .const 0⟩
/-- Report robustness, 1 to 7 (R151, Table 4.9). -/
def FLOW.FE_CTL_ROBUST : Field := ⟨.flow, 0x40, 8, 3, .const 2⟩
/-- Unsolicited report interval in 10 ms (R151, Table 4.9). -/
def FLOW.FE_CTL_UNSOL_INT : Field := ⟨.flow, 0x40, 16, 10, .const 0x64⟩
/-- Context addressed (R151, Table 4.9). -/
def FLOW.CTX_REQ_FC : Field := ⟨.flow, 0x80, 0, 18, .const 0⟩
/-- 1 ALLOC from CTX_IMG, 2 MODIFY, 3 ACTIVATE, 4 DEACTIVATE, 5 FREE (R151, Table 4.9). -/
def FLOW.CTX_REQ_OP : Field := ⟨.flow, 0x80, 20, 3, .const 0⟩
/-- DEACTIVATE at the end of the current packet (R151, Table 4.9). -/
def FLOW.CTX_REQ_IMMEDIATE : Field := ⟨.flow, 0x80, 24, 1, .const 0⟩
/-- Submit; reads 0 (R151, Table 4.9). -/
def FLOW.CTX_REQ_GO : Field := ⟨.flow, 0x80, 31, 1, .const 0⟩
/-- Ledger code (R151, Table 4.9). -/
def FLOW.CTX_RESP_CODE : Field := ⟨.flow, 0x84, 0, 8, .const 0⟩
/-- Decided (R151, Table 4.9). -/
def FLOW.CTX_RESP_DONE : Field := ⟨.flow, 0x84, 8, 1, .const 0⟩
/-- Request being decided; GO ignored (R151, Table 4.9). -/
def FLOW.CTX_RESP_BUSY : Field := ⟨.flow, 0x84, 9, 1, .const 0⟩
/-- Contexts allocated (R151, Table 4.8). -/
def FLOW.FE_STAT_CONTEXTS : Field := ⟨.flow, 0x44, 0, 19, .const 0⟩
/-- Hold in microseconds, 0 to 1,000 (R151, Table 4.8). -/
def FLOW.FWD_HOLD_HOLD : Field := ⟨.flow, 0x48, 0, 10, .const 0x1f4⟩
/-- FC of the latest event (R151, Table 4.8). -/
def FLOW.EVT_FC_FC : Field := ⟨.flow, 0x4C, 0, 18, .const 0⟩
/-- Context image, words W0 to W11 (R151, Table 4.8). -/
def FLOW.CTX_IMG_WORD : Field := ⟨.flow, 0x50, 0, 32, .const 0⟩
/-- FWD_OUT (R151, Table 4.8). -/
def FLOW.FWD_TAKE_OUT_FC : Field := ⟨.flow, 0x88, 0, 18, .const 0⟩
/-- FWD_IN (R151, Table 4.8). -/
def FLOW.FWD_TAKE_IN_FC : Field := ⟨.flow, 0x8C, 0, 18, .const 0⟩
/-- 1: hold the flow take under R146 (R151, Table 4.8). -/
def FLOW.FWD_TAKE_IN_BATCH : Field := ⟨.flow, 0x8C, 30, 1, .const 0⟩
/-- Submit (R151, Table 4.8). -/
def FLOW.FWD_TAKE_IN_GO : Field := ⟨.flow, 0x8C, 31, 1, .const 0⟩
/-- Commit held takes (R151, Table 4.8). -/
def FLOW.FWD_GO_GO : Field := ⟨.flow, 0x90, 0, 1, .const 0⟩
/-- Ledger code (R151, Table 4.8). -/
def FLOW.FWD_RESP_CODE : Field := ⟨.flow, 0x94, 0, 8, .const 0⟩
/-- First failing flow take (R151, Table 4.8). -/
def FLOW.FWD_RESP_INDEX : Field := ⟨.flow, 0x94, 8, 9, .const 0⟩
/-- Decided (R151, Table 4.8). -/
def FLOW.FWD_RESP_DONE : Field := ⟨.flow, 0x94, 24, 1, .const 0⟩
/-- Flow take not yet acted (R151, Table 4.8). -/
def FLOW.FWD_RESP_PENDING : Field := ⟨.flow, 0x94, 25, 1, .const 0⟩
/-- IPv4 address of port p (FLOW[1]) (R151, Table 4.8). -/
def FLOW.PORT_ADDR_V4 : Field := ⟨.flow, 0x40, 0, 32, .const 0⟩
/-- IPv6 address word 0 of port p (FLOW[1]) (R151, Table 4.8). -/
def FLOW.PORT_ADDR_V6_0 : Field := ⟨.flow, 0x44, 0, 32, .const 0⟩
/-- IPv6 address word 1 of port p (FLOW[1]) (R151, Table 4.8). -/
def FLOW.PORT_ADDR_V6_1 : Field := ⟨.flow, 0x48, 0, 32, .const 0⟩
/-- IPv6 address word 2 of port p (FLOW[1]) (R151, Table 4.8). -/
def FLOW.PORT_ADDR_V6_2 : Field := ⟨.flow, 0x4C, 0, 32, .const 0⟩
/-- IPv6 address word 3 of port p (FLOW[1]) (R151, Table 4.8). -/
def FLOW.PORT_ADDR_V6_3 : Field := ⟨.flow, 0x50, 0, 32, .const 0⟩
/-- IPv4 enabled (FLOW[1]) (R151, Table 4.8). -/
def FLOW.PORT_ADDR_V4_EN : Field := ⟨.flow, 0x54, 0, 1, .const 0⟩
/-- IPv6 enabled (FLOW[1]) (R151, Table 4.8). -/
def FLOW.PORT_ADDR_V6_EN : Field := ⟨.flow, 0x54, 1, 1, .const 0⟩
/-- Word 0 of the /96 prefix k (FLOW[2]) (R151, Table 4.8). -/
def FLOW.PREFIX_WORD0 : Field := ⟨.flow, 0x800, 0, 32, .const 0⟩
/-- Word 1 of the /96 prefix k (FLOW[2]) (R151, Table 4.8). -/
def FLOW.PREFIX_WORD1 : Field := ⟨.flow, 0x804, 0, 32, .const 0⟩
/-- Word 2 of the /96 prefix k (FLOW[2]) (R151, Table 4.8). -/
def FLOW.PREFIX_WORD2 : Field := ⟨.flow, 0x808, 0, 32, .const 0⟩
/-- Prefix valid (FLOW[2]) (R151, Table 4.8). -/
def FLOW.PREFIX_VALID : Field := ⟨.flow, 0x80C, 31, 1, .const 0⟩
/-- Host queue ring (FLOW[3]) (R151, Table 4.8). -/
def FLOW.HQ_RX_BASE_LO : Field := ⟨.flow, 0x40, 0, 32, .const 0⟩
/-- Host queue ring (FLOW[3]) (R151, Table 4.8). -/
def FLOW.HQ_RX_BASE_HI : Field := ⟨.flow, 0x44, 0, 32, .const 0⟩
/-- Host queue ring (FLOW[3]) (R151, Table 4.8). -/
def FLOW.HQ_RX_SIZE : Field := ⟨.flow, 0x48, 0, 32, .const 0⟩
/-- Host queue ring (FLOW[3]) (R151, Table 4.8). -/
def FLOW.HQ_RX_HEAD : Field := ⟨.flow, 0x4C, 0, 32, .const 0⟩
/-- Host queue ring (FLOW[3]) (R151, Table 4.8). -/
def FLOW.HQ_RX_TAIL : Field := ⟨.flow, 0x50, 0, 32, .const 0⟩
/-- Host queue ring (FLOW[3]) (R151, Table 4.8). -/
def FLOW.HQ_RX_EN : Field := ⟨.flow, 0x54, 0, 1, .const 0⟩
/-- Host queue ring (FLOW[3]) (R151, Table 4.8). -/
def FLOW.HQ_TX_BASE_LO : Field := ⟨.flow, 0x240, 0, 32, .const 0⟩
/-- Host queue ring (FLOW[3]) (R151, Table 4.8). -/
def FLOW.HQ_TX_BASE_HI : Field := ⟨.flow, 0x244, 0, 32, .const 0⟩
/-- Host queue ring (FLOW[3]) (R151, Table 4.8). -/
def FLOW.HQ_TX_SIZE : Field := ⟨.flow, 0x248, 0, 32, .const 0⟩
/-- Host queue ring (FLOW[3]) (R151, Table 4.8). -/
def FLOW.HQ_TX_HEAD : Field := ⟨.flow, 0x24C, 0, 32, .const 0⟩
/-- Host queue ring (FLOW[3]) (R151, Table 4.8). -/
def FLOW.HQ_TX_TAIL : Field := ⟨.flow, 0x250, 0, 32, .const 0⟩
/-- Host queue ring (FLOW[3]) (R151, Table 4.8). -/
def FLOW.HQ_TX_EN : Field := ⟨.flow, 0x254, 0, 1, .const 0⟩
/-- Host filter f (FLOW[4]) (R151, Table 4.8). -/
def FLOW.HOST_FILT_VALUE : Field := ⟨.flow, 0x40, 0, 16, .const 0⟩
/-- Host filter f (FLOW[4]) (R151, Table 4.8). -/
def FLOW.HOST_FILT_KIND : Field := ⟨.flow, 0x40, 16, 2, .const 0⟩
/-- Host filter f (FLOW[4]) (R151, Table 4.8). -/
def FLOW.HOST_FILT_QUEUE : Field := ⟨.flow, 0x40, 18, 4, .const 0⟩
/-- Host filter f (FLOW[4]) (R151, Table 4.8). -/
def FLOW.HOST_FILT_PORT : Field := ⟨.flow, 0x40, 22, 7, .const 0⟩
/-- Header counter; saturating (R151). -/
def FLOW.CNT_RX_NOMATCH : Field := ⟨.flow, 0x28, 0, 32, .const 0⟩
/-- Header counter; saturating (R151). -/
def FLOW.CNT_HOST_DROP : Field := ⟨.flow, 0x2C, 0, 32, .const 0⟩
/-- Header counter; saturating (R151). -/
def FLOW.CNT_ECC_CORR : Field := ⟨.flow, 0x30, 0, 32, .const 0⟩
/-- Header counter; saturating (R151). -/
def FLOW.CNT_ECC_UNCORR : Field := ⟨.flow, 0x34, 0, 32, .const 0⟩
/-- EVT_STAT [0]: Leg of a pair lost (R152). -/
abbrev FLOW.EV_LEG_LOST : Nat := 0
/-- EVT_STAT [1]: Leg of a pair back (R152). -/
abbrev FLOW.EV_LEG_BACK : Nat := 1
/-- EVT_STAT [2]: Both legs lost (R152). -/
abbrev FLOW.EV_PAIR_LOST : Nat := 2
/-- EVT_STAT [3]: Receive context lost (R152). -/
abbrev FLOW.EV_FLOW_LOST : Nat := 3
/-- EVT_STAT [4]: Frame geometry differs from FMT (R152). -/
abbrev FLOW.EV_FMT_MISMATCH : Nat := 4
/-- EVT_STAT [5]: Hold expired (R152). -/
abbrev FLOW.EV_HOLD_TRUNC : Nat := 5
/-- EVT_STAT [6]: Packets beyond BW dropped (R152). -/
abbrev FLOW.EV_POLICE : Nat := 6
/-- EVT_STAT [7]: Host-bound frame dropped (R152). -/
abbrev FLOW.EV_HOST_DROP : Nat := 7
/-- EVT_STAT [8]: Older querier heard (R152). -/
abbrev FLOW.EV_QUERIER_OLD : Nat := 8
/-- EVT_STAT [9]: Uncorrectable context word (R152). -/
abbrev FLOW.EV_CTX_ECC : Nat := 9
/-- EVT_STAT [10]: Bank stalled (R152). -/
abbrev FLOW.EV_BANK_STALL : Nat := 10
/-- EVT_STAT [11]: Change not applied (R152). -/
abbrev FLOW.EV_CFG_BLOCKED : Nat := 11
/-- EVT_STAT [12]: Descriptor done with INT (R152). -/
abbrev FLOW.EV_HQ_DONE : Nat := 12
/-- Fields of the FLOW page, part 0. -/
def FLOW.layout0 : List LayoutRow := [
  ⟨FLOW.FE_CTL_HOST_EN, 0, 1, .rw, 0, 0⟩,
  ⟨FLOW.FE_CTL_HOST_IGMP, 0, 1, .rw, 0, 0⟩,
  ⟨FLOW.FE_CTL_ROBUST, 0, 1, .rw, 0, 0⟩,
  ⟨FLOW.FE_CTL_UNSOL_INT, 0, 1, .rw, 0, 0⟩,
  ⟨FLOW.CTX_REQ_FC, 0, 1, .rw, 0, 0⟩,
  ⟨FLOW.CTX_REQ_OP, 0, 1, .rw, 0, 0⟩,
  ⟨FLOW.CTX_REQ_IMMEDIATE, 0, 1, .rw, 0, 0⟩,
  ⟨FLOW.CTX_REQ_GO, 0, 1, .w1s, 0, 0⟩,
  ⟨FLOW.CTX_RESP_CODE, 0, 1, .ro, 0, 0⟩,
  ⟨FLOW.CTX_RESP_DONE, 0, 1, .ro, 0, 0⟩,
  ⟨FLOW.CTX_RESP_BUSY, 0, 1, .ro, 0, 0⟩,
  ⟨FLOW.FE_STAT_CONTEXTS, 0, 1, .ro, 0, 0⟩,
  ⟨FLOW.FWD_HOLD_HOLD, 0, 1, .rw, 0, 0⟩,
  ⟨FLOW.EVT_FC_FC, 0, 1, .ro, 0, 0⟩,
  ⟨FLOW.CTX_IMG_WORD, 4, 12, .rw, 0, 0⟩,
  ⟨FLOW.FWD_TAKE_OUT_FC, 0, 1, .rw, 0, 0⟩,
  ⟨FLOW.FWD_TAKE_IN_FC, 0, 1, .rw, 0, 0⟩,
  ⟨FLOW.FWD_TAKE_IN_BATCH, 0, 1, .rw, 0, 0⟩,
  ⟨FLOW.FWD_TAKE_IN_GO, 0, 1, .w1s, 0, 0⟩,
  ⟨FLOW.FWD_GO_GO, 0, 1, .w1s, 0, 0⟩]
/-- Fields of the FLOW page, part 1. -/
def FLOW.layout1 : List LayoutRow := [
  ⟨FLOW.FWD_RESP_CODE, 0, 1, .ro, 0, 0⟩,
  ⟨FLOW.FWD_RESP_INDEX, 0, 1, .ro, 0, 0⟩,
  ⟨FLOW.FWD_RESP_DONE, 0, 1, .ro, 0, 0⟩,
  ⟨FLOW.FWD_RESP_PENDING, 0, 1, .ro, 0, 0⟩,
  ⟨FLOW.PORT_ADDR_V4, 32, 96, .rw, 1, 1⟩,
  ⟨FLOW.PORT_ADDR_V6_0, 32, 96, .rw, 1, 1⟩,
  ⟨FLOW.PORT_ADDR_V6_1, 32, 96, .rw, 1, 1⟩,
  ⟨FLOW.PORT_ADDR_V6_2, 32, 96, .rw, 1, 1⟩,
  ⟨FLOW.PORT_ADDR_V6_3, 32, 96, .rw, 1, 1⟩,
  ⟨FLOW.PORT_ADDR_V4_EN, 32, 96, .rw, 1, 1⟩,
  ⟨FLOW.PORT_ADDR_V6_EN, 32, 96, .rw, 1, 1⟩,
  ⟨FLOW.PREFIX_WORD0, 16, 128, .rw, 2, 2⟩,
  ⟨FLOW.PREFIX_WORD1, 16, 128, .rw, 2, 2⟩,
  ⟨FLOW.PREFIX_WORD2, 16, 128, .rw, 2, 2⟩,
  ⟨FLOW.PREFIX_VALID, 16, 128, .rw, 2, 2⟩,
  ⟨FLOW.HQ_RX_BASE_LO, 32, 16, .rw, 3, 3⟩,
  ⟨FLOW.HQ_RX_BASE_HI, 32, 16, .rw, 3, 3⟩,
  ⟨FLOW.HQ_RX_SIZE, 32, 16, .rw, 3, 3⟩,
  ⟨FLOW.HQ_RX_HEAD, 32, 16, .ro, 3, 3⟩,
  ⟨FLOW.HQ_RX_TAIL, 32, 16, .rw, 3, 3⟩]
/-- Fields of the FLOW page, part 2. -/
def FLOW.layout2 : List LayoutRow := [
  ⟨FLOW.HQ_RX_EN, 32, 16, .rw, 3, 3⟩,
  ⟨FLOW.HQ_TX_BASE_LO, 32, 16, .rw, 3, 3⟩,
  ⟨FLOW.HQ_TX_BASE_HI, 32, 16, .rw, 3, 3⟩,
  ⟨FLOW.HQ_TX_SIZE, 32, 16, .rw, 3, 3⟩,
  ⟨FLOW.HQ_TX_HEAD, 32, 16, .ro, 3, 3⟩,
  ⟨FLOW.HQ_TX_TAIL, 32, 16, .rw, 3, 3⟩,
  ⟨FLOW.HQ_TX_EN, 32, 16, .rw, 3, 3⟩,
  ⟨FLOW.HOST_FILT_VALUE, 8, 64, .rw, 4, 4⟩,
  ⟨FLOW.HOST_FILT_KIND, 8, 64, .rw, 4, 4⟩,
  ⟨FLOW.HOST_FILT_QUEUE, 8, 64, .rw, 4, 4⟩,
  ⟨FLOW.HOST_FILT_PORT, 8, 64, .rw, 4, 4⟩,
  ⟨FLOW.CNT_RX_NOMATCH, 0, 1, .ro, 0, 0⟩,
  ⟨FLOW.CNT_HOST_DROP, 0, 1, .ro, 0, 0⟩,
  ⟨FLOW.CNT_ECC_CORR, 0, 1, .ro, 0, 0⟩,
  ⟨FLOW.CNT_ECC_UNCORR, 0, 1, .ro, 0, 0⟩]
/-- The fields of the FLOW page with their access codes. -/
def FLOW.layout : List LayoutRow := FLOW.layout0 ++ FLOW.layout1 ++ FLOW.layout2

/-- Table 4.1 (R126, Table 4.3). -/
def FC.W0_TYPE : Field := ⟨.fc, 0x0, 0, 4, .const 0⟩
/-- 0 FREE, 1 IDLE, 2 WAIT, 3 DETECT, 4 RUN, 5 LOST, 6 DRAIN (R126, Table 4.3). -/
def FC.W0_STATE : Field := ⟨.fc, 0x0, 4, 4, .const 0⟩
/-- Ethernet port 4q + n for port q.n, 0 to 95 (R126, Table 4.3). -/
def FC.W0_PORT : Field := ⟨.fc, 0x0, 8, 7, .const 0⟩
/-- Receive: 1 matches the source address as well (R126, Table 4.3). -/
def FC.W0_SSM : Field := ⟨.fc, 0x0, 15, 1, .const 0⟩
/-- Destination prefix index under R125 (R126, Table 4.3). -/
def FC.W0_DPFX : Field := ⟨.fc, 0x0, 16, 7, .const 0⟩
/-- Source prefix index under R125 (R126, Table 4.3). -/
def FC.W0_SPFX : Field := ⟨.fc, 0x0, 24, 7, .const 0⟩
/-- 1: match or send the VLAN tag (R126, Table 4.3). -/
def FC.W0_VLAN_EN : Field := ⟨.fc, 0x0, 31, 1, .const 0⟩
/-- Destination address, low 32 bits (R126, Table 4.3). -/
def FC.W1_DADDR : Field := ⟨.fc, 0x4, 0, 32, .const 0⟩
/-- Source address, low 32 bits; send: ignored unless KEEP_SRC (R126, Table 4.3). -/
def FC.W2_SADDR : Field := ⟨.fc, 0x8, 0, 32, .const 0⟩
/-- UDP destination port (R126, Table 4.3). -/
def FC.W3_DPORT : Field := ⟨.fc, 0xC, 0, 16, .const 0⟩
/-- UDP source port; receive: 0 matches any (R126, Table 4.3). -/
def FC.W3_SPORT : Field := ⟨.fc, 0xC, 16, 16, .const 0⟩
/-- Send: SSRC sent; receive: ignored (R126, Table 4.3). -/
def FC.W4_SSRC : Field := ⟨.fc, 0x10, 0, 32, .const 0⟩
/-- RTP payload type (R126, Table 4.3). -/
def FC.W5_PT : Field := ⟨.fc, 0x14, 0, 7, .const 0⟩
/-- Send: DSCP (R126, Table 4.3). -/
def FC.W5_DSCP : Field := ⟨.fc, 0x14, 8, 6, .const 0⟩
/-- VLAN identifier (R126, Table 4.3). -/
def FC.W5_VLAN : Field := ⟨.fc, 0x14, 14, 12, .const 0⟩
/-- Send: TTL or hop limit; forward: 0 decrements the received value (R126, Table 4.3). -/
def FC.W6_TTL : Field := ⟨.fc, 0x18, 0, 8, .const 0x40⟩
/-- Unicast destination: next-hop table entry under R144, 0 to 4,095 (R126, Table 4.3). -/
def FC.W6_NH : Field := ⟨.fc, 0x18, 8, 12, .const 0⟩
/-- Forward: 1 keeps the received SSRC (R126, Table 4.3). -/
def FC.W6_KEEP_SSRC : Field := ⟨.fc, 0x18, 20, 1, .const 0⟩
/-- Forward: 1 keeps the received payload type (R126, Table 4.3). -/
def FC.W6_KEEP_PT : Field := ⟨.fc, 0x18, 21, 1, .const 0⟩
/-- Forward: 1 keeps the received source address (R126, Table 4.3). -/
def FC.W6_KEEP_SRC : Field := ⟨.fc, 0x18, 22, 1, .const 0⟩
/-- TX_V: 0 narrow linear, 1 wide (R126, Table 4.3). -/
def FC.W6_WIDE : Field := ⟨.fc, 0x18, 23, 1, .const 0⟩
/-- Paired: partner leg; FWD_OUT: feeding FWD_IN; FWD_IN: first FWD_OUT; 0 to 262,143 name a context; 0x7_FFFF none; any other value is refused with code 0x27 (R126, Table 4.3). -/
def FC.W7_LINK : Field := ⟨.fc, 0x1C, 0, 19, .const 0x7ffff⟩
/-- Paired: 0 leg A, 1 leg B (R126, Table 4.3). -/
def FC.W7_LEG : Field := ⟨.fc, 0x1C, 19, 1, .const 0⟩
/-- 1: member of an ST 2022-7 pair (R126, Table 4.3). -/
def FC.W7_PAIRED : Field := ⟨.fc, 0x1C, 20, 1, .const 0⟩
/-- Merge window in 0.1 ms, 1 to 500 (R126, Table 4.3). -/
def FC.W7_WINDOW : Field := ⟨.fc, 0x1C, 21, 10, .const 0xa⟩
/-- Packets handled; wraps (R126, Table 4.3). -/
def FC.W10_PKTS : Field := ⟨.fc, 0x28, 0, 32, .const 0⟩
/-- Sequence gaps, in packets; saturating (R126, Table 4.3). -/
def FC.W11_LOST : Field := ⟨.fc, 0x2C, 0, 16, .const 0⟩
/-- Packets dropped as late or as duplicates; saturating (R126, Table 4.3). -/
def FC.W11_LATE : Field := ⟨.fc, 0x2C, 16, 16, .const 0⟩
/-- BIND, NCH, PTIME, HIRATE and L24 of a terminated kind, or NEXT of a FWD_OUT (R126, Table 4.3). -/
def FC.W8_RAW : Field := ⟨.fc, 0x20, 0, 32, .const 0x1000000⟩
/-- FMT of a terminated video kind, or BW, RATE and KIND of a forward kind (R126, Table 4.3). -/
def FC.W9_RAW : Field := ⟨.fc, 0x24, 0, 32, .const 0⟩
/-- Fields of the FC page, part 0. -/
def FC.layout0 : List LayoutRow := [
  ⟨FC.W0_TYPE, 0, 1, .rw, 0, 262143⟩,
  ⟨FC.W0_STATE, 0, 1, .ro, 0, 262143⟩,
  ⟨FC.W0_PORT, 0, 1, .rw, 0, 262143⟩,
  ⟨FC.W0_SSM, 0, 1, .rw, 0, 262143⟩,
  ⟨FC.W0_DPFX, 0, 1, .rw, 0, 262143⟩,
  ⟨FC.W0_SPFX, 0, 1, .rw, 0, 262143⟩,
  ⟨FC.W0_VLAN_EN, 0, 1, .rw, 0, 262143⟩,
  ⟨FC.W1_DADDR, 0, 1, .rw, 0, 262143⟩,
  ⟨FC.W2_SADDR, 0, 1, .rw, 0, 262143⟩,
  ⟨FC.W3_DPORT, 0, 1, .rw, 0, 262143⟩,
  ⟨FC.W3_SPORT, 0, 1, .rw, 0, 262143⟩,
  ⟨FC.W4_SSRC, 0, 1, .rw, 0, 262143⟩,
  ⟨FC.W5_PT, 0, 1, .rw, 0, 262143⟩,
  ⟨FC.W5_DSCP, 0, 1, .rw, 0, 262143⟩,
  ⟨FC.W5_VLAN, 0, 1, .rw, 0, 262143⟩,
  ⟨FC.W6_TTL, 0, 1, .rw, 0, 262143⟩,
  ⟨FC.W6_NH, 0, 1, .rw, 0, 262143⟩,
  ⟨FC.W6_KEEP_SSRC, 0, 1, .rw, 0, 262143⟩,
  ⟨FC.W6_KEEP_PT, 0, 1, .rw, 0, 262143⟩,
  ⟨FC.W6_KEEP_SRC, 0, 1, .rw, 0, 262143⟩]
/-- Fields of the FC page, part 1. -/
def FC.layout1 : List LayoutRow := [
  ⟨FC.W6_WIDE, 0, 1, .rw, 0, 262143⟩,
  ⟨FC.W7_LINK, 0, 1, .rw, 0, 262143⟩,
  ⟨FC.W7_LEG, 0, 1, .rw, 0, 262143⟩,
  ⟨FC.W7_PAIRED, 0, 1, .rw, 0, 262143⟩,
  ⟨FC.W7_WINDOW, 0, 1, .rw, 0, 262143⟩,
  ⟨FC.W10_PKTS, 0, 1, .ro, 0, 262143⟩,
  ⟨FC.W11_LOST, 0, 1, .ro, 0, 262143⟩,
  ⟨FC.W11_LATE, 0, 1, .ro, 0, 262143⟩,
  ⟨FC.W8_RAW, 0, 1, .rw, 0, 262143⟩,
  ⟨FC.W9_RAW, 0, 1, .rw, 0, 262143⟩]
/-- The fields of the FC page with their access codes. -/
def FC.layout : List LayoutRow := FC.layout0 ++ FC.layout1

/-- Destination MAC address [31:0] (R144). -/
def NH.E_MAC_LO : Field := ⟨.nh, 0x0, 0, 32, .const 0⟩
/-- Destination MAC address [47:32] (R144). -/
def NH.E_MAC_HI : Field := ⟨.nh, 0x4, 0, 16, .const 0⟩
/-- Entry valid (R144). -/
def NH.E_VALID : Field := ⟨.nh, 0x4, 31, 1, .const 0⟩
/-- Fields of the NH page, part 0. -/
def NH.layout0 : List LayoutRow := [
  ⟨NH.E_MAC_LO, 0, 1, .rw, 0, 262143⟩,
  ⟨NH.E_MAC_HI, 0, 1, .rw, 0, 262143⟩,
  ⟨NH.E_VALID, 0, 1, .rw, 0, 262143⟩]
/-- The fields of the NH page with their access codes. -/
def NH.layout : List LayoutRow := NH.layout0

/-- 0 half A, 1 half B (R300, Table 9.8). -/
def AUDIO.ENG_STAT_SEL : Field := ⟨.audio, 0x40, 0, 1, .const 0⟩
/-- Half in RUN (R300, Table 9.8). -/
def AUDIO.ENG_STAT_A_RUN : Field := ⟨.audio, 0x40, 1, 1, .const 0⟩
/-- Half in RUN (R300, Table 9.8). -/
def AUDIO.ENG_STAT_B_RUN : Field := ⟨.audio, 0x40, 2, 1, .const 0⟩
/-- Pool channels taken, 0 to 4,096 (R300, Table 9.8). -/
def AUDIO.ENG_STAT_POOL_USED : Field := ⟨.audio, 0x40, 16, 13, .const 0⟩
/-- ms, 1 to 100; 0 is treated as 1 (R300, Table 9.8). -/
def AUDIO.XP_CFG_ZC_TIMEOUT : Field := ⟨.audio, 0x44, 0, 7, .const 0xa⟩
/-- dB below full scale, 60 to 120 (R300, Table 9.8). -/
def AUDIO.DET_CFG_SIL_LEVEL : Field := ⟨.audio, 0x48, 0, 7, .const 0x5a⟩
/-- Seconds, 1 to 255 (R300, Table 9.8). -/
def AUDIO.DET_CFG_SIL_TIME : Field := ⟨.audio, 0x48, 8, 8, .const 0xa⟩
/-- 1 to 15 (R300, Table 9.8). -/
def AUDIO.DET_CFG_OVL_SAMPLES : Field := ⟨.audio, 0x48, 16, 4, .const 3⟩
/-- First destination (R300, Table 9.8). -/
def AUDIO.XP_REQ_DST : Field := ⟨.audio, 0x60, 0, 15, .const 0⟩
/-- Destinations - 1 (R300, Table 9.8). -/
def AUDIO.XP_REQ_COUNT : Field := ⟨.audio, 0x60, 16, 6, .const 0⟩
/-- Hold; act at XP_AT (R300, Table 9.8). -/
def AUDIO.XP_REQ_BATCH : Field := ⟨.audio, 0x60, 24, 1, .const 0⟩
/-- Hold; act at XP_AT (R300, Table 9.8). -/
def AUDIO.XP_REQ_TIMED : Field := ⟨.audio, 0x60, 25, 1, .const 0⟩
/-- Submit; reads 0 (R300, Table 9.8). -/
def AUDIO.XP_REQ_GO : Field := ⟨.audio, 0x60, 31, 1, .const 0⟩
/-- Commit or discard held requests (R300, Table 9.8). -/
def AUDIO.XP_GO_GO : Field := ⟨.audio, 0x64, 0, 1, .const 0⟩
/-- Commit or discard held requests (R300, Table 9.8). -/
def AUDIO.XP_GO_ABORT : Field := ⟨.audio, 0x64, 1, 1, .const 0⟩
/-- Ledger code (R300, Table 9.8). -/
def AUDIO.XP_RESP_CODE : Field := ⟨.audio, 0x70, 0, 8, .const 0⟩
/-- First failing held request (R300, Table 9.8). -/
def AUDIO.XP_RESP_INDEX : Field := ⟨.audio, 0x70, 8, 12, .const 0⟩
/-- Decided; being decided, GO ignored (R300, Table 9.8). -/
def AUDIO.XP_RESP_DONE : Field := ⟨.audio, 0x70, 24, 1, .const 0⟩
/-- Decided; being decided, GO ignored (R300, Table 9.8). -/
def AUDIO.XP_RESP_BUSY : Field := ⟨.audio, 0x70, 25, 1, .const 0⟩
/-- First far-side channel under R290 (R300, Table 9.8). -/
def AUDIO.SRU_IMG_FIRST : Field := ⟨.audio, 0x40, 0, 15, .const 0⟩
/-- First far-side channel under R290 (R300, Table 9.8). -/
def AUDIO.SRU_FIRST : Field := ⟨.audio, 0x400, 0, 15, .const 0⟩
/-- Channels - 1 (R300, Table 9.8). -/
def AUDIO.SRU_IMG_NCH : Field := ⟨.audio, 0x40, 16, 5, .const 0⟩
/-- Channels - 1 (R300, Table 9.8). -/
def AUDIO.SRU_NCH : Field := ⟨.audio, 0x400, 16, 5, .const 0⟩
/-- 0 off, 1 IN, 2 OUT (R300, Table 9.8). -/
def AUDIO.SRU_IMG_MODE : Field := ⟨.audio, 0x40, 21, 2, .const 0⟩
/-- 0 off, 1 IN, 2 OUT (R300, Table 9.8). -/
def AUDIO.SRU_MODE : Field := ⟨.audio, 0x400, 21, 2, .const 0⟩
/-- 0 44.1, 1 48, 2 88.2, 3 96, 4 192 kHz (R300, Table 9.8). -/
def AUDIO.SRU_IMG_FAR_RATE : Field := ⟨.audio, 0x40, 24, 3, .const 1⟩
/-- 0 44.1, 1 48, 2 88.2, 3 96, 4 192 kHz (R300, Table 9.8). -/
def AUDIO.SRU_FAR_RATE : Field := ⟨.audio, 0x400, 24, 3, .const 1⟩
/-- Matrix side at 96 kHz (R300, Table 9.8). -/
def AUDIO.SRU_IMG_HIRATE : Field := ⟨.audio, 0x40, 27, 1, .const 0⟩
/-- Matrix side at 96 kHz (R300, Table 9.8). -/
def AUDIO.SRU_HIRATE : Field := ⟨.audio, 0x400, 27, 1, .const 0⟩
/-- 1: run (R300, Table 9.8). -/
def AUDIO.SRU_IMG_VALID : Field := ⟨.audio, 0x40, 31, 1, .const 0⟩
/-- 1: run (R300, Table 9.8). -/
def AUDIO.SRU_VALID : Field := ⟨.audio, 0x400, 31, 1, .const 0⟩
/-- 0 IDLE, 1 ACQUIRE, 2 LOCK, 3 LOST (R300, Table 9.8). -/
def AUDIO.SRU_STATE : Field := ⟨.audio, 0x404, 0, 2, .const 0⟩
/-- Far rate / matrix rate, unsigned, 28 fraction bits (R300, Table 9.8). -/
def AUDIO.SRU_RATIO : Field := ⟨.audio, 0x408, 0, 32, .const 0⟩
/-- Converter for MODIFY and FREE (R300, Table 9.8). -/
def AUDIO.SRU_REQ_INDEX : Field := ⟨.audio, 0x44, 0, 8, .const 0⟩
/-- 1 ALLOC, 2 MODIFY, 3 FREE (R300, Table 9.8). -/
def AUDIO.SRU_REQ_OP : Field := ⟨.audio, 0x44, 8, 2, .const 0⟩
/-- Submit; reads 0 (R300, Table 9.8). -/
def AUDIO.SRU_REQ_GO : Field := ⟨.audio, 0x44, 31, 1, .const 0⟩
/-- Code; converter assigned (R300, Table 9.8). -/
def AUDIO.SRU_RESP_CODE : Field := ⟨.audio, 0x48, 0, 8, .const 0⟩
/-- Code; converter assigned (R300, Table 9.8). -/
def AUDIO.SRU_RESP_INDEX : Field := ⟨.audio, 0x48, 8, 8, .const 0⟩
/-- As XP_RESP (R300, Table 9.8). -/
def AUDIO.SRU_RESP_DONE : Field := ⟨.audio, 0x48, 24, 1, .const 0⟩
/-- As XP_RESP (R300, Table 9.8). -/
def AUDIO.SRU_RESP_BUSY : Field := ⟨.audio, 0x48, 25, 1, .const 0⟩
/-- Inputs requested, 0 to 64 (R300, Table 9.8). -/
def AUDIO.MIX_REQ_BUS : Field := ⟨.audio, 0x40, 0, 9, .const 0⟩
/-- Inputs requested, 0 to 64 (R300, Table 9.8). -/
def AUDIO.MIX_REQ_NIN : Field := ⟨.audio, 0x40, 16, 7, .const 0⟩
/-- Inputs requested, 0 to 64 (R300, Table 9.8). -/
def AUDIO.MIX_REQ_GO : Field := ⟨.audio, 0x40, 31, 1, .const 0⟩
/-- As XP_RESP (R300, Table 9.8). -/
def AUDIO.MIX_RESP_CODE : Field := ⟨.audio, 0x44, 0, 8, .const 0⟩
/-- As XP_RESP (R300, Table 9.8). -/
def AUDIO.MIX_RESP_DONE : Field := ⟨.audio, 0x44, 24, 1, .const 0⟩
/-- As XP_RESP (R300, Table 9.8). -/
def AUDIO.MIX_RESP_BUSY : Field := ⟨.audio, 0x44, 25, 1, .const 0⟩
/-- Apply the mix input area (R300, Table 9.8). -/
def AUDIO.MIX_CTL_COMMIT : Field := ⟨.audio, 0x48, 0, 1, .const 0⟩
/-- First pool input (R300, Table 9.8). -/
def AUDIO.MB_FIRST : Field := ⟨.audio, 0x400, 0, 13, .const 0⟩
/-- Inputs, 0 to 64 (R300, Table 9.8). -/
def AUDIO.MB_NIN : Field := ⟨.audio, 0x400, 16, 7, .const 0⟩
/-- Bus gain, as W1.GAIN (R300, Table 9.8). -/
def AUDIO.MB_GAIN : Field := ⟨.audio, 0x404, 0, 16, .const 0⟩
/-- 1: bus muted (R300, Table 9.8). -/
def AUDIO.MB_MUTE : Field := ⟨.audio, 0x404, 16, 1, .const 0⟩
/-- First channel; 0 source, 1 destination (R300, Table 9.8). -/
def AUDIO.LM_FIRST : Field := ⟨.audio, 0x400, 0, 15, .const 0⟩
/-- First channel; 0 source, 1 destination (R300, Table 9.8). -/
def AUDIO.LM_SIDE : Field := ⟨.audio, 0x400, 15, 1, .const 0⟩
/-- Channels - 1; enable (R300, Table 9.8). -/
def AUDIO.LM_NCH : Field := ⟨.audio, 0x400, 16, 3, .const 0⟩
/-- Channels - 1; enable (R300, Table 9.8). -/
def AUDIO.LM_EN : Field := ⟨.audio, 0x400, 31, 1, .const 0⟩
/-- 2 bits per channel: 0 excluded, 1 1.0, 2 1.41 (R300, Table 9.8). -/
def AUDIO.LM_WEIGHTS : Field := ⟨.audio, 0x404, 0, 16, .const 0x5555⟩
/-- Reset integrated, range and true peak (R300, Table 9.8). -/
def AUDIO.LM_RESET_INT : Field := ⟨.audio, 0x408, 0, 1, .const 0⟩
/-- LUFS, 0.1 LU, two's complement (R300, Table 9.8). -/
def AUDIO.LM_MOMENTARY : Field := ⟨.audio, 0x40C, 0, 16, .const 0x8000⟩
/-- LUFS, 0.1 LU, two's complement (R300, Table 9.8). -/
def AUDIO.LM_SHORT : Field := ⟨.audio, 0x40C, 16, 16, .const 0x8000⟩
/-- As W3 (R300, Table 9.8). -/
def AUDIO.LM_INTEGRATED : Field := ⟨.audio, 0x410, 0, 16, .const 0x8000⟩
/-- LU, 0.1 steps (R300, Table 9.8). -/
def AUDIO.LM_RANGE : Field := ⟨.audio, 0x410, 16, 16, .const 0⟩
/-- dBTP, 0.1 dB, two's complement (R300, Table 9.8). -/
def AUDIO.LM_TRUE_PEAK : Field := ⟨.audio, 0x414, 0, 16, .const 0x8000⟩
/-- Integration time (R300, Table 9.8). -/
def AUDIO.LM_SECONDS : Field := ⟨.audio, 0x418, 0, 32, .const 0⟩
/-- Hz, 10 to 20,000 (R300, Table 9.8). -/
def AUDIO.TONE_FREQ : Field := ⟨.audio, 0x400, 0, 15, .const 0x3e8⟩
/-- 0.1 dB below full scale, 0 to 1,023 (R300, Table 9.8). -/
def AUDIO.TONE_LEVEL : Field := ⟨.audio, 0x400, 16, 10, .const 0xb4⟩
/-- 0 off, 1 sine, 2 interrupted (R300, Table 9.8). -/
def AUDIO.TONE_MODE : Field := ⟨.audio, 0x400, 26, 2, .const 0⟩
/-- Entry image, W0 to W2 (R300, Table 9.7). -/
def AUDIO.XP_IMG_WORD : Field := ⟨.audio, 0x50, 0, 32, .const 0⟩
/-- Timed instant: system seconds [31:0] (R300, Table 9.7). -/
def AUDIO.XP_AT_S_SECONDS : Field := ⟨.audio, 0x68, 0, 32, .const 0⟩
/-- Timed instant: nanoseconds (R300, Table 9.7). -/
def AUDIO.XP_AT_NS_NS : Field := ⟨.audio, 0x6C, 0, 30, .const 0⟩
/-- Channel of the latest event (R300, Table 9.7). -/
def AUDIO.EVT_CH_CH : Field := ⟨.audio, 0x74, 0, 15, .const 0⟩
/-- 0 source, 1 destination (R300, Table 9.7). -/
def AUDIO.EVT_CH_SIDE : Field := ⟨.audio, 0x74, 15, 1, .const 0⟩
/-- Header counter; saturating (R300). -/
def AUDIO.CNT_OVERLOADS : Field := ⟨.audio, 0x28, 0, 32, .const 0⟩
/-- Header counter; saturating (R300). -/
def AUDIO.CNT_ZC_TIMEOUTS : Field := ⟨.audio, 0x2C, 0, 32, .const 0⟩
/-- Header counter; saturating (R300). -/
def AUDIO.CNT_HALF_SWAPS : Field := ⟨.audio, 0x30, 0, 32, .const 0⟩
/-- Header counter; saturating (R300). -/
def AUDIO.CNT_NONPCM_MUTES : Field := ⟨.audio, 0x34, 0, 32, .const 0⟩
/-- EVT_STAT [0]: Selected half changed (R300, Table 9.8). -/
abbrev AUDIO.EV_HALF_SWAP : Nat := 0
/-- EVT_STAT [1]: Under R298 (R300, Table 9.8). -/
abbrev AUDIO.EV_HALF_MISMATCH : Nat := 1
/-- EVT_STAT [2]: Silence began or ended (R300, Table 9.8). -/
abbrev AUDIO.EV_SIL_CHG : Nat := 2
/-- EVT_STAT [3]: Overload (R300, Table 9.8). -/
abbrev AUDIO.EV_OVL : Nat := 3
/-- EVT_STAT [4]: Pair state changed (R300, Table 9.8). -/
abbrev AUDIO.EV_NONPCM_CHG : Nat := 4
/-- EVT_STAT [5]: Converter state changed (R300, Table 9.8). -/
abbrev AUDIO.EV_SRU_CHG : Nat := 5
/-- EVT_STAT [6]: Under R281 (R300, Table 9.8). -/
abbrev AUDIO.EV_ZC_TIMEOUT : Nat := 6
/-- EVT_STAT [7]: Under R289 (R300, Table 9.8). -/
abbrev AUDIO.EV_POOL_FAULT : Nat := 7
/-- Fields of the AUDIO page, part 0. -/
def AUDIO.layout0 : List LayoutRow := [
  ⟨AUDIO.ENG_STAT_SEL, 0, 1, .ro, 0, 0⟩,
  ⟨AUDIO.ENG_STAT_A_RUN, 0, 1, .ro, 0, 0⟩,
  ⟨AUDIO.ENG_STAT_B_RUN, 0, 1, .ro, 0, 0⟩,
  ⟨AUDIO.ENG_STAT_POOL_USED, 0, 1, .ro, 0, 0⟩,
  ⟨AUDIO.XP_CFG_ZC_TIMEOUT, 0, 1, .rw, 0, 0⟩,
  ⟨AUDIO.DET_CFG_SIL_LEVEL, 0, 1, .rw, 0, 0⟩,
  ⟨AUDIO.DET_CFG_SIL_TIME, 0, 1, .rw, 0, 0⟩,
  ⟨AUDIO.DET_CFG_OVL_SAMPLES, 0, 1, .rw, 0, 0⟩,
  ⟨AUDIO.XP_REQ_DST, 0, 1, .rw, 0, 0⟩,
  ⟨AUDIO.XP_REQ_COUNT, 0, 1, .rw, 0, 0⟩,
  ⟨AUDIO.XP_REQ_BATCH, 0, 1, .rw, 0, 0⟩,
  ⟨AUDIO.XP_REQ_TIMED, 0, 1, .rw, 0, 0⟩,
  ⟨AUDIO.XP_REQ_GO, 0, 1, .w1s, 0, 0⟩,
  ⟨AUDIO.XP_GO_GO, 0, 1, .w1s, 0, 0⟩,
  ⟨AUDIO.XP_GO_ABORT, 0, 1, .w1s, 0, 0⟩,
  ⟨AUDIO.XP_RESP_CODE, 0, 1, .ro, 0, 0⟩,
  ⟨AUDIO.XP_RESP_INDEX, 0, 1, .ro, 0, 0⟩,
  ⟨AUDIO.XP_RESP_DONE, 0, 1, .ro, 0, 0⟩,
  ⟨AUDIO.XP_RESP_BUSY, 0, 1, .ro, 0, 0⟩,
  ⟨AUDIO.SRU_IMG_FIRST, 0, 1, .rw, 1, 1⟩]
/-- Fields of the AUDIO page, part 1. -/
def AUDIO.layout1 : List LayoutRow := [
  ⟨AUDIO.SRU_FIRST, 16, 128, .ro, 2, 3⟩,
  ⟨AUDIO.SRU_IMG_NCH, 0, 1, .rw, 1, 1⟩,
  ⟨AUDIO.SRU_NCH, 16, 128, .ro, 2, 3⟩,
  ⟨AUDIO.SRU_IMG_MODE, 0, 1, .rw, 1, 1⟩,
  ⟨AUDIO.SRU_MODE, 16, 128, .ro, 2, 3⟩,
  ⟨AUDIO.SRU_IMG_FAR_RATE, 0, 1, .rw, 1, 1⟩,
  ⟨AUDIO.SRU_FAR_RATE, 16, 128, .ro, 2, 3⟩,
  ⟨AUDIO.SRU_IMG_HIRATE, 0, 1, .rw, 1, 1⟩,
  ⟨AUDIO.SRU_HIRATE, 16, 128, .ro, 2, 3⟩,
  ⟨AUDIO.SRU_IMG_VALID, 0, 1, .rw, 1, 1⟩,
  ⟨AUDIO.SRU_VALID, 16, 128, .ro, 2, 3⟩,
  ⟨AUDIO.SRU_STATE, 16, 128, .ro, 2, 3⟩,
  ⟨AUDIO.SRU_RATIO, 16, 128, .ro, 2, 3⟩,
  ⟨AUDIO.SRU_REQ_INDEX, 0, 1, .rw, 1, 1⟩,
  ⟨AUDIO.SRU_REQ_OP, 0, 1, .rw, 1, 1⟩,
  ⟨AUDIO.SRU_REQ_GO, 0, 1, .w1s, 1, 1⟩,
  ⟨AUDIO.SRU_RESP_CODE, 0, 1, .ro, 1, 1⟩,
  ⟨AUDIO.SRU_RESP_INDEX, 0, 1, .ro, 1, 1⟩,
  ⟨AUDIO.SRU_RESP_DONE, 0, 1, .ro, 1, 1⟩,
  ⟨AUDIO.SRU_RESP_BUSY, 0, 1, .ro, 1, 1⟩]
/-- Fields of the AUDIO page, part 2. -/
def AUDIO.layout2 : List LayoutRow := [
  ⟨AUDIO.MIX_REQ_BUS, 0, 1, .rw, 4, 4⟩,
  ⟨AUDIO.MIX_REQ_NIN, 0, 1, .rw, 4, 4⟩,
  ⟨AUDIO.MIX_REQ_GO, 0, 1, .w1s, 4, 4⟩,
  ⟨AUDIO.MIX_RESP_CODE, 0, 1, .ro, 4, 4⟩,
  ⟨AUDIO.MIX_RESP_DONE, 0, 1, .ro, 4, 4⟩,
  ⟨AUDIO.MIX_RESP_BUSY, 0, 1, .ro, 4, 4⟩,
  ⟨AUDIO.MIX_CTL_COMMIT, 0, 1, .w1s, 4, 4⟩,
  ⟨AUDIO.MB_FIRST, 8, 256, .ro, 4, 5⟩,
  ⟨AUDIO.MB_NIN, 8, 256, .ro, 4, 5⟩,
  ⟨AUDIO.MB_GAIN, 8, 256, .rws, 4, 5⟩,
  ⟨AUDIO.MB_MUTE, 8, 256, .rws, 4, 5⟩,
  ⟨AUDIO.LM_FIRST, 32, 64, .rws, 6, 6⟩,
  ⟨AUDIO.LM_SIDE, 32, 64, .rws, 6, 6⟩,
  ⟨AUDIO.LM_NCH, 32, 64, .rws, 6, 6⟩,
  ⟨AUDIO.LM_EN, 32, 64, .rws, 6, 6⟩,
  ⟨AUDIO.LM_WEIGHTS, 32, 64, .rws, 6, 6⟩,
  ⟨AUDIO.LM_RESET_INT, 32, 64, .w1s, 6, 6⟩,
  ⟨AUDIO.LM_MOMENTARY, 32, 64, .ro, 6, 6⟩,
  ⟨AUDIO.LM_SHORT, 32, 64, .ro, 6, 6⟩,
  ⟨AUDIO.LM_INTEGRATED, 32, 64, .ro, 6, 6⟩]
/-- Fields of the AUDIO page, part 3. -/
def AUDIO.layout3 : List LayoutRow := [
  ⟨AUDIO.LM_RANGE, 32, 64, .ro, 6, 6⟩,
  ⟨AUDIO.LM_TRUE_PEAK, 32, 64, .ro, 6, 6⟩,
  ⟨AUDIO.LM_SECONDS, 32, 64, .ro, 6, 6⟩,
  ⟨AUDIO.TONE_FREQ, 4, 512, .rws, 7, 7⟩,
  ⟨AUDIO.TONE_LEVEL, 4, 512, .rws, 7, 7⟩,
  ⟨AUDIO.TONE_MODE, 4, 512, .rws, 7, 7⟩,
  ⟨AUDIO.XP_IMG_WORD, 4, 3, .rw, 0, 0⟩,
  ⟨AUDIO.XP_AT_S_SECONDS, 0, 1, .rw, 0, 0⟩,
  ⟨AUDIO.XP_AT_NS_NS, 0, 1, .rw, 0, 0⟩,
  ⟨AUDIO.EVT_CH_CH, 0, 1, .ro, 0, 0⟩,
  ⟨AUDIO.EVT_CH_SIDE, 0, 1, .ro, 0, 0⟩,
  ⟨AUDIO.CNT_OVERLOADS, 0, 1, .ro, 0, 0⟩,
  ⟨AUDIO.CNT_ZC_TIMEOUTS, 0, 1, .ro, 0, 0⟩,
  ⟨AUDIO.CNT_HALF_SWAPS, 0, 1, .ro, 0, 0⟩,
  ⟨AUDIO.CNT_NONPCM_MUTES, 0, 1, .ro, 0, 0⟩]
/-- The fields of the AUDIO page with their access codes. -/
def AUDIO.layout : List LayoutRow := AUDIO.layout0 ++ AUDIO.layout1 ++ AUDIO.layout2 ++ AUDIO.layout3

/-- Source channel; ignored while FOLLOW applies (R274, Table 9.2). -/
def XPT.W0_SRC : Field := ⟨.xpt, 0x0, 0, 15, .const 0⟩
/-- 1: routed; 0: the channel carries 0 (R274, Table 9.2). -/
def XPT.W0_VALID : Field := ⟨.xpt, 0x0, 15, 1, .below 6144 1⟩
/-- 1: take the audio of the VO's video source under R278 (R274, Table 9.2). -/
def XPT.W0_FOLLOW : Field := ⟨.xpt, 0x0, 16, 1, .below 6144 1⟩
/-- 1: invert (R274, Table 9.2). -/
def XPT.W0_POLARITY : Field := ⟨.xpt, 0x0, 17, 1, .const 0⟩
/-- 1: muted under R282 (R274, Table 9.2). -/
def XPT.W0_MUTE : Field := ⟨.xpt, 0x0, 18, 1, .const 0⟩
/-- 1: 96 kHz pair; d must be even (R274, Table 9.2). -/
def XPT.W0_HIRATE : Field := ⟨.xpt, 0x0, 19, 1, .const 0⟩
/-- 1: gain, mute and delay changes wait for a zero crossing (R274, Table 9.2). -/
def XPT.W0_ZC : Field := ⟨.xpt, 0x0, 20, 1, .const 0⟩
/-- Ramp and crossfade time in ms, 0 to 255 (R274, Table 9.2). -/
def XPT.W0_RAMP : Field := ⟨.xpt, 0x0, 21, 8, .const 0xa⟩
/-- 0.01 dB steps, two's complement, -12,000 to +2,400; below -12,000 is off; above +2,400 is clamped (R274, Table 9.2). -/
def XPT.W1_GAIN : Field := ⟨.xpt, 0x4, 0, 16, .const 0⟩
/-- Delay in 48 kHz sample periods, 0 to 96,000 (R274, Table 9.2). -/
def XPT.W2_DELAY : Field := ⟨.xpt, 0x8, 0, 17, .const 0⟩
/-- Long-delay pool in use (R274, Table 9.2). -/
def XPT.W2_LONG : Field := ⟨.xpt, 0x8, 31, 1, .const 0⟩
/-- Source channel resolved and in use (R274, Table 9.2). -/
def XPT.W3_RSRC : Field := ⟨.xpt, 0xC, 0, 15, .const 0⟩
/-- Source pair carries ST 337 (R274, Table 9.2). -/
def XPT.W3_NONPCM : Field := ⟨.xpt, 0xC, 15, 1, .const 0⟩
/-- Long-delay channel used, 0 to 4,095; 0x1FFF none (R274, Table 9.2). -/
def XPT.W3_POOL : Field := ⟨.xpt, 0xC, 16, 13, .const 0x1fff⟩
/-- Fields of the XPT page, part 0. -/
def XPT.layout0 : List LayoutRow := [
  ⟨XPT.W0_SRC, 0, 1, .ro, 0, 262143⟩,
  ⟨XPT.W0_VALID, 0, 1, .ro, 0, 262143⟩,
  ⟨XPT.W0_FOLLOW, 0, 1, .ro, 0, 262143⟩,
  ⟨XPT.W0_POLARITY, 0, 1, .ro, 0, 262143⟩,
  ⟨XPT.W0_MUTE, 0, 1, .ro, 0, 262143⟩,
  ⟨XPT.W0_HIRATE, 0, 1, .ro, 0, 262143⟩,
  ⟨XPT.W0_ZC, 0, 1, .ro, 0, 262143⟩,
  ⟨XPT.W0_RAMP, 0, 1, .ro, 0, 262143⟩,
  ⟨XPT.W1_GAIN, 0, 1, .ro, 0, 262143⟩,
  ⟨XPT.W2_DELAY, 0, 1, .ro, 0, 262143⟩,
  ⟨XPT.W2_LONG, 0, 1, .ro, 0, 262143⟩,
  ⟨XPT.W3_RSRC, 0, 1, .ro, 0, 262143⟩,
  ⟨XPT.W3_NONPCM, 0, 1, .ro, 0, 262143⟩,
  ⟨XPT.W3_POOL, 0, 1, .ro, 0, 262143⟩]
/-- The fields of the XPT page with their access codes. -/
def XPT.layout : List LayoutRow := XPT.layout0

/-- Mix input entry j (R292, Table 9.8). -/
def MIXIN.W0_SRC : Field := ⟨.mixin, 0x0, 0, 15, .const 0⟩
/-- Mix input entry j (R292, Table 9.8). -/
def MIXIN.W0_POLARITY : Field := ⟨.mixin, 0x0, 15, 1, .const 0⟩
/-- Mix input entry j (R292, Table 9.8). -/
def MIXIN.W0_MUTE : Field := ⟨.mixin, 0x0, 16, 1, .const 0⟩
/-- Mix input entry j (R292, Table 9.8). -/
def MIXIN.W1_GAIN : Field := ⟨.mixin, 0x4, 0, 16, .const 0⟩
/-- Fields of the MIXIN page, part 0. -/
def MIXIN.layout0 : List LayoutRow := [
  ⟨MIXIN.W0_SRC, 0, 1, .rw, 0, 262143⟩,
  ⟨MIXIN.W0_POLARITY, 0, 1, .rw, 0, 262143⟩,
  ⟨MIXIN.W0_MUTE, 0, 1, .rw, 0, 262143⟩,
  ⟨MIXIN.W1_GAIN, 0, 1, .rw, 0, 262143⟩]
/-- The fields of the MIXIN page with their access codes. -/
def MIXIN.layout : List LayoutRow := MIXIN.layout0

/-- Source status bit of channel c, audio window (R300). -/
def ASTAT.SRC_SILENT : Field := ⟨.astat, 0x0, 0, 1, .const 0⟩
/-- Source status bit of channel c, audio window (R300). -/
def ASTAT.SRC_OVERLOAD : Field := ⟨.astat, 0x4, 0, 1, .const 0⟩
/-- Source status bit of channel c, audio window (R300). -/
def ASTAT.SRC_NONPCM : Field := ⟨.astat, 0x8, 0, 1, .const 0⟩
/-- Source status bit of channel c, audio window (R300). -/
def ASTAT.SRC_ASYNC : Field := ⟨.astat, 0xC, 0, 1, .const 0⟩
/-- Fields of the ASTAT page, part 0. -/
def ASTAT.layout0 : List LayoutRow := [
  ⟨ASTAT.SRC_SILENT, 0, 1, .ro, 0, 262143⟩,
  ⟨ASTAT.SRC_OVERLOAD, 0, 1, .ro, 0, 262143⟩,
  ⟨ASTAT.SRC_NONPCM, 0, 1, .ro, 0, 262143⟩,
  ⟨ASTAT.SRC_ASYNC, 0, 1, .ro, 0, 262143⟩]
/-- The fields of the ASTAT page with their access codes. -/
def ASTAT.layout : List LayoutRow := ASTAT.layout0

/-- 0 OFF, 1 I^2S, 2 TDM, 3 AES3 (R321, Table 10.6). -/
def APORT.PORT_CFG_MODE : Field := ⟨.aport, 0x40, 0, 2, .const 0⟩
/-- 0 slave, 1 master (R321, Table 10.6). -/
def APORT.PORT_CFG_ROLE : Field := ⟨.aport, 0x40, 2, 1, .const 0⟩
/-- 0 44.1, 1 48, 2 88.2, 3 96, 4 192 kHz (R321, Table 10.6). -/
def APORT.PORT_CFG_RATE : Field := ⟨.aport, 0x40, 4, 3, .const 1⟩
/-- Slots - 1, 1 to 31 (R321, Table 10.6). -/
def APORT.PORT_CFG_SLOTS : Field := ⟨.aport, 0x40, 8, 5, .const 1⟩
/-- 0 16, 1 24, 2 32 bits (R321, Table 10.6). -/
def APORT.PORT_CFG_WIDTH : Field := ⟨.aport, 0x40, 14, 2, .const 1⟩
/-- 1: invert FS (R321, Table 10.6). -/
def APORT.PORT_CFG_FS_POL : Field := ⟨.aport, 0x40, 16, 1, .const 0⟩
/-- TDM: 0 one BCLK, 1 one slot (R321, Table 10.6). -/
def APORT.PORT_CFG_FS_PULSE : Field := ⟨.aport, 0x40, 17, 1, .const 0⟩
/-- TDM: data delay of 0 or 1 BCLK (R321, Table 10.6). -/
def APORT.PORT_CFG_DELAY : Field := ⟨.aport, 0x40, 18, 1, .const 1⟩
/-- 0: drive on falling, sample on rising; 1: the reverse (R321, Table 10.6). -/
def APORT.PORT_CFG_BCLK_EDGE : Field := ⟨.aport, 0x40, 19, 1, .const 0⟩
/-- Direction enabled (R321, Table 10.6). -/
def APORT.PORT_CFG_RX_EN : Field := ⟨.aport, 0x40, 20, 1, .const 0⟩
/-- Direction enabled (R321, Table 10.6). -/
def APORT.PORT_CFG_TX_EN : Field := ⟨.aport, 0x40, 21, 1, .const 0⟩
/-- Under R309 (R321, Table 10.6). -/
def APORT.PORT_CFG_SYNC_DECL : Field := ⟨.aport, 0x40, 22, 1, .const 0⟩
/-- 0 none, 1 to 8 (R321, Table 10.6). -/
def APORT.PORT_CFG_GROUP : Field := ⟨.aport, 0x40, 24, 4, .const 0⟩
/-- Synthesiser output, 0 to 5 (R321, Table 10.6). -/
def APORT.CLK_CFG_OUT : Field := ⟨.aport, 0x44, 0, 3, .const 0⟩
/-- 0 TS10, 1 TS11 (R321, Table 10.6). -/
def APORT.CLK_CFG_SYN : Field := ⟨.aport, 0x44, 3, 1, .const 0⟩
/-- 1 to 255; 0 is treated as 1 (R321, Table 10.6). -/
def APORT.CLK_CFG_BCLK_DIV : Field := ⟨.aport, 0x44, 8, 8, .const 0x10⟩
/-- 0.01 dB steps, two's complement, -6,000 to +1,200 (R321, Table 10.6). -/
def APORT.TRIM_GAIN : Field := ⟨.aport, 0x48, 0, 16, .const 0⟩
/-- ms, 1 to 100; 0 is treated as 1 (R321, Table 10.6). -/
def APORT.ZC_CFG_TIMEOUT : Field := ⟨.aport, 0x4C, 0, 7, .const 0xa⟩
/-- Pending slot masks (R321, Table 10.6). -/
def APORT.TX_MASK_MASK : Field := ⟨.aport, 0x50, 0, 32, .const 3⟩
/-- Pending slot masks (R321, Table 10.6). -/
def APORT.RX_MASK_MASK : Field := ⟨.aport, 0x54, 0, 32, .const 3⟩
/-- Slot masks in use (R321, Table 10.6). -/
def APORT.TX_ACTIVE_MASK : Field := ⟨.aport, 0x58, 0, 32, .const 0⟩
/-- Slot masks in use (R321, Table 10.6). -/
def APORT.RX_ACTIVE_MASK : Field := ⟨.aport, 0x5C, 0, 32, .const 0⟩
/-- 0 OFF, 1 ARMED, 2 HOLD, 3 RAMP, 4 RUN, 5 FADE, 6 STOP (R321, Table 10.6). -/
def APORT.PORT_STAT_RX_STATE : Field := ⟨.aport, 0x60, 0, 3, .const 0⟩
/-- 0 OFF, 1 ARMED, 2 HOLD, 3 RAMP, 4 RUN, 5 FADE, 6 STOP (R321, Table 10.6). -/
def APORT.PORT_STAT_TX_STATE : Field := ⟨.aport, 0x60, 4, 3, .const 0⟩
/-- Clock present and framing correct (R321, Table 10.6). -/
def APORT.PORT_STAT_CLK_OK : Field := ⟨.aport, 0x60, 8, 1, .const 0⟩
/-- 1: class SYNC (R321, Table 10.6). -/
def APORT.PORT_STAT_SYNC : Field := ⟨.aport, 0x60, 9, 1, .const 0⟩
/-- FIFO fill, 0 to 16 (R321, Table 10.6). -/
def APORT.PORT_STAT_RX_FILL : Field := ⟨.aport, 0x60, 16, 5, .const 0⟩
/-- FIFO fill, 0 to 16 (R321, Table 10.6). -/
def APORT.PORT_STAT_TX_FILL : Field := ⟨.aport, 0x60, 24, 5, .const 0⟩
/-- FS against RATE, 0.01 ppm, two's complement (R321, Table 10.6). -/
def APORT.FS_MEAS_OFFSET : Field := ⟨.aport, 0x64, 0, 24, .const 0⟩
/-- Slave or AES3 receive with clock present (R321, Table 10.6). -/
def APORT.FS_MEAS_VALID : Field := ⟨.aport, 0x64, 31, 1, .const 0⟩
/-- Group index of the current frame; wraps (R321, Table 10.6). -/
def APORT.GROUP_IDX_INDEX : Field := ⟨.aport, 0x68, 0, 32, .const 0⟩
/-- Samples discarded, or inserted if negative; two's complement (R321, Table 10.6). -/
def APORT.LAST_REALIGN_RX : Field := ⟨.aport, 0x6C, 0, 8, .const 0⟩
/-- Samples discarded, or inserted if negative; two's complement (R321, Table 10.6). -/
def APORT.LAST_REALIGN_TX : Field := ⟨.aport, 0x6C, 8, 8, .const 0⟩
/-- 0 register, 1 APSTART, 2 GPIO (R321, Table 10.6). -/
def APORT.GRP_CTL_TRIG : Field := ⟨.aport, 0x200, 0, 2, .const 0⟩
/-- GPIO pin, 0 to 31 (R321, Table 10.6). -/
def APORT.GRP_CTL_GPIO : Field := ⟨.aport, 0x200, 4, 5, .const 0⟩
/-- Read 0 (R321, Table 10.6). -/
def APORT.GRP_CTL_ARM : Field := ⟨.aport, 0x200, 16, 1, .const 0⟩
/-- Read 0 (R321, Table 10.6). -/
def APORT.GRP_CTL_DISARM : Field := ⟨.aport, 0x200, 17, 1, .const 0⟩
/-- Read 0 (R321, Table 10.6). -/
def APORT.GRP_CTL_GO : Field := ⟨.aport, 0x200, 18, 1, .const 0⟩
/-- Group state (R321, Table 10.6). -/
def APORT.GRP_CTL_ARMED : Field := ⟨.aport, 0x200, 24, 1, .const 0⟩
/-- Group state (R321, Table 10.6). -/
def APORT.GRP_CTL_RUNNING : Field := ⟨.aport, 0x200, 25, 1, .const 0⟩
/-- Group index; wraps (R321, Table 10.6). -/
def APORT.GRP_IDX_INDEX : Field := ⟨.aport, 0x240, 0, 32, .const 0⟩
/-- As CLK_CFG (R321, Table 10.6). -/
def APORT.AMCLK_CFG_OUT : Field := ⟨.aport, 0x280, 0, 3, .const 0⟩
/-- As CLK_CFG (R321, Table 10.6). -/
def APORT.AMCLK_CFG_SYN : Field := ⟨.aport, 0x280, 3, 1, .const 0⟩
/-- 1 to 63 divide by their value; 0 divides by 64 (R321, Table 10.6). -/
def APORT.AMCLK_CFG_DIV : Field := ⟨.aport, 0x280, 8, 6, .const 0x10⟩
/-- 1: output running (R321, Table 10.6). -/
def APORT.AMCLK_CFG_EN : Field := ⟨.aport, 0x280, 16, 1, .const 0⟩
/-- Under R310 (R321, Table 10.6). -/
def APORT.AMCLK_CFG_GATED : Field := ⟨.aport, 0x280, 24, 1, .const 0⟩
/-- Header counter; saturating (R321). -/
def APORT.CNT_UNDERRUNS : Field := ⟨.aport, 0x28, 0, 32, .const 0⟩
/-- Header counter; saturating (R321). -/
def APORT.CNT_OVERRUNS : Field := ⟨.aport, 0x2C, 0, 32, .const 0⟩
/-- Header counter; saturating (R321). -/
def APORT.CNT_FRAMING_ERRS : Field := ⟨.aport, 0x30, 0, 32, .const 0⟩
/-- Header counter; saturating (R321). -/
def APORT.CNT_CLK_LOSSES : Field := ⟨.aport, 0x34, 0, 32, .const 0⟩
/-- Header counter; saturating (R321). -/
def APORT.CNT_ZC_TIMEOUTS : Field := ⟨.aport, 0x38, 0, 32, .const 0⟩
/-- EVT_STAT [0]: Transmit underrun (R321, Table 10.6). -/
abbrev APORT.EV_UNDERRUN : Nat := 0
/-- EVT_STAT [1]: Receive overrun (R321, Table 10.6). -/
abbrev APORT.EV_OVERRUN : Nat := 1
/-- EVT_STAT [2]: Framing, parity, biphase or preamble error (R321, Table 10.6). -/
abbrev APORT.EV_FRAMING : Nat := 2
/-- EVT_STAT [3]: Under R307 (R321, Table 10.6). -/
abbrev APORT.EV_CLK_LOST : Nat := 3
/-- EVT_STAT [4]: Under R307 (R321, Table 10.6). -/
abbrev APORT.EV_CLK_BACK : Nat := 4
/-- EVT_STAT [5]: Under R312 (R321, Table 10.6). -/
abbrev APORT.EV_REJOIN : Nat := 5
/-- EVT_STAT [6]: Under R313 (R321, Table 10.6). -/
abbrev APORT.EV_ZC_TIMEOUT : Nat := 6
/-- EVT_STAT [7]: Under R316 (R321, Table 10.6). -/
abbrev APORT.EV_MASK_DONE : Nat := 7
/-- EVT_STAT [8]: Under R309 (R321, Table 10.6). -/
abbrev APORT.EV_SYNC_CHG : Nat := 8
/-- EVT_STAT [9]: Under R304 (R321, Table 10.6). -/
abbrev APORT.EV_CFG_BLOCKED : Nat := 9
/-- EVT_STAT [10]: Under R315 (R321, Table 10.6). -/
abbrev APORT.EV_SELFTEST_FAIL : Nat := 10
/-- EVT_STAT [11]: APORT[0]: under R318 (R321, Table 10.6). -/
abbrev APORT.EV_TRIGGER : Nat := 11
/-- EVT_STAT [12]: APORT[0]: under R318 (R321, Table 10.6). -/
abbrev APORT.EV_TRIG_IGNORED : Nat := 12
/-- EVT_STAT [13]: APORT[0]: under R310 (R321, Table 10.6). -/
abbrev APORT.EV_AMCLK_GATED : Nat := 13
/-- Fields of the APORT page, part 0. -/
def APORT.layout0 : List LayoutRow := [
  ⟨APORT.PORT_CFG_MODE, 0, 1, .rws, 0, 262143⟩,
  ⟨APORT.PORT_CFG_ROLE, 0, 1, .rws, 0, 262143⟩,
  ⟨APORT.PORT_CFG_RATE, 0, 1, .rws, 0, 262143⟩,
  ⟨APORT.PORT_CFG_SLOTS, 0, 1, .rws, 0, 262143⟩,
  ⟨APORT.PORT_CFG_WIDTH, 0, 1, .rws, 0, 262143⟩,
  ⟨APORT.PORT_CFG_FS_POL, 0, 1, .rws, 0, 262143⟩,
  ⟨APORT.PORT_CFG_FS_PULSE, 0, 1, .rws, 0, 262143⟩,
  ⟨APORT.PORT_CFG_DELAY, 0, 1, .rws, 0, 262143⟩,
  ⟨APORT.PORT_CFG_BCLK_EDGE, 0, 1, .rws, 0, 262143⟩,
  ⟨APORT.PORT_CFG_RX_EN, 0, 1, .rws, 0, 262143⟩,
  ⟨APORT.PORT_CFG_TX_EN, 0, 1, .rws, 0, 262143⟩,
  ⟨APORT.PORT_CFG_SYNC_DECL, 0, 1, .rws, 0, 262143⟩,
  ⟨APORT.PORT_CFG_GROUP, 0, 1, .rws, 0, 262143⟩,
  ⟨APORT.CLK_CFG_OUT, 0, 1, .rws, 0, 262143⟩,
  ⟨APORT.CLK_CFG_SYN, 0, 1, .rws, 0, 262143⟩,
  ⟨APORT.CLK_CFG_BCLK_DIV, 0, 1, .rws, 0, 262143⟩,
  ⟨APORT.TRIM_GAIN, 0, 1, .rw, 0, 262143⟩,
  ⟨APORT.ZC_CFG_TIMEOUT, 0, 1, .rw, 0, 262143⟩,
  ⟨APORT.TX_MASK_MASK, 0, 1, .rw, 0, 262143⟩,
  ⟨APORT.RX_MASK_MASK, 0, 1, .rw, 0, 262143⟩]
/-- Fields of the APORT page, part 1. -/
def APORT.layout1 : List LayoutRow := [
  ⟨APORT.TX_ACTIVE_MASK, 0, 1, .ro, 0, 262143⟩,
  ⟨APORT.RX_ACTIVE_MASK, 0, 1, .ro, 0, 262143⟩,
  ⟨APORT.PORT_STAT_RX_STATE, 0, 1, .ro, 0, 262143⟩,
  ⟨APORT.PORT_STAT_TX_STATE, 0, 1, .ro, 0, 262143⟩,
  ⟨APORT.PORT_STAT_CLK_OK, 0, 1, .ro, 0, 262143⟩,
  ⟨APORT.PORT_STAT_SYNC, 0, 1, .ro, 0, 262143⟩,
  ⟨APORT.PORT_STAT_RX_FILL, 0, 1, .ro, 0, 262143⟩,
  ⟨APORT.PORT_STAT_TX_FILL, 0, 1, .ro, 0, 262143⟩,
  ⟨APORT.FS_MEAS_OFFSET, 0, 1, .ro, 0, 262143⟩,
  ⟨APORT.FS_MEAS_VALID, 0, 1, .ro, 0, 262143⟩,
  ⟨APORT.GROUP_IDX_INDEX, 0, 1, .ro, 0, 262143⟩,
  ⟨APORT.LAST_REALIGN_RX, 0, 1, .ro, 0, 262143⟩,
  ⟨APORT.LAST_REALIGN_TX, 0, 1, .ro, 0, 262143⟩,
  ⟨APORT.GRP_CTL_TRIG, 4, 8, .rw, 0, 0⟩,
  ⟨APORT.GRP_CTL_GPIO, 4, 8, .rw, 0, 0⟩,
  ⟨APORT.GRP_CTL_ARM, 4, 8, .w1s, 0, 0⟩,
  ⟨APORT.GRP_CTL_DISARM, 4, 8, .w1s, 0, 0⟩,
  ⟨APORT.GRP_CTL_GO, 4, 8, .w1s, 0, 0⟩,
  ⟨APORT.GRP_CTL_ARMED, 4, 8, .ro, 0, 0⟩,
  ⟨APORT.GRP_CTL_RUNNING, 4, 8, .ro, 0, 0⟩]
/-- Fields of the APORT page, part 2. -/
def APORT.layout2 : List LayoutRow := [
  ⟨APORT.GRP_IDX_INDEX, 4, 8, .ro, 0, 0⟩,
  ⟨APORT.AMCLK_CFG_OUT, 4, 4, .rws, 0, 0⟩,
  ⟨APORT.AMCLK_CFG_SYN, 4, 4, .rws, 0, 0⟩,
  ⟨APORT.AMCLK_CFG_DIV, 4, 4, .rws, 0, 0⟩,
  ⟨APORT.AMCLK_CFG_EN, 4, 4, .rws, 0, 0⟩,
  ⟨APORT.AMCLK_CFG_GATED, 4, 4, .ro, 0, 0⟩,
  ⟨APORT.CNT_UNDERRUNS, 0, 1, .ro, 0, 262143⟩,
  ⟨APORT.CNT_OVERRUNS, 0, 1, .ro, 0, 262143⟩,
  ⟨APORT.CNT_FRAMING_ERRS, 0, 1, .ro, 0, 262143⟩,
  ⟨APORT.CNT_CLK_LOSSES, 0, 1, .ro, 0, 262143⟩,
  ⟨APORT.CNT_ZC_TIMEOUTS, 0, 1, .ro, 0, 262143⟩]
/-- The fields of the APORT page with their access codes. -/
def APORT.layout : List LayoutRow := APORT.layout0 ++ APORT.layout1 ++ APORT.layout2

/-- 1: link enabled (R385, Table 13.7). -/
def MESH.LINK_CFG_EN : Field := ⟨.mesh, 0x40, 0, 1, .const 0⟩
/-- 0 GROUP, 1 SECOND, 2 UNUSED (R385, Table 13.7). -/
def MESH.LINK_CFG_ROLE : Field := ⟨.mesh, 0x40, 1, 2, .const 2⟩
/-- Channel group, 0 to 6 (R385, Table 13.7). -/
def MESH.LINK_CFG_GROUP : Field := ⟨.mesh, 0x40, 4, 3, .const 0⟩
/-- 0 OFF, 1 DETECT, 2 TRAIN, 3 AUTH, 4 UP, 5 DOWN (R385, Table 13.7). -/
def MESH.LINK_STAT_STATE : Field := ⟨.mesh, 0x44, 0, 3, .const 0⟩
/-- Peer member ID (R385, Table 13.7). -/
def MESH.LINK_STAT_PEER : Field := ⟨.mesh, 0x44, 4, 3, .const 0⟩
/-- Peer is MEMBER (R385, Table 13.7). -/
def MESH.LINK_STAT_PEER_VALID : Field := ⟨.mesh, 0x44, 7, 1, .const 0⟩
/-- Per lane: polarity corrected (R385, Table 13.7). -/
def MESH.LINK_STAT_LANE_INV : Field := ⟨.mesh, 0x44, 8, 8, .const 0⟩
/-- Lane order reversed (R385, Table 13.7). -/
def MESH.LINK_STAT_REVERSED : Field := ⟨.mesh, 0x44, 16, 1, .const 0⟩
/-- Lane skew, 0.1 ns steps (R385, Table 13.7). -/
def MESH.LINK_STAT_SKEW : Field := ⟨.mesh, 0x44, 17, 7, .const 0⟩
/-- Peer device identity [31:0] (R385, Table 13.7). -/
def MESH.PEER_ID_LO_ID : Field := ⟨.mesh, 0x48, 0, 32, .const 0⟩
/-- Peer device identity [63:32] (R385, Table 13.7). -/
def MESH.PEER_ID_HI_ID : Field := ⟨.mesh, 0x4C, 0, 32, .const 0⟩
/-- Charge sent, 0.1 Gbit/s steps (R385, Table 13.7). -/
def MESH.LOAD_CHARGED : Field := ⟨.mesh, 0x50, 0, 13, .const 0⟩
/-- Channels in use, 0 to 32 (R385, Table 13.7). -/
def MESH.LOAD_CHANNELS : Field := ⟨.mesh, 0x50, 16, 6, .const 0⟩
/-- One-way link delay, 0.01 ns steps (R385, Table 13.7). -/
def MESH.DELAY_NS : Field := ⟨.mesh, 0x54, 0, 20, .const 0⟩
/-- Source slot on channel k, 0 to 31 (R385, Table 13.7). -/
def MESH.CHMAP_SRC : Field := ⟨.mesh, 0x80, 0, 9, .const 0⟩
/-- Source member (R385, Table 13.7). -/
def MESH.CHMAP_MEMBER : Field := ⟨.mesh, 0x80, 9, 3, .const 0⟩
/-- Plane B copy (R385, Table 13.7). -/
def MESH.CHMAP_PLANE_B : Field := ⟨.mesh, 0x80, 12, 1, .const 0⟩
/-- Channel in use (R385, Table 13.7). -/
def MESH.CHMAP_VALID : Field := ⟨.mesh, 0x80, 31, 1, .const 0⟩
/-- Header counter; saturating (R385). -/
def MESH.CNT_FEC_CORR : Field := ⟨.mesh, 0x28, 0, 32, .const 0⟩
/-- Header counter; saturating (R385). -/
def MESH.CNT_FEC_UNCORR : Field := ⟨.mesh, 0x2C, 0, 32, .const 0⟩
/-- Header counter; saturating (R385). -/
def MESH.CNT_TRAININGS : Field := ⟨.mesh, 0x30, 0, 32, .const 0⟩
/-- Header counter; saturating (R385). -/
def MESH.CNT_REKEYS : Field := ⟨.mesh, 0x34, 0, 32, .const 0⟩
/-- Header counter; saturating (R385). -/
def MESH.CNT_CRC_DROPS : Field := ⟨.mesh, 0x38, 0, 32, .const 0⟩
/-- EVT_STAT [0]: UP entered or left (R385, Table 13.7). -/
abbrev MESH.EV_UP_CHG : Nat := 0
/-- EVT_STAT [1]: Under Table 13.1 (R385, Table 13.7). -/
abbrev MESH.EV_TRAIN_FAIL : Nat := 1
/-- EVT_STAT [2]: Under Table 13.1 (R385, Table 13.7). -/
abbrev MESH.EV_AUTH_FAIL : Nat := 2
/-- EVT_STAT [3]: Session keys changed (R385, Table 13.7). -/
abbrev MESH.EV_REKEY : Nat := 3
/-- EVT_STAT [4]: Under R376 (R385, Table 13.7). -/
abbrev MESH.EV_KEY_DROP : Nat := 4
/-- EVT_STAT [5]: Uncorrectable codeword (R385, Table 13.7). -/
abbrev MESH.EV_FEC_UNCORR : Nat := 5
/-- EVT_STAT [6]: Under R367 (R385, Table 13.7). -/
abbrev MESH.EV_CFG_BLOCKED : Nat := 6
/-- Fields of the MESH page, part 0. -/
def MESH.layout0 : List LayoutRow := [
  ⟨MESH.LINK_CFG_EN, 0, 1, .rws, 0, 262143⟩,
  ⟨MESH.LINK_CFG_ROLE, 0, 1, .rws, 0, 262143⟩,
  ⟨MESH.LINK_CFG_GROUP, 0, 1, .rws, 0, 262143⟩,
  ⟨MESH.LINK_STAT_STATE, 0, 1, .ro, 0, 262143⟩,
  ⟨MESH.LINK_STAT_PEER, 0, 1, .ro, 0, 262143⟩,
  ⟨MESH.LINK_STAT_PEER_VALID, 0, 1, .ro, 0, 262143⟩,
  ⟨MESH.LINK_STAT_LANE_INV, 0, 1, .ro, 0, 262143⟩,
  ⟨MESH.LINK_STAT_REVERSED, 0, 1, .ro, 0, 262143⟩,
  ⟨MESH.LINK_STAT_SKEW, 0, 1, .ro, 0, 262143⟩,
  ⟨MESH.PEER_ID_LO_ID, 0, 1, .ro, 0, 262143⟩,
  ⟨MESH.PEER_ID_HI_ID, 0, 1, .ro, 0, 262143⟩,
  ⟨MESH.LOAD_CHARGED, 0, 1, .ro, 0, 262143⟩,
  ⟨MESH.LOAD_CHANNELS, 0, 1, .ro, 0, 262143⟩,
  ⟨MESH.DELAY_NS, 0, 1, .ro, 0, 262143⟩,
  ⟨MESH.CHMAP_SRC, 4, 32, .ro, 0, 262143⟩,
  ⟨MESH.CHMAP_MEMBER, 4, 32, .ro, 0, 262143⟩,
  ⟨MESH.CHMAP_PLANE_B, 4, 32, .ro, 0, 262143⟩,
  ⟨MESH.CHMAP_VALID, 4, 32, .ro, 0, 262143⟩,
  ⟨MESH.CNT_FEC_CORR, 0, 1, .ro, 0, 262143⟩,
  ⟨MESH.CNT_FEC_UNCORR, 0, 1, .ro, 0, 262143⟩]
/-- Fields of the MESH page, part 1. -/
def MESH.layout1 : List LayoutRow := [
  ⟨MESH.CNT_TRAININGS, 0, 1, .ro, 0, 262143⟩,
  ⟨MESH.CNT_REKEYS, 0, 1, .ro, 0, 262143⟩,
  ⟨MESH.CNT_CRC_DROPS, 0, 1, .ro, 0, 262143⟩]
/-- The fields of the MESH page with their access codes. -/
def MESH.layout : List LayoutRow := MESH.layout0 ++ MESH.layout1

/-- 1: take part in a formation (R386, Table 13.8). -/
def MESHCTL.CFG_FORM_EN : Field := ⟨.meshctl, 0x40, 0, 1, .const 0⟩
/-- 1: claim the strapped ID (R386, Table 13.8). -/
def MESHCTL.CFG_USE_STRAP : Field := ⟨.meshctl, 0x40, 1, 1, .const 0⟩
/-- Seconds, 1 to 255; 0 is treated as 1 (R386, Table 13.8). -/
def MESHCTL.CFG_DRAIN_TIMEOUT : Field := ⟨.meshctl, 0x40, 8, 8, .const 0xa⟩
/-- Minutes, 0 to 255 (R386, Table 13.8). -/
def MESHCTL.CFG_REJOIN_HOLD : Field := ⟨.meshctl, 0x40, 16, 8, .const 0x3c⟩
/-- Own member ID (R386, Table 13.8). -/
def MESHCTL.STAT_SELF_ID : Field := ⟨.meshctl, 0x44, 0, 3, .const 0⟩
/-- SELF_ID agreed (R386, Table 13.8). -/
def MESHCTL.STAT_ID_VALID : Field := ⟨.meshctl, 0x44, 3, 1, .const 0⟩
/-- 0 ALONE, 1 ELECT, 2 MEMBER, 3 LEAVING, 4 CONFLICT, 5 TAMPER_HOLD (R386, Table 13.8). -/
def MESHCTL.STAT_STATE : Field := ⟨.meshctl, 0x44, 4, 3, .const 0⟩
/-- Per member: present (R386, Table 13.8). -/
def MESHCTL.STAT_MEMBERS : Field := ⟨.meshctl, 0x44, 8, 8, .const 0⟩
/-- MEMBER_ID pins at reset (R386, Table 13.8). -/
def MESHCTL.STAT_STRAP : Field := ⟨.meshctl, 0x44, 16, 3, .const 0⟩
/-- Formation secret held (R386, Table 13.8). -/
def MESHCTL.STAT_PAIRED : Field := ⟨.meshctl, 0x44, 20, 1, .const 0⟩
/-- GROUP link to member m (R386, Table 13.8). -/
def MESHCTL.PEER_LINK : Field := ⟨.meshctl, 0x50, 0, 3, .const 0⟩
/-- GROUP link to member m (R386, Table 13.8). -/
def MESHCTL.PEER_LINK_VALID : Field := ⟨.meshctl, 0x50, 3, 1, .const 0⟩
/-- SECOND link to member m (R386, Table 13.8). -/
def MESHCTL.PEER_SECOND : Field := ⟨.meshctl, 0x50, 4, 3, .const 0⟩
/-- SECOND link to member m (R386, Table 13.8). -/
def MESHCTL.PEER_SECOND_VALID : Field := ⟨.meshctl, 0x50, 7, 1, .const 0⟩
/-- Relay member in use (R386, Table 13.8). -/
def MESHCTL.PEER_RELAY : Field := ⟨.meshctl, 0x50, 8, 3, .const 0⟩
/-- Relay member in use (R386, Table 13.8). -/
def MESHCTL.PEER_RELAY_VALID : Field := ⟨.meshctl, 0x50, 11, 1, .const 0⟩
/-- Link to the device to be paired (R386, Table 13.8). -/
def MESHCTL.PAIR_LINK : Field := ⟨.meshctl, 0x80, 0, 3, .const 0⟩
/-- Start pairing; reads 0 (R386, Table 13.8). -/
def MESHCTL.PAIR_GO : Field := ⟨.meshctl, 0x80, 8, 1, .const 0⟩
/-- Code of Table 13.3 (R386, Table 13.8). -/
def MESHCTL.PAIR_CODE : Field := ⟨.meshctl, 0x80, 16, 8, .const 0⟩
/-- Decided; running, GO ignored (R386, Table 13.8). -/
def MESHCTL.PAIR_DONE : Field := ⟨.meshctl, 0x80, 24, 1, .const 0⟩
/-- Decided; running, GO ignored (R386, Table 13.8). -/
def MESHCTL.PAIR_BUSY : Field := ⟨.meshctl, 0x80, 25, 1, .const 0⟩
/-- Check code, six BCD digits (R386, Table 13.8). -/
def MESHCTL.PAIR_CHECK_CODE : Field := ⟨.meshctl, 0x84, 0, 24, .const 0⟩
/-- Under R380; read 0 (R386, Table 13.8). -/
def MESHCTL.LEAVE_GO : Field := ⟨.meshctl, 0x88, 0, 1, .const 0⟩
/-- Under R380; read 0 (R386, Table 13.8). -/
def MESHCTL.LEAVE_FORCE : Field := ⟨.meshctl, 0x88, 1, 1, .const 0⟩
/-- Member has left (R386, Table 13.8). -/
def MESHCTL.LEAVE_DONE : Field := ⟨.meshctl, 0x88, 8, 1, .const 0⟩
/-- Member of the first failing part (R386, Table 13.8). -/
def MESHCTL.SALVO_MEMBER_MEMBER : Field := ⟨.meshctl, 0x8C, 0, 3, .const 0⟩
/-- BAR0 offset on the far member (R386, Table 13.8). -/
def MESHCTL.RA_ADDR_ADDR : Field := ⟨.meshctl, 0x90, 0, 24, .const 0⟩
/-- Data written or read (R386, Table 13.8). -/
def MESHCTL.RA_DATA_DATA : Field := ⟨.meshctl, 0x94, 0, 32, .const 0⟩
/-- Member addressed (R386, Table 13.8). -/
def MESHCTL.RA_CTL_MEMBER : Field := ⟨.meshctl, 0x98, 0, 3, .const 0⟩
/-- 1 write, 0 read (R386, Table 13.8). -/
def MESHCTL.RA_CTL_WRITE : Field := ⟨.meshctl, 0x98, 4, 1, .const 0⟩
/-- Start the access; reads 0 (R386, Table 13.8). -/
def MESHCTL.RA_CTL_GO : Field := ⟨.meshctl, 0x98, 8, 1, .const 0⟩
/-- 0x00 or a code of Table 13.3 (R386, Table 13.8). -/
def MESHCTL.RA_CTL_CODE : Field := ⟨.meshctl, 0x98, 16, 8, .const 0⟩
/-- Access ended (R386, Table 13.8). -/
def MESHCTL.RA_CTL_DONE : Field := ⟨.meshctl, 0x98, 24, 1, .const 0⟩
/-- Header counter; saturating (R386). -/
def MESHCTL.CNT_JOINS : Field := ⟨.meshctl, 0x28, 0, 32, .const 0⟩
/-- Header counter; saturating (R386). -/
def MESHCTL.CNT_LOSSES : Field := ⟨.meshctl, 0x2C, 0, 32, .const 0⟩
/-- Header counter; saturating (R386). -/
def MESHCTL.CNT_ELECTIONS : Field := ⟨.meshctl, 0x30, 0, 32, .const 0⟩
/-- EVT_STAT [0]: A member joined (R386, Table 13.8). -/
abbrev MESHCTL.EV_MEMBER_JOIN : Nat := 0
/-- EVT_STAT [1]: Under R379 or R380 (R386, Table 13.8). -/
abbrev MESHCTL.EV_MEMBER_LOST : Nat := 1
/-- EVT_STAT [2]: Under R366 (R386, Table 13.8). -/
abbrev MESHCTL.EV_ID_CONFLICT : Nat := 2
/-- EVT_STAT [3]: Pairing ended (R386, Table 13.8). -/
abbrev MESHCTL.EV_PAIR_DONE : Nat := 3
/-- EVT_STAT [4]: A relay changed under R371 or R372 (R386, Table 13.8). -/
abbrev MESHCTL.EV_RELAY_CHG : Nat := 4
/-- EVT_STAT [5]: Under R380 (R386, Table 13.8). -/
abbrev MESHCTL.EV_LEAVE_DONE : Nat := 5
/-- Fields of the MESHCTL page, part 0. -/
def MESHCTL.layout0 : List LayoutRow := [
  ⟨MESHCTL.CFG_FORM_EN, 0, 1, .rws, 0, 262143⟩,
  ⟨MESHCTL.CFG_USE_STRAP, 0, 1, .rws, 0, 262143⟩,
  ⟨MESHCTL.CFG_DRAIN_TIMEOUT, 0, 1, .rws, 0, 262143⟩,
  ⟨MESHCTL.CFG_REJOIN_HOLD, 0, 1, .rws, 0, 262143⟩,
  ⟨MESHCTL.STAT_SELF_ID, 0, 1, .ro, 0, 262143⟩,
  ⟨MESHCTL.STAT_ID_VALID, 0, 1, .ro, 0, 262143⟩,
  ⟨MESHCTL.STAT_STATE, 0, 1, .ro, 0, 262143⟩,
  ⟨MESHCTL.STAT_MEMBERS, 0, 1, .ro, 0, 262143⟩,
  ⟨MESHCTL.STAT_STRAP, 0, 1, .ro, 0, 262143⟩,
  ⟨MESHCTL.STAT_PAIRED, 0, 1, .ro, 0, 262143⟩,
  ⟨MESHCTL.PEER_LINK, 4, 8, .ro, 0, 262143⟩,
  ⟨MESHCTL.PEER_LINK_VALID, 4, 8, .ro, 0, 262143⟩,
  ⟨MESHCTL.PEER_SECOND, 4, 8, .ro, 0, 262143⟩,
  ⟨MESHCTL.PEER_SECOND_VALID, 4, 8, .ro, 0, 262143⟩,
  ⟨MESHCTL.PEER_RELAY, 4, 8, .ro, 0, 262143⟩,
  ⟨MESHCTL.PEER_RELAY_VALID, 4, 8, .ro, 0, 262143⟩,
  ⟨MESHCTL.PAIR_LINK, 0, 1, .rw, 0, 262143⟩,
  ⟨MESHCTL.PAIR_GO, 0, 1, .w1s, 0, 262143⟩,
  ⟨MESHCTL.PAIR_CODE, 0, 1, .ro, 0, 262143⟩,
  ⟨MESHCTL.PAIR_DONE, 0, 1, .ro, 0, 262143⟩]
/-- Fields of the MESHCTL page, part 1. -/
def MESHCTL.layout1 : List LayoutRow := [
  ⟨MESHCTL.PAIR_BUSY, 0, 1, .ro, 0, 262143⟩,
  ⟨MESHCTL.PAIR_CHECK_CODE, 0, 1, .ro, 0, 262143⟩,
  ⟨MESHCTL.LEAVE_GO, 0, 1, .w1s, 0, 262143⟩,
  ⟨MESHCTL.LEAVE_FORCE, 0, 1, .w1s, 0, 262143⟩,
  ⟨MESHCTL.LEAVE_DONE, 0, 1, .ro, 0, 262143⟩,
  ⟨MESHCTL.SALVO_MEMBER_MEMBER, 0, 1, .ro, 0, 262143⟩,
  ⟨MESHCTL.RA_ADDR_ADDR, 0, 1, .rw, 0, 262143⟩,
  ⟨MESHCTL.RA_DATA_DATA, 0, 1, .rw, 0, 262143⟩,
  ⟨MESHCTL.RA_CTL_MEMBER, 0, 1, .rw, 0, 262143⟩,
  ⟨MESHCTL.RA_CTL_WRITE, 0, 1, .rw, 0, 262143⟩,
  ⟨MESHCTL.RA_CTL_GO, 0, 1, .w1s, 0, 262143⟩,
  ⟨MESHCTL.RA_CTL_CODE, 0, 1, .ro, 0, 262143⟩,
  ⟨MESHCTL.RA_CTL_DONE, 0, 1, .ro, 0, 262143⟩,
  ⟨MESHCTL.CNT_JOINS, 0, 1, .ro, 0, 262143⟩,
  ⟨MESHCTL.CNT_LOSSES, 0, 1, .ro, 0, 262143⟩,
  ⟨MESHCTL.CNT_ELECTIONS, 0, 1, .ro, 0, 262143⟩]
/-- The fields of the MESHCTL page with their access codes. -/
def MESHCTL.layout : List LayoutRow := MESHCTL.layout0 ++ MESHCTL.layout1

end Sys2Proof.Machine
end

