-- ==== Sys2Proof/Machine/FieldsVideo.lean ====
section
/-! DEFINITION. The storage layout of the register fields of the video pages, as the tables of the spec give them: one definition per field,
the event bits of each page, and for each page the list of its fields with access codes. -/
namespace Sys2Proof.Machine

/-- 1: the quad is one 100GBASE-R port (R81, Table 2.9). -/
def QUAD.QUAD_CFG_Q100 : Field := ⟨.quad, 0x40, 0, 1, .const 0⟩
/-- 1: the device substitutes spares on its own (R81, Table 2.9). -/
def QUAD.QUAD_CFG_SPARE_AUTO : Field := ⟨.quad, 0x40, 1, 1, .const 1⟩
/-- 1.000 family: synthesiser index, 0 to 3 (R81, Table 2.10). -/
def QUAD.TXCLK_SEL_V_SYN : Field := ⟨.quad, 0x44, 0, 4, .const 0⟩
/-- 1.000 family: output, 0 to 5 (R81, Table 2.10). -/
def QUAD.TXCLK_SEL_V_OUT : Field := ⟨.quad, 0x44, 4, 3, .const 0⟩
/-- 1/1.001 family: synthesiser index, 4 to 7 (R81, Table 2.10). -/
def QUAD.TXCLK_SEL_F_SYN : Field := ⟨.quad, 0x44, 8, 4, .const 4⟩
/-- 1/1.001 family: output, 0 to 5 (R81, Table 2.10). -/
def QUAD.TXCLK_SEL_F_OUT : Field := ⟨.quad, 0x44, 12, 3, .const 0⟩
/-- Ethernet: synthesiser index, 8 or 9 (R81, Table 2.10). -/
def QUAD.TXCLK_SEL_E_SYN : Field := ⟨.quad, 0x44, 16, 4, .const 8⟩
/-- Ethernet: output, 0 to 5 (R81, Table 2.10). -/
def QUAD.TXCLK_SEL_E_OUT : Field := ⟨.quad, 0x44, 20, 3, .const 0⟩
/-- Four 3-bit slice indices; pad lane n at [3n+2:3n] (R81, Table 2.11). -/
def QUAD.PADMAP_RX_MAP : Field := ⟨.quad, 0x48, 0, 12, .const 0x688⟩
/-- As RX_MAP, for transmit (R81, Table 2.11). -/
def QUAD.PADMAP_TX_MAP : Field := ⟨.quad, 0x48, 16, 12, .const 0x688⟩
/-- 1: periodic spare self-test (R81, Table 2.12). -/
def QUAD.SPARE_CTL_SELFTEST_EN : Field := ⟨.quad, 0x4C, 0, 1, .const 1⟩
/-- Period in minutes, 1 to 255; 0 is treated as 1 (R81, Table 2.12). -/
def QUAD.SPARE_CTL_SELFTEST_PERIOD : Field := ⟨.quad, 0x4C, 8, 8, .const 0xf⟩
/-- n + 1 forces the receive spare onto pad lane n; 0 does nothing (R81, Table 2.12). -/
def QUAD.SPARE_CTL_FORCE_RX : Field := ⟨.quad, 0x4C, 16, 3, .const 0⟩
/-- As FORCE_RX, for transmit (R81, Table 2.12). -/
def QUAD.SPARE_CTL_FORCE_TX : Field := ⟨.quad, 0x4C, 20, 3, .const 0⟩
/-- Per pad lane: the last commit or TEST_CTL write was not applied (R81, Table 2.13). -/
def QUAD.QUAD_STAT_CFG_BLOCKED : Field := ⟨.quad, 0x50, 0, 4, .const 0⟩
/-- Receive spare in SHADOW or self-test (R81, Table 2.13). -/
def QUAD.QUAD_STAT_RX_SPARE_BUSY : Field := ⟨.quad, 0x50, 8, 1, .const 0⟩
/-- Transmit spare in SHADOW or self-test (R81, Table 2.13). -/
def QUAD.QUAD_STAT_TX_SPARE_BUSY : Field := ⟨.quad, 0x50, 9, 1, .const 0⟩
/-- 100GBASE-R alignment markers locked on all PCS lanes (R81, Table 2.13). -/
def QUAD.QUAD_STAT_Q100_ALIGN : Field := ⟨.quad, 0x50, 10, 1, .const 0⟩
/-- 0 OFF, 1 SDI, 2 10GBASE-R, 3 25GBASE-R, 4 25GBASE-R RS-FEC; 5 to 7 reserved (R81, Table 2.14). -/
def QUAD.LANE_CFG_RXMODE : Field := ⟨.quad, 0x60, 0, 3, .const 0⟩
/-- As RXMODE (R81, Table 2.14). -/
def QUAD.LANE_CFG_TXMODE : Field := ⟨.quad, 0x60, 4, 3, .const 0⟩
/-- SDI classes enabled for acquisition; bit k is class k (R81, Table 2.14). -/
def QUAD.LANE_CFG_RX_RATE_MASK : Field := ⟨.quad, 0x60, 8, 5, .const 0x1f⟩
/-- SDI transmit class, 0 to 4 (R81, Table 2.14). -/
def QUAD.LANE_CFG_TX_RATE : Field := ⟨.quad, 0x60, 16, 3, .const 0⟩
/-- 0: 1.000 rate; 1: 1/1.001 rate; ignored for class 0 (R81, Table 2.14). -/
def QUAD.LANE_CFG_TX_FAM : Field := ⟨.quad, 0x60, 19, 1, .const 0⟩
/-- 1: invert receive polarity (R81, Table 2.14). -/
def QUAD.LANE_CFG_RX_POL : Field := ⟨.quad, 0x60, 20, 1, .const 0⟩
/-- 1: invert transmit polarity (R81, Table 2.14). -/
def QUAD.LANE_CFG_TX_POL : Field := ⟨.quad, 0x60, 21, 1, .const 0⟩
/-- 0x0 OFF, 0x1 IDLE, 0x2 ACQUIRE, 0x3 RUN, 0x4 LOS, 0x5 TEST, 0x6 SPARE, 0x7 SHADOW, 0x8 ISOLATED, 0x9 RETIRED (R81, Table 2.15). -/
def QUAD.RXSL_STAT_STATE : Field := ⟨.quad, 0x70, 0, 4, .const 0⟩
/-- 0x0 OFF, 0x1 IDLE, 0x2 ACQUIRE, 0x3 RUN, 0x4 LOS, 0x5 TEST, 0x6 SPARE, 0x7 SHADOW, 0x8 ISOLATED, 0x9 RETIRED (R81, Table 2.15). -/
def QUAD.TXSL_STAT_STATE : Field := ⟨.quad, 0x90, 0, 4, .const 0⟩
/-- Pad lane served, 0 to 3; 7: none (R81, Table 2.15). -/
def QUAD.RXSL_STAT_PADLANE : Field := ⟨.quad, 0x70, 4, 3, .const 7⟩
/-- Pad lane served, 0 to 3; 7: none (R81, Table 2.15). -/
def QUAD.TXSL_STAT_PADLANE : Field := ⟨.quad, 0x90, 4, 3, .const 7⟩
/-- Receive: locked SDI class; 7: none or Ethernet (R81, Table 2.15). -/
def QUAD.RXSL_STAT_RATE_DET : Field := ⟨.quad, 0x70, 8, 3, .const 7⟩
/-- Receive: locked SDI class; 7: none or Ethernet (R81, Table 2.15). -/
def QUAD.TXSL_STAT_RATE_DET : Field := ⟨.quad, 0x90, 8, 3, .const 7⟩
/-- Receive: clock recovery locked (R81, Table 2.15). -/
def QUAD.RXSL_STAT_CDR_LOCK : Field := ⟨.quad, 0x70, 11, 1, .const 0⟩
/-- Receive: clock recovery locked (R81, Table 2.15). -/
def QUAD.TXSL_STAT_CDR_LOCK : Field := ⟨.quad, 0x90, 11, 1, .const 0⟩
/-- Receive: 1 when locked to the 1/1.001 rate (R81, Table 2.15). -/
def QUAD.RXSL_STAT_FAM_DET : Field := ⟨.quad, 0x70, 12, 1, .const 0⟩
/-- Receive: 1 when locked to the 1/1.001 rate (R81, Table 2.15). -/
def QUAD.TXSL_STAT_FAM_DET : Field := ⟨.quad, 0x90, 12, 1, .const 0⟩
/-- Marked under Table 2.4 (R81, Table 2.15). -/
def QUAD.RXSL_STAT_SUSPECT : Field := ⟨.quad, 0x70, 13, 1, .const 0⟩
/-- Marked under Table 2.4 (R81, Table 2.15). -/
def QUAD.TXSL_STAT_SUSPECT : Field := ⟨.quad, 0x90, 13, 1, .const 0⟩
/-- 0 CONTINUOUS, 1 FROZEN, 2 MANUAL, 3 reserved (R81, Table 2.16). -/
def QUAD.RX_EQ_ADAPT : Field := ⟨.quad, 0xB0, 0, 2, .const 0⟩
/-- Peaking code, 0.625 dB steps; reads the value in use (R81, Table 2.16). -/
def QUAD.RX_EQ_CTLE : Field := ⟨.quad, 0xB0, 2, 5, .const 0x10⟩
/-- Tap weights, two's complement -16 to +15, in 2 mV steps; read the values in use; written values apply in MANUAL only (R81, Table 2.16). -/
def QUAD.RX_EQ_DFE1 : Field := ⟨.quad, 0xB0, 7, 5, .const 0⟩
/-- Tap weights, two's complement -16 to +15, in 2 mV steps; read the values in use; written values apply in MANUAL only (R81, Table 2.16). -/
def QUAD.RX_EQ_DFE2 : Field := ⟨.quad, 0xB0, 12, 5, .const 0⟩
/-- Tap weights, two's complement -16 to +15, in 2 mV steps; read the values in use; written values apply in MANUAL only (R81, Table 2.16). -/
def QUAD.RX_EQ_DFE3 : Field := ⟨.quad, 0xB0, 17, 5, .const 0⟩
/-- Tap weights, two's complement -16 to +15, in 2 mV steps; read the values in use; written values apply in MANUAL only (R81, Table 2.16). -/
def QUAD.RX_EQ_DFE4 : Field := ⟨.quad, 0xB0, 22, 5, .const 0⟩
/-- Tap weights, two's complement -16 to +15, in 2 mV steps; read the values in use; written values apply in MANUAL only (R81, Table 2.16). -/
def QUAD.RX_EQ_DFE5 : Field := ⟨.quad, 0xB0, 27, 5, .const 0⟩
/-- Pre-cursor, 0 to 15, in 1/64 of the swing; larger values are clamped to 15 (R81, Table 2.16). -/
def QUAD.TX_FIR_PRE : Field := ⟨.quad, 0xC0, 0, 5, .const 0⟩
/-- Post-cursor, 0 to 24, in 1/64 of the swing; larger values are clamped to 24 (R81, Table 2.16). -/
def QUAD.TX_FIR_POST : Field := ⟨.quad, 0xC0, 8, 5, .const 0⟩
/-- Swing 400 mV + 50 mV * code, differential peak to peak; codes above 16 are clamped to 16 (R81, Table 2.16). -/
def QUAD.TX_FIR_SWING : Field := ⟨.quad, 0xC0, 16, 5, .const 8⟩
/-- 0 off, 1 PRBS7, 2 PRBS31 (R81, Table 2.17). -/
def QUAD.TEST_CTL_PRBS_GEN : Field := ⟨.quad, 0xD0, 0, 2, .const 0⟩
/-- As PRBS_GEN (R81, Table 2.17). -/
def QUAD.TEST_CTL_PRBS_CHK : Field := ⟨.quad, 0xD0, 2, 2, .const 0⟩
/-- 1: inverted pattern (R81, Table 2.17). -/
def QUAD.TEST_CTL_INVERT : Field := ⟨.quad, 0xD0, 4, 1, .const 0⟩
/-- 0 none, 1 near-end, 2 far-end (R81, Table 2.17). -/
def QUAD.TEST_CTL_LOOP : Field := ⟨.quad, 0xD0, 5, 2, .const 0⟩
/-- Inject one bit error; reads 0 (R81, Table 2.17). -/
def QUAD.TEST_CTL_ERR_INJECT : Field := ⟨.quad, 0xD0, 8, 1, .const 0⟩
/-- Checker in sync (R81, Table 2.17). -/
def QUAD.TEST_CTL_CHK_SYNC : Field := ⟨.quad, 0xD0, 9, 1, .const 0⟩
/-- Clear PRBS_ERR[n]; reads 0 (R81, Table 2.17). -/
def QUAD.TEST_CTL_CHK_CLEAR : Field := ⟨.quad, 0xD0, 10, 1, .const 0⟩
/-- Horizontal offset, two's complement -32 to +31 (R81, Table 2.17). -/
def QUAD.EYE_CTL_HOFF : Field := ⟨.quad, 0x100, 0, 7, .const 0⟩
/-- Vertical offset, two's complement -63 to +63 (R81, Table 2.17). -/
def QUAD.EYE_CTL_VOFF : Field := ⟨.quad, 0x100, 8, 7, .const 0⟩
/-- Bits compared = 2^DWELL; 20 to 40 (R81, Table 2.17). -/
def QUAD.EYE_CTL_DWELL : Field := ⟨.quad, 0x100, 16, 6, .const 0x14⟩
/-- Receive slice scanned, 0 to 4 (R81, Table 2.17). -/
def QUAD.EYE_CTL_SLICE : Field := ⟨.quad, 0x100, 24, 3, .const 0⟩
/-- Start a scan; clears DONE and ABORTED (R81, Table 2.17). -/
def QUAD.EYE_CTL_START : Field := ⟨.quad, 0x100, 28, 1, .const 0⟩
/-- Scan ended (R81, Table 2.17). -/
def QUAD.EYE_CTL_DONE : Field := ⟨.quad, 0x100, 29, 1, .const 0⟩
/-- Scan ended early (R81, Table 2.17). -/
def QUAD.EYE_CTL_ABORTED : Field := ⟨.quad, 0x100, 30, 1, .const 0⟩
/-- Checker error count (R81, Table 2.7). -/
def QUAD.PRBS_ERR_COUNT : Field := ⟨.quad, 0xE0, 0, 32, .const 0⟩
/-- Offset in 0.1 ppm, signed (R81, Table 2.7). -/
def QUAD.RX_FREQ_OFFSET : Field := ⟨.quad, 0xF0, 0, 16, .const 0⟩
/-- Offset valid (R81, Table 2.7). -/
def QUAD.RX_FREQ_VALID : Field := ⟨.quad, 0xF0, 16, 1, .const 0⟩
/-- Eye scan mismatch count (R81, Table 2.7). -/
def QUAD.EYE_ERR_COUNT : Field := ⟨.quad, 0x104, 0, 32, .const 0⟩
/-- Header counter; saturating (R81). -/
def QUAD.CNT_SUB_COUNT : Field := ⟨.quad, 0x28, 0, 32, .const 0⟩
/-- Header counter; saturating (R81). -/
def QUAD.CNT_LOS_COUNT : Field := ⟨.quad, 0x2C, 0, 32, .const 0⟩
/-- EVT_STAT [3:0]: LOS entered or left, per pad lane (R81, Table 2.8). -/
abbrev QUAD.EV_LOS_CHG : Nat := 0
/-- EVT_STAT [7:4]: Receive lock gained or lost, per pad lane (R81, Table 2.8). -/
abbrev QUAD.EV_LOCK_CHG : Nat := 4
/-- EVT_STAT [8]: Receive substitution completed (R81, Table 2.8). -/
abbrev QUAD.EV_RX_SUB : Nat := 8
/-- EVT_STAT [9]: Transmit substitution completed (R81, Table 2.8). -/
abbrev QUAD.EV_TX_SUB : Nat := 9
/-- EVT_STAT [10]: Shadow outcome was an input fault (R81, Table 2.8). -/
abbrev QUAD.EV_RX_INPUT_FAULT : Nat := 10
/-- EVT_STAT [11]: Spare failed its self-test (R81, Table 2.8). -/
abbrev QUAD.EV_SPARE_FAIL : Nat := 11
/-- EVT_STAT [12]: Fault with no spare left (R81, Table 2.8). -/
abbrev QUAD.EV_SUB_EXHAUSTED : Nat := 12
/-- EVT_STAT [13]: A commit or TEST_CTL write was not applied (R81, Table 2.8). -/
abbrev QUAD.EV_CFG_BLOCKED : Nat := 13
/-- EVT_STAT [14]: Eye scan ended (R81, Table 2.8). -/
abbrev QUAD.EV_EYE_DONE : Nat := 14
/-- EVT_STAT [15]: Checker counted an error (R81, Table 2.8). -/
abbrev QUAD.EV_PRBS_ERR : Nat := 15
/-- Fields of the QUAD page, part 0. -/
def QUAD.layout0 : List LayoutRow := [
  ⟨QUAD.QUAD_CFG_Q100, 0, 1, .rws, 0, 262143⟩,
  ⟨QUAD.QUAD_CFG_SPARE_AUTO, 0, 1, .rw, 0, 262143⟩,
  ⟨QUAD.TXCLK_SEL_V_SYN, 0, 1, .rws, 0, 262143⟩,
  ⟨QUAD.TXCLK_SEL_V_OUT, 0, 1, .rws, 0, 262143⟩,
  ⟨QUAD.TXCLK_SEL_F_SYN, 0, 1, .rws, 0, 262143⟩,
  ⟨QUAD.TXCLK_SEL_F_OUT, 0, 1, .rws, 0, 262143⟩,
  ⟨QUAD.TXCLK_SEL_E_SYN, 0, 1, .rws, 0, 262143⟩,
  ⟨QUAD.TXCLK_SEL_E_OUT, 0, 1, .rws, 0, 262143⟩,
  ⟨QUAD.PADMAP_RX_MAP, 0, 1, .ro, 0, 262143⟩,
  ⟨QUAD.PADMAP_TX_MAP, 0, 1, .ro, 0, 262143⟩,
  ⟨QUAD.SPARE_CTL_SELFTEST_EN, 0, 1, .rw, 0, 262143⟩,
  ⟨QUAD.SPARE_CTL_SELFTEST_PERIOD, 0, 1, .rw, 0, 262143⟩,
  ⟨QUAD.SPARE_CTL_FORCE_RX, 0, 1, .wo, 0, 262143⟩,
  ⟨QUAD.SPARE_CTL_FORCE_TX, 0, 1, .wo, 0, 262143⟩,
  ⟨QUAD.QUAD_STAT_CFG_BLOCKED, 0, 1, .ro, 0, 262143⟩,
  ⟨QUAD.QUAD_STAT_RX_SPARE_BUSY, 0, 1, .ro, 0, 262143⟩,
  ⟨QUAD.QUAD_STAT_TX_SPARE_BUSY, 0, 1, .ro, 0, 262143⟩,
  ⟨QUAD.QUAD_STAT_Q100_ALIGN, 0, 1, .ro, 0, 262143⟩,
  ⟨QUAD.LANE_CFG_RXMODE, 4, 4, .rws, 0, 262143⟩,
  ⟨QUAD.LANE_CFG_TXMODE, 4, 4, .rws, 0, 262143⟩]
/-- Fields of the QUAD page, part 1. -/
def QUAD.layout1 : List LayoutRow := [
  ⟨QUAD.LANE_CFG_RX_RATE_MASK, 4, 4, .rws, 0, 262143⟩,
  ⟨QUAD.LANE_CFG_TX_RATE, 4, 4, .rws, 0, 262143⟩,
  ⟨QUAD.LANE_CFG_TX_FAM, 4, 4, .rws, 0, 262143⟩,
  ⟨QUAD.LANE_CFG_RX_POL, 4, 4, .rws, 0, 262143⟩,
  ⟨QUAD.LANE_CFG_TX_POL, 4, 4, .rws, 0, 262143⟩,
  ⟨QUAD.RXSL_STAT_STATE, 4, 5, .ro, 0, 262143⟩,
  ⟨QUAD.TXSL_STAT_STATE, 4, 5, .ro, 0, 262143⟩,
  ⟨QUAD.RXSL_STAT_PADLANE, 4, 5, .ro, 0, 262143⟩,
  ⟨QUAD.TXSL_STAT_PADLANE, 4, 5, .ro, 0, 262143⟩,
  ⟨QUAD.RXSL_STAT_RATE_DET, 4, 5, .ro, 0, 262143⟩,
  ⟨QUAD.TXSL_STAT_RATE_DET, 4, 5, .ro, 0, 262143⟩,
  ⟨QUAD.RXSL_STAT_CDR_LOCK, 4, 5, .ro, 0, 262143⟩,
  ⟨QUAD.TXSL_STAT_CDR_LOCK, 4, 5, .ro, 0, 262143⟩,
  ⟨QUAD.RXSL_STAT_FAM_DET, 4, 5, .ro, 0, 262143⟩,
  ⟨QUAD.TXSL_STAT_FAM_DET, 4, 5, .ro, 0, 262143⟩,
  ⟨QUAD.RXSL_STAT_SUSPECT, 4, 5, .ro, 0, 262143⟩,
  ⟨QUAD.TXSL_STAT_SUSPECT, 4, 5, .ro, 0, 262143⟩,
  ⟨QUAD.RX_EQ_ADAPT, 4, 4, .rw, 0, 262143⟩,
  ⟨QUAD.RX_EQ_CTLE, 4, 4, .rw, 0, 262143⟩,
  ⟨QUAD.RX_EQ_DFE1, 4, 4, .rw, 0, 262143⟩]
/-- Fields of the QUAD page, part 2. -/
def QUAD.layout2 : List LayoutRow := [
  ⟨QUAD.RX_EQ_DFE2, 4, 4, .rw, 0, 262143⟩,
  ⟨QUAD.RX_EQ_DFE3, 4, 4, .rw, 0, 262143⟩,
  ⟨QUAD.RX_EQ_DFE4, 4, 4, .rw, 0, 262143⟩,
  ⟨QUAD.RX_EQ_DFE5, 4, 4, .rw, 0, 262143⟩,
  ⟨QUAD.TX_FIR_PRE, 4, 4, .rws, 0, 262143⟩,
  ⟨QUAD.TX_FIR_POST, 4, 4, .rws, 0, 262143⟩,
  ⟨QUAD.TX_FIR_SWING, 4, 4, .rws, 0, 262143⟩,
  ⟨QUAD.TEST_CTL_PRBS_GEN, 4, 4, .rw, 0, 262143⟩,
  ⟨QUAD.TEST_CTL_PRBS_CHK, 4, 4, .rw, 0, 262143⟩,
  ⟨QUAD.TEST_CTL_INVERT, 4, 4, .rw, 0, 262143⟩,
  ⟨QUAD.TEST_CTL_LOOP, 4, 4, .rw, 0, 262143⟩,
  ⟨QUAD.TEST_CTL_ERR_INJECT, 4, 4, .w1s, 0, 262143⟩,
  ⟨QUAD.TEST_CTL_CHK_SYNC, 4, 4, .ro, 0, 262143⟩,
  ⟨QUAD.TEST_CTL_CHK_CLEAR, 4, 4, .w1s, 0, 262143⟩,
  ⟨QUAD.EYE_CTL_HOFF, 0, 1, .rw, 0, 262143⟩,
  ⟨QUAD.EYE_CTL_VOFF, 0, 1, .rw, 0, 262143⟩,
  ⟨QUAD.EYE_CTL_DWELL, 0, 1, .rw, 0, 262143⟩,
  ⟨QUAD.EYE_CTL_SLICE, 0, 1, .rw, 0, 262143⟩,
  ⟨QUAD.EYE_CTL_START, 0, 1, .w1s, 0, 262143⟩,
  ⟨QUAD.EYE_CTL_DONE, 0, 1, .ro, 0, 262143⟩]
/-- Fields of the QUAD page, part 3. -/
def QUAD.layout3 : List LayoutRow := [
  ⟨QUAD.EYE_CTL_ABORTED, 0, 1, .ro, 0, 262143⟩,
  ⟨QUAD.PRBS_ERR_COUNT, 4, 4, .ro, 0, 262143⟩,
  ⟨QUAD.RX_FREQ_OFFSET, 4, 4, .ro, 0, 262143⟩,
  ⟨QUAD.RX_FREQ_VALID, 4, 4, .ro, 0, 262143⟩,
  ⟨QUAD.EYE_ERR_COUNT, 0, 1, .ro, 0, 262143⟩,
  ⟨QUAD.CNT_SUB_COUNT, 0, 1, .ro, 0, 262143⟩,
  ⟨QUAD.CNT_LOS_COUNT, 0, 1, .ro, 0, 262143⟩]
/-- The fields of the QUAD page with their access codes. -/
def QUAD.layout : List LayoutRow := QUAD.layout0 ++ QUAD.layout1 ++ QUAD.layout2 ++ QUAD.layout3

/-- 1: port enabled (R82, Table 2.19). -/
def ETH.PORT_CFG_EN : Field := ⟨.eth, 0x40, 0, 1, .const 0⟩
/-- Longest frame accepted, 64 to 9,216 bytes (R82, Table 2.19). -/
def ETH.PORT_CFG_MAX_FRAME : Field := ⟨.eth, 0x40, 2, 14, .const 0x5f2⟩
/-- Minimum inter-packet gap, 12 to 31 bytes (R82, Table 2.19). -/
def ETH.PORT_CFG_TX_IPG : Field := ⟨.eth, 0x40, 16, 5, .const 0xc⟩
/-- Block lock, alignment where used, FEC lock where used, and no fault (R82, Table 2.19). -/
def ETH.PORT_STAT_LINK_UP : Field := ⟨.eth, 0x70, 0, 1, .const 0⟩
/-- Local fault detected (R82, Table 2.19). -/
def ETH.PORT_STAT_LOCAL_FAULT : Field := ⟨.eth, 0x70, 1, 1, .const 0⟩
/-- Remote fault received (R82, Table 2.19). -/
def ETH.PORT_STAT_REMOTE_FAULT : Field := ⟨.eth, 0x70, 2, 1, .const 0⟩
/-- High bit error ratio state of the PCS (R82, Table 2.19). -/
def ETH.PORT_STAT_HI_BER : Field := ⟨.eth, 0x70, 3, 1, .const 0⟩
/-- RS-FEC codeword alignment (R82, Table 2.19). -/
def ETH.PORT_STAT_FEC_LOCK : Field := ⟨.eth, 0x70, 4, 1, .const 0⟩
/-- MAC address bits [31:0] (R82, Table 2.18). -/
def ETH.MAC_LO_ADDR : Field := ⟨.eth, 0x50, 0, 32, .const 0⟩
/-- MAC address bits [47:32] (R82, Table 2.18). -/
def ETH.MAC_HI_ADDR : Field := ⟨.eth, 0x54, 0, 16, .const 0⟩
/-- 64-bit counter, low word first; a read of the low word latches the high word (R83). -/
def ETH.COUNT_RX_GOOD : Field := ⟨.eth, 0x100, 0, 64, .const 0⟩
/-- 64-bit counter, low word first; a read of the low word latches the high word (R83). -/
def ETH.COUNT_FCS_ERR : Field := ⟨.eth, 0x108, 0, 64, .const 0⟩
/-- 64-bit counter, low word first; a read of the low word latches the high word (R83). -/
def ETH.COUNT_OVERSIZE : Field := ⟨.eth, 0x110, 0, 64, .const 0⟩
/-- 64-bit counter, low word first; a read of the low word latches the high word (R83). -/
def ETH.COUNT_FEC_CORR : Field := ⟨.eth, 0x118, 0, 64, .const 0⟩
/-- 64-bit counter, low word first; a read of the low word latches the high word (R83). -/
def ETH.COUNT_FEC_UNCORR : Field := ⟨.eth, 0x120, 0, 64, .const 0⟩
/-- 64-bit counter, low word first; a read of the low word latches the high word (R83). -/
def ETH.COUNT_LOCK_LOSS : Field := ⟨.eth, 0x128, 0, 64, .const 0⟩
/-- 64-bit counter, low word first; a read of the low word latches the high word (R83). -/
def ETH.COUNT_TX_SENT : Field := ⟨.eth, 0x130, 0, 64, .const 0⟩
/-- 64-bit counter, low word first; a read of the low word latches the high word (R83). -/
def ETH.COUNT_TX_DROP : Field := ⟨.eth, 0x138, 0, 64, .const 0⟩
/-- EVT_STAT [3:0]: LINK_UP change, per port (R83). -/
abbrev ETH.EV_LINK_CHG : Nat := 0
/-- EVT_STAT [7:4]: HI_BER change, per port (R83). -/
abbrev ETH.EV_HI_BER : Nat := 4
/-- EVT_STAT [11:8]: Uncorrectable codeword, per port (R83). -/
abbrev ETH.EV_UNCORR : Nat := 8
/-- Fields of the ETH page, part 0. -/
def ETH.layout0 : List LayoutRow := [
  ⟨ETH.PORT_CFG_EN, 4, 4, .rws, 0, 262143⟩,
  ⟨ETH.PORT_CFG_MAX_FRAME, 4, 4, .rws, 0, 262143⟩,
  ⟨ETH.PORT_CFG_TX_IPG, 4, 4, .rws, 0, 262143⟩,
  ⟨ETH.PORT_STAT_LINK_UP, 4, 4, .ro, 0, 262143⟩,
  ⟨ETH.PORT_STAT_LOCAL_FAULT, 4, 4, .ro, 0, 262143⟩,
  ⟨ETH.PORT_STAT_REMOTE_FAULT, 4, 4, .ro, 0, 262143⟩,
  ⟨ETH.PORT_STAT_HI_BER, 4, 4, .ro, 0, 262143⟩,
  ⟨ETH.PORT_STAT_FEC_LOCK, 4, 4, .ro, 0, 262143⟩,
  ⟨ETH.MAC_LO_ADDR, 8, 4, .rw, 0, 262143⟩,
  ⟨ETH.MAC_HI_ADDR, 8, 4, .rw, 0, 262143⟩,
  ⟨ETH.COUNT_RX_GOOD, 64, 4, .ro, 0, 262143⟩,
  ⟨ETH.COUNT_FCS_ERR, 64, 4, .ro, 0, 262143⟩,
  ⟨ETH.COUNT_OVERSIZE, 64, 4, .ro, 0, 262143⟩,
  ⟨ETH.COUNT_FEC_CORR, 64, 4, .ro, 0, 262143⟩,
  ⟨ETH.COUNT_FEC_UNCORR, 64, 4, .ro, 0, 262143⟩,
  ⟨ETH.COUNT_LOCK_LOSS, 64, 4, .ro, 0, 262143⟩,
  ⟨ETH.COUNT_TX_SENT, 64, 4, .ro, 0, 262143⟩,
  ⟨ETH.COUNT_TX_DROP, 64, 4, .ro, 0, 262143⟩]
/-- The fields of the ETH page with their access codes. -/
def ETH.layout : List LayoutRow := ETH.layout0

/-- 1: VI enabled (R116, Table 3.7). -/
def VIN.CFG_EN : Field := ⟨.vin, 0x40, 0, 1, .const 0⟩
/-- Code from Table 3.1; 0xF: detect a single-link mapping (R116, Table 3.7). -/
def VIN.CFG_MAPPING : Field := ⟨.vin, 0x40, 1, 4, .const 0xf⟩
/-- Mapping 0x5: 0 two-sample interleave, 1 square division; ignored otherwise (R116, Table 3.7). -/
def VIN.CFG_DIVISION : Field := ⟨.vin, 0x40, 5, 2, .const 0⟩
/-- 1: stay in DETECT without ST 352 (R116, Table 3.7). -/
def VIN.CFG_PID_REQUIRE : Field := ⟨.vin, 0x40, 8, 1, .const 0⟩
/-- 1: FMT_OVR replaces ST 352 fields (R116, Table 3.7). -/
def VIN.CFG_FMT_OVR_EN : Field := ⟨.vin, 0x40, 9, 1, .const 0⟩
/-- 1: store ANC packets with a bad checksum (R116, Table 3.7). -/
def VIN.CFG_KEEP_BAD : Field := ⟨.vin, 0x40, 10, 1, .const 0⟩
/-- 0 OFF, 1 SEARCH, 2 DETECT, 3 PRESENT, 4 GANGED (R116, Table 3.7). -/
def VIN.STAT_STATE : Field := ⟨.vin, 0x48, 0, 3, .const 0⟩
/-- TRS found on every link; reads 1 only in DETECT and PRESENT, and 0 in OFF, SEARCH and GANGED (R116, Table 3.7). -/
def VIN.STAT_TRS_LOCK : Field := ⟨.vin, 0x48, 3, 1, .const 0⟩
/-- ST 352 present on every link in the last complete frame; reads 1 only in DETECT and PRESENT, and clears on entry to any other state (R116, Table 3.7). -/
def VIN.STAT_PID_SEEN : Field := ⟨.vin, 0x48, 4, 1, .const 0⟩
/-- Under R110 (R116, Table 3.7). -/
def VIN.STAT_BLACK : Field := ⟨.vin, 0x48, 5, 1, .const 0⟩
/-- Under R111 (R116, Table 3.7). -/
def VIN.STAT_FREEZE : Field := ⟨.vin, 0x48, 6, 1, .const 0⟩
/-- Gang skew beyond 16 us (R116, Table 3.7). -/
def VIN.STAT_SKEW_ERR : Field := ⟨.vin, 0x48, 7, 1, .const 0⟩
/-- Gang skew in 8 ns steps; 0x1FFF saturates (R116, Table 3.7). -/
def VIN.STAT_SKEW : Field := ⟨.vin, 0x48, 8, 13, .const 0⟩
/-- Descriptor of Table 3.8 (R116, Table 3.6). -/
def VIN.FMT_OVR_RASTER : Field := ⟨.vin, 0x44, 0, 3, .const 0⟩
/-- Descriptor of Table 3.8 (R116, Table 3.6). -/
def VIN.FMT_OVR_RATE : Field := ⟨.vin, 0x44, 4, 3, .const 0⟩
/-- Descriptor of Table 3.8 (R116, Table 3.6). -/
def VIN.FMT_OVR_SCAN : Field := ⟨.vin, 0x44, 8, 2, .const 0⟩
/-- Descriptor of Table 3.8 (R116, Table 3.6). -/
def VIN.FMT_OVR_SAMPLING : Field := ⟨.vin, 0x44, 12, 2, .const 0⟩
/-- Descriptor of Table 3.8 (R116, Table 3.6). -/
def VIN.FMT_OVR_DEPTH : Field := ⟨.vin, 0x44, 14, 1, .const 0⟩
/-- Descriptor of Table 3.8 (R116, Table 3.6). -/
def VIN.FMT_OVR_COLOR : Field := ⟨.vin, 0x44, 16, 2, .const 0⟩
/-- Descriptor of Table 3.8 (R116, Table 3.6). -/
def VIN.FMT_OVR_TRANSFER : Field := ⟨.vin, 0x44, 18, 2, .const 0⟩
/-- Descriptor of Table 3.8 (R116, Table 3.6). -/
def VIN.FMT_OVR_MAPPING : Field := ⟨.vin, 0x44, 24, 4, .const 0⟩
/-- Descriptor of Table 3.8 (R116, Table 3.6). -/
def VIN.FMT_OVR_VALID : Field := ⟨.vin, 0x44, 31, 1, .const 0⟩
/-- Descriptor of Table 3.8 (R116, Table 3.6). -/
def VIN.FMT_RASTER : Field := ⟨.vin, 0x4C, 0, 3, .const 0⟩
/-- Descriptor of Table 3.8 (R116, Table 3.6). -/
def VIN.FMT_RATE : Field := ⟨.vin, 0x4C, 4, 3, .const 0⟩
/-- Descriptor of Table 3.8 (R116, Table 3.6). -/
def VIN.FMT_SCAN : Field := ⟨.vin, 0x4C, 8, 2, .const 0⟩
/-- Descriptor of Table 3.8 (R116, Table 3.6). -/
def VIN.FMT_SAMPLING : Field := ⟨.vin, 0x4C, 12, 2, .const 0⟩
/-- Descriptor of Table 3.8 (R116, Table 3.6). -/
def VIN.FMT_DEPTH : Field := ⟨.vin, 0x4C, 14, 1, .const 0⟩
/-- Descriptor of Table 3.8 (R116, Table 3.6). -/
def VIN.FMT_COLOR : Field := ⟨.vin, 0x4C, 16, 2, .const 0⟩
/-- Descriptor of Table 3.8 (R116, Table 3.6). -/
def VIN.FMT_TRANSFER : Field := ⟨.vin, 0x4C, 18, 2, .const 0⟩
/-- Descriptor of Table 3.8 (R116, Table 3.6). -/
def VIN.FMT_MAPPING : Field := ⟨.vin, 0x4C, 24, 4, .const 0⟩
/-- Descriptor of Table 3.8 (R116, Table 3.6). -/
def VIN.FMT_VALID : Field := ⟨.vin, 0x4C, 31, 1, .const 0⟩
/-- Last ST 352 payload per link, byte 1 at [7:0] (R116, Table 3.6). -/
def VIN.PID_WORD : Field := ⟨.vin, 0x50, 0, 32, .const 0⟩
/-- Mean luma limit of R110 (R116, Table 3.6). -/
def VIN.BLACK_CFG_MEAN : Field := ⟨.vin, 0x60, 0, 10, .const 0x50⟩
/-- Peak luma limit of R110 (R116, Table 3.6). -/
def VIN.BLACK_CFG_PEAK : Field := ⟨.vin, 0x60, 10, 10, .const 0xa0⟩
/-- Frames, 1 to 1,023 (R116, Table 3.6). -/
def VIN.BLACK_CFG_FRAMES : Field := ⟨.vin, 0x60, 20, 10, .const 0x19⟩
/-- Frames, 1 to 1,023 (R116, Table 3.6). -/
def VIN.FREEZE_CFG_FRAMES : Field := ⟨.vin, 0x64, 0, 10, .const 0x32⟩
/-- 0 EXACT, 1 COARSE (R116, Table 3.6). -/
def VIN.FREEZE_CFG_MODE : Field := ⟨.vin, 0x64, 16, 1, .const 1⟩
/-- Timecode, BCD (R116, Table 3.6). -/
def VIN.TC_FRAMES : Field := ⟨.vin, 0x68, 0, 6, .const 0⟩
/-- Timecode, BCD (R116, Table 3.6). -/
def VIN.TC_SECONDS : Field := ⟨.vin, 0x68, 8, 7, .const 0⟩
/-- Timecode, BCD (R116, Table 3.6). -/
def VIN.TC_MINUTES : Field := ⟨.vin, 0x68, 16, 7, .const 0⟩
/-- Timecode, BCD (R116, Table 3.6). -/
def VIN.TC_HOURS : Field := ⟨.vin, 0x68, 24, 6, .const 0⟩
/-- Timecode, BCD (R116, Table 3.6). -/
def VIN.TC_RUNNING : Field := ⟨.vin, 0x68, 31, 1, .const 0⟩
/-- 0 LTC, 1 VITC (R116, Table 3.6). -/
def VIN.TC_SRC_SEL : Field := ⟨.vin, 0x6C, 0, 1, .const 0⟩
/-- Groups enabled (R116, Table 3.6). -/
def VIN.AUD_CFG_GROUPS : Field := ⟨.vin, 0x70, 0, 8, .const 0xff⟩
/-- Names link LINK + 1 under R90 (R116, Table 3.6). -/
def VIN.AUD_CFG_LINK : Field := ⟨.vin, 0x70, 8, 2, .const 0⟩
/-- Bit c: channel c present (R116, Table 3.6). -/
def VIN.AUD_STAT_PRESENT : Field := ⟨.vin, 0x74, 0, 32, .const 0⟩
/-- Bits [2g+1:2g] for group g: 0 absent, 1 48 kHz, 2 96 kHz, 3 asynchronous (R116, Table 3.6). -/
def VIN.AUD_RATE_RATE : Field := ⟨.vin, 0x78, 0, 16, .const 0⟩
/-- ANC filter (R116, Table 3.6). -/
def VIN.ANC_FILT_DID : Field := ⟨.vin, 0x80, 0, 8, .const 0⟩
/-- ANC filter (R116, Table 3.6). -/
def VIN.ANC_FILT_SDID : Field := ⟨.vin, 0x80, 8, 8, .const 0⟩
/-- ANC filter (R116, Table 3.6). -/
def VIN.ANC_FILT_ANY_SDID : Field := ⟨.vin, 0x80, 16, 1, .const 0⟩
/-- ANC filter (R116, Table 3.6). -/
def VIN.ANC_FILT_ACTION : Field := ⟨.vin, 0x80, 17, 1, .const 0⟩
/-- ANC filter (R116, Table 3.6). -/
def VIN.ANC_FILT_VALID : Field := ⟨.vin, 0x80, 31, 1, .const 0⟩
/-- Header counter; saturating (R116). -/
def VIN.CNT_CRC_LINES : Field := ⟨.vin, 0x28, 0, 32, .const 0⟩
/-- Header counter; saturating (R116). -/
def VIN.CNT_CRC_FRAMES : Field := ⟨.vin, 0x2C, 0, 32, .const 0⟩
/-- Header counter; saturating (R116). -/
def VIN.CNT_ANC_DROP : Field := ⟨.vin, 0x30, 0, 32, .const 0⟩
/-- Header counter; saturating (R116). -/
def VIN.CNT_AUD_UNCORR : Field := ⟨.vin, 0x34, 0, 32, .const 0⟩
/-- Header counter; saturating (R116). -/
def VIN.CNT_FMT_CHANGES : Field := ⟨.vin, 0x38, 0, 32, .const 0⟩
/-- EVT_STAT [0]: PRESENT entered or left (R117, Table 3.9). -/
abbrev VIN.EV_PRESENT_CHG : Nat := 0
/-- EVT_STAT [1]: Descriptor changed (R117, Table 3.9). -/
abbrev VIN.EV_FMT_CHG : Nat := 1
/-- EVT_STAT [2]: Under R92 (R117, Table 3.9). -/
abbrev VIN.EV_PID_MISMATCH : Nat := 2
/-- EVT_STAT [3]: Under R96 (R117, Table 3.9). -/
abbrev VIN.EV_CRC_ERR : Nat := 3
/-- EVT_STAT [4]: STAT.BLACK changed (R117, Table 3.9). -/
abbrev VIN.EV_BLACK_CHG : Nat := 4
/-- EVT_STAT [5]: STAT.FREEZE changed (R117, Table 3.9). -/
abbrev VIN.EV_FREEZE_CHG : Nat := 5
/-- EVT_STAT [6]: Gang skew beyond 16 us (R117, Table 3.9). -/
abbrev VIN.EV_SKEW_ERR : Nat := 6
/-- EVT_STAT [7]: Under R101 (R117, Table 3.9). -/
abbrev VIN.EV_ANC_OVERFLOW : Nat := 7
/-- EVT_STAT [8]: AUD_STAT or AUD_RATE changed (R117, Table 3.9). -/
abbrev VIN.EV_AUD_CHG : Nat := 8
/-- Fields of the VIN page, part 0. -/
def VIN.layout0 : List LayoutRow := [
  ⟨VIN.CFG_EN, 0, 1, .rws, 0, 262143⟩,
  ⟨VIN.CFG_MAPPING, 0, 1, .rws, 0, 262143⟩,
  ⟨VIN.CFG_DIVISION, 0, 1, .rws, 0, 262143⟩,
  ⟨VIN.CFG_PID_REQUIRE, 0, 1, .rw, 0, 262143⟩,
  ⟨VIN.CFG_FMT_OVR_EN, 0, 1, .rw, 0, 262143⟩,
  ⟨VIN.CFG_KEEP_BAD, 0, 1, .rw, 0, 262143⟩,
  ⟨VIN.STAT_STATE, 0, 1, .ro, 0, 262143⟩,
  ⟨VIN.STAT_TRS_LOCK, 0, 1, .ro, 0, 262143⟩,
  ⟨VIN.STAT_PID_SEEN, 0, 1, .ro, 0, 262143⟩,
  ⟨VIN.STAT_BLACK, 0, 1, .ro, 0, 262143⟩,
  ⟨VIN.STAT_FREEZE, 0, 1, .ro, 0, 262143⟩,
  ⟨VIN.STAT_SKEW_ERR, 0, 1, .ro, 0, 262143⟩,
  ⟨VIN.STAT_SKEW, 0, 1, .ro, 0, 262143⟩,
  ⟨VIN.FMT_OVR_RASTER, 0, 1, .rw, 0, 262143⟩,
  ⟨VIN.FMT_OVR_RATE, 0, 1, .rw, 0, 262143⟩,
  ⟨VIN.FMT_OVR_SCAN, 0, 1, .rw, 0, 262143⟩,
  ⟨VIN.FMT_OVR_SAMPLING, 0, 1, .rw, 0, 262143⟩,
  ⟨VIN.FMT_OVR_DEPTH, 0, 1, .rw, 0, 262143⟩,
  ⟨VIN.FMT_OVR_COLOR, 0, 1, .rw, 0, 262143⟩,
  ⟨VIN.FMT_OVR_TRANSFER, 0, 1, .rw, 0, 262143⟩]
/-- Fields of the VIN page, part 1. -/
def VIN.layout1 : List LayoutRow := [
  ⟨VIN.FMT_OVR_MAPPING, 0, 1, .rw, 0, 262143⟩,
  ⟨VIN.FMT_OVR_VALID, 0, 1, .rw, 0, 262143⟩,
  ⟨VIN.FMT_RASTER, 0, 1, .ro, 0, 262143⟩,
  ⟨VIN.FMT_RATE, 0, 1, .ro, 0, 262143⟩,
  ⟨VIN.FMT_SCAN, 0, 1, .ro, 0, 262143⟩,
  ⟨VIN.FMT_SAMPLING, 0, 1, .ro, 0, 262143⟩,
  ⟨VIN.FMT_DEPTH, 0, 1, .ro, 0, 262143⟩,
  ⟨VIN.FMT_COLOR, 0, 1, .ro, 0, 262143⟩,
  ⟨VIN.FMT_TRANSFER, 0, 1, .ro, 0, 262143⟩,
  ⟨VIN.FMT_MAPPING, 0, 1, .ro, 0, 262143⟩,
  ⟨VIN.FMT_VALID, 0, 1, .ro, 0, 262143⟩,
  ⟨VIN.PID_WORD, 4, 4, .ro, 0, 262143⟩,
  ⟨VIN.BLACK_CFG_MEAN, 0, 1, .rw, 0, 262143⟩,
  ⟨VIN.BLACK_CFG_PEAK, 0, 1, .rw, 0, 262143⟩,
  ⟨VIN.BLACK_CFG_FRAMES, 0, 1, .rw, 0, 262143⟩,
  ⟨VIN.FREEZE_CFG_FRAMES, 0, 1, .rw, 0, 262143⟩,
  ⟨VIN.FREEZE_CFG_MODE, 0, 1, .rw, 0, 262143⟩,
  ⟨VIN.TC_FRAMES, 0, 1, .ro, 0, 262143⟩,
  ⟨VIN.TC_SECONDS, 0, 1, .ro, 0, 262143⟩,
  ⟨VIN.TC_MINUTES, 0, 1, .ro, 0, 262143⟩]
/-- Fields of the VIN page, part 2. -/
def VIN.layout2 : List LayoutRow := [
  ⟨VIN.TC_HOURS, 0, 1, .ro, 0, 262143⟩,
  ⟨VIN.TC_RUNNING, 0, 1, .ro, 0, 262143⟩,
  ⟨VIN.TC_SRC_SEL, 0, 1, .rw, 0, 262143⟩,
  ⟨VIN.AUD_CFG_GROUPS, 0, 1, .rws, 0, 262143⟩,
  ⟨VIN.AUD_CFG_LINK, 0, 1, .rws, 0, 262143⟩,
  ⟨VIN.AUD_STAT_PRESENT, 0, 1, .ro, 0, 262143⟩,
  ⟨VIN.AUD_RATE_RATE, 0, 1, .ro, 0, 262143⟩,
  ⟨VIN.ANC_FILT_DID, 4, 16, .rw, 0, 262143⟩,
  ⟨VIN.ANC_FILT_SDID, 4, 16, .rw, 0, 262143⟩,
  ⟨VIN.ANC_FILT_ANY_SDID, 4, 16, .rw, 0, 262143⟩,
  ⟨VIN.ANC_FILT_ACTION, 4, 16, .rw, 0, 262143⟩,
  ⟨VIN.ANC_FILT_VALID, 4, 16, .rw, 0, 262143⟩,
  ⟨VIN.CNT_CRC_LINES, 0, 1, .ro, 0, 262143⟩,
  ⟨VIN.CNT_CRC_FRAMES, 0, 1, .ro, 0, 262143⟩,
  ⟨VIN.CNT_ANC_DROP, 0, 1, .ro, 0, 262143⟩,
  ⟨VIN.CNT_AUD_UNCORR, 0, 1, .ro, 0, 262143⟩,
  ⟨VIN.CNT_FMT_CHANGES, 0, 1, .ro, 0, 262143⟩]
/-- The fields of the VIN page with their access codes. -/
def VIN.layout : List LayoutRow := VIN.layout0 ++ VIN.layout1 ++ VIN.layout2

/-- 1: VO enabled (R118, Table 3.10). -/
def VOUT.CFG_EN : Field := ⟨.vout, 0x40, 0, 1, .const 0⟩
/-- Code from Table 3.1 (R118, Table 3.10). -/
def VOUT.CFG_MAPPING : Field := ⟨.vout, 0x40, 1, 4, .const 1⟩
/-- Mapping 0x5: 0 two-sample interleave, 1 square division (R118, Table 3.10). -/
def VOUT.CFG_DIVISION : Field := ⟨.vout, 0x40, 5, 2, .const 0⟩
/-- 1: insert ST 352 (R118, Table 3.10). -/
def VOUT.CFG_PID_INSERT : Field := ⟨.vout, 0x40, 8, 1, .const 1⟩
/-- 1: insert source ANC under R103 (R118, Table 3.10). -/
def VOUT.CFG_ANC_PASS : Field := ⟨.vout, 0x40, 9, 1, .const 1⟩
/-- 1: insert ST 12-2 timecode (R118, Table 3.10). -/
def VOUT.CFG_TC_INSERT : Field := ⟨.vout, 0x40, 10, 1, .const 1⟩
/-- Layout of Table 3.8; reset 1080i29.97 YCbCr 4:2:2 10-bit BT.709 SDR, mapping 0x1 (R118, Table 3.10). -/
def VOUT.FMT_RASTER : Field := ⟨.vout, 0x44, 0, 3, .const 3⟩
/-- Layout of Table 3.8; reset 1080i29.97 YCbCr 4:2:2 10-bit BT.709 SDR, mapping 0x1 (R118, Table 3.10). -/
def VOUT.FMT_RATE : Field := ⟨.vout, 0x44, 4, 3, .const 3⟩
/-- Layout of Table 3.8; reset 1080i29.97 YCbCr 4:2:2 10-bit BT.709 SDR, mapping 0x1 (R118, Table 3.10). -/
def VOUT.FMT_SCAN : Field := ⟨.vout, 0x44, 8, 2, .const 1⟩
/-- Layout of Table 3.8; reset 1080i29.97 YCbCr 4:2:2 10-bit BT.709 SDR, mapping 0x1 (R118, Table 3.10). -/
def VOUT.FMT_SAMPLING : Field := ⟨.vout, 0x44, 12, 2, .const 0⟩
/-- Layout of Table 3.8; reset 1080i29.97 YCbCr 4:2:2 10-bit BT.709 SDR, mapping 0x1 (R118, Table 3.10). -/
def VOUT.FMT_DEPTH : Field := ⟨.vout, 0x44, 14, 1, .const 0⟩
/-- Layout of Table 3.8; reset 1080i29.97 YCbCr 4:2:2 10-bit BT.709 SDR, mapping 0x1 (R118, Table 3.10). -/
def VOUT.FMT_COLOR : Field := ⟨.vout, 0x44, 16, 2, .const 1⟩
/-- Layout of Table 3.8; reset 1080i29.97 YCbCr 4:2:2 10-bit BT.709 SDR, mapping 0x1 (R118, Table 3.10). -/
def VOUT.FMT_TRANSFER : Field := ⟨.vout, 0x44, 18, 2, .const 0⟩
/-- Layout of Table 3.8; reset 1080i29.97 YCbCr 4:2:2 10-bit BT.709 SDR, mapping 0x1 (R118, Table 3.10). -/
def VOUT.FMT_MAPPING : Field := ⟨.vout, 0x44, 24, 4, .const 1⟩
/-- Layout of Table 3.8; reset 1080i29.97 YCbCr 4:2:2 10-bit BT.709 SDR, mapping 0x1 (R118, Table 3.10). -/
def VOUT.FMT_VALID : Field := ⟨.vout, 0x44, 31, 1, .const 0⟩
/-- 0 OFF, 1 IDLE, 2 BLACK, 3 RUN; under R120 (R118, Table 3.10). -/
def VOUT.STAT_STATE : Field := ⟨.vout, 0x48, 0, 2, .const 0⟩
/-- Non-lead member of a gang (R118, Table 3.10). -/
def VOUT.STAT_GANGED : Field := ⟨.vout, 0x48, 2, 1, .const 0⟩
/-- Groups of 4 channels embedded (R118, Table 3.10). -/
def VOUT.AUD_GROUPS_GROUPS : Field := ⟨.vout, 0x4C, 0, 8, .const 0xf⟩
/-- First line for relocated VANC, field 1 or frame (R118, Table 3.10). -/
def VOUT.ANC_LINE_LINE1 : Field := ⟨.vout, 0x50, 0, 13, .const 9⟩
/-- First line for relocated VANC, field 2 (R118, Table 3.10). -/
def VOUT.ANC_LINE_LINE2 : Field := ⟨.vout, 0x50, 16, 13, .const 0x23c⟩
/-- Packets matched are not inserted (R118, Table 3.10). -/
def VOUT.ANC_DROP_FILT_DID : Field := ⟨.vout, 0x60, 0, 8, .const 0⟩
/-- Packets matched are not inserted (R118, Table 3.10). -/
def VOUT.ANC_DROP_FILT_SDID : Field := ⟨.vout, 0x60, 8, 8, .const 0⟩
/-- Packets matched are not inserted (R118, Table 3.10). -/
def VOUT.ANC_DROP_FILT_ANY_SDID : Field := ⟨.vout, 0x60, 16, 1, .const 0⟩
/-- Packets matched are not inserted (R118, Table 3.10). -/
def VOUT.ANC_DROP_FILT_VALID : Field := ⟨.vout, 0x60, 31, 1, .const 0⟩
/-- 0 SLEW, 1 STEP (R270, Table 8.3). -/
def VOUT.TIM_CFG_FOLLOW : Field := ⟨.vout, 0x100, 0, 1, .const 0⟩
/-- 0.1 ppm steps, 1 to 100; 0 is treated as 1 (R270, Table 8.3). -/
def VOUT.TIM_CFG_SLEW_RATE : Field := ⟨.vout, 0x100, 8, 7, .const 0xa⟩
/-- Vertical offset in lines (R270, Table 8.3). -/
def VOUT.V_OFFSET_LINES : Field := ⟨.vout, 0x104, 0, 14, .const 0⟩
/-- Horizontal offset in 0.842 ns steps (R270, Table 8.3). -/
def VOUT.H_OFFSET_STEPS : Field := ⟨.vout, 0x108, 0, 17, .const 0⟩
/-- 0 OFF, 1 WAIT, 2 FREE, 3 LOCKED, 4 SLEW, 5 STEP (R270, Table 8.3). -/
def VOUT.TIM_STAT_STATE : Field := ⟨.vout, 0x10C, 0, 3, .const 0⟩
/-- Lines inserted at the last STEP, 0 to 4,499 (R270, Table 8.3). -/
def VOUT.TIM_STAT_INSERT : Field := ⟨.vout, 0x10C, 4, 13, .const 0⟩
/-- Remaining phase error, two's complement, 0.842 ns steps; positive when the output must move later (R270, Table 8.3). -/
def VOUT.PHASE_ERR_ERR : Field := ⟨.vout, 0x110, 0, 28, .const 0⟩
/-- Frame count of the current frame (R270, Table 8.3). -/
def VOUT.FRAME_CNT_COUNT : Field := ⟨.vout, 0x114, 0, 20, .const 0⟩
/-- 0 SYSTEM, 1 SOURCE (R270, Table 8.3). -/
def VOUT.TC_CFG_MODE : Field := ⟨.vout, 0x118, 0, 1, .const 0⟩
/-- 1 LTC, 2 VITC, 3 both; 0 is treated as 3 (R270, Table 8.3). -/
def VOUT.TC_CFG_TYPES : Field := ⟨.vout, 0x118, 1, 2, .const 3⟩
/-- 1: drop-frame at 29.97 and 59.94 frames per second (R270, Table 8.3). -/
def VOUT.TC_CFG_DF : Field := ⟨.vout, 0x118, 3, 1, .const 1⟩
/-- 15-minute steps, two's complement, -48 to +56 (R270, Table 8.3). -/
def VOUT.TC_CFG_ZONE : Field := ⟨.vout, 0x118, 8, 8, .const 0⟩
/-- Frames, two's complement, -2,048 to +2,047 (R270, Table 8.3). -/
def VOUT.TC_CFG_OFFSET : Field := ⟨.vout, 0x118, 16, 12, .const 0⟩
/-- Value inserted last; layout of VIN.TC (R270, Table 8.3). -/
def VOUT.TC_OUT_TC : Field := ⟨.vout, 0x11C, 0, 32, .const 0⟩
/-- Header counter; saturating (R118). -/
def VOUT.CNT_ANC_DROPPED : Field := ⟨.vout, 0x28, 0, 32, .const 0⟩
/-- Header counter; saturating (R118). -/
def VOUT.CNT_AUD_DROPPED : Field := ⟨.vout, 0x2C, 0, 32, .const 0⟩
/-- EVT_STAT [0]: Output started under R266 or R267 (R270, Table 8.3). -/
abbrev VOUT.EV_STARTED : Nat := 0
/-- EVT_STAT [1]: Frame count lowered by n under R260 (R270, Table 8.3). -/
abbrev VOUT.EV_REBASE : Nat := 1
/-- EVT_STAT [2]: Slew started (R270, Table 8.3). -/
abbrev VOUT.EV_SLEW_START : Nat := 2
/-- EVT_STAT [3]: Phase error within 1 step (R270, Table 8.3). -/
abbrev VOUT.EV_SLEW_DONE : Nat := 3
/-- EVT_STAT [4]: Lines inserted under R262 (R270, Table 8.3). -/
abbrev VOUT.EV_STEPPED : Nat := 4
/-- EVT_STAT [5]: Under R264 (R270, Table 8.3). -/
abbrev VOUT.EV_TAKE_REBASED : Nat := 5
/-- EVT_STAT [6]: Under R268 (R270, Table 8.3). -/
abbrev VOUT.EV_TC_SRC_LOST : Nat := 6
/-- EVT_STAT [7]: Commit not applied under R258, or a VOUT.FMT or CFG commit not applied under R113 (R270, Table 8.3). -/
abbrev VOUT.EV_CFG_BLOCKED : Nat := 7
/-- Fields of the VOUT page, part 0. -/
def VOUT.layout0 : List LayoutRow := [
  ⟨VOUT.CFG_EN, 0, 1, .rws, 0, 262143⟩,
  ⟨VOUT.CFG_MAPPING, 0, 1, .rws, 0, 262143⟩,
  ⟨VOUT.CFG_DIVISION, 0, 1, .rws, 0, 262143⟩,
  ⟨VOUT.CFG_PID_INSERT, 0, 1, .rws, 0, 262143⟩,
  ⟨VOUT.CFG_ANC_PASS, 0, 1, .rws, 0, 262143⟩,
  ⟨VOUT.CFG_TC_INSERT, 0, 1, .rws, 0, 262143⟩,
  ⟨VOUT.FMT_RASTER, 0, 1, .rws, 0, 262143⟩,
  ⟨VOUT.FMT_RATE, 0, 1, .rws, 0, 262143⟩,
  ⟨VOUT.FMT_SCAN, 0, 1, .rws, 0, 262143⟩,
  ⟨VOUT.FMT_SAMPLING, 0, 1, .rws, 0, 262143⟩,
  ⟨VOUT.FMT_DEPTH, 0, 1, .rws, 0, 262143⟩,
  ⟨VOUT.FMT_COLOR, 0, 1, .rws, 0, 262143⟩,
  ⟨VOUT.FMT_TRANSFER, 0, 1, .rws, 0, 262143⟩,
  ⟨VOUT.FMT_MAPPING, 0, 1, .rws, 0, 262143⟩,
  ⟨VOUT.FMT_VALID, 0, 1, .rws, 0, 262143⟩,
  ⟨VOUT.STAT_STATE, 0, 1, .ro, 0, 262143⟩,
  ⟨VOUT.STAT_GANGED, 0, 1, .ro, 0, 262143⟩,
  ⟨VOUT.AUD_GROUPS_GROUPS, 0, 1, .rws, 0, 262143⟩,
  ⟨VOUT.ANC_LINE_LINE1, 0, 1, .rws, 0, 262143⟩,
  ⟨VOUT.ANC_LINE_LINE2, 0, 1, .rws, 0, 262143⟩]
/-- Fields of the VOUT page, part 1. -/
def VOUT.layout1 : List LayoutRow := [
  ⟨VOUT.ANC_DROP_FILT_DID, 4, 4, .rw, 0, 262143⟩,
  ⟨VOUT.ANC_DROP_FILT_SDID, 4, 4, .rw, 0, 262143⟩,
  ⟨VOUT.ANC_DROP_FILT_ANY_SDID, 4, 4, .rw, 0, 262143⟩,
  ⟨VOUT.ANC_DROP_FILT_VALID, 4, 4, .rw, 0, 262143⟩,
  ⟨VOUT.TIM_CFG_FOLLOW, 0, 1, .rws, 0, 262143⟩,
  ⟨VOUT.TIM_CFG_SLEW_RATE, 0, 1, .rws, 0, 262143⟩,
  ⟨VOUT.V_OFFSET_LINES, 0, 1, .rws, 0, 262143⟩,
  ⟨VOUT.H_OFFSET_STEPS, 0, 1, .rws, 0, 262143⟩,
  ⟨VOUT.TIM_STAT_STATE, 0, 1, .ro, 0, 262143⟩,
  ⟨VOUT.TIM_STAT_INSERT, 0, 1, .ro, 0, 262143⟩,
  ⟨VOUT.PHASE_ERR_ERR, 0, 1, .ro, 0, 262143⟩,
  ⟨VOUT.FRAME_CNT_COUNT, 0, 1, .ro, 0, 262143⟩,
  ⟨VOUT.TC_CFG_MODE, 0, 1, .rws, 0, 262143⟩,
  ⟨VOUT.TC_CFG_TYPES, 0, 1, .rws, 0, 262143⟩,
  ⟨VOUT.TC_CFG_DF, 0, 1, .rws, 0, 262143⟩,
  ⟨VOUT.TC_CFG_ZONE, 0, 1, .rws, 0, 262143⟩,
  ⟨VOUT.TC_CFG_OFFSET, 0, 1, .rws, 0, 262143⟩,
  ⟨VOUT.TC_OUT_TC, 0, 1, .ro, 0, 262143⟩,
  ⟨VOUT.CNT_ANC_DROPPED, 0, 1, .ro, 0, 262143⟩,
  ⟨VOUT.CNT_AUD_DROPPED, 0, 1, .ro, 0, 262143⟩]
/-- The fields of the VOUT page with their access codes. -/
def VOUT.layout : List LayoutRow := VOUT.layout0 ++ VOUT.layout1

/-- Filter set: 0 built-in, 1 to 15 loaded (R229, Table 7.5). -/
def CE.PROF0_FILTER : Field := ⟨.ce, 0x400, 0, 4, .const 0⟩
/-- LUT slot: 0 none, 1 to 8 loaded; 9 to 15 reserved (R229, Table 7.5). -/
def CE.PROF0_LUT : Field := ⟨.ce, 0x400, 4, 4, .const 0⟩
/-- 0 MA, 1 BOB, 2 WEAVE; 3 reserved, under R232 (R229, Table 7.5). -/
def CE.PROF0_DEINT : Field := ⟨.ce, 0x400, 8, 2, .const 0⟩
/-- Requested quality: 0 MC, 1 BLEND, 2 DROP; 3 reserved, under R232 (R229, Table 7.5). -/
def CE.PROF0_QREQ : Field := ⟨.ce, 0x400, 10, 2, .const 0⟩
/-- Lowest quality accepted at admission, coded as QREQ; 3 reserved, under R232 (R229, Table 7.5). -/
def CE.PROF0_QMIN : Field := ⟨.ce, 0x400, 12, 2, .const 2⟩
/-- 0 lowest to 3 highest, for Table 7.10 (R229, Table 7.5). -/
def CE.PROF0_PRIORITY : Field := ⟨.ce, 0x400, 14, 2, .const 0⟩
/-- 0 FULL, 1 FIT, 2 FILL; 3 reserved, under R232 (R229, Table 7.5). -/
def CE.PROF0_ASPECT : Field := ⟨.ce, 0x400, 16, 2, .const 0⟩
/-- 1: dither on depth reduction (R229, Table 7.5). -/
def CE.PROF0_DITHER : Field := ⟨.ce, 0x400, 18, 1, .const 0⟩
/-- 1: use an engine even when descriptors are equal (R229, Table 7.5). -/
def CE.PROF0_FORCE : Field := ⟨.ce, 0x400, 19, 1, .const 0⟩
/-- 1: profile usable (R229, Table 7.5). -/
def CE.PROF0_VALID : Field := ⟨.ce, 0x400, 31, 1, .atIdx0 1⟩
/-- Crop window left edge, input samples (R229, Table 7.5). -/
def CE.PROF1_H_START : Field := ⟨.ce, 0x404, 0, 13, .const 0⟩
/-- Crop width; 0: whole width (R229, Table 7.5). -/
def CE.PROF1_H_WIDTH : Field := ⟨.ce, 0x404, 16, 13, .const 0⟩
/-- Crop window top edge, input lines of a frame (R229, Table 7.5). -/
def CE.PROF2_V_START : Field := ⟨.ce, 0x408, 0, 13, .const 0⟩
/-- Crop height; 0: whole height (R229, Table 7.5). -/
def CE.PROF2_V_HEIGHT : Field := ⟨.ce, 0x408, 16, 13, .const 0⟩
/-- 1: periodic spare test (R255, Table 7.15). -/
def CE.ENG_CFG_SELFTEST_EN : Field := ⟨.ce, 0x40, 0, 1, .const 1⟩
/-- Minutes, 1 to 255; 0 is treated as 1 (R255, Table 7.15). -/
def CE.ENG_CFG_SELFTEST_PERIOD : Field := ⟨.ce, 0x40, 8, 8, .const 0xf⟩
/-- 0 idle, 1 assigned, 2 spare, 3 spare serving as twin, 4 gang member (R255, Table 7.15). -/
def CE.ENG_STAT_ROLE : Field := ⟨.ce, 0x44, 0, 3, .const 0⟩
/-- Cluster index (R255, Table 7.15). -/
def CE.ENG_STAT_CLUSTER : Field := ⟨.ce, 0x44, 3, 2, .const 0⟩
/-- Shares in use, 0 to 4 (R255, Table 7.15). -/
def CE.ENG_STAT_SHARES : Field := ⟨.ce, 0x44, 5, 3, .const 0⟩
/-- Lead engine; 0x3F none (R255, Table 7.15). -/
def CE.ENG_STAT_GANG_LEAD : Field := ⟨.ce, 0x44, 8, 6, .const 0x3f⟩
/-- Under R242 (R255, Table 7.15). -/
def CE.ENG_STAT_SUSPECT : Field := ⟨.ce, 0x44, 16, 1, .const 0⟩
/-- First destination slot served (R255, Table 7.15). -/
def CE.STREAM_DST : Field := ⟨.ce, 0x50, 0, 9, .const 0⟩
/-- Source slot read (R255, Table 7.15). -/
def CE.STREAM_SRC : Field := ⟨.ce, 0x50, 16, 9, .const 0⟩
/-- Stream in use (R255, Table 7.15). -/
def CE.STREAM_ACTIVE : Field := ⟨.ce, 0x50, 31, 1, .const 0⟩
/-- Profile in use (R255, Table 7.15). -/
def CE.STREAM_PROFILE : Field := ⟨.ce, 0x54, 0, 6, .const 0⟩
/-- 0 MC, 1 BLEND, 2 DROP (R255, Table 7.15). -/
def CE.STREAM_QREQ : Field := ⟨.ce, 0x54, 8, 2, .const 0⟩
/-- Admitted step (R255, Table 7.15). -/
def CE.STREAM_QADM : Field := ⟨.ce, 0x54, 10, 2, .const 0⟩
/-- Step running (R255, Table 7.15). -/
def CE.STREAM_QNOW : Field := ⟨.ce, 0x54, 12, 2, .const 0⟩
/-- Bits for stages 3, 4, 5, 6, 7, 8 and 11 selected, in that order (R255, Table 7.15). -/
def CE.STREAM_STAGES : Field := ⟨.ce, 0x54, 16, 7, .const 0⟩
/-- Latency under R245 of the output frame last built: the fixed delay D plus the variable part of that frame, in output lines (R255, Table 7.15). -/
def CE.STREAM_LATENCY : Field := ⟨.ce, 0x58, 0, 16, .const 0⟩
/-- FRAME of the last output frame (R255, Table 7.15). -/
def CE.STREAM_FRAME : Field := ⟨.ce, 0x5C, 0, 20, .const 0⟩
/-- 0 LUT, 1 filter set (R255, Table 7.15). -/
def CE.LOAD_CTL_KIND : Field := ⟨.ce, 0x200, 0, 1, .const 0⟩
/-- LUT 1 to 8, filter 1 to 15 (R255, Table 7.15). -/
def CE.LOAD_CTL_TARGET : Field := ⟨.ce, 0x200, 1, 4, .const 0⟩
/-- Check and load; reads 0 (R255, Table 7.15). -/
def CE.LOAD_CTL_COMMIT : Field := ⟨.ce, 0x200, 8, 1, .const 0⟩
/-- Expected CRC-32C of the used staging bytes (R255, Table 7.15). -/
def CE.LOAD_CRC_CRC : Field := ⟨.ce, 0x204, 0, 32, .const 0⟩
/-- Check, copy or wait in progress (R255, Table 7.15). -/
def CE.LOAD_STAT_BUSY : Field := ⟨.ce, 0x208, 0, 1, .const 0⟩
/-- Last commit loaded (R255, Table 7.15). -/
def CE.LOAD_STAT_DONE : Field := ⟨.ce, 0x208, 1, 1, .const 0⟩
/-- Code under R236; 0 none (R255, Table 7.15). -/
def CE.LOAD_STAT_ERR : Field := ⟨.ce, 0x208, 4, 3, .const 0⟩
/-- Destination that can be named in a take (R255, Table 7.15). -/
def CE.PROF_DST_SLOT : Field := ⟨.ce, 0x210, 0, 9, .const 0⟩
/-- Profile, 0 to 63 (R255, Table 7.15). -/
def CE.PROF_DST_PROFILE : Field := ⟨.ce, 0x210, 16, 6, .const 0⟩
/-- Submit under R231; reads 0 (R255, Table 7.15). -/
def CE.PROF_DST_GO : Field := ⟨.ce, 0x210, 31, 1, .const 0⟩
/-- Ledger code (R255, Table 7.15). -/
def CE.PROF_RESP_CODE : Field := ⟨.ce, 0x214, 0, 8, .const 0⟩
/-- Decided (R255, Table 7.15). -/
def CE.PROF_RESP_DONE : Field := ⟨.ce, 0x214, 8, 1, .const 0⟩
/-- Being decided; GO ignored (R255, Table 7.15). -/
def CE.PROF_RESP_BUSY : Field := ⟨.ce, 0x214, 9, 1, .const 0⟩
/-- Cluster named (R255, Table 7.15). -/
def CE.EVAC_CLUSTER : Field := ⟨.ce, 0x218, 0, 2, .const 0⟩
/-- Request evacuation (R255, Table 7.15). -/
def CE.EVAC_GO : Field := ⟨.ce, 0x218, 4, 1, .const 0⟩
/-- Reopen the cluster (R255, Table 7.15). -/
def CE.EVAC_RELEASE : Field := ⟨.ce, 0x218, 5, 1, .const 0⟩
/-- Ledger code (R255, Table 7.15). -/
def CE.EVAC_CODE : Field := ⟨.ce, 0x218, 8, 8, .const 0⟩
/-- Cluster empty (R255, Table 7.15). -/
def CE.EVAC_DONE : Field := ⟨.ce, 0x218, 16, 1, .const 0⟩
/-- Evacuation running (R255, Table 7.15). -/
def CE.EVAC_BUSY : Field := ⟨.ce, 0x218, 17, 1, .const 0⟩
/-- Profile of VOd, d 0 to 191 (R255, Table 7.15). -/
def CE.PROF_MAP_PROFILE : Field := ⟨.ce, 0x800, 0, 6, .const 0⟩
/-- Profile of test tap TTt, t 0 to 15 (R255, Table 7.15). -/
def CE.PROF_MAP_TT_PROFILE : Field := ⟨.ce, 0xB00, 0, 6, .const 0⟩
/-- Header counter; saturating (R255). -/
def CE.CNT_TAG_IN_ERR : Field := ⟨.ce, 0x28, 0, 32, .const 0⟩
/-- Header counter; saturating (R255). -/
def CE.CNT_STEPS : Field := ⟨.ce, 0x2C, 0, 32, .const 0⟩
/-- Header counter; saturating (R255). -/
def CE.CNT_VEC_FAULTS : Field := ⟨.ce, 0x30, 0, 32, .const 0⟩
/-- Header counter; saturating (R255). -/
def CE.CNT_SELFTESTS : Field := ⟨.ce, 0x34, 0, 32, .const 0⟩
/-- EVT_STAT [0]: Input tag failure (R255, Table 7.15). -/
abbrev CE.EV_TAG_IN_ERR : Nat := 0
/-- EVT_STAT [1]: Ladder step down (R255, Table 7.15). -/
abbrev CE.EV_STEP_DOWN : Nat := 1
/-- EVT_STAT [2]: Ladder step up (R255, Table 7.15). -/
abbrev CE.EV_STEP_UP : Nat := 2
/-- EVT_STAT [3]: Under Table 7.9 (R255, Table 7.15). -/
abbrev CE.EV_VEC_FAULT : Nat := 3
/-- EVT_STAT [4]: Under R248 (R255, Table 7.15). -/
abbrev CE.EV_SELFTEST_FAIL : Nat := 4
/-- EVT_STAT [5]: Streams moved to or from this engine (R255, Table 7.15). -/
abbrev CE.EV_MIGRATED : Nat := 5
/-- EVT_STAT [6]: Under R251 (R255, Table 7.15). -/
abbrev CE.EV_GANG_FAIL : Nat := 6
/-- EVT_STAT [7]: Under R218: this engine's retirement left its cluster without a spare (R255, Table 7.15). -/
abbrev CE.EV_NO_SPARE : Nat := 7
/-- EVT_STAT [8]: CE[0]: under R236 (R255, Table 7.15). -/
abbrev CE.EV_LOAD_DONE : Nat := 8
/-- EVT_STAT [9]: CE[0]: under R236 (R255, Table 7.15). -/
abbrev CE.EV_LOAD_ERR : Nat := 9
/-- EVT_STAT [10]: CE[0]: under R232 (R255, Table 7.15). -/
abbrev CE.EV_PROF_BLOCKED : Nat := 10
/-- EVT_STAT [11]: CE[0]: under R253 (R255, Table 7.15). -/
abbrev CE.EV_EVAC_DONE : Nat := 11
/-- EVT_STAT [12]: Under R251: this engine, freed by shedding, took a failed engine's streams (R255, Table 7.15). -/
abbrev CE.EV_SHED_TAKEOVER : Nat := 12
/-- Fields of the CE page, part 0. -/
def CE.layout0 : List LayoutRow := [
  ⟨CE.PROF0_FILTER, 16, 64, .rws, 0, 0⟩,
  ⟨CE.PROF0_LUT, 16, 64, .rws, 0, 0⟩,
  ⟨CE.PROF0_DEINT, 16, 64, .rws, 0, 0⟩,
  ⟨CE.PROF0_QREQ, 16, 64, .rws, 0, 0⟩,
  ⟨CE.PROF0_QMIN, 16, 64, .rws, 0, 0⟩,
  ⟨CE.PROF0_PRIORITY, 16, 64, .rws, 0, 0⟩,
  ⟨CE.PROF0_ASPECT, 16, 64, .rws, 0, 0⟩,
  ⟨CE.PROF0_DITHER, 16, 64, .rws, 0, 0⟩,
  ⟨CE.PROF0_FORCE, 16, 64, .rws, 0, 0⟩,
  ⟨CE.PROF0_VALID, 16, 64, .rws, 0, 0⟩,
  ⟨CE.PROF1_H_START, 16, 64, .rws, 0, 0⟩,
  ⟨CE.PROF1_H_WIDTH, 16, 64, .rws, 0, 0⟩,
  ⟨CE.PROF2_V_START, 16, 64, .rws, 0, 0⟩,
  ⟨CE.PROF2_V_HEIGHT, 16, 64, .rws, 0, 0⟩,
  ⟨CE.ENG_CFG_SELFTEST_EN, 0, 1, .rw, 0, 262143⟩,
  ⟨CE.ENG_CFG_SELFTEST_PERIOD, 0, 1, .rw, 0, 262143⟩,
  ⟨CE.ENG_STAT_ROLE, 0, 1, .ro, 0, 262143⟩,
  ⟨CE.ENG_STAT_CLUSTER, 0, 1, .ro, 0, 262143⟩,
  ⟨CE.ENG_STAT_SHARES, 0, 1, .ro, 0, 262143⟩,
  ⟨CE.ENG_STAT_GANG_LEAD, 0, 1, .ro, 0, 262143⟩]
/-- Fields of the CE page, part 1. -/
def CE.layout1 : List LayoutRow := [
  ⟨CE.ENG_STAT_SUSPECT, 0, 1, .ro, 0, 262143⟩,
  ⟨CE.STREAM_DST, 16, 4, .ro, 0, 262143⟩,
  ⟨CE.STREAM_SRC, 16, 4, .ro, 0, 262143⟩,
  ⟨CE.STREAM_ACTIVE, 16, 4, .ro, 0, 262143⟩,
  ⟨CE.STREAM_PROFILE, 16, 4, .ro, 0, 262143⟩,
  ⟨CE.STREAM_QREQ, 16, 4, .ro, 0, 262143⟩,
  ⟨CE.STREAM_QADM, 16, 4, .ro, 0, 262143⟩,
  ⟨CE.STREAM_QNOW, 16, 4, .ro, 0, 262143⟩,
  ⟨CE.STREAM_STAGES, 16, 4, .ro, 0, 262143⟩,
  ⟨CE.STREAM_LATENCY, 16, 4, .ro, 0, 262143⟩,
  ⟨CE.STREAM_FRAME, 16, 4, .ro, 0, 262143⟩,
  ⟨CE.LOAD_CTL_KIND, 0, 1, .rw, 0, 0⟩,
  ⟨CE.LOAD_CTL_TARGET, 0, 1, .rw, 0, 0⟩,
  ⟨CE.LOAD_CTL_COMMIT, 0, 1, .w1s, 0, 0⟩,
  ⟨CE.LOAD_CRC_CRC, 0, 1, .rw, 0, 0⟩,
  ⟨CE.LOAD_STAT_BUSY, 0, 1, .ro, 0, 0⟩,
  ⟨CE.LOAD_STAT_DONE, 0, 1, .ro, 0, 0⟩,
  ⟨CE.LOAD_STAT_ERR, 0, 1, .ro, 0, 0⟩,
  ⟨CE.PROF_DST_SLOT, 0, 1, .rw, 0, 0⟩,
  ⟨CE.PROF_DST_PROFILE, 0, 1, .rw, 0, 0⟩]
/-- Fields of the CE page, part 2. -/
def CE.layout2 : List LayoutRow := [
  ⟨CE.PROF_DST_GO, 0, 1, .w1s, 0, 0⟩,
  ⟨CE.PROF_RESP_CODE, 0, 1, .ro, 0, 0⟩,
  ⟨CE.PROF_RESP_DONE, 0, 1, .ro, 0, 0⟩,
  ⟨CE.PROF_RESP_BUSY, 0, 1, .ro, 0, 0⟩,
  ⟨CE.EVAC_CLUSTER, 0, 1, .rw, 0, 0⟩,
  ⟨CE.EVAC_GO, 0, 1, .w1s, 0, 0⟩,
  ⟨CE.EVAC_RELEASE, 0, 1, .w1s, 0, 0⟩,
  ⟨CE.EVAC_CODE, 0, 1, .ro, 0, 0⟩,
  ⟨CE.EVAC_DONE, 0, 1, .ro, 0, 0⟩,
  ⟨CE.EVAC_BUSY, 0, 1, .ro, 0, 0⟩,
  ⟨CE.PROF_MAP_PROFILE, 4, 192, .ro, 0, 0⟩,
  ⟨CE.PROF_MAP_TT_PROFILE, 4, 16, .ro, 0, 0⟩,
  ⟨CE.CNT_TAG_IN_ERR, 0, 1, .ro, 0, 262143⟩,
  ⟨CE.CNT_STEPS, 0, 1, .ro, 0, 262143⟩,
  ⟨CE.CNT_VEC_FAULTS, 0, 1, .ro, 0, 262143⟩,
  ⟨CE.CNT_SELFTESTS, 0, 1, .ro, 0, 262143⟩]
/-- The fields of the CE page with their access codes. -/
def CE.layout : List LayoutRow := CE.layout0 ++ CE.layout1 ++ CE.layout2

/-- Corrected sectors, 1 to 255 (R216, Table 6.11). -/
def MEMCH.CH_CFG_CE_LIMIT : Field := ⟨.memch, 0x40, 0, 8, .const 0x40⟩
/-- Window in seconds, 1 to 255 (R216, Table 6.11). -/
def MEMCH.CH_CFG_CE_WINDOW : Field := ⟨.memch, 0x40, 8, 8, .const 0x3c⟩
/-- 1: migrate on FAILING (R216, Table 6.11). -/
def MEMCH.CH_CFG_AUTO_MIGRATE : Field := ⟨.memch, 0x40, 16, 1, .const 1⟩
/-- 0 GOOD, 1 WATCH, 2 FAILING, 3 DEAD (R216, Table 6.11). -/
def MEMCH.CH_STAT_HEALTH : Field := ⟨.memch, 0x44, 0, 2, .const 0⟩
/-- Spare pages left, 0 to 32 (R216, Table 6.11). -/
def MEMCH.CH_STAT_SPARE_LEFT : Field := ⟨.memch, 0x44, 2, 6, .const 0x20⟩
/-- Operations in flight, 0 to 1,024 (R216, Table 6.11). -/
def MEMCH.CH_STAT_OPS : Field := ⟨.memch, 0x44, 8, 11, .const 0⟩
/-- PHY training complete (R216, Table 6.11). -/
def MEMCH.CH_STAT_TRAINED : Field := ⟨.memch, 0x44, 19, 1, .const 0⟩
/-- Share of charged bandwidth under R216, 0.1 Gbit/s steps (R216, Table 6.11). -/
def MEMCH.CH_LOAD_BW : Field := ⟨.memch, 0x48, 0, 10, .const 0⟩
/-- Share of allocated capacity under R216, MiB (R216, Table 6.11). -/
def MEMCH.CH_LOAD_CAP : Field := ⟨.memch, 0x48, 16, 11, .const 0⟩
/-- Corrected sectors in the current window (R216, Table 6.11). -/
def MEMCH.CE_RATE_COUNT : Field := ⟨.memch, 0x4C, 0, 16, .const 0⟩
/-- Sector of the last error (R216, Table 6.11). -/
def MEMCH.ERR_ADDR_SECTOR : Field := ⟨.memch, 0x50, 0, 24, .const 0⟩
/-- 0 corrected, 1 uncorrectable (R216, Table 6.11). -/
def MEMCH.ERR_ADDR_KIND : Field := ⟨.memch, 0x50, 24, 1, .const 0⟩
/-- Hours since the last completed pass (R216, Table 6.11). -/
def MEMCH.SCRUB_STAT_AGE : Field := ⟨.memch, 0x54, 0, 16, .const 0⟩
/-- Under R204 (R216, Table 6.11). -/
def MEMCH.SCRUB_STAT_LATE : Field := ⟨.memch, 0x54, 16, 1, .const 0⟩
/-- Enter FAILING; reads 0 (R216, Table 6.11). -/
def MEMCH.CH_CTL_MIGRATE_OUT : Field := ⟨.memch, 0x58, 0, 1, .const 0⟩
/-- Run the self-test; acted on only while the channel holds no allocation (R216, Table 6.11). -/
def MEMCH.CH_CTL_SELFTEST : Field := ⟨.memch, 0x58, 1, 1, .const 0⟩
/-- Header counter; saturating (R216). -/
def MEMCH.CNT_CORR : Field := ⟨.memch, 0x28, 0, 32, .const 0⟩
/-- Header counter; saturating (R216). -/
def MEMCH.CNT_UNCORR : Field := ⟨.memch, 0x2C, 0, 32, .const 0⟩
/-- Header counter; saturating (R216). -/
def MEMCH.CNT_REMAPPED : Field := ⟨.memch, 0x30, 0, 32, .const 0⟩
/-- Header counter; saturating (R216). -/
def MEMCH.CNT_SCRUB_PASS : Field := ⟨.memch, 0x34, 0, 32, .const 0⟩
/-- EVT_STAT [0]: CE_LIMIT reached (R216, Table 6.11). -/
abbrev MEMCH.EV_CORR_LIMIT : Nat := 0
/-- EVT_STAT [1]: Uncorrectable sector (R216, Table 6.11). -/
abbrev MEMCH.EV_UNCORR : Nat := 1
/-- EVT_STAT [2]: Page remapped (R216, Table 6.11). -/
abbrev MEMCH.EV_REMAP : Nat := 2
/-- EVT_STAT [3]: No spare page left (R216, Table 6.11). -/
abbrev MEMCH.EV_REMAP_EXHAUSTED : Nat := 3
/-- EVT_STAT [4]: Hard loss (R216, Table 6.11). -/
abbrev MEMCH.EV_DEAD : Nat := 4
/-- EVT_STAT [5]: No allocation left on the channel (R216, Table 6.11). -/
abbrev MEMCH.EV_MIGRATE_DONE : Nat := 5
/-- EVT_STAT [6]: Under R204 (R216, Table 6.11). -/
abbrev MEMCH.EV_SCRUB_LATE : Nat := 6
/-- EVT_STAT [7]: Self-test ended (R216, Table 6.11). -/
abbrev MEMCH.EV_SELFTEST_DONE : Nat := 7
/-- Fields of the MEMCH page, part 0. -/
def MEMCH.layout0 : List LayoutRow := [
  ⟨MEMCH.CH_CFG_CE_LIMIT, 0, 1, .rw, 0, 262143⟩,
  ⟨MEMCH.CH_CFG_CE_WINDOW, 0, 1, .rw, 0, 262143⟩,
  ⟨MEMCH.CH_CFG_AUTO_MIGRATE, 0, 1, .rw, 0, 262143⟩,
  ⟨MEMCH.CH_STAT_HEALTH, 0, 1, .ro, 0, 262143⟩,
  ⟨MEMCH.CH_STAT_SPARE_LEFT, 0, 1, .ro, 0, 262143⟩,
  ⟨MEMCH.CH_STAT_OPS, 0, 1, .ro, 0, 262143⟩,
  ⟨MEMCH.CH_STAT_TRAINED, 0, 1, .ro, 0, 262143⟩,
  ⟨MEMCH.CH_LOAD_BW, 0, 1, .ro, 0, 262143⟩,
  ⟨MEMCH.CH_LOAD_CAP, 0, 1, .ro, 0, 262143⟩,
  ⟨MEMCH.CE_RATE_COUNT, 0, 1, .ro, 0, 262143⟩,
  ⟨MEMCH.ERR_ADDR_SECTOR, 0, 1, .ro, 0, 262143⟩,
  ⟨MEMCH.ERR_ADDR_KIND, 0, 1, .ro, 0, 262143⟩,
  ⟨MEMCH.SCRUB_STAT_AGE, 0, 1, .ro, 0, 262143⟩,
  ⟨MEMCH.SCRUB_STAT_LATE, 0, 1, .ro, 0, 262143⟩,
  ⟨MEMCH.CH_CTL_MIGRATE_OUT, 0, 1, .w1s, 0, 262143⟩,
  ⟨MEMCH.CH_CTL_SELFTEST, 0, 1, .w1s, 0, 262143⟩,
  ⟨MEMCH.CNT_CORR, 0, 1, .ro, 0, 262143⟩,
  ⟨MEMCH.CNT_UNCORR, 0, 1, .ro, 0, 262143⟩,
  ⟨MEMCH.CNT_REMAPPED, 0, 1, .ro, 0, 262143⟩,
  ⟨MEMCH.CNT_SCRUB_PASS, 0, 1, .ro, 0, 262143⟩]
/-- The fields of the MEMCH page with their access codes. -/
def MEMCH.layout : List LayoutRow := MEMCH.layout0

/-- Load carried now, in Gbit/s (R185, Table 5.9). -/
def FABRIC.LOAD_CARRIED : Field := ⟨.fabric, 0x40, 0, 13, .const 0⟩
/-- L0 plus LA (or LB), in Gbit/s (R185, Table 5.9). -/
def FABRIC.LOAD_CHARGED : Field := ⟨.fabric, 0x40, 16, 13, .const 0⟩
/-- Sources carried on the plane (R185, Table 5.9). -/
def FABRIC.SRC_COUNT_COUNT : Field := ⟨.fabric, 0x44, 0, 10, .const 0⟩
/-- Lock window low edge, lines (R185, Table 5.9). -/
def FABRIC.LOCK_WIN_LO : Field := ⟨.fabric, 0x60, 0, 4, .const 2⟩
/-- Lock window high edge, lines (R185, Table 5.9). -/
def FABRIC.LOCK_WIN_HI : Field := ⟨.fabric, 0x60, 4, 4, .const 6⟩
/-- Seconds before a return to LOCKED, 1 to 60 (R185, Table 5.9). -/
def FABRIC.LOCK_WIN_RELOCK : Field := ⟨.fabric, 0x60, 8, 6, .const 2⟩
/-- Table 3.8 layout; MAPPING ignored (R185, Table 5.9). -/
def FABRIC.PATGEN_FMT_RASTER : Field := ⟨.fabric, 0x80, 0, 3, .const 3⟩
/-- Table 3.8 layout; MAPPING ignored (R185, Table 5.9). -/
def FABRIC.PATGEN_FMT_RATE : Field := ⟨.fabric, 0x80, 4, 3, .const 3⟩
/-- Table 3.8 layout; MAPPING ignored (R185, Table 5.9). -/
def FABRIC.PATGEN_FMT_SCAN : Field := ⟨.fabric, 0x80, 8, 2, .const 1⟩
/-- Table 3.8 layout; MAPPING ignored (R185, Table 5.9). -/
def FABRIC.PATGEN_FMT_SAMPLING : Field := ⟨.fabric, 0x80, 12, 2, .const 0⟩
/-- Table 3.8 layout; MAPPING ignored (R185, Table 5.9). -/
def FABRIC.PATGEN_FMT_DEPTH : Field := ⟨.fabric, 0x80, 14, 1, .const 0⟩
/-- Table 3.8 layout; MAPPING ignored (R185, Table 5.9). -/
def FABRIC.PATGEN_FMT_COLOR : Field := ⟨.fabric, 0x80, 16, 2, .const 1⟩
/-- Table 3.8 layout; MAPPING ignored (R185, Table 5.9). -/
def FABRIC.PATGEN_FMT_TRANSFER : Field := ⟨.fabric, 0x80, 18, 2, .const 0⟩
/-- Table 3.8 layout; MAPPING ignored (R185, Table 5.9). -/
def FABRIC.PATGEN_FMT_MAPPING : Field := ⟨.fabric, 0x80, 24, 4, .const 1⟩
/-- Table 3.8 layout; MAPPING ignored (R185, Table 5.9). -/
def FABRIC.PATGEN_FMT_VALID : Field := ⟨.fabric, 0x80, 31, 1, .const 0⟩
/-- 0 black, 1 75 % bars, 2 100 % bars, 3 luma ramp, 4 flat field, 5 still (R185, Table 5.9). -/
def FABRIC.PATGEN_CTL_PATTERN : Field := ⟨.fabric, 0x84, 0, 3, .const 0⟩
/-- Flat-field luma, 10-bit code (R185, Table 5.9). -/
def FABRIC.PATGEN_CTL_LEVEL : Field := ⟨.fabric, 0x84, 4, 10, .const 0x40⟩
/-- Tag, CRC and sequence errors seen; saturating; cleared by a take to the tap (R185, Table 5.9). -/
def FABRIC.TAP_STAT_ERRORS : Field := ⟨.fabric, 0x100, 0, 16, .const 0⟩
/-- Source present at the tap (R185, Table 5.9). -/
def FABRIC.TAP_STAT_PRESENT : Field := ⟨.fabric, 0x100, 16, 1, .const 0⟩
/-- Frame and line sequence continuous over the last frame (R185, Table 5.9). -/
def FABRIC.TAP_STAT_SEQ_OK : Field := ⟨.fabric, 0x100, 17, 1, .const 0⟩
/-- Header counter; saturating (R185). -/
def FABRIC.CNT_TAG_ERR : Field := ⟨.fabric, 0x28, 0, 32, .const 0⟩
/-- Header counter; saturating (R185). -/
def FABRIC.CNT_STALLS : Field := ⟨.fabric, 0x2C, 0, 32, .const 0⟩
/-- EVT_STAT [0]: Comet-tag failure at egress (R185, Table 5.9). -/
abbrev FABRIC.EV_TAG_ERR : Nat := 0
/-- EVT_STAT [1]: Channel stall under R20 (R185, Table 5.9). -/
abbrev FABRIC.EV_STALL : Nat := 1
/-- EVT_STAT [2]: The plane took every P0 source (R185, Table 5.9). -/
abbrev FABRIC.EV_CARRY_ALL : Nat := 2
/-- EVT_STAT [3]: A test tap counted an error (R185, Table 5.9). -/
abbrev FABRIC.EV_TAP_ERR : Nat := 3
/-- EVT_STAT [4]: A LOCK_WIN commit was not applied (R185, Table 5.9). -/
abbrev FABRIC.EV_CFG_BLOCKED : Nat := 4
/-- Fields of the FABRIC page, part 0. -/
def FABRIC.layout0 : List LayoutRow := [
  ⟨FABRIC.LOAD_CARRIED, 0, 1, .ro, 0, 262143⟩,
  ⟨FABRIC.LOAD_CHARGED, 0, 1, .ro, 0, 262143⟩,
  ⟨FABRIC.SRC_COUNT_COUNT, 0, 1, .ro, 0, 262143⟩,
  ⟨FABRIC.LOCK_WIN_LO, 0, 1, .rws, 0, 0⟩,
  ⟨FABRIC.LOCK_WIN_HI, 0, 1, .rws, 0, 0⟩,
  ⟨FABRIC.LOCK_WIN_RELOCK, 0, 1, .rws, 0, 0⟩,
  ⟨FABRIC.PATGEN_FMT_RASTER, 8, 16, .rws, 0, 0⟩,
  ⟨FABRIC.PATGEN_FMT_RATE, 8, 16, .rws, 0, 0⟩,
  ⟨FABRIC.PATGEN_FMT_SCAN, 8, 16, .rws, 0, 0⟩,
  ⟨FABRIC.PATGEN_FMT_SAMPLING, 8, 16, .rws, 0, 0⟩,
  ⟨FABRIC.PATGEN_FMT_DEPTH, 8, 16, .rws, 0, 0⟩,
  ⟨FABRIC.PATGEN_FMT_COLOR, 8, 16, .rws, 0, 0⟩,
  ⟨FABRIC.PATGEN_FMT_TRANSFER, 8, 16, .rws, 0, 0⟩,
  ⟨FABRIC.PATGEN_FMT_MAPPING, 8, 16, .rws, 0, 0⟩,
  ⟨FABRIC.PATGEN_FMT_VALID, 8, 16, .rws, 0, 0⟩,
  ⟨FABRIC.PATGEN_CTL_PATTERN, 8, 16, .rws, 0, 0⟩,
  ⟨FABRIC.PATGEN_CTL_LEVEL, 8, 16, .rws, 0, 0⟩,
  ⟨FABRIC.TAP_STAT_ERRORS, 4, 16, .ro, 0, 0⟩,
  ⟨FABRIC.TAP_STAT_PRESENT, 4, 16, .ro, 0, 0⟩,
  ⟨FABRIC.TAP_STAT_SEQ_OK, 4, 16, .ro, 0, 0⟩]
/-- Fields of the FABRIC page, part 1. -/
def FABRIC.layout1 : List LayoutRow := [
  ⟨FABRIC.CNT_TAG_ERR, 0, 1, .ro, 0, 262143⟩,
  ⟨FABRIC.CNT_STALLS, 0, 1, .ro, 0, 262143⟩]
/-- The fields of the FABRIC page with their access codes. -/
def FABRIC.layout : List LayoutRow := FABRIC.layout0 ++ FABRIC.layout1

/-- Hours, 1 to 24 (R217, Table 6.12). -/
def SYNCMGR.SCRUB_CFG_PERIOD : Field := ⟨.syncmgr, 0x40, 0, 5, .const 0x18⟩
/-- 1: scrub (R217, Table 6.12). -/
def SYNCMGR.SCRUB_CFG_EN : Field := ⟨.syncmgr, 0x40, 8, 1, .const 1⟩
/-- Charged bandwidth, 0.1 Gbit/s steps (R217, Table 6.12). -/
def SYNCMGR.MEM_TOTAL_BW : Field := ⟨.syncmgr, 0x44, 0, 14, .const 0⟩
/-- Charged MiB (R217, Table 6.12). -/
def SYNCMGR.MEM_TOTAL_CAP : Field := ⟨.syncmgr, 0x44, 16, 15, .const 0⟩
/-- Charged bandwidth, 0.1 Gbit/s steps (R217, Table 6.12). -/
def SYNCMGR.QUAD_STAT_BW : Field := ⟨.syncmgr, 0x50, 0, 12, .const 0⟩
/-- Channels in RUN (R217, Table 6.12). -/
def SYNCMGR.QUAD_STAT_CHANNELS : Field := ⟨.syncmgr, 0x50, 12, 4, .const 0⟩
/-- Charged MiB (R217, Table 6.12). -/
def SYNCMGR.QUAD_STAT_CAP : Field := ⟨.syncmgr, 0x50, 16, 13, .const 0⟩
/-- 0 RUN, 1 DEGRADED, 2 EVACUATED, 3 FAILED (R217, Table 6.12). -/
def SYNCMGR.QUAD_STAT_STATE : Field := ⟨.syncmgr, 0x50, 29, 2, .const 0⟩
/-- Quadrant named (R217, Table 6.12). -/
def SYNCMGR.EVAC_QUAD : Field := ⟨.syncmgr, 0x70, 0, 2, .const 0⟩
/-- Request evacuation (R217, Table 6.12). -/
def SYNCMGR.EVAC_GO : Field := ⟨.syncmgr, 0x70, 4, 1, .const 0⟩
/-- Restore ceilings (R217, Table 6.12). -/
def SYNCMGR.EVAC_RELEASE : Field := ⟨.syncmgr, 0x70, 5, 1, .const 0⟩
/-- Ledger code (R217, Table 6.12). -/
def SYNCMGR.EVAC_CODE : Field := ⟨.syncmgr, 0x70, 8, 8, .const 0⟩
/-- Quadrant empty (R217, Table 6.12). -/
def SYNCMGR.EVAC_DONE : Field := ⟨.syncmgr, 0x70, 16, 1, .const 0⟩
/-- Evacuation running (R217, Table 6.12). -/
def SYNCMGR.EVAC_BUSY : Field := ⟨.syncmgr, 0x70, 17, 1, .const 0⟩
/-- Moves in progress (R217, Table 6.12). -/
def SYNCMGR.MIGR_STAT_ACTIVE : Field := ⟨.syncmgr, 0x74, 0, 10, .const 0⟩
/-- Moves waiting (R217, Table 6.12). -/
def SYNCMGR.MIGR_STAT_QUEUED : Field := ⟨.syncmgr, 0x74, 16, 10, .const 0⟩
/-- Destination of the latest synchroniser event (R217, Table 6.12). -/
def SYNCMGR.EVT_DST_SLOT : Field := ⟨.syncmgr, 0x78, 0, 9, .const 0⟩
/-- 0 HOLD, 1 BLACK, 2 FALLBACK (R217, Table 6.12). -/
def SYNCMGR.FS_CFG_POLICY : Field := ⟨.syncmgr, 0x400, 0, 2, .const 0⟩
/-- FALLBACK on black (R217, Table 6.12). -/
def SYNCMGR.FS_CFG_TRIG_BLACK : Field := ⟨.syncmgr, 0x400, 2, 1, .const 0⟩
/-- FALLBACK on freeze (R217, Table 6.12). -/
def SYNCMGR.FS_CFG_TRIG_FREEZE : Field := ⟨.syncmgr, 0x400, 3, 1, .const 0⟩
/-- Return from FALLBACK after RETURN_T (R217, Table 6.12). -/
def SYNCMGR.FS_CFG_AUTO_RETURN : Field := ⟨.syncmgr, 0x400, 4, 1, .const 1⟩
/-- Lines, 1 to 4 (R217, Table 6.12). -/
def SYNCMGR.FS_CFG_MARGIN : Field := ⟨.syncmgr, 0x400, 8, 3, .const 2⟩
/-- Lines, 0 to 1,023 (R217, Table 6.12). -/
def SYNCMGR.FS_CFG_HYST : Field := ⟨.syncmgr, 0x400, 16, 10, .const 0x80⟩
/-- Seconds, 0 to 63; 0: hold without limit (R217, Table 6.12). -/
def SYNCMGR.FS_CFG_HOLD_MAX : Field := ⟨.syncmgr, 0x400, 26, 6, .const 0⟩
/-- Fallback source slot (R217, Table 6.12). -/
def SYNCMGR.FS_FALLBACK_SRC : Field := ⟨.syncmgr, 0x404, 0, 9, .const 0⟩
/-- Fallback source member (R217, Table 6.12). -/
def SYNCMGR.FS_FALLBACK_MEMBER : Field := ⟨.syncmgr, 0x404, 9, 3, .const 0⟩
/-- 100 ms steps (R217, Table 6.12). -/
def SYNCMGR.FS_FALLBACK_RETURN_T : Field := ⟨.syncmgr, 0x404, 16, 8, .const 0xa⟩
/-- 1: fallback requested under R202 (R217, Table 6.12). -/
def SYNCMGR.FS_FALLBACK_VALID : Field := ⟨.syncmgr, 0x404, 31, 1, .const 0⟩
/-- 0 none, 1 NORMAL, 2 HOLD, 3 BLACK, 4 FALLBACK, 5 STARVED, 6 FILL (R217, Table 6.12). -/
def SYNCMGR.FS_STAT_MODE : Field := ⟨.syncmgr, 0x408, 0, 3, .const 0⟩
/-- Home quadrant of the store (R217, Table 6.12). -/
def SYNCMGR.FS_STAT_QUAD : Field := ⟨.syncmgr, 0x408, 4, 2, .const 0⟩
/-- Home quadrant of the twin's store (R217, Table 6.12). -/
def SYNCMGR.FS_STAT_QUAD2 : Field := ⟨.syncmgr, 0x408, 6, 2, .const 0⟩
/-- tSW - tW of the frame read, in lines (R217, Table 6.12). -/
def SYNCMGR.FS_STAT_LATENCY : Field := ⟨.syncmgr, 0x408, 8, 16, .const 0⟩
/-- Ledger code of the last FS_FALLBACK commit (R217, Table 6.12). -/
def SYNCMGR.FS_STAT_FB_CODE : Field := ⟨.syncmgr, 0x408, 24, 8, .const 0⟩
/-- Saturating (R217, Table 6.12). -/
def SYNCMGR.FS_SLIPS_REPEATS : Field := ⟨.syncmgr, 0x40C, 0, 16, .const 0⟩
/-- Saturating (R217, Table 6.12). -/
def SYNCMGR.FS_SLIPS_DROPS : Field := ⟨.syncmgr, 0x40C, 16, 16, .const 0⟩
/-- Header counter; saturating (R217). -/
def SYNCMGR.CNT_SLIPS : Field := ⟨.syncmgr, 0x28, 0, 32, .const 0⟩
/-- Header counter; saturating (R217). -/
def SYNCMGR.CNT_MIGRATIONS : Field := ⟨.syncmgr, 0x2C, 0, 32, .const 0⟩
/-- Header counter; saturating (R217). -/
def SYNCMGR.CNT_PROVE_FAIL : Field := ⟨.syncmgr, 0x30, 0, 32, .const 0⟩
/-- Header counter; saturating (R217). -/
def SYNCMGR.CNT_LOSS_ENTRIES : Field := ⟨.syncmgr, 0x34, 0, 32, .const 0⟩
/-- EVT_STAT [0]: Repeat or drop (R217, Table 6.12). -/
abbrev SYNCMGR.EV_SLIP : Nat := 0
/-- EVT_STAT [1]: Input-loss policy entered (R217, Table 6.12). -/
abbrev SYNCMGR.EV_LOSS : Nat := 1
/-- EVT_STAT [2]: FALLBACK entered (R217, Table 6.12). -/
abbrev SYNCMGR.EV_FALLBACK_ON : Nat := 2
/-- EVT_STAT [3]: NORMAL re-entered (R217, Table 6.12). -/
abbrev SYNCMGR.EV_RETURN : Nat := 3
/-- EVT_STAT [4]: Under R211 or R212 (R217, Table 6.12). -/
abbrev SYNCMGR.EV_STARVED : Nat := 4
/-- EVT_STAT [5]: Allocation flipped (R217, Table 6.12). -/
abbrev SYNCMGR.EV_MIGR_DONE : Nat := 5
/-- EVT_STAT [6]: Under R207 (R217, Table 6.12). -/
abbrev SYNCMGR.EV_PROVE_FAIL : Nat := 6
/-- EVT_STAT [7]: Under R213 (R217, Table 6.12). -/
abbrev SYNCMGR.EV_EVAC_DONE : Nat := 7
/-- EVT_STAT [8]: Under R211 (R217, Table 6.12). -/
abbrev SYNCMGR.EV_QUAD_FAIL : Nat := 8
/-- EVT_STAT [9]: Under R215 (R217, Table 6.12). -/
abbrev SYNCMGR.EV_RESERVE_SPENT : Nat := 9
/-- EVT_STAT [10]: Under R208 (R217, Table 6.12). -/
abbrev SYNCMGR.EV_STILL_LOST : Nat := 10
/-- EVT_STAT [11]: Commit not applied (R217, Table 6.12). -/
abbrev SYNCMGR.EV_CFG_BLOCKED : Nat := 11
/-- Fields of the SYNCMGR page, part 0. -/
def SYNCMGR.layout0 : List LayoutRow := [
  ⟨SYNCMGR.SCRUB_CFG_PERIOD, 0, 1, .rw, 0, 262143⟩,
  ⟨SYNCMGR.SCRUB_CFG_EN, 0, 1, .rw, 0, 262143⟩,
  ⟨SYNCMGR.MEM_TOTAL_BW, 0, 1, .ro, 0, 262143⟩,
  ⟨SYNCMGR.MEM_TOTAL_CAP, 0, 1, .ro, 0, 262143⟩,
  ⟨SYNCMGR.QUAD_STAT_BW, 4, 4, .ro, 0, 262143⟩,
  ⟨SYNCMGR.QUAD_STAT_CHANNELS, 4, 4, .ro, 0, 262143⟩,
  ⟨SYNCMGR.QUAD_STAT_CAP, 4, 4, .ro, 0, 262143⟩,
  ⟨SYNCMGR.QUAD_STAT_STATE, 4, 4, .ro, 0, 262143⟩,
  ⟨SYNCMGR.EVAC_QUAD, 0, 1, .rw, 0, 262143⟩,
  ⟨SYNCMGR.EVAC_GO, 0, 1, .w1s, 0, 262143⟩,
  ⟨SYNCMGR.EVAC_RELEASE, 0, 1, .w1s, 0, 262143⟩,
  ⟨SYNCMGR.EVAC_CODE, 0, 1, .ro, 0, 262143⟩,
  ⟨SYNCMGR.EVAC_DONE, 0, 1, .ro, 0, 262143⟩,
  ⟨SYNCMGR.EVAC_BUSY, 0, 1, .ro, 0, 262143⟩,
  ⟨SYNCMGR.MIGR_STAT_ACTIVE, 0, 1, .ro, 0, 262143⟩,
  ⟨SYNCMGR.MIGR_STAT_QUEUED, 0, 1, .ro, 0, 262143⟩,
  ⟨SYNCMGR.EVT_DST_SLOT, 0, 1, .ro, 0, 262143⟩,
  ⟨SYNCMGR.FS_CFG_POLICY, 16, 192, .rws, 0, 262143⟩,
  ⟨SYNCMGR.FS_CFG_TRIG_BLACK, 16, 192, .rws, 0, 262143⟩,
  ⟨SYNCMGR.FS_CFG_TRIG_FREEZE, 16, 192, .rws, 0, 262143⟩]
/-- Fields of the SYNCMGR page, part 1. -/
def SYNCMGR.layout1 : List LayoutRow := [
  ⟨SYNCMGR.FS_CFG_AUTO_RETURN, 16, 192, .rws, 0, 262143⟩,
  ⟨SYNCMGR.FS_CFG_MARGIN, 16, 192, .rws, 0, 262143⟩,
  ⟨SYNCMGR.FS_CFG_HYST, 16, 192, .rws, 0, 262143⟩,
  ⟨SYNCMGR.FS_CFG_HOLD_MAX, 16, 192, .rws, 0, 262143⟩,
  ⟨SYNCMGR.FS_FALLBACK_SRC, 16, 192, .rws, 0, 262143⟩,
  ⟨SYNCMGR.FS_FALLBACK_MEMBER, 16, 192, .rws, 0, 262143⟩,
  ⟨SYNCMGR.FS_FALLBACK_RETURN_T, 16, 192, .rws, 0, 262143⟩,
  ⟨SYNCMGR.FS_FALLBACK_VALID, 16, 192, .rws, 0, 262143⟩,
  ⟨SYNCMGR.FS_STAT_MODE, 16, 192, .ro, 0, 262143⟩,
  ⟨SYNCMGR.FS_STAT_QUAD, 16, 192, .ro, 0, 262143⟩,
  ⟨SYNCMGR.FS_STAT_QUAD2, 16, 192, .ro, 0, 262143⟩,
  ⟨SYNCMGR.FS_STAT_LATENCY, 16, 192, .ro, 0, 262143⟩,
  ⟨SYNCMGR.FS_STAT_FB_CODE, 16, 192, .ro, 0, 262143⟩,
  ⟨SYNCMGR.FS_SLIPS_REPEATS, 16, 192, .ro, 0, 262143⟩,
  ⟨SYNCMGR.FS_SLIPS_DROPS, 16, 192, .ro, 0, 262143⟩,
  ⟨SYNCMGR.CNT_SLIPS, 0, 1, .ro, 0, 262143⟩,
  ⟨SYNCMGR.CNT_MIGRATIONS, 0, 1, .ro, 0, 262143⟩,
  ⟨SYNCMGR.CNT_PROVE_FAIL, 0, 1, .ro, 0, 262143⟩,
  ⟨SYNCMGR.CNT_LOSS_ENTRIES, 0, 1, .ro, 0, 262143⟩]
/-- The fields of the SYNCMGR page with their access codes. -/
def SYNCMGR.layout : List LayoutRow := SYNCMGR.layout0 ++ SYNCMGR.layout1

/-- Source slot: VS0 to VS191 or VS228 to VS243 (R180, Table 5.6). -/
def RTE.W0_SRC : Field := ⟨.rte, 0x0, 0, 9, .const 0⟩
/-- Member of the source; 0 outside a formation (R180, Table 5.6). -/
def RTE.W0_MEMBER : Field := ⟨.rte, 0x0, 9, 3, .const 0⟩
/-- 0 AUTO, 1 LOCKED, 2 SYNC, 3 reserved; test taps: 0 the plane carrying the source, 1 plane A, 2 plane B (R180, Table 5.6). -/
def RTE.W0_KIND_FORCE : Field := ⟨.rte, 0x0, 12, 2, .const 0⟩
/-- 1: charge a synchroniser for a LOCKED path (R180, Table 5.6). -/
def RTE.W0_RSV_SYNC : Field := ⟨.rte, 0x0, 14, 1, .const 0⟩
/-- 1: audio follows video (R180, Table 5.6). -/
def RTE.W0_AFV : Field := ⟨.rte, 0x0, 15, 1, .const 1⟩
/-- 0 P0, 1 P1, 2 P2, 3 reserved; a take with the same source and a new class changes the class under R37 (R180, Table 5.6). -/
def RTE.W0_PROT : Field := ⟨.rte, 0x0, 16, 2, .const 0⟩
/-- 1: fade through black (R180, Table 5.6). -/
def RTE.W0_FTB : Field := ⟨.rte, 0x0, 18, 1, .const 0⟩
/-- 1 to 60 (R180, Table 5.6). -/
def RTE.W0_FTB_FRAMES : Field := ⟨.rte, 0x0, 19, 6, .const 1⟩
/-- Audio crossfade in ms, 0 to 20 (R180, Table 5.6). -/
def RTE.W0_AXFADE : Field := ⟨.rte, 0x0, 25, 5, .const 5⟩
/-- 1: refuse rather than use a conversion engine (R180, Table 5.6). -/
def RTE.W0_NOCONV : Field := ⟨.rte, 0x0, 30, 1, .const 0⟩
/-- 1: routed; 0: unrouted, and the output carries black (R180, Table 5.6). -/
def RTE.W0_VALID : Field := ⟨.rte, 0x0, 31, 1, .const 0⟩
/-- 0 LOCKED, 1 SYNC_FS, 2 SYNC_CE, 3 none (R180, Table 5.6). -/
def RTE.W1_KIND : Field := ⟨.rte, 0x4, 0, 2, .const 3⟩
/-- Measured lead in lines, 0 to 8; 0xF when not LOCKED (R180, Table 5.6). -/
def RTE.W1_LEAD : Field := ⟨.rte, 0x4, 2, 4, .const 0xf⟩
/-- 0 A, 1 B, 2 both, 3 none (R180, Table 5.6). -/
def RTE.W1_PLANE : Field := ⟨.rte, 0x4, 6, 2, .const 3⟩
/-- Conversion engine on the path, 0 to 35; 0x3F none (R180, Table 5.6). -/
def RTE.W1_CE : Field := ⟨.rte, 0x4, 8, 6, .const 0x3f⟩
/-- A committed take has not yet acted (R180, Table 5.6). -/
def RTE.W1_PENDING : Field := ⟨.rte, 0x4, 14, 1, .const 0⟩
/-- A fade-through-black is in progress (R180, Table 5.6). -/
def RTE.W1_FADING : Field := ⟨.rte, 0x4, 15, 1, .const 0⟩
/-- Frame count [15:0] of the frame on which the current source took effect (R180, Table 5.6). -/
def RTE.W1_FRAME : Field := ⟨.rte, 0x4, 16, 16, .const 0⟩
/-- Fields of the RTE page, part 0. -/
def RTE.layout0 : List LayoutRow := [
  ⟨RTE.W0_SRC, 0, 1, .ro, 0, 262143⟩,
  ⟨RTE.W0_MEMBER, 0, 1, .ro, 0, 262143⟩,
  ⟨RTE.W0_KIND_FORCE, 0, 1, .ro, 0, 262143⟩,
  ⟨RTE.W0_RSV_SYNC, 0, 1, .ro, 0, 262143⟩,
  ⟨RTE.W0_AFV, 0, 1, .ro, 0, 262143⟩,
  ⟨RTE.W0_PROT, 0, 1, .ro, 0, 262143⟩,
  ⟨RTE.W0_FTB, 0, 1, .ro, 0, 262143⟩,
  ⟨RTE.W0_FTB_FRAMES, 0, 1, .ro, 0, 262143⟩,
  ⟨RTE.W0_AXFADE, 0, 1, .ro, 0, 262143⟩,
  ⟨RTE.W0_NOCONV, 0, 1, .ro, 0, 262143⟩,
  ⟨RTE.W0_VALID, 0, 1, .ro, 0, 262143⟩,
  ⟨RTE.W1_KIND, 0, 1, .ro, 0, 262143⟩,
  ⟨RTE.W1_LEAD, 0, 1, .ro, 0, 262143⟩,
  ⟨RTE.W1_PLANE, 0, 1, .ro, 0, 262143⟩,
  ⟨RTE.W1_CE, 0, 1, .ro, 0, 262143⟩,
  ⟨RTE.W1_PENDING, 0, 1, .ro, 0, 262143⟩,
  ⟨RTE.W1_FADING, 0, 1, .ro, 0, 262143⟩,
  ⟨RTE.W1_FRAME, 0, 1, .ro, 0, 262143⟩]
/-- The fields of the RTE page with their access codes. -/
def RTE.layout : List LayoutRow := RTE.layout0

end Sys2Proof.Machine
end

