-- ==== Sys2Proof/Machine/Header.lean ====
section
/-! DEFINITION. The common page header of R509 (Table 19.5), as fields of every page, and the map of the pages: how many
instances each has, its power domain, its offset in BAR0 and its first event source (R517, R524, R525). -/
namespace Sys2Proof.Machine

/-- PAGE_CTRL.ENABLE: clearing it disables the block under R30. -/
def HDR.ENABLE (p : Page) : Field := ⟨p, 0x008, 0, 1, .const 1⟩
/-- PAGE_CTRL.COMMIT_MODE: 0 POINT, 1 GROUP, 2 AUTO; 3 is treated as 0. -/
def HDR.COMMIT_MODE (p : Page) : Field := ⟨p, 0x008, 4, 2, .const 0⟩
/-- PAGE_STAT.STATE of repair unit `idx` of the page: 0 OFF, 1 ISOLATED, 2 TEST, 3 RUN, 4 SPARE, 5 RETIRED. -/
def HDR.STATE (p : Page) : Field := ⟨p, 0x00C, 0, 3, .const 0⟩
/-- PAGE_STAT.BUSY beside draining: a request of the page is being decided. -/
def HDR.BUSY (p : Page) : Field := ⟨p, 0x00C, 4, 1, .const 0⟩
/-- SHADOW_CTL.READ_ACTIVE. -/
def HDR.READ_ACTIVE (p : Page) : Field := ⟨p, 0x020, 0, 1, .const 0⟩
/-- SHADOW_CTL.GROUP: commit group, 1 to 15; 0 none. -/
def HDR.GROUP (p : Page) : Field := ⟨p, 0x020, 8, 4, .const 0⟩
/-- PAGE_LOCK.OPEN. -/
def HDR.LOCK_OPEN (p : Page) : Field := ⟨p, 0x024, 0, 1, .const 0⟩
/-- PAGE_LOCK.FREEZE (R515). -/
def HDR.FREEZE (p : Page) : Field := ⟨p, 0x024, 2, 1, .const 0⟩
/-- PAGE_LOCK.MASTERS. The BUSMATRIX page's own value at reset admits Charon and the supervisors only (R507). -/
def HDR.MASTERS (p : Page) : Field := ⟨p, 0x024, 8, 7, .const (if p = .busmatrix then 0x07 else 0x7F)⟩

/-- The device's own mark that repair unit `idx` of the page drains (R30): 0 no, 1 toward OFF, 2 toward ISOLATED. -/
def HDR.DRAIN (p : Page) : Field := ⟨p, 0x1000, 0, 2, .const 0⟩
/-- The device's own mark that an enable request is held until the drain ends (R33). -/
def HDR.HELD_ENABLE (p : Page) : Field := ⟨p, 0x1000, 4, 1, .const 0⟩

/-- How many instances a page type has (Table 20.1); for a window table, how many entries. -/
def Page.instances : Page → Nat
  | .quad => 24 | .vin => 192 | .vout => 192 | .ce => 36 | .memch => 32 | .fabric => 2 | .flow => 16 | .audio => 16
  | .aport => 16 | .mesh => 8 | .synth => 20 | .eth => 24 | .fc => 262144 | .rte => 512 | .xpt => 32768
  | .mixin => 8192 | .astat => 32768 | .nh => 4096 | _ => 1

/-- The BAR0 offset of instance 0 of a page type (Table 20.1). -/
def Page.base : Page → Nat
  | .global => 0x000000 | .reset => 0x001000 | .power => 0x002000 | .thermal => 0x003000 | .nvm => 0x004000
  | .keys => 0x005000 | .event => 0x006000 | .busmatrix => 0x007000 | .service => 0x008000 | .supervisor => 0x009000
  | .repair => 0x00A000 | .ledger => 0x00B000 | .route => 0x00C000 | .refmgr => 0x00D000 | .synthctl => 0x00E000
  | .gpio => 0x00F000 | .quad => 0x280000 | .vin => 0x020000 | .vout => 0x0E0000 | .ce => 0x1A0000
  | .memch => 0x1D0000 | .fabric => 0x1F0000 | .syncmgr => 0x1F2000 | .flow => 0x200000 | .audio => 0x210000
  | .aport => 0x220000 | .mesh => 0x230000 | .meshctl => 0x238000 | .synth => 0x240000 | .eth => 0x260000
  | .rte => 0x400000 | .nh => 0x480000 | .xpt => 0x500000 | .astat => 0x580000 | .mixin => 0x590000
  | .fc => 0xA00000

/-- The register page types in the directory order of R525. -/
def Page.directory : List Page :=
  [.global, .reset, .power, .thermal, .nvm, .keys, .event, .busmatrix, .service, .supervisor, .repair, .ledger, .route,
   .refmgr, .synthctl, .gpio, .quad, .vin, .vout, .ce, .memch, .fabric, .syncmgr, .flow, .audio, .aport, .mesh,
   .meshctl, .synth, .eth]

/-- The power domains (Table 1.5): PDn is `n` for 1 to 25, AON is 26 and BKP is 27. -/
abbrev domAON : Nat := 26
/-- The battery-backed domain. -/
abbrev domBKP : Nat := 27

/-- The power domain of a page (Table 20.1) or of a window table. -/
def Page.domain : Page → Nat → Nat
  | .global, _ => 25 | .reset, _ => domAON | .power, _ => domAON | .thermal, _ => domAON | .nvm, _ => 25 | .keys, _ => 25
  | .event, _ => domAON | .busmatrix, _ => 25 | .service, _ => 25 | .supervisor, _ => domAON | .repair, _ => 25
  | .ledger, _ => 25 | .route, _ => 25 | .refmgr, _ => 22 | .synthctl, _ => 22 | .gpio, _ => domAON
  | .quad, q => q / 4 + 1 | .vin, i => if i < 96 then i / 16 + 1 else 17 | .vout, i => if i < 96 then i / 16 + 1 else 17
  | .ce, i => i / 9 + 9 | .memch, i => i / 8 + 13 | .fabric, i => 7 + i | .syncmgr, _ => 25 | .flow, _ => 17
  | .audio, _ => 18 | .aport, _ => 19 | .mesh, i => 20 + i / 4 | .meshctl, _ => 25 | .synth, _ => 22
  | .eth, q => q / 4 + 1 | .fc, _ => 17 | .rte, _ => 7 | .xpt, _ => 18 | .mixin, _ => 18 | .astat, _ => 18 | .nh, _ => 17

/-- The first event source of a page type (Table 19.7). -/
def Page.source0 : Page → Nat
  | .global => 0 | .reset => 1 | .power => 2 | .thermal => 3 | .nvm => 4 | .keys => 5 | .event => 6 | .busmatrix => 7
  | .service => 8 | .supervisor => 9 | .repair => 10 | .ledger => 11 | .route => 12 | .refmgr => 13 | .synthctl => 14
  | .gpio => 15 | .quad => 16 | .vin => 40 | .vout => 232 | .ce => 424 | .memch => 460 | .fabric => 492
  | .syncmgr => 494 | .flow => 495 | .audio => 511 | .aport => 527 | .mesh => 543 | .meshctl => 551 | .synth => 552
  | .eth => 572 | _ => 1152

/-- The event source of a page (R517, R525). -/
def Page.source (p : Page) (i : Nat) : Nat := p.source0 + i

/-- The fields of a page type with their access codes. -/
def Page.layout : Page → List LayoutRow
  | .global => GLOBAL.layout | .reset => RESET.layout | .power => POWER.layout | .thermal => THERMAL.layout
  | .nvm => NVM.layout | .keys => KEYS.layout | .event => EVENT.layout | .busmatrix => BUSMATRIX.layout
  | .service => SERVICE.layout | .supervisor => SUPERVISOR.layout | .repair => REPAIR.layout | .ledger => LEDGER.layout
  | .route => ROUTE.layout | .refmgr => REFMGR.layout | .synthctl => SYNTHCTL.layout | .gpio => GPIO.layout
  | .quad => QUAD.layout | .vin => VIN.layout | .vout => VOUT.layout | .ce => CE.layout | .memch => MEMCH.layout
  | .fabric => FABRIC.layout | .syncmgr => SYNCMGR.layout | .flow => FLOW.layout | .audio => AUDIO.layout
  | .aport => APORT.layout | .mesh => MESH.layout | .meshctl => MESHCTL.layout | .synth => SYNTH.layout
  | .eth => ETH.layout | .fc => FC.layout | .rte => RTE.layout | .xpt => XPT.layout | .mixin => MIXIN.layout
  | .astat => ASTAT.layout | .nh => NH.layout

/-- A repair unit (R25): the page that shows it, the instance, and the number of the unit among those of the page. -/
structure UnitId where
  page : Page
  inst : Nat
  sub : Nat
  deriving DecidableEq, Repr

/-- The units numbered 0 up to a bound of one page. -/
def unitRange (p : Page) (i n : Nat) : List UnitId := (List.range n).map (fun k => ⟨p, i, k⟩)

/-- The repair units of a page (Table 1.5). A quad has five receive slices (0 to 4), five transmit slices (5 to 9) and
its port engine (10); the FLOW pages show the flow engine (0) and its
sixteen banks (1 to 16); the AUDIO pages show the two halves of Cicada; an island synthesiser pair has two halves; APORT[0]
shows AP0 (0) and the AMCLK outputs (1 to 4); every
other page shows one block, a VI, a VO or an Ethernet page its own. -/
def Page.units : Page → Nat → List UnitId
  | .quad, i => unitRange .quad i 11
  | .flow, _ => unitRange .flow 0 17
  | .audio, _ => unitRange .audio 0 2
  | .synth, i => if i < 12 then [⟨.synth, i, 0⟩] else unitRange .synth i 2
  | .aport, i => if i = 0 then unitRange .aport 0 5 else [⟨.aport, i, 0⟩]
  | p, i => [⟨p, i, 0⟩]

/-- States of a repair unit (R25, PAGE_STAT.STATE). -/
abbrev uOFF : Nat := 0
abbrev uISOLATED : Nat := 1
abbrev uTEST : Nat := 2
abbrev uRUN : Nat := 3
abbrev uSPARE : Nat := 4
abbrev uRETIRED : Nat := 5

end Sys2Proof.Machine
end

