-- ==== Sys2Proof/Syntax.lean ====
section
/-! DEFINITION. The commands of the device, one constructor for each row of the opcode table, with the facts of the
environment that a command carries where the spec lets the device measure them. -/
namespace Sys2Proof
open Machine

/-- What the environment measures of a source against a destination at a request (R157, R158): the lead in whole lines
(9 or more: outside 0 to 8), whether the source traces to the destination's reference, and whether tCUT of the next frame
boundary has passed. (Inputs of the command: assumption 8.) -/
structure LockFacts where
  lead : Nat
  traces : Bool
  deriving DecidableEq, Repr

/-- The facts of a take's source against its destination, whether tCUT of the next frame boundary has passed (R168), and
the code with which the first other member that the take touches answers its part, 0 where all admit it (R377).
(Assumption 8.) -/
structure TakeFacts where
  lock : LockFacts
  pastCut : Bool
  reply : Nat
  deriving DecidableEq, Repr

/-- An ANC packet as the deframer takes it from a line (R100): its identifiers, its length in bytes, its link, whether its
checksum is bad, and its kind: 0 stored, 1 ST 352, 2 audio, 3 LTC, 4 VITC. -/
structure AncPacket where
  did : Nat
  sdid : Nat
  bytes : Nat
  link : Nat
  bad : Bool
  kind : Nat
  payload : Nat
  line : Nat
  deriving DecidableEq, Repr

/-- What a received line of a VI shows: its number, whether its TRS was found, whether it fits the current descriptor,
whether a line CRC failed, the CRC-32C of its content, whether it is an active line, its packets, the audio samples it
carries by channel, and how many of its samples no code could correct. -/
structure SdiLine where
  line : Nat
  trs : Bool
  fits : Bool
  crcErr : Bool
  crc : Nat
  active : Bool
  packets : List AncPacket
  samples : List (Nat × Nat)
  audioBad : Nat
  deriving DecidableEq, Repr

/-- What a frame of a VI that has just ended showed: whether it was complete, its structure (raster, rate, scan, mapping
and whether the structure is one Table 3.1 lists), the ST 352 fields if any packet came (sampling, depth, color,
transfer) and whether one contradicts the structure, the gang's skew in 8 ns steps, the mean and the greatest luma, the
two signatures of R111, the two timecodes with whether each advanced by one frame, and the audio found. -/
structure SdiFrame where
  complete : Bool
  valid : Bool
  raster : Nat
  rate : Nat
  scan : Nat
  mapping : Nat
  pid : Option (Nat × Nat × Nat × Nat)
  contradicts : Bool
  skew : Nat
  mean : Nat
  peak : Nat
  sigExact : Nat
  sigCoarse : Nat
  ltc : Option Nat
  vitc : Option Nat
  tcAdvances : Bool
  audio : Nat
  audioRate : Nat
  deriving DecidableEq, Repr

/-- What a frame boundary finds of one path: the lead measured (9: outside 0 to 8 lines), whether the source traces to the
reference, whether every lock condition has held for RELOCK seconds (R160), whether the frame after the one read last is
readable and whether the one after that is readable with HYST to spare (R196), the FRAME of the newest readable frame
(on a LOCKED path, of the frame read; where the kind changes, of the frame that the new kind reads), and the latency in
lines. (Assumption 8.) -/
structure PathView where
  lead : Nat
  traces : Bool
  relocked : Bool
  next : Bool
  drop : Bool
  newest : Option Nat
  latency : Nat
  deriving DecidableEq, Repr

/-- What a frame boundary of a destination finds: of its active path, of the path of a take that acts, of its fallback
path; whether the token of a take was lost with a unit (R415); what the proof of a move found over the
frame that ended (R207, R250: 0 nothing to compare, 1 every line agreed, 2 the old copy failed and the new held, 3 the new
copy failed or disagreed); the packets and samples that did not fit in the frame
that ended (R104, R118); and the code with which the other members answer the request for a crossing that the destination
lacks, 0 where they admit it (R372). -/
structure BoundaryFacts where
  main : PathView
  take : PathView
  fb : PathView
  tokenLost : Bool
  proof : Nat
  ancDropped : Nat
  audDropped : Nat
  reply : Nat
  deriving DecidableEq, Repr

/-- A copy of a line at the output: whether it arrived by its read instant, the fields of its comet tag, whether the CRC
recomputed over the content equals the tag's, and its poison flag (R388, R389). -/
structure LineCopy where
  arrived : Bool
  slot : Nat
  member : Nat
  frame : Nat
  line : Nat
  hops : Nat
  crc : Nat
  crcOk : Bool
  poison : Bool
  deriving DecidableEq, Repr

/-- A line read at the output: its number, and the copies of the plane A and plane B halves. -/
structure LineFacts where
  line : Nat
  copyA : LineCopy
  copyB : LineCopy
  deriving DecidableEq, Repr

/-- What the device measures of a reference candidate: its frequency against the calibrated oscillator in 0.001 ppm, its
phase against system time in nanoseconds, whether that lies within 100 ns of the prediction (R331), and the format it
detects with the sync amplitude in mV. -/
structure RcMeas where
  freq : Int
  phase : Int
  predicted : Bool
  raster : Nat
  rate : Nat
  trilevel : Bool
  tenfield : Bool
  ampl : Nat
  deriving DecidableEq, Repr

/-- A line unit that a received video packet completes (R131): its number, the CRC-32C of its samples, whether any were missing. -/
structure LineOffer where
  line : Nat
  crc : Nat
  bad : Bool
  deriving DecidableEq, Repr

/-- A received UDP datagram with its RTP header as the flow engine sees it: port, addresses (32 bits, or 128 with `v6`), UDP
ports, VLAN, the extended sequence number, the timestamp, the frame's length on the wire, whether it is the first packet of
a video frame, whether it completes a frame and with the geometry expected, the lines, packets and audio samples it
brings, and whether the flow-store words read for it were corrected or could not be. -/
structure Datagram where
  port : Nat
  v6 : Bool
  dst : Nat
  src : Nat
  dport : Nat
  sport : Nat
  vlan : Option Nat
  ttl : Nat
  ssrc : Nat
  pt : Nat
  seq : Nat
  ts : Nat
  bytes : Nat
  start : Bool
  frame : Option Bool
  lines : List LineOffer
  packets : List AncPacket
  samples : List (Nat × Nat)
  corrected : Bool
  uncorrectable : Bool
  deriving DecidableEq, Repr

/-- A PTP message of a master (R326): its domain, its kind (0 Sync, 1 Announce, 2 Delay_Resp), what an Announce says, whether
the best master clock algorithm chooses its sender, and the servo's measures in nanoseconds. -/
structure PtpMsg where
  domain : Nat
  kind : Nat
  best : Bool
  gmLo : Nat
  gmHi : Nat
  gmClass : Nat
  steps : Nat
  twoStep : Bool
  smTlv : Bool
  utc : Nat
  utcValid : Bool
  leap61 : Bool
  leap59 : Bool
  offset : Int
  delay : Nat
  deriving DecidableEq, Repr

/-- What a received Ethernet frame holds (R127). -/
inductive EthKind where
  | ptp (v6 : Bool) (msg : PtpMsg)
  /-- An IGMP or MLD message: whether it is a query, and whether its querier is of an older version. -/
  | membership (v6 : Bool) (query : Bool) (old : Bool)
  | udp (d : Datagram)
  | other (etherType : Nat)
  deriving DecidableEq, Repr

/-- A host-queue descriptor as software handed it over (R149). -/
structure HostDesc where
  own : Bool
  int : Bool
  length : Nat
  port : Nat
  deriving DecidableEq, Repr

/-- A received Ethernet frame: its length, the checks of R83, whether it is addressed to the port's MAC, and the receive
descriptor at HEAD of the queue it would go to. -/
structure EthFrame where
  kind : EthKind
  bytes : Nat
  fcsOk : Bool
  fecCorrected : Nat
  fecUncorrectable : Bool
  toPort : Bool
  desc : HostDesc
  deriving DecidableEq, Repr

/-- What Cicada finds at a sample frame (R178, R284, R289, R298): the source pairs in whose look-ahead an ST 337 burst begins,
whether the halves' signatures differ with no error reported, the destination channels whose long-delay sample was lost,
and the VOs whose pending take's audio crossfade begins. -/
structure SampleFacts where
  preambles : List Nat
  mismatch : Bool
  poolLost : List Nat
  begins : List Nat
  deriving DecidableEq, Repr

/-- The values of a loudness meter as BS.1770-4 gives them (R294), as the registers code them. -/
structure MeterFacts where
  momentary : Nat
  short : Nat
  integrated : Nat
  range : Nat
  truePeak : Nat
  seconds : Nat
  deriving DecidableEq, Repr

/-- A frame of a serial audio port: its samples by channel of the port (24-bit codes), whether framing, parity, biphase or
preamble failed, whether the clock is present, the measure of FS against RATE in 0.01 ppm, and the channel pairs in which an
ST 337 preamble stands. -/
structure PortFrame where
  samples : List Nat
  framing : Bool
  clock : Bool
  offset : Option Int
  preambles : List Nat
  deriving DecidableEq, Repr

/-- A member's view of the formation as it arrives on a link (R366): the ID it holds or claims, whether it is MEMBER, whether
its claim is a strapped one, the members it sees directly, those known to leave, whether the election closes with it, and
the sources it offers (slot, descriptor word, audio channels, presence). -/
structure MemberView where
  sender : Nat
  member : Bool
  strapped : Bool
  sees : Nat
  leaving : Nat
  ends : Bool
  sources : List (Nat × Nat × Nat × Bool)
  deriving DecidableEq, Repr

/-- What a part of a formation request asks of a member (R377): to send a source to the asker (its slot, its member, and
whether it is a plane B copy), to send it no more, or to take a source to a destination. -/
inductive PartKind where
  | source (slot mem : Nat) (planeB : Bool)
  | release (slot mem : Nat) (planeB : Bool)
  | dest (dst w0 : Nat) (facts : TakeFacts)
  deriving DecidableEq, Repr

/-- A part of a formation request: the member it comes from, what it asks, whether every other part was admitted, and the
commit instant of a timed salvo in seconds and nanoseconds. -/
structure FormPart where
  asker : Nat
  kind : PartKind
  all : Bool
  timed : Option (Nat × Nat)
  deriving DecidableEq, Repr

/-- The manifest of a QSPI slot (R488): its SHA-384, its security version, whether each signature verifies, and the version of its
firmware. (Assumption 8.) -/
structure Manifest where
  hash : Nat
  svn : Nat
  belinane : Bool
  maker : Bool
  version : Nat
  deriving DecidableEq, Repr

/-- What the start finds: the manifests of slots A and B, none where a slot holds none; the words of the array that the decoder
corrects and those it cannot; and whether both copies of the root are lost (R465, R489, R494). -/
structure BootFacts where
  manA : Option Manifest
  manB : Option Manifest
  corrected : List Nat
  bad : List Nat
  keyLost : Bool
  deriving DecidableEq, Repr

/-- A sample of the 32 sensors: their readings, and what the device predicts of each from the power around it, in 0.1 degrees C
(R446, R447). (Assumption 8.) -/
structure SensorFacts where
  readings : List Int
  models : List Int
  deriving DecidableEq, Repr

/-- What a write of a register may need of the environment, beyond the word: the facts of a take's sources by destination, those of
held takes in their order, the descriptors of a host queue, the pages that a memory self-test finds failing, the outcome of a raw
read of the store (0 clean, 1 corrected, 2 uncorrectable), and BOOTMODE and MEMBER_ID as sampled at a reset. (Assumption 8.) -/
structure WriteFacts where
  takes : List (Nat × TakeFacts)
  order : List TakeFacts
  descs : List HostDesc
  failing : Nat
  err : Fin 3
  mode : BitVec 4
  member : BitVec 3
  deriving DecidableEq, Repr


/-- A line of the console: a command of Table 21.1 with its arguments, `tag` telling whether a SERVICE command's tag matches (R543). -/
inductive ConsoleLine where
  | unknown (long : Bool)
  | hello
  | status
  | rd (p : Page) (i off : Nat) (n : Option Nat)
  | rt (win : Fin 5) (off : Nat) (n : Option Nat)
  | logs (n : Option Nat)
  | steps (n : Option Nat)
  | ref
  | mem
  | ledger
  | sup
  | auth
  | authSig (belinane maker : Bool)
  | exit (tag : Bool)
  | wr (p : Page) (i off : Nat) (v : Word) (tag : Bool) (w : WriteFacts)
  | testPrbs (lane : Nat) (p31 : Bool) (secs : Nat) (via : Fin 3) (tag : Bool)
  | testEye (lane hoff voff dwell : Nat) (tag : Bool)
  | testAport (p : Nat) (tag : Bool)
  | testMem (c : Nat) (tag : Bool)
  | testCe (n : Nat) (tag : Bool)
  | testIsp (k : Nat) (tag : Bool)
  | testSup (tag : Bool)
  | testFf (tag : Bool)
  | store (tag : Bool)
  | resetControl (tag : Bool)
  | resetDevice (mode : BitVec 4) (member : BitVec 3) (tag : Bool)
  | retry (tag : Bool)
  | clearTamper
  | retire (tag : Bool)
  | fuseImage (h : Nat) (tag : Bool)
  | fuseService (h : Nat) (tag : Bool)
  deriving DecidableEq, Repr


/-- A command: a write or read of a register by a master, an operation of a bus or a line, an edge on a pin, or an
event or instant of the device's own. Each constructor cites the rule of its row. A master `m` is numbered as in
Table 19.2: 0 Charon, 1 Phobos, 2 Deimos, 3 Formation, 4 Terora, 5 DMA, 6 PCIe. -/
inductive Instr where
  /-- A bus master writes a register or window area that has no row of its own, under the access codes of its fields
  (R508). -/
  | registerWrite (m : Fin 7) (addr : Nat) (bytes : Nat) (data : Nat) (w : WriteFacts)
  /-- An island receives no acknowledgement within 64 µs, reports the channel stalled, and the silent unit's wrapper
  completes the transfer with an error (R20). -/
  | channelStall (u : UnitId)
  /-- A write of PAGE_CTRL.ISOLATE_REQ stops new work at tDIS and starts the drain toward ISOLATED (R30). -/
  | isolateReq (m : Fin 7) (p : Page) (i : Nat)
  /-- Clearing PAGE_CTRL.ENABLE stops new work at tDIS and starts the drain toward OFF (R30). -/
  | pageEnableClear (m : Fin 7) (p : Page) (i : Nat)
  /-- Setting PAGE_CTRL.ENABLE enables the block, or is held until a running drain reaches OFF or ISOLATED (R33). -/
  | pageEnableSet (m : Fin 7) (p : Page) (i : Nat)
  /-- A draining block finishes its in-flight work and enters OFF or ISOLATED, and a held enable then acts (R30). -/
  | drainComplete (u : UnitId)
  /-- A block still draining at its bound plus 100 µs is isolated by force and a drain-timeout event is raised (R31).
  -/
  | drainTimeout (u : UnitId)
  /-- A write of PAGE_CTRL.RESET_REQ, or a repair step, resets one repair unit through its wrapper (R420). `req` names
  the master whose write of RESET_REQ asks for it, none for a repair step. -/
  | unitReset (req : Option (Fin 7)) (u : UnitId)
  /-- A unit's self-test ends and the unit returns to RUN or SPARE or is retired (R391). -/
  | unitSelftestEnd (u : UnitId) (pass : Bool)
  /-- An output-timing island reaches the switching line of a frame, which is the frame boundary of that output (R21).
  -/
  | switchingLine (o : Fin 512) (f : BoundaryFacts)
  /-- The output-timing island reads a line from the destination's line store at its output-timing instant (R166). -/
  | outputLineRead (o : Fin 192) (f : LineFacts)
  /-- The amplitude at a receive slice crosses 80 mV or 50 mV and signal detect is asserted or deasserted (R58). -/
  | signalDetectChange (q : Fin 24) (sl : Fin 5) (present : Bool)
  /-- Signal detect absent, or clock recovery out of lock, for 10 µs declares LOS on the slice (R58). -/
  | losDeclare (q : Fin 24) (sl : Fin 5) (spareSees : Bool)
  /-- Signal detect present without a break for 100 µs moves the slice from LOS to ACQUIRE (R59). -/
  | losExit (q : Fin 24) (sl : Fin 5)
  /-- An SDI slice that has not locked within 200 µs tries the next enabled class (R60). -/
  | acquireClassTimeout (q : Fin 24) (sl : Fin 5)
  /-- Clock recovery held in lock for 20 µs moves the slice to RUN (R60). -/
  | cdrLockHeld (q : Fin 24) (sl : Fin 5) (fam : Bool)
  /-- Every 10 ms RX_FREQ is updated for a slice in RUN (R61). -/
  | rxFreqUpdate (q : Fin 24) (n : Fin 4) (off : BitVec 16)
  /-- A trigger places the receive spare in SHADOW behind a pad lane (R66). -/
  | spareShadow (q : Fin 24) (n : Fin 4)
  /-- The spare's data is aligned with the active slice and line-by-line selection begins (R67). -/
  | spareAligned (q : Fin 24)
  /-- The comparison window of a shadow ends and the outcome of Table 2.4 is decided (R68). -/
  | shadowWindowEnd (q : Fin 24) (activeErr : Bool) (spareErr : Bool) (sameLines : Bool)
  /-- The pad multiplexer moves a pad lane to the spare at a switching line or block boundary and the old slice is
  isolated (R68). -/
  | sliceFlip (q : Fin 24) (tx : Bool)
  /-- Loss of lock with signal detect present, or a stall, makes the pad lane flip to the spare without proof (R69).
  -/
  | hardFault (q : Fin 24) (tx : Bool) (n : Fin 4)
  /-- An alarm or output-sense mismatch places the transmit spare in SHADOW behind the pad lane (R70). -/
  | txSpareShadow (q : Fin 24) (n : Fin 4)
  /-- A write of SPARE_CTL.FORCE_RX forces the receive spare onto a pad lane (R65). -/
  | forceRx (m : Fin 7) (q : Fin 24) (v : Word)
  /-- A write of SPARE_CTL.FORCE_TX forces the transmit spare onto a pad lane (R65). -/
  | forceTx (m : Fin 7) (q : Fin 24) (v : Word)
  /-- Every SELFTEST_PERIOD minutes a spare slice starts a 100 ms PRBS31 internal test (R75). -/
  | spareSelftest (q : Fin 24) (tx : Bool)
  /-- A spare slice's self-test ends, passing or retiring the spare (R75). -/
  | spareSelftestEnd (q : Fin 24) (tx : Bool) (pass : Bool)
  /-- A TEST_CTL write sets PRBS or loopback on a free pad lane, or is blocked under R55 (R77). -/
  | testCtlWrite (m : Fin 7) (q : Fin 24) (n : Fin 4) (v : Word)
  /-- A write of TEST_CTL.ERR_INJECT inverts one bit of the generator output (R78). -/
  | errInject (m : Fin 7) (q : Fin 24) (n : Fin 4)
  /-- A write of TEST_CTL.CHK_CLEAR clears PRBS_ERR of the pad lane (R78). -/
  | chkClear (m : Fin 7) (q : Fin 24) (n : Fin 4)
  /-- A write of EYE_CTL.START begins an eye scan and clears DONE and ABORTED (R80). -/
  | eyeStart (m : Fin 7) (q : Fin 24) (v : Word)
  /-- An eye scan ends after 2^DWELL bits, reports EYE_ERR and raises EYE_DONE (R80). -/
  | eyeDone (q : Fin 24) (mismatches : Nat)
  /-- A frame received on an Ethernet port is checked and classified to PTP, membership, a context, a host queue or
  dropped (R127). -/
  | ethFrameReceived (q : Fin 24) (n : Fin 4) (f : EthFrame)
  /-- A read of the low word of an ETH counter latches its high word (R83). -/
  | ethCountRead (m : Fin 7) (q : Fin 24) (p : Fin 4) (k : Fin 8)
  /-- A port's LINK_UP changes, and on LINK_UP all its memberships are reported within 1 ms (R142). -/
  | ethLinkChange (q : Fin 24) (n : Fin 4) (up : Bool) (localFault : Bool) (remoteFault : Bool) (fecLock : Bool) (lockLost : Bool)
  /-- A line of a VI is received, checked and turned into tagged line units, audio samples and ANC packets (R97). -/
  | sdiLineReceived (i : Fin 192) (f : SdiLine)
  /-- TRS missing on 4 consecutive lines returns the VI to SEARCH (R91). -/
  | trsMissing (i : Fin 192)
  /-- A frame of a VI starts at the EAV of line 1 and frame counts, state and detectors advance (R91). -/
  | viFrameStart (i : Fin 192) (f : SdiFrame)
  /-- A CTX_REQ ALLOC request allocates a flow context from CTX_IMG and charges the ledger (R123). -/
  | ctxReqAlloc (m : Fin 7) (v : Word)
  /-- A CTX_REQ MODIFY request changes a context, taking effect at the next frame or packet in RUN (R152). -/
  | ctxReqModify (m : Fin 7) (v : Word)
  /-- A CTX_REQ ACTIVATE request moves a context from IDLE to WAIT and sends the join (R130). -/
  | ctxReqActivate (m : Fin 7) (v : Word)
  /-- A CTX_REQ DEACTIVATE request drains a context to IDLE (R139). -/
  | ctxReqDeactivate (m : Fin 7) (v : Word)
  /-- A CTX_REQ FREE request frees a context and releases its charges (R123). -/
  | ctxReqFree (m : Fin 7) (v : Word)
  /-- A deactivated send context reaches the end of its frame or packet and enters IDLE (R139). -/
  | sendDeactivateEnd (fc : Fin 262144)
  /-- A UDP datagram matching a context key is delivered to its receive context and FWD_IN (R128). -/
  | flowDatagram (d : Datagram)
  /-- A failing flow-store row is copied to a spare row and used between two packets (R150). -/
  | flowRowRemap (bank : Fin 16) (row : Nat)
  /-- No packet for 2 frame periods, or 10 ms for audio and ANC, moves a receive context from RUN to LOST (R130). -/
  | flowLost (fc : Fin 262144)
  /-- A leg with no packet for 10 ms is LOST and LEG_LOST is raised (R136). -/
  | legLost (fc : Fin 262144)
  /-- A merged packet is released WINDOW after its first copy arrived (R135). -/
  | mergeRelease (fc : Fin 262144)
  /-- A send context sends its next packet on the generator's paced timeline (R137). -/
  | txPacketSend (fc : Fin 262144) (start : Bool) (bytes : Nat)
  /-- A state-change report is sent within 1 ms of a membership's first activation, change or leave (R142). -/
  | membershipReport (p : Fin 96)
  /-- A state-change report is repeated at UNSOL_INT until ROBUST − 1 repeats are sent (R142). -/
  | reportRepeat (p : Fin 96)
  /-- A report answers a query within its maximum response time (R142). -/
  | queryResponse (p : Fin 96)
  /-- A write of FWD_TAKE_IN.GO without BATCH requests a flow take of a FWD_OUT to a new FWD_IN (R145). -/
  | fwdTake (m : Fin 7) (v : Word)
  /-- A write of FWD_TAKE_IN.GO with BATCH holds the flow take, up to 512 (R146). -/
  | fwdTakeBatch (m : Fin 7) (v : Word)
  /-- A write of FWD_GO commits the held flow takes as one ledger request (R146). -/
  | fwdGo (m : Fin 7) (v : Word)
  /-- At Tsw a FWD_OUT ends the old source and sends held new-source packets (R145). -/
  | flowTakeSwitch (fc : Fin 262144)
  /-- FWD_HOLD expires before the old source ends, the old source is ended and HOLD_TRUNC is raised (R145). -/
  | holdTrunc (fc : Fin 262144)
  /-- A write of a next-hop entry applies from the next packet, or is blocked when clearing VALID of an entry in use
  (R144). `wide`: both words of the entry in one 8-byte write; else `hi` names the word. -/
  | nextHopWrite (m : Fin 7) (k : Fin 4096) (wide : Bool) (hi : Bool) (data : Nat)
  /-- Software advances TAIL of a host queue and the device processes the descriptors handed over (R149). `descs`: the
  descriptors of a transmit ring from HEAD on, as host memory holds them. -/
  | hqTailWrite (m : Fin 7) (q : Fin 16) (tx : Bool) (v : Word) (descs : List HostDesc)
  /-- A write of ROUTE.TAKE_CTL.GO without BATCH submits a take, decided by the ledger within 20 µs (R168). -/
  | take (m : Fin 7) (v : Word) (f : TakeFacts)
  /-- A write of TAKE_CTL.GO with BATCH holds the take in the master's buffer (R167). -/
  | takeHold (m : Fin 7) (v : Word)
  /-- A write of SALVO_CTL.GO commits the master's held takes as one salvo (R171). -/
  | salvoGo (m : Fin 7) (v : Word) (f : List TakeFacts)
  /-- A write of SALVO_CTL.ABORT discards the master's held takes (R167). -/
  | salvoAbort (m : Fin 7)
  /-- The commit instant of an admitted timed salvo is reached and its tokens are issued (R173). `late` lists the
  destinations whose tCUT of the next boundary has passed. -/
  | timedSalvoCommit (m : Fin 7) (late : List Nat)
  /-- A rising edge on the GPIO named in SALVO_TRIG acts as that master's SALVO_CTL.GO (R536). -/
  | salvoTrigEdge (g : Fin 32) (f : List TakeFacts)
  /-- A read sector with correctable errors is delivered corrected, counted and rewritten (R187). -/
  | sectorCorrected (c : Fin 32) (sector : Nat)
  /-- An uncorrectable sector makes its line units missing and raises UNCORR (R187). -/
  | sectorUncorrectable (c : Fin 32) (sector : Nat) (alloc : Bool)
  /-- Scarab reads and rewrites sectors of every channel in RUN once each PERIOD, raising SCRUB_LATE when late (R204).
  -/
  | scrubPass (c : Fin 32) (hours : Nat)
  /-- A channel in WATCH with no such count for 24 hours returns to GOOD (R205). -/
  | watchExpire (c : Fin 32)
  /-- A channel stall, burst of uncorrectables or PHY loss makes it DEAD, isolated, and its contents rebuilt (R208).
  -/
  | channelDead (c : Fin 32)
  /-- A write of CH_CTL.MIGRATE_OUT makes the channel FAILING (R206). -/
  | migrateOut (m : Fin 7) (c : Fin 32)
  /-- A write of CH_CTL.SELFTEST runs the march test on a channel holding no allocation (R209). `failing` counts the
  pages the march test finds failing. -/
  | channelSelftest (m : Fin 7) (c : Fin 32) (failing : Nat)
  /-- Retraining ends 2 ms after a quadrant's DOMAIN reset release and its ceilings return (R212). -/
  | retrainEnd (q : Fin 4)
  /-- A write of SYNCMGR.EVAC.GO requests evacuation of a memory quadrant (R213). -/
  | syncEvacGo (m : Fin 7) (v : Word)
  /-- A write of SYNCMGR.EVAC.RELEASE restores the quadrant's ceilings (R213). -/
  | syncEvacRelease (m : Fin 7) (v : Word)
  /-- HOLD_MAX seconds in HOLD move the destination to BLACK (R200). -/
  | holdMaxExpire (o : Fin 192)
  /-- After RETURN_T of present source and clear trigger, a FALLBACK destination returns to NORMAL (R200). -/
  | returnTExpire (o : Fin 192)
  /-- A commit of FS_FALLBACK with VALID set under POLICY FALLBACK requests the fallback path (R202). -/
  | fsFallbackCommit (m : Fin 7) (o : Fin 192) (f : TakeFacts)
  /-- A commit of FS_CFG setting POLICY FALLBACK requests the fallback, or leaving it releases it (R202). -/
  | fsCfgCommit (m : Fin 7) (o : Fin 192) (f : TakeFacts)
  /-- A write of CE[0].PROF_DST.GO assigns a profile to a destination, as a retake on a SYNC_CE path (R231). -/
  | profDstGo (m : Fin 7) (v : Word) (f : TakeFacts)
  /-- A write of LOAD_CTL.COMMIT checks the staged LUT or filter set (R236). -/
  | loadCommit (m : Fin 7) (v : Word)
  /-- A checked load is copied into every cluster store, DONE set and LOAD_DONE raised (R236). -/
  | loadDone
  /-- A write of CE[0].EVAC.GO soft-moves every stream of a cluster elsewhere (R253). -/
  | ceEvacGo (m : Fin 7) (v : Word)
  /-- A write of CE[0].EVAC.RELEASE reopens a cluster (R253). -/
  | ceEvacRelease (m : Fin 7) (v : Word)
  /-- A stall, parity error or failed drain moves all of an engine's streams at once to a spare (R249). -/
  | engineHardFault (ce : Fin 36) (cause : Nat)
  /-- A vector fault steps its stream to BLEND and may mark the engine SUSPECT (R242). -/
  | vectorFault (ce : Fin 36) (st : Fin 4)
  /-- Once per second a stream below QREQ requests the next better step (R244). -/
  | qualityStepRequest (ce : Fin 36) (st : Fin 4)
  /-- Every SELFTEST_PERIOD a spare engine runs its 5 ms known-answer test (R248). -/
  | ceSpareSelftest (ce : Fin 36) (pass : Bool)
  /-- A VO whose start conditions are met starts at the first aligned frame boundary in LOCKED or FREE (R266). -/
  | generatorStart (o : Fin 192) (timedOut : Bool)
  /-- A slewing generator's phase error is within one step and it becomes LOCKED or FREE (R261). -/
  | slewDone (o : Fin 192)
  /-- The inserted lines of a STEP are sent and the remainder slews (R262). -/
  | stepLinesSent (o : Fin 192)
  /-- A write of XP_REQ.GO without BATCH submits a crosspoint request for 1 to 64 destinations (R275). -/
  | xpReqGo (m : Fin 7) (v : Word)
  /-- A write of XP_REQ.GO with BATCH holds the crosspoint request (R275). -/
  | xpReqBatch (m : Fin 7) (v : Word)
  /-- A write of XP_GO.GO commits up to 4,096 held crosspoint requests as one ledger request (R275). -/
  | xpGo (m : Fin 7) (v : Word)
  /-- A write of XP_GO.ABORT discards the held crosspoint requests (R275). -/
  | xpAbort (m : Fin 7) (v : Word)
  /-- A 48 kHz sample frame boundary derived from system time processes every destination channel (R271). -/
  | sampleFrame (f : SampleFacts)
  /-- A change waiting for a zero crossing applies at ZC_TIMEOUT and is counted (R281). -/
  | zcTimeout (ch : Fin 32768)
  /-- A pair with no preamble for 8,192 sample frames becomes PCM again (R284). -/
  | nonpcmEnd (pair : Fin 16384)
  /-- A change to the long-delay pool acts once the pool holds the new delay of history (R288). -/
  | poolDelayAct (ch : Fin 32768)
  /-- An SRU_REQ ALLOC request assigns the lowest free converter (R290). -/
  | sruAlloc (m : Fin 7) (v : Word)
  /-- An SRU_REQ MODIFY request changes a converter's settings (R290). -/
  | sruModify (m : Fin 7) (v : Word)
  /-- An SRU_REQ FREE request frees a converter, or is refused while it is read (R290). -/
  | sruFree (m : Fin 7) (v : Word)
  /-- A converter with ratio error below 1 ppm for 50 ms enters LOCK and ramps in (R291). -/
  | sruLock (k : Fin 256) (ratio : BitVec 32)
  /-- No far sample for 2 ms, or the ratio out of range, moves a converter to LOST (R291). -/
  | sruLost (k : Fin 256)
  /-- A write of MIX_REQ.GO sets the number of inputs of a mix bus (R292). -/
  | mixReq (m : Fin 7) (v : Word)
  /-- A write of MIX_CTL.COMMIT applies the mix input area at the next sample frame (R292). -/
  | mixCommit (m : Fin 7) (v : Word)
  /-- Every 100 ms each enabled loudness meter reports its values (R294). -/
  | meterReport (k : Fin 64) (f : MeterFacts)
  /-- A write of LM.RESET_INT resets integrated loudness, range and true peak (R294). -/
  | meterReset (m : Fin 7) (k : Fin 64) (v : Word)
  /-- A channel below SIL_LEVEL for SIL_TIME is marked silent and an event raised (R295). -/
  | silenceDetect (ch : Fin 32768)
  /-- An error or stall in the selected Cicada half selects the other half from the same sample frame (R297). `half`:
  the failing half, B where true. -/
  | halfSwap (half : Bool)
  /-- A serial audio port frame arrives or is due, and is judged clean or not (R311). -/
  | portFrame (p : Fin 16) (tx : Bool) (f : PortFrame)
  /-- 64 samples after entry to FADE the direction enters HOLD (R311). -/
  | portFadeEnd (p : Fin 16) (tx : Bool)
  /-- 16 clean frames in HOLD realign the FIFO, raise REJOIN and start RAMP (R312). -/
  | portRejoin (p : Fin 16) (tx : Bool)
  /-- Every active slot finishes its 256-sample ramp and the direction enters RUN (R311). -/
  | portRampEnd (p : Fin 16) (tx : Bool)
  /-- Every active slot of a stopping direction reaches silence and it enters OFF (R311). -/
  | portStopDone (p : Fin 16) (tx : Bool)
  /-- No BCLK for 2 µs or no FS for 2 frames declares loss of clock and raises CLK_LOST (R307). -/
  | portClkLost (p : Fin 16)
  /-- A starting or stopping channel reaches ZC_CFG.TIMEOUT and ramps or fades at once (R313). -/
  | portZcTimeout (p : Fin 16) (tx : Bool) (c : Fin 32)
  /-- FS_MEAS within ±0.1 ppm for 2 s confirms SYNC_DECL and raises SYNC_CHG (R309). -/
  | syncConfirm (p : Fin 16)
  /-- FS_MEAS beyond ±1 ppm for 1 s withdraws the confirmation and raises SYNC_CHG (R309). -/
  | syncWithdraw (p : Fin 16)
  /-- A write of GRP_CTL.ARM arms an alignment group (R318). -/
  | grpArm (m : Fin 7) (g : Fin 8) (v : Word)
  /-- A write of GRP_CTL.DISARM cancels an arm (R318). -/
  | grpDisarm (m : Fin 7) (g : Fin 8) (v : Word)
  /-- A write of GRP_CTL.GO triggers a group that selects the register trigger (R318). -/
  | grpGo (m : Fin 7) (g : Fin 8) (v : Word)
  /-- A rising edge on APSTART or a group GPIO triggers every armed group that selects it (R318). `gpio`: the GPIO
  whose edge it is, none for APSTART. -/
  | apstartEdge (gpio : Option (Fin 32))
  /-- At the start frame the group index resets, RUNNING sets and ARMED members enter HOLD (R318). -/
  | groupStartFrame (g : Fin 8)
  /-- An ABSENT candidate's signal returns and it enters QUALIFYING (R329). -/
  | candidatePresent (k : Fin 16) (f : RcMeas)
  /-- A candidate meets its ABSENT condition of Table 11.1 (R329). `gm`: the grandmaster identity changed. -/
  | candidateAbsent (k : Fin 16) (gm : Bool)
  /-- A qualification test fails and the candidate restarts QUALIFYING (R330). -/
  | qualTestFail (k : Fin 16)
  /-- A candidate's tests hold for QUAL_TIME, or 200 ms on return, and it becomes QUALIFIED (R330). -/
  | qualifyEnd (k : Fin 16) (f : RcMeas)
  /-- HOLDOFF after a loss ends and the best QUALIFIED candidate enters PREPARE (R334). -/
  | holdoffExpire
  /-- At tRS system time adopts the candidate's phase and frequency, steps by Δ and SWITCH is raised (R335). `diff` is
  the phase of the candidate minus system time in femtoseconds; `ptpCap` the cap of a PTP loop in mHz. -/
  | prepareEnd (diff : Int) (ptpCap : Nat)
  /-- The loop bandwidth narrows by ten after its hold time until BW_TRACK, then LOCKED (R336). -/
  | loopStep
  /-- Two best-ranked candidates disagree and an arbiter rejects one, or the device enters DISPUTE (R338). `fa` and
  `fb` are the measured frequencies in 0.001 ppm. -/
  | dispute (a : Fin 16) (b : Fin 16) (fa : Int) (fb : Int)
  /-- The difference falls below 0.05 ppm or an arbiter appears and selection resumes (R339). -/
  | disputeEnd (a : Fin 16) (b : Fin 16) (fa : Int) (fb : Int)
  /-- A write of RANK, REVERT or MANUAL applies at once and may start a switch (R332). `slot` names the RC_CFG written
  for its RANK, none RM_CFG. -/
  | rmCfgWrite (m : Fin 7) (slot : Option (Fin 16)) (v : Word)
  /-- Once a second system time is copied into the backup real-time counter (R322). -/
  | rtcCopy
  /-- At the leap instant the UTC offset changes and LEAP is raised (R328). -/
  | leapSecond
  /-- A read of SYSTIME_S_LO latches SYSTIME_S_HI and SYSTIME_NS (R342). -/
  | systimeRead (m : Fin 7)
  /-- A write of SYN_N or SYN_FRAC gates the outputs and restarts acquisition from BAND (R348). `frac`: the write is
  of SYN_FRAC. -/
  | synNWrite (m : Fin 7) (k : Fin 20) (frac : Bool) (v : Word)
  /-- The VCO band search ends and the loop enters ACQUIRE (R347). `b`: half B of a pair. -/
  | bandFound (k : Fin 20) (b : Bool) (band : BitVec 6)
  /-- Phase error within ±3.2 ns for 100 µs makes the loop LOCKED and restarts its outputs (R347). -/
  | synLocked (k : Fin 20) (b : Bool)
  /-- A loop's phase error or frequency leaves limits and the loss is declared within 0.11 µs (R352). -/
  | lossOfLock (k : Fin 20) (b : Bool)
  /-- Every 10 ms a synthesiser in HOLD tries to reacquire with continuous phase (R355). -/
  | holdReacquire (k : Fin 12) (ok : Bool)
  /-- A synthesiser 1 s in HOLD, or at a rail, becomes FAILED and is isolated (R347). -/
  | holdTimeout (k : Fin 12)
  /-- A write of SYNC_ARM.ARM arms SYNC_IN, or is blocked while a SYNC_EN output is enabled (R351). -/
  | syncArm (m : Fin 7) (v : Word)
  /-- An armed SYNC_IN rising edge restarts the dividers of every SYNC_EN output of locked synthesisers (R351). -/
  | syncInEdge
  /-- A write of ISP_CTL.SWAP changes the pair to its other half if it is LOCKED (R360). -/
  | ispSwap (m : Fin 7) (k : Fin 8) (v : Word)
  /-- A write of ISP_CTL.TEST self-tests the unselected half (R360). -/
  | ispTest (m : Fin 7) (k : Fin 8) (v : Word)
  /-- A lower LOCK_ANA code held for 1 s takes effect on the pin (R359). -/
  | lockAnaHoldEnd
  /-- Far-end termination and signal on all 8 lanes move a link from DETECT to TRAIN (R364). -/
  | linkDetect (n : Fin 8)
  /-- Equalisers converge and FEC lock holds 1 ms, moving the link to AUTH (R364). Lane polarity corrected, lane order
  reversed, and the skew in 0.1 ns steps. -/
  | linkTrained (n : Fin 8) (inv : BitVec 8) (rev : Bool) (skew : BitVec 7)
  /-- 50 ms without lock returns the link to DETECT and raises TRAIN_FAIL (R364). -/
  | trainTimeout (n : Fin 8)
  /-- Session keys are agreed and the link is UP, or authentication fails and it is DOWN (R364). `peer` is the
  identity of the far device. -/
  | linkAuth (n : Fin 8) (ok : Bool) (peer : BitVec 64)
  /-- Lane loss, 16 uncorrectable codewords in 1 ms or 10 µs without a frame puts the link DOWN (R364). -/
  | linkDown (n : Fin 8)
  /-- A link still without a new key 2 ms after its parent was invalidated goes DOWN (R376). -/
  | keyStaleTimeout (n : Fin 8)
  /-- A link 100 ms in DOWN returns to DETECT (R364). -/
  | linkRetry (n : Fin 8)
  /-- Every hour and every 2^32 frames a link derives new session keys (R375). -/
  | linkRekey (n : Fin 8)
  /-- A member's view of the formation arrives on a link every 10 µs (R366). -/
  | memberView (n : Fin 8) (f : MemberView)
  /-- A peer unseen for 100 µs is declared lost and its charges, channels and relays are released (R379). -/
  | memberLost (mem : Fin 8)
  /-- A hardware-timestamped time exchange arrives on a link and the link delay is measured (R373). `delay` in 0.01
  ns; `usable`: the member named does not take its own time from a peer and is not in FREE_RUN. -/
  | timeMessage (n : Fin 8) (mem : Fin 8) (delay : BitVec 20) (usable : Bool)
  /-- A write of MESHCTL.PAIR.GO starts pairing an unpaired device over a link (R375). -/
  | pairGo (m : Fin 7) (v : Word)
  /-- The key store confirms or refuses pairing and the formation secret is passed (R375). `joining`: this device is
  the one being paired. -/
  | pairDone (n : Fin 8) (code : Nat) (check : BitVec 24) (joining : Bool)
  /-- A part of a formation request reaches a member and its ledger decides it (R377). -/
  | formationPart (f : FormPart)
  /-- A write of MESHCTL.LEAVE.GO puts the member in LEAVING and drains its channels (R380). -/
  | leaveGo (m : Fin 7) (v : Word)
  /-- A write of LEAVE.FORCE sends the leave instant at once (R380). -/
  | leaveForce (m : Fin 7) (v : Word)
  /-- Once drained or at DRAIN_TIMEOUT the member sends its leave instant 10 ms ahead (R380). -/
  | leaveInstantSend (timedOut : Bool)
  /-- At the leave instant peers treat the member as lost and it turns its links OFF (R380). -/
  | leaveInstant (mem : Fin 8)
  /-- A write of RA_CTL.GO sends one 32-bit remote register access to another member (R383). -/
  | raGo (m : Fin 7) (v : Word)
  /-- A remote access completes, or ends with a code, and DONE sets (R383). -/
  | raComplete (code : Nat) (v : Word)
  /-- A vacant member ID's REJOIN_HOLD ends and it becomes freely claimable (R382). -/
  | rejoinHoldExpire (mem : Fin 8)
  /-- Once per second a running supervisor requests each shed item again (R404). `f`: the code with which the other
  members answer, by output. -/
  | restoreRequest (f : List (Nat × Nat))
  /-- Each supervisor sends a heartbeat every 1 ms (R407). -/
  | heartbeat (who : Fin 2)
  /-- The STANDBY supervisor declares the ACTIVE one failed and isolates it (R407). -/
  | heartbeatMiss (who : Fin 2) (cause : Fin 16)
  /-- The journal is applied and the new supervisor becomes ACTIVE and accepts requests (R407). -/
  | failoverActive
  /-- The failed supervisor is reset, self-tested, loaded and synchronised as STANDBY (R407). -/
  | standbyRestore (pass : Bool)
  /-- The STANDBY supervisor applies a committed journal entry within 100 µs (R406). -/
  | journalApply
  /-- A write of SUPERVISOR.CTL.SWITCHOVER exchanges roles, or raises JOURNAL_ERR without IN_SYNC (R409). -/
  | switchover (m : Fin 7)
  /-- After its backoff Charon resets Phobos, or Deimos, to end flywheel (R411). -/
  | restartAttempt
  /-- A supervisor not started in 500 ms fails the attempt, ending in FLYWHEEL_HOLD after three (R411). -/
  | restartAttemptFail
  /-- A write of SUPERVISOR.CTL.RETRY starts a new series of three restart attempts (R411). -/
  | supRetry (m : Fin 7)
  /-- A write of CTL.RETEST_STANDBY self-tests the STANDBY supervisor (R419). -/
  | retestStandby (m : Fin 7)
  /-- The ledger rebuild ends, held commits apply, flywheel ends and REBUILT is raised (R412). `f`: the lock facts of
  each output rebuilt. -/
  | ledgerRebuildEnd (f : List (Nat × LockFacts))
  /-- A write of AVAIL_CLR.GO clears FRAMES, DEFECTIVE and LATE of one VO (R418). -/
  | availClrGo (m : Fin 7) (v : Word)
  /-- A write of AVAIL_CLR.ALL clears the counters of every output (R418). -/
  | availClrAll (m : Fin 7) (v : Word)
  /-- RESET_N low at 5 consecutive XO_IN samples asserts a DEVICE reset (R422). -/
  | resetNAssert
  /-- RESET_N is deasserted 1 µs after its rising edge (R422). `mode` and `member` are BOOTMODE and MEMBER_ID as
  sampled. -/
  | resetNRelease (mode : BitVec 4) (member : BitVec 3)
  /-- A reset reaching PD25 during a store word write asserts when the word pulse ends and raises HELD_NVM (R422).
  `mode` and `member` are BOOTMODE and MEMBER_ID as sampled. -/
  | heldNvm (mode : BitVec 4) (member : BitVec 3)
  /-- A rail below its power-good threshold for 1 µs asserts a COLD reset (R556). -/
  | railPowerFail (rail : Fin 10)
  /-- A rail leaving its range without falling below power-good raises RAIL_FAULT (R556). -/
  | railFault (rail : Fin 10)
  /-- Loss of VBAT and every supply is a BACKUP reset of everything (R420). -/
  | supplyLoss
  /-- The power-good filter ends, XO_IN is checked and COLD is deasserted (R433). Whether each IO bank is at 3.3 V.
  `mode` and `member` are BOOTMODE and MEMBER_ID as sampled. -/
  | powerGoodFilterEnd (io3a : Bool) (io3b : Bool) (mode : BitVec 4) (member : BitVec 3)
  /-- A write of RESET.CTL.DEVICE with its key asserts a DEVICE reset (R420). `mode` and `member` are BOOTMODE and
  MEMBER_ID as sampled. -/
  | resetDevice (m : Fin 7) (v : Word) (mode : BitVec 4) (member : BitVec 3)
  /-- A write of RESET.CTL.CONTROL with its key resets PD23 to PD25 for 1,024 cycles (R436). -/
  | resetControl (m : Fin 7) (v : Word)
  /-- After PD25 fails its self-test Charon repeats the CONTROL reset, or raises PD25_FAIL (R421). `mode` and `member`
  are BOOTMODE and MEMBER_ID as sampled. -/
  | controlRetry (mode : BitVec 4) (member : BitVec 3)
  /-- A write of RESET.DOM_HOLD holds the domains named, or frees them to the waiting set (R423). -/
  | domHoldWrite (m : Fin 7) (v : Word)
  /-- A write of RESET.DOM_PULSE holds the domains named for 1,024 cycles (R423). -/
  | domPulse (m : Fin 7) (v : Word)
  /-- A domain pulse ends and freed domains join the waiting set (R423). -/
  | domPulseEnd (v : Word)
  /-- The reset controller releases the earliest waiting step, then waits GAP (R426). -/
  | releaseStep
  /-- 16 µs after power-on the domain's reset deasserts and its units start self-tests (R428). `d`: PDn at n - 1. -/
  | domainResetDeassert (d : Fin 25)
  /-- The loader finishes, LOADED is set at tLOAD, or EMPTY and CFG_EMPTY without a valid bank (R430). -/
  | loaderDone
  /-- The key store checks the manifests and chooses the first permitted slot, measuring it (R489). -/
  | bootCheck (f : BootFacts)
  /-- A section read by Phobos is hashed, and a mismatch ends the start and marks the slot bad (R489). -/
  | imageSectionHash (ok : Bool) (last : Bool)
  /-- A write of POWER.STBY.ENTER with its key starts standby entry (R440). -/
  | stbyEnter (m : Fin 7) (v : Word)
  /-- One step per GAP a drained domain is switched off in reverse release order (R440). `mode` and `member` are
  BOOTMODE and MEMBER_ID as sampled. -/
  | standbyDomainOff (mode : BitVec 4) (member : BitVec 3)
  /-- A rising edge on WAKE held 1 µs wakes the device from standby (R441). `mode` and `member` are BOOTMODE and
  MEMBER_ID as sampled. -/
  | wakeEdge (mode : BitVec 4) (member : BitVec 3)
  /-- A rising edge on a GPIO named in WAKE_GPIO wakes the device (R441). `mode` and `member` are BOOTMODE and
  MEMBER_ID as sampled. -/
  | wakeGpio (g : Fin 32) (mode : BitVec 4) (member : BitVec 3)
  /-- A signal for 10 µs on lane 0 of an enabled link wakes the device (R441). `mode` and `member` are BOOTMODE and
  MEMBER_ID as sampled. -/
  | linkWake (n : Fin 8) (mode : BitVec 4) (member : BitVec 3)
  /-- Once store writes are permitted the shutdown record is copied to the store (R438). -/
  | shutRecCopy
  /-- XTAL32 absent stops the backup counters and sets XTAL32_FAIL (R438). -/
  | xtal32Fail (absent : Bool)
  /-- A write of POWER.DOM_REQ powers domains on or drains them off, or is blocked (R439). -/
  | domReqWrite (m : Fin 7) (v : Word)
  /-- Every 1 ms the 32 sensors are sampled and TCTL is computed (R446). -/
  | sensorSample (f : SensorFacts)
  /-- A sensor's two-point self-test ends and it returns to OK or becomes FAILED (R448). -/
  | sensorSelftestEnd (k : Fin 32) (pass : Bool)
  /-- A write of SENSOR_CTL.TEST self-tests the sensor addressed (R448). -/
  | sensorTest (m : Fin 7) (v : Word)
  /-- Once a second each sensor's learned offset is updated (R447). -/
  | offsetUpdate
  /-- TCTL below threshold minus HYST for DWELL lowers the stage by one (R451). -/
  | stageLower
  /-- 10 s after the controlling sensor failed, HOLD clears and the stage may fall (R449). -/
  | stageHoldEnd
  /-- A rise above 2 °C/s for 500 samples enters T1 and raises RISE (R452). -/
  | riseEnter
  /-- Each second at T3 or above one more item is shed unless TCTL fell 0.5 °C (R453). -/
  | t3ShedTick
  /-- 60 s below T3 allow the restoring requests to begin (R453). -/
  | t3RestoreHoldEnd
  /-- The emptied T4 plane's domain is switched off (R454). -/
  | t4PlaneOff
  /-- Every 100 ms at T5 one conversion stream is offered to a cooler peer (R455). `cool`: the peer is at T2 or below;
  `accepted`: it builds the stream and proves it. -/
  | offload (mem : Fin 8) (cool : Bool) (accepted : Bool)
  /-- TCTL at or below RESTART_TEMP for 10 s makes a DEVICE reset with CAUSE 0x3 (R459). `mode` and `member` are
  BOOTMODE and MEMBER_ID as sampled. -/
  | thermalRestart (mode : BitVec 4) (member : BitVec 3)
  /-- A write of NVM.CTL.STORE starts, joins or queues a STORE (R472). -/
  | nvmStore (m : Fin 7)
  /-- A write of CTL.SNAPSHOT makes the STORE take its body from the running configuration (R472). -/
  | nvmSnapshot (m : Fin 7) (v : Word)
  /-- A write of CTL.ABORT cancels a waiting or queued STORE (R473). -/
  | nvmAbort (m : Fin 7)
  /-- A write of CTL.DISCARD empties staging while IDLE (R473). -/
  | nvmDiscard (m : Fin 7)
  /-- A write of CTL.SELFTEST scans the array through the decoder (R465). -/
  | nvmSelftest (m : Fin 7)
  /-- TCTL back in range for 1 s lets a waiting STORE proceed (R474). -/
  | tempWindowOpen
  /-- One store word is written and verified in 0.4 µs (R464). -/
  | nvmWordWrite (ok : Bool)
  /-- The final H0 is verified, the record is valid and STORE_DONE is raised (R468). -/
  | commitWriteDone
  /-- A write of RAW_CTL.READ returns the decoded word at RAW_ADDR (R478). `err`: what the decoder finds: 0 clean, 1
  corrected, 2 uncorrectable. -/
  | rawRead (m : Fin 7) (err : Fin 3)
  /-- A write of RAW_CTL.WRITE writes a calibration word in SERVICE, or is refused (R478). -/
  | rawWrite (m : Fin 7)
  /-- Every COUNTER_PERIOD minutes the counters are copied to the store (R463). -/
  | counterCopy
  /-- A corrected store word is rewritten in the background once writes are permitted (R465). -/
  | correctedRewrite
  /-- A life-cycle change re-seals the record, destroys working keys and re-derives the branches (R483). -/
  | lcChange
  /-- A STALE link session key is zeroised at its rekey or at 2 ms (R487). -/
  | staleKeyZeroise (n : Fin 8)
  /-- 8 hours in SERVICE return the state to FIELD (R482). -/
  | serviceTimeout
  /-- A write of KEYS.CTL.SERVICE_EXIT with its key returns SERVICE to FIELD (R482). -/
  | serviceExit (m : Fin 7) (v : Word)
  /-- A write of KEYS.CTL.SVN_COMMIT raises MIN_SVN to the running SVN (R489). -/
  | svnCommit (m : Fin 7) (v : Word)
  /-- A KEYS.REQ DERIVE request derives a key into slot 16 to 63 (R486). -/
  | keysDerive (m : Fin 7) (v : Word)
  /-- A KEYS.REQ DESTROY request destroys a software slot (R486). -/
  | keysDestroy (m : Fin 7) (v : Word)
  /-- TAMPER_N low for 78 samples or a glitch detector latches the alarm and answers under Table 18.4 (R492).
  `source`: 1 pin, 2 voltage, 3 clock. -/
  | tamperAlarm (source : Fin 4) (inKeyOp : Bool)
  /-- CONFIRM_GPIO held high 2 s after CLEAR_TAMPER ends tamper-hold and unseals the key store (R493). -/
  | tamperConfirm
  /-- An uncorrectable key-region word uses the other copy, or both root copies failing enter tamper-hold (R494).
  `both`: both copies of the root fail. -/
  | keyRegionFail (word : Nat) (both : Bool)
  /-- A record verified under the old measurement is rewritten under the new seal key (R490). -/
  | measRewrite
  /-- The data link layer becomes active, LINK_UP sets and PCIE_DOWN deasserts (R498). `speed` + 1 codes the rate, 2 ^
  `width` the lanes. -/
  | pcieLinkUp (speed : Fin 4) (width : Fin 3)
  /-- Loss of the PCIe link resets the endpoint state, discards held takes and stops host queues (R501). -/
  | pcieLinkDown
  /-- A PCIe hot reset has the effect of a link loss on the endpoint (R501). -/
  | hotReset
  /-- A PCIe link disable has the effect of a link loss on the endpoint (R501). -/
  | linkDisable
  /-- A Function Level Reset has the effect of a link loss on the endpoint (R501). -/
  | functionLevelReset
  /-- A configuration request less than 100 ms after PD25 release is answered with CRS (R498). `early`: within 100 ms;
  `msix`: a write of the MSI-X enable and the function mask. -/
  | configRequest (early : Bool) (msix : Option (Bool × Bool))
  /-- A poisoned write TLP is dropped and logged (R502). -/
  | poisonedTlp (addr : Nat)
  /-- A write of PAGE_LOCK with KEY 0x0A55 by an admitted master opens the lock (R514). -/
  | pageLockOpen (m : Fin 7) (p : Page) (i : Nat) (v : Word)
  /-- A write of PAGE_LOCK.CLOSE closes the lock (R514). -/
  | pageLockClose (m : Fin 7) (p : Page) (i : Nat) (v : Word)
  /-- 60 s after the opening or last RWL write the lock closes (R514). -/
  | lockTimeout (p : Page) (i : Nat)
  /-- A write of PAGE_CTRL.COMMIT makes the page's shadow pending for its commit point (R510). `f`: the facts of each
  output that the commit starts. -/
  | pageCommit (m : Fin 7) (p : Page) (i : Nat) (f : List (Nat × TakeFacts))
  /-- A pending commit reaches its commit point and the shadow is applied or blocked (R510). -/
  | commitPoint (p : Page) (i : Nat) (f : List (Nat × TakeFacts))
  /-- A write of GROUP_COMMIT.GO releases every commit waiting in the groups named (R512). -/
  | groupCommitGo (m : Fin 7) (v : Word) (f : List (Nat × TakeFacts))
  /-- A write of SHADOW_CTL.DISCARD copies the active values into the shadow (R509). -/
  | shadowDiscard (m : Fin 7) (p : Page) (i : Nat) (v : Word)
  /-- A write of EVT_FORCE sets EVT_STAT bits as events would (R509). -/
  | evtForce (m : Fin 7) (p : Page) (i : Nat) (v : Word)
  /-- A W1C write of EVT_STAT clears bits, counting a rising where the source stays asserted (R518). -/
  | evtW1c (m : Fin 7) (p : Page) (i : Nat) (v : Word)
  /-- Clearing ERR_INFO.VALID frees the register for the next error (R506). -/
  | errInfoClear (m : Fin 7)
  /-- A vector's holdoff ends and risings during it send one message (R519). -/
  | msixHoldoffEnd (v : Fin 64)
  /-- At the end of a second a source's excess risings are written as one REPEAT entry (R521). -/
  | logRepeatFlush
  /-- A queued log entry is written to the ring, with SEAL and LOST entries as due (R521). -/
  | logQueueWrite
  /-- A write of DB_CTL with SET sets a doorbell, rising where it was clear (R531). -/
  | dbSet (m : Fin 7) (v : Word)
  /-- A write of DB_CTL with CLEAR clears a doorbell (R531). -/
  | dbClear (m : Fin 7) (v : Word)
  /-- A selected edge on a GPIO input latches its bit in GPIO_LATCH (R531). -/
  | gpioEdge (g : Fin 32) (rise : Bool)
  /-- A write of WIN_CFG.FLOW_APERTURE changes the flow window half for that master's later accesses (R528). -/
  | flowApertureWrite (m : Fin 7) (v : Word)
  /-- A read of UPTIME_LO latches UPTIME_HI (R444). -/
  | uptimeRead (m : Fin 7)
  /-- A read of RTC_S_LO latches RTC_S_HI and RTC_SUB (R444). -/
  | rtcRead (m : Fin 7)
  /-- A read of LAST_REF_STAMP_LO latches its high word (R533). -/
  | lastRefStampRead (m : Fin 7)
  /-- Within 10 ms of PD25 release the console sends its banner and prompt (R538). -/
  | consoleStart
  /-- A break of 100 ms on SVC_RX sets the console to 115,200 baud (R537). -/
  | consoleBreak
  /-- A console line that names no command, or overruns, is answered with ERR 01 or ERR 11 (R540). `long`: the line is
  too long; `dropped`: bytes lost to an overrun. -/
  | unknownCommand (long : Bool) (dropped : Nat)
  /-- The HELLO command returns part, variant, identity, state, firmware and member (R541). -/
  | hello
  /-- The STATUS command returns the summary, Firefly codes, TCTL, stage and supervisor mode (R541). -/
  | status
  /-- The RD command reads 1 to 64 register words (R541). -/
  | rd (p : Page) (i : Nat) (off : Nat) (n : Option Nat)
  /-- The RT command reads a table window (R541). `win`: 0 route, 1 next hop, 2 audio, 3 LUT/filter, 4 flow. -/
  | rt (win : Fin 5) (off : Nat) (n : Option Nat)
  /-- The LOG command decodes the last n event-log entries (R541). -/
  | log (n : Option Nat)
  /-- The STEPS command decodes the last n step-log entries (R541). -/
  | steps (n : Option Nat)
  /-- The REF command returns the decoded REFMGR slots (R541). -/
  | ref
  /-- The MEM command returns channel health and CE_RATE (R541). -/
  | mem
  /-- The LEDGER command returns the ledger totals (R541). -/
  | ledger
  /-- The SUP command returns the supervisor state (R541). -/
  | sup
  /-- The AUTH command returns a 128-bit challenge (R542). -/
  | auth
  /-- The AUTH SIG command verifies the signature and enters SERVICE, or fails with ERR 05 (R542). Whether the
  signature verifies under the Belinane service key, and under the maker's. -/
  | authSig (belinane : Bool) (maker : Bool)
  /-- The EXIT command ends the SERVICE session (R544). `tag`: whether the tag of R543 matches. -/
  | exit (tag : Bool)
  /-- The WR command writes one register word as master 4 and reads it back (R541). `tag`: whether the tag of R543
  matches. -/
  | wr (p : Page) (i : Nat) (off : Nat) (v : Word) (tag : Bool) (w : WriteFacts)
  /-- The TEST PRBS command runs a PRBS generator and checker on a free pad lane (R546). `via`: 0 EXT, 1 NEAR, 2 FAR.
  -/
  | testPrbs (lane : Nat) (p31 : Bool) (secs : Nat) (via : Fin 3) (tag : Bool)
  /-- The TEST EYE command runs one eye scan on a lane in RUN (R546). `hoff` and `voff`: two's complement in 7 bits.
  -/
  | testEye (lane : Nat) (hoff : Nat) (voff : Nat) (dwell : Nat) (tag : Bool)
  /-- The TEST APORT command isolates a port and runs its loop test (R546). -/
  | testAport (p : Nat) (tag : Bool)
  /-- The TEST MEM command self-tests an empty memory channel (R546). -/
  | testMem (c : Nat) (tag : Bool)
  /-- The TEST CE command runs the known-answer test of a free or isolated engine (R546). -/
  | testCe (n : Nat) (tag : Bool)
  /-- The TEST ISP command self-tests the unselected half of a pair (R546). -/
  | testIsp (k : Nat) (tag : Bool)
  /-- The TEST SUP command self-tests the STANDBY supervisor (R546). `tag`: whether the tag of R543 matches. -/
  | testSup (tag : Bool)
  /-- The TEST FF command steps FF_ANA and LOCK_ANA through their codes (R546). `tag`: whether the tag of R543
  matches. -/
  | testFf (tag : Bool)
  /-- A console test completes, restores its unit and replies (R546). `n`: the bits that TEST PRBS compared, the pages
  that TEST MEM found failing. -/
  | consoleTestEnd (pass : Bool) (n : Nat)
  /-- The console STORE command writes NVM.CTL.STORE and replies when IDLE (R541). `tag`: whether the tag of R543
  matches. -/
  | consoleStore (tag : Bool)
  /-- The RESET CONTROL command asserts a CONTROL reset (R541). `tag`: whether the tag of R543 matches. -/
  | consoleResetControl (tag : Bool)
  /-- The RESET DEVICE command asserts a DEVICE reset (R541). -/
  | consoleResetDevice (mode : BitVec 4) (member : BitVec 3) (tag : Bool)
  /-- The RETRY command writes SUPERVISOR.CTL.RETRY (R541). `tag`: whether the tag of R543 matches. -/
  | consoleRetry (tag : Bool)
  /-- The CLEAR_TAMPER command opens a 30 s window for the confirmation GPIO (R493). -/
  | clearTamper
  /-- The RETIRE command, once confirmed, blows the RETIRED fuse and zeroises the key region (R482). `tag`: whether
  the tag of R543 matches. -/
  | retire (tag : Bool)
  /-- The FUSE MAKER_IMAGE command fuses the maker's image key hash once (R488). -/
  | fuseMakerImage (h : Nat) (tag : Bool)
  /-- The FUSE MAKER_SERVICE command fuses the maker's service key hash once (R484). -/
  | fuseMakerService (h : Nat) (tag : Bool)
  /-- The confirmation GPIO held high 2 s runs the held SERVICE command (R545). -/
  | confirmGpio
  /-- No confirmation within 30 s answers the held command with ERR 08 (R545). -/
  | confirmTimeout
  /-- CFG.IDLE minutes without a command end the session with !END (R544). -/
  | consoleIdleTimeout
  /-- A lower-priority Firefly row takes effect once the current row has been driven 2 s (R549). -/
  | fireflyHoldEnd
  /-- A write of I2C_XFER.GO starts a one-byte I²C transfer (R570). -/
  | i2cXferGo (m : Fin 7) (k : Fin 8) (v : Word)
  /-- Every POLL_PERIOD the master reads POLL_REG and raises I2C_CHG on change (R570). -/
  | i2cPoll (k : Fin 8) (ack : Bool) (data : BitVec 8)
  /-- A transfer without acknowledgement for 10 ms sets TIMEOUT (R570). -/
  | i2cTimeout (k : Fin 8)
  /-- The JTAG BYPASS instruction selects the bypass register (R567). -/
  | bypass
  /-- The JTAG IDCODE instruction shifts out the device identifier (R567). -/
  | idcode
  /-- The JTAG SAMPLE/PRELOAD instruction samples and preloads the boundary register (R567). `pins` is what the
  boundary cells capture, `value` what is shifted in. -/
  | samplePreload (pins : Nat) (value : Nat)
  /-- The JTAG EXTEST instruction drives pins from the boundary register (R567). `pins` is what the boundary cells
  capture, `value` what is shifted in. -/
  | extest (pins : Nat) (value : Nat)
  /-- The JTAG CLAMP instruction holds pins from the boundary register with bypass selected (R567). -/
  | clamp
  /-- The JTAG HIGHZ instruction sets outputs to high impedance (R567). -/
  | highz
  /-- The IEEE 1149.6 EXTEST_PULSE instruction tests AC-coupled pairs with pulses (R567). `pins` is what the boundary
  cells capture, `value` what is shifted in. -/
  | extestPulse (pins : Nat) (value : Nat)
  /-- The IEEE 1149.6 EXTEST_TRAIN instruction tests AC-coupled pairs with a pulse train (R567). `pins` is what the
  boundary cells capture, `value` what is shifted in. -/
  | extestTrain (pins : Nat) (value : Nat)
  /-- The PRBS checker of a pad lane in TEST gains sync after 64 correct bits, loses it after 32 errored bits in 64,
  and counts errored bits in PRBS_ERR, raising PRBS_ERR (R78). -/
  | prbsCheckerSync (q : Fin 24) (n : Fin 4) (inSync : Bool) (errors : Nat)
  /-- The PCS of an Ethernet port enters or leaves its high bit error ratio state, and the port's HI_BER event bit is
  set (R83). -/
  | hiBerChange (q : Fin 24) (p : Fin 4) (high : Bool)
  /-- An FEC codeword arrives on an Evoyn link and is corrected, or dropped and counted, and its line units are
  treated as missing with FEC_UNCORR raised (R362). Errors were corrected, it could not be corrected, or its CRC
  failed. -/
  | linkCodewordReceived (n : Fin 8) (corrected : Bool) (uncorr : Bool) (crcBad : Bool)
  /-- VBAT falls below 1.8 V, or rises back above it, and BKP_STAT.VBAT_LOW changes (R444). -/
  | vbatLow (low : Bool)
  /-- The 10 minute lockout of service entry after three failed signatures runs out, and LOCKED_OUT clears so that
  AUTH is accepted again (R484). -/
  | authLockoutEnd
  /-- A one-byte I²C transfer ends with DONE or NACK set, DATA updated and BUSY cleared (R569). -/
  | i2cXferDone (k : Fin 8) (ack : Bool) (data : BitVec 8)
  /-- A scan of the non-volatile store array through the decoder ends, and STATE returns to IDLE with SELFTEST_DONE
  raised (R465). The words that the scan corrected, and those it could not. -/
  | arrayScanEnd (corrected : List Nat) (bad : List Nat)
  deriving DecidableEq, Repr

end Sys2Proof
end

