-- ==== Sys2Proof/Decode.lean ====
section
/-! DEFINITION. Reading a command from a word of the opcode table. No row of the table gives bits: the commands of the block are
accesses, events and lines, not encoded words. -/
namespace Sys2Proof

/-- The command that a word spells by the opcode table's bits: none, since no row has any. -/
def decodeTableWord (_nbits _w : Nat) : Option Instr := none

end Sys2Proof
end

