-- ==== Sys2Proof/Config.lean ====
section
/-! DEFINITION. What a device fixes for itself and the spec gives no number for, and the values the spec leaves open.
Every constant here is opaque: no proof can lean on a number. -/
namespace Sys2Proof

/-- A value the spec leaves open, by the number of values drawn before it. Each meaning cuts it to the width it needs.
(A free value; assumption 3.) -/
opaque Config.freeValue : Nat → Nat

/-- The silicon stepping of PAGE_REV, "Per device" in Table 19.5 (R509). Assumption 4. -/
opaque Config.stepping : BitVec 16

/-- The variant of CHIP_ID, "Per device" in Table 20.4 (R529). Assumption 4. -/
opaque Config.variant : BitVec 4

/-- The 64-bit device identity of KEYS.DEV_ID (R496). Assumption 4. -/
opaque Config.deviceId : BitVec 64

/-- The JTAG device identifier's manufacturer code (R567), not a number of the spec. Assumption 4. -/
opaque Config.jtagMaker : BitVec 11

/-- The CRC-32C of a LUT or filter staging area as the device computes it over the bytes used, and every other digest
the device computes: a function of the numbers digested. Assumption 5. -/
opaque Config.digest : List Nat → Nat

/-- The rate in bit/s that the ledger counts for a TX_ANC flow at a frame rate of Table 3.8: R124 computes a flow rate from the
format, and no format is stated for ancillary data. Assumption 18. -/
opaque Config.ancRate : Nat → Nat

/-- A sample under the gain that a list of ramp stages stands for, as a number of 32 bits: the spec gives the curves and the
width, not the rounding (R279, R280). Assumption 22. -/
opaque Config.gained : List Nat → Int → Int

/-- A crossfade at step k of n between two samples (R282). Assumption 22. -/
opaque Config.crossfaded : Nat → Nat → Int → Int → Int

/-- A sample fading out or in over 32 samples, at step k: the spec names no curve (R283, R285). Assumption 22. -/
opaque Config.faded : Nat → Int → Int

/-- The sample of a tone generator: mode, frequency, level, and sample frames since it started (R296). Assumption 22. -/
opaque Config.tone : Nat → Nat → Nat → Nat → Int

/-- How many entries LOG and STEPS give where no number is named, less one, before it is cut to 0 to 63: the spec states no
default (Table 21.1). Assumption 43. -/
opaque Config.consoleEntries : Nat

/-- HOLD_STAT.ERR for an oscillator class after a number of seconds in HOLDOVER: Table 11.3 gives the bound at two instants only (R333).
Assumption 47. -/
opaque Config.holdError : Nat → Nat → Nat

/-- What a read shows of a quantity that the device measures and no command reports, by the field, its place and the free values drawn
before the read. Assumption 81. -/
opaque Config.measured : List Nat → Nat

end Sys2Proof
end

