-- ==== Sys2Proof/Machine/State.lean ====
section
/-! DEFINITION. The state of the device: every register field, every table, queue, buffer and mode the spec gives it, as
plain data, and the queue of commands that wait. -/
namespace Sys2Proof.Machine

/-- Why a step stops with a fault. No meaning of this model raises one: an access the spec forbids gets the error
response of R506, which is an effect on the state. -/
inductive Fault where
  /-- Raised by no meaning; kept so that the type is not empty. Safe. -/
  | none
  deriving DecidableEq, Repr

/-- Why a step answers no next state. -/
inductive Refusal where
  /-- The arm of a command that has no meaning yet. Safe: nothing is claimed of it. -/
  | notModelled (mnemonic : String)
  deriving DecidableEq, Repr

/-- A commit of a page's shadow that has not been applied (R510, R511): the page, the group it waits for (0: none, it
waits for its commit point), the master that wrote it, and the values captured at the COMMIT. -/
structure PendingCommit where
  page : Page
  inst : Nat
  master : Nat
  group : Nat
  values : RTable
  deriving DecidableEq, Repr

/-- An entry of the event log (Table 19.8). -/
structure LogEntry where
  stamp : Nat
  seq : Nat
  /-- 0 EVENT, 1 REPEAT, 2 SEAL, 3 SEAL_UNAVAILABLE, 4 LOST. -/
  kind : Nat
  source : Nat
  count : Nat
  stat : Nat
  /-- The MAC of a SEAL entry; system time seconds in the other kinds. -/
  tail : Nat
  deriving DecidableEq, Repr

/-- The event core (R517 to R521): the page sources' EVT_STAT, EVT_MASK and EVT_ROUTE by source number, the level
sources and SUMMARY as last seen, the MSI-X vectors, the supervisors' interrupts and the event log. -/
structure EventState where
  stat : NTable Nat
  mask : NTable Nat
  route : NTable Nat
  level : Nat
  summary : Nat
  /-- Risings counted in the current second, by source (R521). -/
  risings : NTable Nat
  /-- The MSI-X table, by 32-bit word (BUSMATRIX 0x800): four words a vector, the fourth holding the mask bit. -/
  msixTable : NTable Nat
  /-- Vectors due and not sent (the pending-bit array). -/
  msixPending : Nat
  /-- Vectors whose holdoff runs (R519). -/
  msixHoldoff : Nat
  /-- Messages sent, by vector. -/
  msixSent : NTable Nat
  /-- Interrupts given to the ACTIVE supervisor, by source (R520). -/
  supIrq : NTable Nat
  /-- Interrupts held for the next supervisor in flywheel, by source. -/
  supHeld : NTable Nat
  logQueue : List LogEntry
  logRing : NTable LogEntry
  logHead : Nat
  logSeq : Nat
  /-- Entries lost since the last LOST entry. -/
  logLost : Nat
  cntEntries : Nat
  cntLost : Nat
  cntRepeats : Nat
  deriving DecidableEq, Repr

/-- The clocks the device keeps: the backup domain's uptime and real-time counter (R437), and system time (R322), in
femtoseconds, with the high words and latched copies a read shows. -/
structure Clocks where
  uptime : Nat
  rtcSeconds : Nat
  rtcSub : Nat
  sysFs : Nat
  deriving DecidableEq, Repr

/-- A video descriptor (Table 3.8), without VALID. -/
structure Fmt where
  raster : Nat
  rate : Nat
  scan : Nat
  sampling : Nat
  depth : Nat
  color : Nat
  transfer : Nat
  mapping : Nat
  deriving DecidableEq, Repr

/-- What a memory allocation serves (Table 6.4). -/
inductive AllocKind where
  | sync | engine | merge | pool | still
  deriving DecidableEq, Repr

/-- A memory allocation (R191, R192): what it serves, the source and output timing of a store (R195) or the owner of
another kind, its home quadrant, its charges in bit/s times 1001 and in MiB, the other half of a twin, the channel sets
of its buffers, the planned move to another quadrant with the frames proved so far (R206, R207). -/
structure Alloc where
  kind : AllocKind
  owner : Nat
  timing : Nat
  quad : Nat
  bw : Nat
  cap : Nat
  other : Option Nat
  sets : List (List Nat)
  moveTo : Option Nat
  proved : Nat
  deriving DecidableEq, Repr

/-- A stream of a conversion engine (R219, R220): its source, the first destination served, its output timing, the
profile, the descriptors, the steps requested, admitted and running, its shares, its stages, its stores, the engines of
its gang, and what keeps it down the ladder. -/
structure Stream where
  src : Nat
  mem : Nat
  dst : Nat
  timing : Nat
  profile : Nat
  inFmt : Fmt
  outFmt : Fmt
  qreq : Nat
  qadm : Nat
  qnow : Nat
  shares : Nat
  stages : Nat
  store : Nat
  gang : List Nat
  vecFault : Bool
  /-- The stream is carried on a fallback under R32: no engine builds it. -/
  fallback : Bool
  /-- Its engine has failed: a spare, or an engine that shedding frees, takes the stream (R249, R251). -/
  failed : Bool
  latency : Nat
  frame : Nat
  /-- The engine of a soft move in progress, with the engines of a new gang, the frames proved on it, and whether its proof
  has disagreed once (R250). -/
  moveTo : Option Nat
  moveGang : List Nat
  proved : Nat
  disagree : Bool
  /-- Frames of vectors gathered since the stream may run MC again (R242, R244). -/
  vectors : Nat
  deriving DecidableEq, Repr

/-- An admitted path of a destination: the source slot and member, the take's W0 settings, the kind (0 LOCKED, 1 SYNC_FS,
2 SYNC_CE, 3 none), the plane (0 A, 1 B, 2 both, 3 none), the synchroniser stores and engine streams of its halves, the
descriptors it was admitted with, the links of its crossings, and whether its twin half stands. -/
structure Path where
  src : Nat
  mem : Nat
  w0 : Nat
  kind : Nat
  plane : Nat
  store : Option Nat
  store2 : Option Nat
  stream : Option Nat
  stream2 : Option Nat
  srcFmt : Fmt
  dstFmt : Fmt
  links : List Nat
  twin : Bool
  deriving DecidableEq, Repr

/-- A committed take that has not acted: the path it brings (none: an unroute), its W0 settings and the frame count of
its token (R21, R22). -/
structure PendingTake where
  path : Option Path
  w0 : Nat
  frame : Nat
  /-- The member whose salvo this take is part of, for R382; the device's own is its SELF_ID. -/
  origin : Nat
  deriving DecidableEq, Repr

/-- A fade through black in progress (R176): frames shown since frame F, the frames of the whole transition, the gain in
thousandths at which the downward part began, and the take whose source has not yet come. -/
structure Fade where
  k : Nat
  n : Nat
  start : Nat
  take : Option PendingTake
  deriving DecidableEq, Repr

/-- A take held in a master's buffer (R167). -/
structure HeldTake where
  dst : Nat
  w0 : Nat
  /-- The member of the destination, 8 for this member. -/
  dmember : Nat
  deriving DecidableEq, Repr

/-- A timed salvo admitted and not yet committed (R173): the master, the instant, and the takes with their paths. -/
structure TimedSalvo where
  master : Nat
  seconds : Nat
  ns : Nat
  takes : List (Nat × PendingTake)
  deriving DecidableEq, Repr

/-- The video paths: active, pending and fallback paths by destination slot, the previous fallback of a destination until the
new one can be read (Table 6.7), fades, the held takes of each master, timed
salvos, memory allocations by number, engine streams by 4 x engine + stream, and the plane of each P0 source. -/
structure VideoState where
  active : NTable Path
  pend : NTable PendingTake
  fallback : NTable Path
  fallbackOld : NTable Path
  fades : NTable Fade
  held : NTable (List HeldTake)
  timed : List TimedSalvo
  allocs : NTable Alloc
  streams : NTable Stream
  planes : NTable Nat
  deriving DecidableEq, Repr

/-- An entry of the step log (Table 14.8). -/
structure StepEntry where
  stamp : Nat
  seq : Nat
  /-- The unit as PAGE_ID. -/
  unit : Nat
  sub : Nat
  step : Nat
  outcome : Nat
  detector : Nat
  cause : Nat
  slot : Nat
  frames : Nat
  detail : Nat
  deriving DecidableEq, Repr

/-- The repair ledger (R413, R414): the retirement map as unit, sub-unit and uptime, the step log as a ring, the entries
queued in AON, and the stamps of each unit's isolations (R392). LOG_HEAD holds the next index and the last SEQ. -/
structure RepairState where
  retireMap : List (Nat × Nat × Nat)
  log : NTable StepEntry
  queue : List StepEntry
  lost : Nat
  isolations : NTable (List Nat)
  /-- Stamps of the twin mismatches of each destination (R397), of the vector faults of each engine (R242), and of the
  corrections of each memory page (R188). -/
  mismatches : NTable (List Nat)
  vecFaults : NTable (List Nat)
  corrections : NTable (List Nat)
  /-- Memory pages remapped, by channel and page, and pages lost for good (R188, R209). -/
  remaps : List (Nat × Nat)
  deriving DecidableEq, Repr

/-- The ANC store (R101): by VI, the packets of the frame that fills and those of the frame in output, and the embedded
audio of each Cicada source channel as last carried (R106). -/
structure EssenceState where
  ancFill : NTable (List AncPacket)
  ancRead : NTable (List AncPacket)
  /-- The last sample of each Cicada source channel, 24-bit codes; unlisted: silence. -/
  samples : NTable Nat
  deriving DecidableEq, Repr

/-- An addressed buffer: bytes by address in rising order, no entry at what an unlisted address reads as. -/
abbrev Memory := List Host.Cell

/-- What an unlisted address of a buffer reads as. (DESIGN CHOICE, assumption 13.) -/
abbrev Memory.blank : BitVec 8 := 0

/-- The byte at an address. -/
def Memory.read (m : Memory) (a : Nat) : BitVec 8 := NTable.getD m a Memory.blank

/-- The memory with a byte written. -/
def Memory.write (m : Memory) (a : Nat) (b : BitVec 8) : Memory := NTable.putD m a b Memory.blank

/-- The canonical form of a memory: addresses strictly rising, no entry at the blank value. -/
abbrev Memory.wf (m : Memory) : Prop :=
  m.Pairwise (fun a b => a.1 < b.1) ∧ ∀ e ∈ m, e.2 ≠ Memory.blank

/-- The addressed buffers: the LUT/filter window (staging areas and current contents, R233), the control SRAM and the
still-image windows of BAR2 (Table 19.3). -/
structure BufferState where
  conv : Memory
  sram : Memory
  bar2 : Memory
  deriving DecidableEq, Repr

/-- A multicast membership (R140): the port, the family, the group and, in INCLUDE mode, the source. -/
structure Group where
  port : Nat
  v6 : Bool
  addr : Nat
  source : Option Nat
  deriving DecidableEq, Repr

/-- A state-change report (R142): its membership, whether it is a leave, whether its first sending is due, and the repeats
left. -/
structure Report where
  group : Group
  leave : Bool
  due : Bool
  repeats : Nat
  deriving DecidableEq, Repr

/-- A report as last sent on a port: its memberships, whether it is a leave, and the version of IGMP or MLD. -/
structure SentReport where
  groups : List Group
  leave : Bool
  version : Nat
  deriving DecidableEq, Repr

/-- The packet a send or FWD_OUT context last sent (Table 4.5). -/
structure SentPacket where
  port : Nat
  mac : Nat
  srcMac : Nat
  vlan : Option Nat
  v6 : Bool
  dst : Nat
  src : Nat
  dscp : Nat
  ttl : Nat
  dport : Nat
  sport : Nat
  /-- Whether the UDP checksum is 0 (IPv4) or recomputed (IPv6). -/
  zeroSum : Bool
  ssrc : Nat
  pt : Nat
  seq : Nat
  ts : Nat
  bytes : Nat
  deriving DecidableEq, Repr

/-- A committed flow take that has not acted (R145): the new FWD_IN, Tsw as an RTP timestamp, and the new source's packets
held so far. -/
structure FlowTake where
  src : Nat
  ts : Nat
  packets : List Datagram
  deriving DecidableEq, Repr

/-- What the device wrote into a host-queue descriptor last (R149). -/
structure HostDone where
  index : Nat
  status : Nat
  length : Nat
  port : Nat
  filter : Nat
  int : Bool
  deriving DecidableEq, Repr

/-- The flow engine beside its contexts: the merge buffers of pairs by lower context with the leg of each packet's first
copy (R135), MODIFY images waiting for their boundary (R152), flow takes held and pending, membership reports, ports with
a query to answer, ports that fell back to old versions (1 IGMPv2, 2 MLDv1), the last packet sent by each context, the
spare rows in use by bank, and the descriptors last written by host queue (16 to 31: transmit). -/
structure FlowState where
  merge : NTable (List Datagram)
  images : NTable (List Nat)
  held : List (Nat × Nat)
  takes : NTable FlowTake
  reports : List Report
  queries : List Nat
  oldQuerier : NTable Nat
  lastReport : NTable SentReport
  sent : NTable SentPacket
  rows : List (Nat × Nat)
  hostDone : NTable HostDone
  deriving DecidableEq, Repr

/-- One side of a crossfade of a destination channel (R282): the source's reference, and how far the crossfade to it has run,
in sample frames. -/
structure Fader where
  src : Nat
  k : Nat
  n : Nat
  deriving DecidableEq, Repr

/-- One target of a gain ramp (R280): the gain code, the mute, and how far the ramp to it has run. -/
structure Ramp where
  code : Nat
  mute : Bool
  k : Nat
  n : Nat
  deriving DecidableEq, Repr

/-- What a destination channel holds between sample frames: its crossfades and ramps from the oldest on, the delay line with
the newest sample first, the old delay of a change and its progress (R288), the image waiting for a zero crossing (R281),
the last delayed sample, frames still silent and samples still ramping in (R285, R286), whether it is muted for ST 337,
whether it waits for a preamble, and its output. -/
structure Chan where
  fades : List Fader
  ramps : List Ramp
  hist : List Nat
  oldDelay : Option (Nat × Nat)
  waiting : Option (Nat × Nat × Nat)
  last : Nat
  hold : Nat
  rampIn : Nat
  muted : Bool
  preamble : Bool
  out : Nat
  deriving DecidableEq, Repr

/-- A crosspoint request held, or decided and waiting for its sample frame (R275, R277): its master, the first destination, the
number of destinations less one, the image, whether it is timed, and its instant in femtoseconds of system time. -/
structure XpReq where
  master : Nat
  dst : Nat
  count : Nat
  w0 : Nat
  w1 : Nat
  w2 : Nat
  timed : Bool
  instant : Nat
  deriving DecidableEq, Repr

/-- A mix input in use (R292): source, polarity, and the ramps of its gain and mute. -/
structure MixIn where
  src : Nat
  polarity : Bool
  ramps : List Ramp
  deriving DecidableEq, Repr

/-- Cicada beside its registers: crosspoint requests held and pending, the channels that carry or change anything, sources
that stopped or returned (R283), runs of full-scale samples (R295), the mix inputs and bus ramps in use and whether a
commit is due, the tone generators' sample counts, and long delays waiting for their history (R288). -/
structure AudioState where
  held : List XpReq
  pend : List XpReq
  chans : NTable Chan
  stop : NTable Nat
  fullScale : NTable Nat
  mixIns : NTable MixIn
  busRamps : NTable (List Ramp)
  mixDue : Bool
  tones : NTable Nat
  poolWait : NTable Nat
  deriving DecidableEq, Repr

/-- The serial audio ports beside their registers, by 2 x port + direction (0 receive, 1 transmit): the FIFO's frames, oldest
first, each a list of slot samples; the last good frame; and by 64 x port + 32 x direction + slot the ramps of TRIM. -/
structure PortState where
  fifo : NTable (List (List Nat))
  last : NTable (List Nat)
  /-- The frame last sent on DOUT, by port. -/
  dout : NTable (List Nat)
  trim : NTable (List Ramp)
  deriving DecidableEq, Repr

/-- A configuration record of a bank (Table 17.2): its header, its body as field values, its outcome at the last check as
BANK_STAT shows it (0 valid, 1 MAGIC or FORMAT, 2 uncorrectable word, 3 CRC, 4 authenticator), and the number of the seal key
that authenticates it. -/
structure NvmRecord where
  seq : Nat
  length : Nat
  stamp : Nat
  snapshot : Bool
  body : RTable
  check : Nat
  sealNo : Nat
  deriving DecidableEq, Repr

/-- The non-volatile store beside its page: the records of the banks, the configuration that a record would hold as last seen,
the entries staged, those of them staged after tST, the record being written, raw words of the calibration region as written,
corrected words that wait to be rewritten, and the last copies of the counters. -/
structure NvmState where
  bankA : Option NvmRecord
  bankB : Option NvmRecord
  seen : RTable
  staged : RTable
  after : RTable
  writing : Option NvmRecord
  words : NTable Nat
  rewrites : List Nat
  counters : RTable
  deriving DecidableEq, Repr

/-- The key store beside its page (R481 to R490): the root secret, the keys of slots and of branches (64 up) as numbers, the labels
of the slots that software derives, the hashes fused for the equipment maker, the measurement that the key region holds, the
manifests of slots marked bad, and whether the record waits to be written under a new key. -/
structure KeyState where
  root : Option Nat
  keys : NTable Nat
  labels : NTable Nat
  makerImage : Option Nat
  makerService : Option Nat
  meas : Option Nat
  badA : Option Nat
  badB : Option Nat
  rewrite : Bool
  deriving DecidableEq, Repr

/-- A console test that runs (R546): its row of Table 21.3 from 1, its first two arguments, and the fields it changed with the
values to restore. -/
structure ConsoleTest where
  kind : Nat
  arg : Nat
  arg2 : Nat
  saved : RTable
  deriving DecidableEq, Repr

/-- The console: whether its banner has gone out since PD25's release; the data lines of the last reply as words, its final line (0 OK,
else the code of Table 21.2; 255 none yet) and the code that follows it; the challenge given; whether a SERVICE session is open, and
the cause that ends it once a test completes (0 none); the stamps of failed signatures; tags failed in a row; the command held for
confirmation; the lines received while a command runs; the test that runs; the reply that is due once a change ends (1 SERVICE,
2 STORE); the lines sent without a command since the last one (the cause of each !END, 100 a !CONFIRM, 200 the banner); and
whether a break holds the rate. -/
structure ConsoleState where
  started : Bool
  data : List Nat
  code : Nat
  text : Nat
  challenge : Option Nat
  session : Bool
  ending : Nat
  fails : List Nat
  badTags : Nat
  held : Option ConsoleLine
  buffer : List ConsoleLine
  test : Option ConsoleTest
  waits : Nat
  lines : List Nat
  slow : Bool
  deriving DecidableEq, Repr

/-- The IEEE 1149.1 port (R567): the instruction register, the boundary register's preloaded content, and what was last captured
into the register selected. -/
structure JtagState where
  ir : Nat
  boundary : Nat
  captured : Nat
  deriving DecidableEq, Repr

/-- The thermal controller beside its page: TCTL at the last 100 samples, the newest first; each sensor's sums and counts of its
deviations in the last 60 s, the newest second first; TCTL at the last second's tick; the stamps of thermal restarts. -/
structure ThermalState where
  tctl : List Int
  sums : NTable (List (Int × Nat))
  lastTick : Int
  restarts : List Nat
  deriving DecidableEq, Repr

/-- The state of the block. -/
structure State where
  /-- Every register field and every scalar of the device's own, at its value; unlisted: at its reset value. -/
  regs : RTable
  /-- The shadow values of RWS fields written and not applied (R510); unlisted: as the active value. -/
  shadow : RTable
  commits : List PendingCommit
  evt : EventState
  clk : Clocks
  video : VideoState
  repair : RepairState
  ess : EssenceState
  buf : BufferState
  flow : FlowState
  audio : AudioState
  ports : PortState
  nvm : NvmState
  keys : KeyState
  console : ConsoleState
  jtag : JtagState
  thermal : ThermalState
  /-- How many free values have been drawn: the model's own field. -/
  freeCtr : Nat
  /-- The commands that wait, first in, first out: the model's own field. -/
  pending : List Instr
  deriving DecidableEq, Repr

/-- The event core at power-up. -/
def EventState.reset : EventState :=
  { stat := [], mask := [], route := [], level := 0, summary := 0, risings := [], msixTable := [], msixPending := 0, msixHoldoff := 0,
    msixSent := [], supIrq := [], supHeld := [], logQueue := [], logRing := [], logHead := 0, logSeq := 0, logLost := 0,
    cntEntries := 0, cntLost := 0, cntRepeats := 0 }

/-- The console before its first start. -/
def ConsoleState.reset : ConsoleState :=
  { started := false, data := [], code := 255, text := 0, challenge := none, session := false, ending := 0, fails := [], badTags := 0,
    held := none, buffer := [], test := none, waits := 0, lines := [], slow := false }

/-- The device at its first power-up, with COLD and BACKUP asserted (Table 15.1): every register at the reset value its field gives,
nothing in any table, queue, buffer or store, the clocks at 0, the JTAG port at IDCODE, the life-cycle state BLANK without keys.
What the spec gives no value is named in assumptions 3, 13, 44 to 46. -/
def State.reset : State :=
  { regs := [], shadow := [], commits := [], evt := EventState.reset,
    clk := { uptime := 0, rtcSeconds := 0, rtcSub := 0, sysFs := 0 },
    video := { active := [], pend := [], fallback := [], fallbackOld := [], fades := [], held := [], timed := [], allocs := [], streams := [], planes := [] },
    repair := { retireMap := [], log := [], queue := [], lost := 0, isolations := [], mismatches := [], vecFaults := [],
                corrections := [], remaps := [] },
    ess := { ancFill := [], ancRead := [], samples := [] },
    buf := { conv := [], sram := [], bar2 := [] },
    flow := { merge := [], images := [], held := [], takes := [], reports := [], queries := [], oldQuerier := [], lastReport := [],
              sent := [], rows := [], hostDone := [] },
    audio := { held := [], pend := [], chans := [], stop := [], fullScale := [], mixIns := [], busRamps := [], mixDue := false,
               tones := [], poolWait := [] },
    ports := { fifo := [], last := [], dout := [], trim := [] },
    nvm := { bankA := none, bankB := none, seen := [], staged := [], after := [], writing := none, words := [], rewrites := [],
             counters := [] },
    keys := { root := none, keys := [], labels := [], makerImage := none, makerService := none, meas := none, badA := none,
              badB := none, rewrite := false },
    console := ConsoleState.reset,
    jtag := { ir := 1, boundary := 0, captured := 0 },
    thermal := { tctl := [], sums := [], lastTick := 0, restarts := [] },
    freeCtr := 0, pending := [] }

end Sys2Proof.Machine
end

