-- ==== Sys2Proof/Machine/Ops.lean ====
section
/-! DEFINITION. The named operations over the state that every family of commands is written with: reading and writing
a field, counters, free values, events and their routes (R517 to R521), and the level sources. -/
namespace Sys2Proof.Machine

/-- A field's value at an instance and an index. -/
def State.get (s : State) (f : Field) (i : Nat := 0) (k : Nat := 0) : Nat := s.regs.get ⟨f, i, k⟩

/-- The state with a field set, cut to the field's width. -/
def State.set (s : State) (f : Field) (v : Nat) (i : Nat := 0) (k : Nat := 0) : State :=
  { s with regs := s.regs.set ⟨f, i, k⟩ v }

/-- A saturating counter raised by one (R509: header counters are saturating). -/
def State.bump (s : State) (f : Field) (i : Nat := 0) (k : Nat := 0) : State :=
  s.set f (satAdd f.width (s.get f i k) 1) i k

/-- A saturating counter raised by a number. -/
def State.bumpBy (s : State) (f : Field) (n : Nat) (i : Nat := 0) (k : Nat := 0) : State :=
  s.set f (satAdd f.width (s.get f i k) n) i k

/-- A wrapping counter raised by one. -/
def State.incr (s : State) (f : Field) (i : Nat := 0) (k : Nat := 0) : State := s.set f (s.get f i k + 1) i k

/-- A free value and the state after it is drawn: nothing constrains it. -/
def State.fresh (s : State) : Nat × State := (Config.freeValue s.freeCtr, { s with freeCtr := s.freeCtr + 1 })

/-- States of a lane slice (Table 2.15). -/
abbrev slOFF : Nat := 0
abbrev slIDLE : Nat := 1
abbrev slACQUIRE : Nat := 2
abbrev slRUN : Nat := 3
abbrev slLOS : Nat := 4
abbrev slTEST : Nat := 5
abbrev slSPARE : Nat := 6
abbrev slSHADOW : Nat := 7
abbrev slISOLATED : Nat := 8
abbrev slRETIRED : Nat := 9

/-- The unit state (R25) that a slice state stands for. -/
def unitOfSlice : Nat → Nat
  | 0 => uOFF | 5 => uTEST | 6 => uSPARE | 7 => uSPARE | 8 => uISOLATED | 9 => uRETIRED | _ => uRUN

/-- The slice state that a unit state puts a slice in: back in service it acquires, or idles on the transmit side. -/
def sliceOfUnit (tx : Bool) : Nat → Nat
  | 0 => slOFF | 1 => slISOLATED | 2 => slTEST | 4 => slSPARE | 5 => slRETIRED | _ => if tx then slIDLE else slACQUIRE

/-- The state of a repair unit. A lane slice's own state register (Table 2.15) is its one home. -/
def State.unit (s : State) (u : UnitId) : Nat :=
  if u.page = .quad ∧ u.sub < 5 then unitOfSlice (s.get QUAD.RXSL_STAT_STATE u.inst u.sub)
  else if u.page = .quad ∧ u.sub < 10 then unitOfSlice (s.get QUAD.TXSL_STAT_STATE u.inst (u.sub - 5))
  else s.get (HDR.STATE u.page) u.inst u.sub

/-- The state with a repair unit's state set. -/
def State.setUnit (s : State) (u : UnitId) (v : Nat) : State :=
  if u.page = .quad ∧ u.sub < 5 then s.set QUAD.RXSL_STAT_STATE (sliceOfUnit false v) u.inst u.sub
  else if u.page = .quad ∧ u.sub < 10 then s.set QUAD.TXSL_STAT_STATE (sliceOfUnit true v) u.inst (u.sub - 5)
  else s.set (HDR.STATE u.page) v u.inst u.sub

/-- Femtoseconds in a second. -/
abbrev fsPerSecond : Nat := 1000000000000000

/-- System time seconds. -/
def State.sysSeconds (s : State) : Nat := s.clk.sysFs / fsPerSecond

/-- Nanoseconds of system time. -/
def State.sysNs (s : State) : Nat := s.clk.sysFs % fsPerSecond / 1000000

/-- XTAL32 periods in a second (R437: 30.5 us, a 15-bit fraction of a second). -/
abbrev xtalPerSecond : Nat := 32768

/-- Whether a domain is powered and out of reset; AON and BKP always are. -/
def State.domUp (s : State) (d : Nat) : Bool :=
  d ≥ domAON || (bitOf (s.get POWER.DOM_STAT_POWERED) (d - 1) && !bitOf (s.get RESET.DOM_STAT_HELD) (d - 1))

/-- Whether a domain is powered. -/
def State.domPowered (s : State) (d : Nat) : Bool := d ≥ domAON || bitOf (s.get POWER.DOM_STAT_POWERED) (d - 1)

/-- Device's own mark of flywheel, from its entry to the end of the rebuild that ends it (R410, R412). -/
def SUPERVISOR.HID_FLY : Field := ⟨.supervisor, 0x1100, 0, 1, .const 0⟩

/-- Device's own mark of a boot failure, which holds flywheel (R431). -/
def SUPERVISOR.HID_BOOTFAIL : Field := ⟨.supervisor, 0x1114, 0, 1, .const 0⟩

/-- Device's own mask of the reset sources asserted: bit 0 COLD, 1 RESET_N, 2 thermal shutdown, 3 CONTROL, 4 PD25 held after three
failures, 5 standby. -/
def RESET.HID_SRC : Field := ⟨.reset, 0x1104, 0, 6, .const 1⟩

abbrev srcCOLD : Nat := 0
abbrev srcRESETN : Nat := 1
abbrev srcSHUT : Nat := 2
abbrev srcCONTROL : Nat := 3
abbrev srcPD25 : Nat := 4
abbrev srcSTBY : Nat := 5

/-- Device's own mark of the critical stage, from 112 to below 110 degrees C (R456). -/
def THERMAL.HID_CRIT : Field := ⟨.thermal, 0x1104, 0, 1, .const 0⟩

/-- Whether the device is in flywheel. -/
def State.flywheel (s : State) : Bool := s.get SUPERVISOR.HID_FLY = 1

/-! ## Events -/

/-- Whether a page source is asserted: EVT_STAT AND NOT EVT_MASK is not 0 (R517). -/
def EventState.pageAsserted (e : EventState) (src : Nat) : Bool :=
  maskOff (NTable.getD e.stat src 0) (NTable.getD e.mask src 0) != 0

/-- The reset route of R530, to the supervisors and the log. -/
abbrev routeReset : Nat := 0xC00

/-- The route of a source: page sources in their pages, the others in the EVENT page (R517, R530). -/
def State.routeOf (s : State) (src : Nat) : Nat :=
  if src < 596 then NTable.getD s.evt.route src routeReset
  else if src < 628 then s.get EVENT.GPIO_ROUTE_ROUTE
  else if src < 640 then s.get EVENT.LEVEL_ROUTE_ROUTE 0 (src - 628)
  else s.get EVENT.DB_ROUTE_ROUTE 0 ((src - 640) / 32)

/-- Whether the mask bit of a vector is set; every mask bit is set at reset (R501). -/
def EventState.vectorMasked (e : EventState) (v : Nat) : Bool := NTable.getD e.msixTable (4 * v + 3) 1 % 2 = 1

/-- Whether the host lets messages go: the link is up, MSI-X is enabled and the function is not masked (R519). -/
def State.msixOpen (s : State) : Bool :=
  s.get BUSMATRIX.PCIE_STAT_LINK_UP = 1 && s.get BUSMATRIX.PCIE_STAT_MSIX_EN = 1 && s.get BUSMATRIX.PCIE_STAT_FN_MASK = 0

/-- Sends a vector's message when it is due, unmasked and out of its holdoff (R519). -/
def State.msixTry (s : State) (v : Nat) : State :=
  if bitOf s.evt.msixPending v && !bitOf s.evt.msixHoldoff v && s.msixOpen && !s.evt.vectorMasked v then
    { s with evt := { s.evt with
        msixPending := clrBit s.evt.msixPending v
        msixHoldoff := putBit s.evt.msixHoldoff v (s.get BUSMATRIX.MSIX_CFG_HOLDOFF != 0)
        msixSent := NTable.put s.evt.msixSent v (NTable.getD s.evt.msixSent v 0 + 1) } }
  else s

/-- Makes a vector due (R519). -/
def State.msixDue (s : State) (v : Nat) : State :=
  State.msixTry { s with evt := { s.evt with msixPending := setBit s.evt.msixPending v } } v

/-- Gives a supervisor interrupt, held for the next supervisor in flywheel (R520). -/
def State.supInterrupt (s : State) (src : Nat) : State :=
  if s.flywheel then
    { s with evt := { s.evt with supHeld := NTable.put s.evt.supHeld src (NTable.getD s.evt.supHeld src 0 + 1) } }
  else { s with evt := { s.evt with supIrq := NTable.put s.evt.supIrq src (NTable.getD s.evt.supIrq src 0 + 1) } }

/-- The MSI-X and SUP routes of a rising. -/
def State.routeDirect (s : State) (src : Nat) : State :=
  let r := s.routeOf src
  let s := if bitOf r 8 then s.msixDue (bitsOf r 0 6) else s
  if bitOf r 10 then s.supInterrupt src else s

/-- Entries the log queue holds (R521). -/
abbrev logQueueSize : Nat := 1024

/-- Puts an entry in the log queue, or counts it lost and raises LOG_LOST (R521, R523). -/
def State.logPut (s : State) (e : LogEntry) : State :=
  if s.evt.logQueue.length < logQueueSize then
    { s with evt := { s.evt with logQueue := s.evt.logQueue ++ [e] } }
  else
    let src := Page.busmatrix.source 0
    let was := s.evt.pageAsserted src
    let s := { s with evt := { s.evt with
      logLost := s.evt.logLost + 1
      cntLost := satAdd 32 s.evt.cntLost 1
      stat := NTable.put s.evt.stat src (setBit (NTable.getD s.evt.stat src 0) BUSMATRIX.EV_LOG_LOST) } }
    if !was && s.evt.pageAsserted src then s.routeDirect src else s

/-- A rising of a source (R517 to R521): its MSI-X and SUP routes, and its log entry. A source's risings beyond 16 in one
second are only counted, for the REPEAT entry at the end of the second. -/
def State.rising (s : State) (src : Nat) : State :=
  let n := NTable.getD s.evt.risings src 0 + 1
  let s := { s with evt := { s.evt with risings := NTable.put s.evt.risings src n } }
  let s := s.routeDirect src
  if bitOf (s.routeOf src) 11 && n ≤ 16 then
    s.logPut { stamp := s.clk.uptime, seq := 0, kind := 0, source := src, count := 0,
               stat := if src < 596 then maskOff (NTable.getD s.evt.stat src 0) (NTable.getD s.evt.mask src 0) else 0,
               tail := s.sysSeconds }
  else s

/-- Sets EVT_STAT of a page source to a value, with the rising that makes when the source becomes asserted. -/
def State.putStat (s : State) (src v : Nat) : State :=
  let was := s.evt.pageAsserted src
  let s := { s with evt := { s.evt with stat := NTable.putD s.evt.stat src v 0 } }
  if !was && s.evt.pageAsserted src then s.rising src else s

/-- Raises an event: sets a bit of a page's EVT_STAT (R509, R517). -/
def State.raise (s : State) (p : Page) (i : Nat) (bit : Nat) : State :=
  s.putStat (p.source i) (setBit (NTable.getD s.evt.stat (p.source i) 0) bit)

/-- Raises an event where a condition holds. -/
def State.raiseIf (s : State) (c : Bool) (p : Page) (i : Nat) (bit : Nat) : State :=
  if c then s.raise p i bit else s

/-- EVT_STAT of a page. -/
def State.evtStat (s : State) (p : Page) (i : Nat) : Nat := NTable.getD s.evt.stat (p.source i) 0

/-! ## Level sources and SUMMARY -/

/-- The conditions of the level sources 628 to 639 in their order (R517). -/
def State.levelConditions (s : State) : List Bool :=
  [ s.flywheel,
    s.get THERMAL.STAT_CRIT = 1,
    s.get KEYS.LC_STAT_TAMPER_HOLD = 1,
    s.get BUSMATRIX.PCIE_STAT_LINK_UP = 0,
    s.get KEYS.LC_STAT_STATE = 2,
    s.get RESET.SEQ_STAT_LOADED = 0,
    s.get LEDGER.STAT_SERVING = 0,
    s.get REFMGR.RM_STAT_STATE != 2,
    s.get REPAIR.STAT_SHED_COUNT != 0,
    s.get SUPERVISOR.STAT_MODE = 1,
    768 < s.evt.logQueue.length || s.evt.logLost != 0,
    s.get LEDGER.STAT_RESERVE_SPENT = 1 ]

/-- A list of flags as a mask, the first at bit 0. -/
def maskOfList : List Bool → Nat
  | [] => 0
  | b :: t => flag b + 2 * maskOfList t

/-- LEVEL_STAT: the conditions that hold, less those masked (R517, R530). -/
def State.levelNow (s : State) : Nat := maskOff (maskOfList s.levelConditions) (s.get EVENT.LEVEL_MASK_MASK)

/-- GLOBAL.SUMMARY (Table 20.4): each bit mirrors the field named (R529). -/
def State.summaryNow (s : State) : Nat :=
  s.get RESET.SEQ_STAT_LOADED + 2 * flag (s.get SUPERVISOR.STAT_MODE = 3 || s.get SUPERVISOR.STAT_MODE = 4)
    + 4 * s.get KEYS.LC_STAT_TAMPER_HOLD
    + 8 * s.get KEYS.LC_STAT_STATE + 32 * s.get THERMAL.STAT_STAGE + 256 * flag (s.get REFMGR.RM_STAT_STATE = 2)
    + 512 * flag (s.get REPAIR.STAT_SHED_COUNT != 0) + 1024 * s.get BUSMATRIX.PCIE_STAT_LINK_UP
    + 2048 * s.get MESHCTL.STAT_SELF_ID + 16384 * flag (s.get MESHCTL.STAT_STATE = 2)
    + 32768 * flag (s.get LEDGER.STAT_SERVING = 0)

/-- The risings of the level sources newly asserted, by bit from 0. -/
def State.levelRisings (s : State) (old new : Nat) : List Nat → State
  | [] => s
  | k :: t =>
    let s := if bitOf new k && !bitOf old k then s.rising (628 + k) else s
    s.levelRisings old new t

/-- Level sources rise and fall with their conditions, within 1 us (R517, R520). -/
def State.settleLevels (s : State) : State :=
  State.levelRisings { s with evt := { s.evt with level := s.levelNow } } s.evt.level s.levelNow (List.range 12)

/-- The state with SUMMARY as last seen set. -/
def State.noteSummary (s : State) (v : Nat) : State := { s with evt := { s.evt with summary := v } }

/-- A changed SUMMARY raises SUMMARY_CHG (R529). -/
def State.settleSummary (s : State) : State :=
  if s.summaryNow = s.evt.summary then s
  else (s.noteSummary s.summaryNow).raise .global 0 GLOBAL.EV_SUMMARY_CHG

/-! ## LOCK_ANA -/

/-- Device's own mark that both halves of an island pair are out of lock (R354), by SYNTH page. -/
def SYNTH.HID_DOUBLE : Field := ⟨.synth, 0x1100, 0, 1, .const 0⟩
/-- Device's own mark that a lower LOCK_ANA code is being held for its second (R359). -/
def SYNTHCTL.HID_ANAHOLD : Field := ⟨.synthctl, 0x1100, 0, 1, .const 0⟩

/-- The state of a timing synthesiser, or of half `b` of a pair (Table 12.8). -/
def State.synState (s : State) (k b : Nat) : Nat := if b = 0 then s.get SYNTH.SYN_STAT_STATE k else s.get SYNTH.SYN_STAT_STATE_B k

/-- The code of Table 12.7 for the worst condition present. -/
def State.lockAnaNow (s : State) : Nat :=
  let rm := s.get REFMGR.RM_STAT_STATE
  if !s.domUp 22 then 0
  else if (List.range 12).any (fun k => s.synState k 0 = 5) || (List.range 8).any (fun k => s.get SYNTH.HID_DOUBLE (12 + k) = 1) then 1
  else if (List.range 12).any (fun k => s.synState k 0 = 4) || rm = 0 then 2
  else if rm = 3 || rm = 4 then 3
  else if rm = 1 || rm = 5 then 4
  else if (List.range 8).any (fun k => s.synState (12 + k) 0 ≠ 3 || s.synState (12 + k) 1 ≠ 3) then 5
  else 6

/-- The code LOCK_ANA carries: FORCE under OVERRIDE; else the condition's, a lower one held for 1 s once it shows (R359). -/
def State.settleAna (s : State) : State :=
  let now := if s.get SYNTHCTL.LOCKANA_OVERRIDE = 1 then s.get SYNTHCTL.LOCKANA_FORCE else s.lockAnaNow
  let was := s.get SYNTHCTL.LOCKANA_CODE
  if now = was then s
  else if now < was then (s.set SYNTHCTL.LOCKANA_CODE now).set SYNTHCTL.HID_ANAHOLD 1
  else if s.get SYNTHCTL.HID_ANAHOLD = 1 ∧ s.get SYNTHCTL.LOCKANA_OVERRIDE = 0 then s
  else s.set SYNTHCTL.LOCKANA_CODE now

/-! ## Firefly pins -/

/-- Device's own row of Table 21.4 that the Firefly pins drive, 0 in reset, and its mark that the row is being held for 2 s (R549). -/
def GPIO.HID_FFROW : Field := ⟨.gpio, 0x1100, 0, 4, .const 0⟩
def GPIO.HID_FFHOLD : Field := ⟨.gpio, 0x1104, 0, 1, .const 0⟩

/-- The conditions of rows 1 to 14 of Table 21.4. -/
def State.ffConditions (s : State) : List Bool :=
  [ bitOf (s.get RESET.HID_SRC) srcSHUT,
    bitOf (s.get RESET.HID_SRC) srcSTBY,
    s.get THERMAL.HID_CRIT = 1,
    s.flywheel && s.get SUPERVISOR.HID_BOOTFAIL = 1,
    s.get SUPERVISOR.STAT_MODE = 4,
    s.flywheel,
    s.get KEYS.LC_STAT_TAMPER_HOLD = 1 || s.get KEYS.LC_STAT_STATE = 3,
    s.get RESET.SEQ_STAT_EMPTY = 1,
    s.get RESET.SEQ_STAT_LOADED = 0,
    s.get SUPERVISOR.STAT_ACTIVE = 3 && !(List.range 192).any (fun o => s.get VOUT.CFG_EN o = 1 && s.get VOUT.STAT_STATE o = 3),
    s.get THERMAL.STAT_STAGE != 0,
    s.get REPAIR.STAT_SHED_COUNT != 0 || s.get REPAIR.STAT_PLANE_A_OUT = 1 || s.get REPAIR.STAT_PLANE_B_OUT = 1
      || s.get LEDGER.STAT_RESERVE_SPENT = 1 || s.get SUPERVISOR.STAT_MODE = 1
      || (List.range 8).any (fun k => (s.synState (12 + k) 0 == 3) != (s.synState (12 + k) 1 == 3)),
    s.get REFMGR.RM_STAT_STATE != 2,
    s.console.session ]

/-- The number from `k` of the first flag that is set; past the last where none is. -/
def firstSet (k : Nat) : List Bool → Nat
  | [] => k
  | b :: t => if b then k else firstSet (k + 1) t

/-- The row of Table 21.4 whose condition holds first; 0 while a reset holds AON (R547). -/
def State.ffRowNow (s : State) : Nat :=
  if bitOf (s.get RESET.HID_SRC) srcCOLD || bitOf (s.get RESET.HID_SRC) srcRESETN then 0 else firstSet 1 s.ffConditions

/-- FF_BEAT of a row, as FF_STAT.BEAT codes it (Table 21.4, R548). -/
def ffBeat (row : Nat) : Nat := [0, 0, 1, 6, 5, 5, 5, 3, 3, 4, 4, 3, 3, 3, 2, 2].getD row 0
/-- FF_ANA of a row in 0.1 V (Table 21.4, R547). -/
def ffAna (row : Nat) : Nat := [2, 17, 5, 16, 15, 14, 13, 12, 11, 3, 4, 10, 9, 8, 7, 6].getD row 2

/-- The number of TEST FF among the tests of Table 21.3. -/
abbrev ctFF : Nat := 8

/-- Whether FF_CTL drives the pins: OVERRIDE in a SERVICE session (R549), or while TEST FF steps them (R546). -/
def State.ffOverride (s : State) : Bool :=
  s.get SERVICE.FF_CTL_OVERRIDE = 1 && (s.console.session || (s.console.test.any (fun t => t.kind = ctFF)))

/-- What the pins drive: FF_BEAT's code and FF_ANA in 0.1 V. FF_CTL.ANA outside 2 to 17 is treated as 2 (Table 21.6). -/
def State.ffPins (s : State) : Nat × Nat :=
  if s.ffOverride then
    let a := s.get SERVICE.FF_CTL_ANA
    (s.get SERVICE.FF_CTL_BEAT, if 2 ≤ a ∧ a ≤ 17 then a else 2)
  else (ffBeat (s.get GPIO.HID_FFROW), ffAna (s.get GPIO.HID_FFROW))

/-- FF_STAT shows what the pins drive, while PD25 is out of reset. -/
def State.showFirefly (s : State) : State :=
  if !s.domUp 25 then s
  else
    (((s.set SERVICE.FF_STAT_BEAT s.ffPins.1).set SERVICE.FF_STAT_ANA s.ffPins.2).set SERVICE.FF_STAT_ROW
      (s.get GPIO.HID_FFROW)).set SERVICE.FF_STAT_OVERRIDE_ON (flag s.ffOverride)

/-- A row comes into force: it is held for 2 s, ends an override if it is one of rows 1 to 6, and raises FF_CHG (R549). -/
def State.ffEnter (s : State) (row : Nat) : State :=
  let s := (s.set GPIO.HID_FFROW row).set GPIO.HID_FFHOLD (flag (row != 0))
  let s := if 1 ≤ row ∧ row ≤ 6 then s.set SERVICE.FF_CTL_OVERRIDE 0 else s
  s.raiseIf (s.domUp 25) .service 0 SERVICE.EV_FF_CHG

/-- The Firefly row in force: one of higher priority acts at once, a lower one after the row shown has been driven for 2 s (R549). -/
def State.settleFirefly (s : State) : State :=
  let now := s.ffRowNow
  let was := s.get GPIO.HID_FFROW
  let s :=
    if now = was then s
    else if was < now ∧ was ≠ 0 ∧ now ≠ 0 ∧ s.get GPIO.HID_FFHOLD = 1 then s
    else s.ffEnter now
  s.showFirefly

/-! ## Console sessions -/

/-- Device's own mark of the life-cycle state asked for, plus 1; 0 none (R483). -/
def KEYS.HID_LCREQ : Field := ⟨.keys, 0x1100, 0, 3, .const 0⟩

/-- The final line of a reply that has not come. -/
abbrev noReply : Nat := 255

/-- A reply ends: its data lines' words, its final line and the code that follows (R540). -/
def State.reply (s : State) (code : Nat) (text : Nat := 0) (data : List Nat := []) : State :=
  { s with console := { s.console with code := code, text := text, data := data, waits := 0 } }

/-- Causes of a session's end, as the !END line names them: EXIT, idle, 8 hours, tags, tamper, the state left SERVICE. -/
abbrev ceEXIT : Nat := 1
abbrev ceIDLE : Nat := 2
abbrev ceLIMIT : Nat := 3
abbrev ceTAGS : Nat := 5
abbrev ceTAMPER : Nat := 6
abbrev ceLEFT : Nat := 7

/-- A SERVICE session starts, and AUTH SIG is answered (R542, R543). -/
def State.startSession (s : State) : State :=
  let s := (s.reply 0).set SERVICE.CMD_CTR_COUNT 0
  State.raise { s with console := { s.console with session := true, ending := 0, badTags := 0 } } .service 0 SERVICE.EV_SESSION_START

/-- A session ends: !END with its cause, the override of the Firefly pins clears, and a state still SERVICE is asked to become FIELD
(R482, R544, R549). After a tamper alarm the state stays. A command that waits for its confirmation loses its session. -/
def State.endSession (s : State) (cause : Nat) : State :=
  let s := if s.console.held.isSome ∧ cause ≠ ceTAMPER then s.reply 3 else s
  let s := { s with console := { s.console with session := false, ending := 0, badTags := 0, challenge := none,
                                                lines := s.console.lines ++ [cause],
                                                held := if cause = ceTAMPER then s.console.held else none } }
  let s := (s.set SERVICE.FF_CTL_OVERRIDE 0).raise .service 0 SERVICE.EV_SESSION_END
  if s.get KEYS.LC_STAT_STATE = 2 ∧ cause ≠ ceTAMPER then s.set KEYS.HID_LCREQ 2 else s

/-- The replies that wait for a change to end: AUTH SIG for SERVICE (ERR 07 once tamper-hold has stopped the change), STORE for IDLE
(R542, Table 21.1). -/
def State.settleReplies (s : State) : State :=
  if s.console.waits = 1 ∧ s.get KEYS.LC_STAT_TAMPER_HOLD = 1 then s.reply 7
  else if s.console.waits = 1 ∧ s.get KEYS.LC_STAT_STATE = 2 ∧ s.get KEYS.HID_LCREQ = 0 then s.startSession
  else if s.console.waits = 2 ∧ s.get NVM.STAT_STATE = 0 then s.reply 0 0 [s.get NVM.STAT_RESULT]
  else s

/-- What ends a session: a tamper alarm, the state leaving SERVICE, or a cause noted, once a test has completed (R544, Table 21.5). -/
def State.settleEnd (s : State) : State :=
  if !s.console.session then s
  else if s.get KEYS.LC_STAT_TAMPER_HOLD = 1 then s.endSession ceTAMPER
  else if s.console.test.isSome then s
  else if s.get KEYS.LC_STAT_STATE ≠ 2 then s.endSession ceLEFT
  else if s.console.ending ≠ 0 then s.endSession s.console.ending
  else s

/-- STAT.SESSION and TEST_BUSY as they now are (Table 21.6). -/
def State.showSession (s : State) : State :=
  let v : Nat := if s.console.held.isSome then 3 else if s.console.session then 2 else if s.console.challenge.isSome then 1 else 0
  (s.set SERVICE.STAT_SESSION v).set SERVICE.STAT_TEST_BUSY (flag s.console.test.isSome)

/-- The console's replies and session after any change, while PD25 runs it. -/
def State.settleConsole (s : State) : State :=
  if s.domUp 25 then s.settleReplies.settleEnd.showSession else s

/-! ## Staging -/

/-- Whether a configuration record holds a field (R430, R467): the RWS fields of every page, W0 of the route entries, the flow
contexts but for their counts, W0 to W2 of the crosspoints, and the mix inputs and next-hop entries. (DEDUCED, assumption 28.) -/
def recorded (f : Field) : Bool :=
  f.off < 0x1000 &&
  (match f.page with
   | .rte => f.off = 0
   | .fc => f.off < 0x28
   | .xpt => f.off < 0xC
   | .mixin | .nh => true
   | .astat => false
   | p => p.layout.any (fun r => r.acc = .rws && r.field.off = f.off && r.field.lo = f.lo))

/-- A field's value as a record holds it: an active flow context is restored as one that waits. -/
def recordValue (f : Field) (v : Nat) : Nat := if f = FC.W0_STATE then min v 2 else v

/-- The configuration as a record of it would be (R472). -/
def State.recordView (s : State) : RTable :=
  (s.regs.filter (fun e => recorded e.1.field)).map (fun e => (e.1, recordValue e.1.field e.2))

/-- The changes from one record to another: new values, and fields back at their reset values. -/
def recordDiff (old new : RTable) : RTable :=
  new.filter (fun e => RTable.find old e.1 ≠ some e.2) ++
    (old.filter (fun e => (RTable.find new e.1).isNone)).map (fun e => (e.1, e.1.default))

/-- Whether two keys lie in one register. -/
def sameRegister (a b : RegKey) : Bool := a.field.page = b.field.page && a.inst = b.inst && a.field.off = b.field.off && a.idx = b.idx

/-- The body words of a list of staged fields: one a register, in the device's own layout (assumption 28). -/
def stageEntries : RTable → Nat
  | [] => 0
  | e :: t => (if t.any (fun x => sameRegister x.1 e.1) then 0 else 1) + stageEntries t

/-- Entries that staging holds (R471). -/
abbrev stageSize : Nat := 16384

/-- Shows the entries staged. -/
def State.showStage (s : State) : State :=
  (s.set NVM.STAGE_ENTRIES (stageEntries s.nvm.staged)).set NVM.STAGE_AFTER_TST (stageEntries s.nvm.after)

/-- One change is staged: in place of the same word's entry, or in a new one while there is room; during MERGE and WRITE it is
staged after tST (R471, R472). -/
def State.stageOne (s : State) (e : RegKey × Nat) : State :=
  if stageEntries s.nvm.staged < stageSize || s.nvm.staged.any (fun x => sameRegister x.1 e.1) then
    let late : Bool := s.get NVM.STAT_STATE = 2 || s.get NVM.STAT_STATE = 3
    { s with nvm := { s.nvm with staged := s.nvm.staged.put e.1 e.2, after := if late then s.nvm.after.put e.1 e.2 else s.nvm.after } }
  else (s.set NVM.STAT_STAGE_OVF 1).raise .nvm 0 NVM.EV_STAGE_FULL

/-- The state with the configuration taken as seen, nothing staged of it. -/
def State.noteSeen (s : State) : State := { s with nvm := { s.nvm with seen := s.recordView } }

/-- What has changed in the configuration is staged, in service and with PD25 up (R471). -/
def State.settleStage (s : State) : State :=
  let v := s.recordView
  if v = s.nvm.seen then s
  else
    let d := recordDiff s.nvm.seen v
    let t : State := { s with nvm := { s.nvm with seen := v } }
    if s.domUp 25 && s.get RESET.SEQ_STAT_LOADED = 1 then (d.foldl State.stageOne t).showStage else t

/-- What staging, the console, LOCK_ANA, the Firefly pins and the event core show after any change. -/
def State.settle (s : State) : State := s.settleStage.settleConsole.settleAna.settleFirefly.settleLevels.settleSummary

/-- A command's answer: the state it leaves, settled. -/
def done (s : State) : Host.Outcome State Fault Refusal := .next s.settle

/-- Whether any source routed to IRQ_N is asserted, or flywheel or the critical stage drives it (R520): the level of the
IRQ_N pin, true for low. -/
def State.irqLow (s : State) : Bool :=
  s.flywheel || s.get THERMAL.HID_CRIT = 1 ||
  (List.range 596).any (fun src => bitOf (s.routeOf src) 9 && s.evt.pageAsserted src) ||
  (List.range 32).any (fun k => bitOf (s.routeOf (596 + k)) 9
    && bitOf (maskOff (s.get EVENT.GPIO_LATCH_EDGE) (s.get EVENT.GPIO_MASK_MASK)) k) ||
  (List.range 12).any (fun k => bitOf (s.routeOf (628 + k)) 9 && bitOf s.evt.level k) ||
  (List.range 512).any (fun k => bitOf (s.routeOf (640 + k)) 9
    && bitOf (maskOff (s.get EVENT.DB_STAT_DB 0 (k / 32)) (s.get EVENT.DB_MASK_MASK 0 (k / 32))) (k % 32))

end Sys2Proof.Machine
end

