-- ==== Sys2Proof/Machine/Bus.lean ====
section
/-! DEFINITION. The bus matrix: decoding an address, the checks of R506 in order, the error record, and reading and
writing the plain fields of a register under their access codes (R499, R503 to R508, R514, R524 to R528). -/
namespace Sys2Proof.Machine

/-- Where an internal address leads. -/
inductive Target where
  | page (p : Page) (i off : Nat)
  /-- A word of a window table: the table, the entry and the byte offset in the entry. -/
  | entry (p : Page) (n off : Nat)
  /-- The status areas of the audio window. -/
  | astat (off : Nat)
  /-- The staging areas and current contents of the LUT/filter window. -/
  | conv (off : Nat)
  | sram (off : Nat)
  | bar2 (off : Nat)
  | none
  deriving DecidableEq, Repr

/-- The register page that holds a BAR0 offset below 0x40_0000, searched in directory order (R524). -/
def pageAt (a : Nat) : List Page → Target
  | [] => .none
  | p :: t =>
    if p.base ≤ a ∧ a < p.base + 0x1000 * p.instances then
      .page p ((a - p.base) / 0x1000) ((a - p.base) % 0x1000)
    else pageAt a t

/-- Whether an offset of the LUT/filter window lies in a used range of Table 7.6 (R233). -/
def convUsed (w : Nat) : Bool :=
  w < 0x34A56 || (0x40000 ≤ w && w < 0x41400) ||
  (0x100000 ≤ w && w < 0x300000 && (w - 0x100000) % 0x40000 < 0x34A56) ||
  (0x300000 ≤ w && w < 0x320000 && (w - 0x300000) % 0x2000 < 0x1400)

/-- Where a BAR0 offset leads for a master whose flow aperture is `ap` (R527, R528). -/
def decodeBar0 (ap a : Nat) : Target :=
  if a < 0x400000 then pageAt a Page.directory
  else if a < 0x401000 then .entry .rte ((a - 0x400000) / 8) ((a - 0x400000) % 8)
  else if 0x480000 ≤ a ∧ a < 0x488000 then .entry .nh ((a - 0x480000) / 8) ((a - 0x480000) % 8)
  else if 0x500000 ≤ a ∧ a < 0x580000 then .entry .xpt ((a - 0x500000) / 16) ((a - 0x500000) % 16)
  else if 0x580000 ≤ a ∧ a < 0x584000 then .astat (a - 0x580000)
  else if 0x590000 ≤ a ∧ a < 0x5A0000 then .entry .mixin ((a - 0x590000) / 8) ((a - 0x590000) % 8)
  else if 0x600000 ≤ a ∧ a < 0xA00000 then (if convUsed (a - 0x600000) then .conv (a - 0x600000) else .none)
  else if 0xA00000 ≤ a ∧ a < 0x1000000 then
    .entry .fc ((a - 0xA00000 + 0x600000 * ap) / 48) ((a - 0xA00000) % 48)
  else .none

/-- The flow aperture of a master (R528): held per master. -/
def State.aperture (s : State) (m : Nat) : Nat := s.get GLOBAL.WIN_CFG_FLOW_APERTURE m

/-- Where an internal address leads (Table 19.3). -/
def State.decode (s : State) (m a : Nat) : Target :=
  if a < 0x1000000 then decodeBar0 (s.aperture m) a
  else if 0x10000000 ≤ a ∧ a < 0x10800000 then .sram (a - 0x10000000)
  else if 0x200000000 ≤ a ∧ a < 0x400000000 then .bar2 (a - 0x200000000)
  else .none

/-- Whether a register that a chapter places in instance 0 for the whole block type: never refused for that instance's
own unit (R526). -/
def blockWide (p : Page) (i off : Nat) : Bool := i = 0 && off ≥ 0x200 && (p = .ce || p = .aport)

/-- Whether the state of a page's domain or units refuses an access to its block registers (R526): kind 4. -/
def State.stateRefuses (s : State) (p : Page) (i off : Nat) (write : Bool) : Bool :=
  off ≥ 0x040 && (!s.domUp (p.domain i) ||
    (!blockWide p i off && (
      (p.units i).all (fun u => s.unit u = uISOLATED || s.unit u = uRETIRED) ||
      (write && (p.units i).all (fun u => s.unit u = uISOLATED || s.unit u = uTEST || s.unit u = uRETIRED)))))

/-- Whether a table window reads: its domain column of Table 20.2 holds. -/
def State.windowUp (s : State) : Target → Bool
  | .entry .rte _ _ => s.domPowered 7 || s.domPowered 8
  | .entry .nh _ _ => s.domPowered 17
  | .entry .fc _ _ => s.domPowered 17
  | .entry .xpt _ _ => s.domPowered 18
  | .entry .mixin _ _ => s.domPowered 18
  | .astat _ => s.domPowered 18
  | .conv _ => s.domPowered 9 || s.domPowered 10 || s.domPowered 11 || s.domPowered 12
  | _ => true

/-- Whether a target is an area that its chapter marks RW. -/
def Target.windowRW : Target → Bool
  | .entry .nh _ _ => true
  | .entry .mixin _ _ => true
  | .conv off => off < 0x41400
  | _ => false

/-- Whether R499 accepts the access: aligned 32-bit at pages; at windows aligned reads of 4 or 8 bytes, reads of up to
256 bytes, and writes of 4 or 8 bytes in RW areas. -/
def widthOk (t : Target) (a bytes : Nat) (write : Bool) : Bool :=
  match t with
  | .page _ _ _ => bytes = 4 && a % 4 = 0
  | .entry _ _ _ | .astat _ | .conv _ =>
    if write then (bytes = 4 || bytes = 8) && a % bytes = 0 && t.windowRW
    else ((bytes = 4 || bytes = 8) && a % bytes = 0) || (8 < bytes && bytes ≤ 256 && a % 4 = 0)
  | _ => true

/-- The lowest-numbered VALID window that contains an address (R507): whether it admits the master, if there is one. -/
def State.windowAdmits (s : State) (m a : Nat) (write : Bool) : List Nat → Option Bool
  | [] => none
  | w :: t =>
    if s.get BUSMATRIX.WIN_VALID 0 w = 1 ∧ s.get BUSMATRIX.WIN_BASE 0 w ≤ a / 4096 ∧ a / 4096 ≤ s.get BUSMATRIX.WIN_LIMIT 0 w
    then some (bitOf (if write then s.get BUSMATRIX.WIN_WR 0 w else s.get BUSMATRIX.WIN_RD 0 w) m)
    else s.windowAdmits m a write t

/-- Whether the windows and the defaults of Table 19.3 admit a master (R507). -/
def State.admitted (s : State) (m a : Nat) (write : Bool) (t : Target) : Bool :=
  match t with
  | .sram _ => m < 3 && (s.windowAdmits m a write (List.range 16)).getD true
  | _ => (s.windowAdmits m a write (List.range 16)).getD true

/-- Whether a master may write RWL fields of a page and open its lock: Charon and the supervisors always (R514). -/
def State.masterAdmitted (s : State) (p : Page) (i m : Nat) : Bool := m < 3 || bitOf (s.get (HDR.MASTERS p) i) m

/-- The key of PAGE_LOCK, RESET.CTL, POWER.STBY and KEYS.CTL. -/
abbrev lockKey : Nat := 0x0A55

/-- The instance under which a page's field is held: the ROUTE registers from 0x040 to 0x05C and WIN_CFG are held for
each master (R528, R534). -/
def heldInst (p : Page) (i off m : Nat) : Nat :=
  if (p = .route && 0x040 ≤ off && off < 0x060) || (p = .global && off = 0x04C) then m else i

/-- The index of the array register that a byte offset names, if the row has one there. -/
def LayoutRow.index (r : LayoutRow) (off : Nat) : Option Nat :=
  if r.stride = 0 then (if off = r.field.off then some 0 else none)
  else if r.field.off ≤ off ∧ (off - r.field.off) % r.stride = 0 ∧ (off - r.field.off) / r.stride < r.count
  then some ((off - r.field.off) / r.stride) else none

/-- The rows of a page that a register holds, with their index in the array. -/
def rowsAt (p : Page) (i off : Nat) : List (LayoutRow × Nat) :=
  p.layout.filterMap (fun r =>
    if r.instLo ≤ i ∧ i ≤ r.instHi then (r.index off).map (fun k => (r, k)) else none)

/-- Whether the pad lane of a VI or VO is in SDI mode on a side; VI96 and VO96 up serve only IP flows (R116, R118). -/
def State.laneSdi (s : State) (tx : Bool) (i : Nat) : Bool :=
  i < 96 && s.get QUAD.QUAD_CFG_Q100 (i / 4) = 0 &&
  s.get (if tx then QUAD.LANE_CFG_TXMODE else QUAD.LANE_CFG_RXMODE) (i / 4) (i % 4) = 1

/-- Whether a register reads 0 and ignores writes in the state at hand: the SDI registers of an IP VI or VO (R116, R118), ports 1 to 3
of a 100GBASE-R quad (R82), prefix 0 (R125), a pair's SYN_N and SYN_FRAC for writes (R360). -/
def State.rowAbsent (s : State) (r : LayoutRow) (i k : Nat) : Bool :=
  (r.field.page = .vin && !s.laneSdi false i &&
    (r.field = VIN.CFG_MAPPING || r.field = VIN.CFG_DIVISION || r.field = VIN.CFG_PID_REQUIRE || r.field = VIN.CFG_FMT_OVR_EN
      || r.field.off = 0x044 || r.field.off = 0x050 || r.field.off = 0x070 || r.field.off = 0x074 || r.field.off = 0x078
      || r.field = VIN.STAT_TRS_LOCK || r.field = VIN.STAT_PID_SEEN || r.field = VIN.STAT_SKEW_ERR || r.field = VIN.STAT_SKEW))
  || (r.field.page = .vout && !s.laneSdi true i &&
    (r.field = VOUT.CFG_MAPPING || r.field = VOUT.CFG_DIVISION || r.field = VOUT.CFG_PID_INSERT || r.field = VOUT.AUD_GROUPS_GROUPS
      || r.field = VOUT.STAT_GANGED))
  || (r.field.page = .eth && s.get QUAD.QUAD_CFG_Q100 i = 1 && k ≠ 0)
  || (r.field.page = .flow && r.stride = 16 && r.field.off ≥ 0x800 && k = 0)

/-- The active or shadow value of an RWS field, as a read returns it (R510). -/
def State.rwsRead (s : State) (key : RegKey) : Nat :=
  if s.get (HDR.READ_ACTIVE key.field.page) key.inst = 1 then s.regs.get key
  else (RTable.find s.shadow key).getD (s.regs.get key)

/-- The value of one field in a register's write, if the write would change it. -/
def changes (old v lo w : Nat) : Bool := bitsOf v lo w != old

/-- Whether a write of a register would change an RWL field (R506). -/
def State.wouldChangeRWL (s : State) (p : Page) (i off m v : Nat) : Bool :=
  (rowsAt p i off).any (fun rk => rk.1.acc = .rwl && changes (s.get rk.1.field (heldInst p i off m) rk.2) v rk.1.field.lo rk.1.field.width)
  || (off = 0x024 && bitsOf v 16 16 ≠ lockKey &&
      (changes (s.get (HDR.FREEZE p) i) v 2 1 || changes (s.get (HDR.MASTERS p) i) v 8 7))

/-- Whether the lock refuses a write (R506, R514): kind 3. -/
def State.lockRefuses (s : State) (p : Page) (i off m v : Nat) : Bool :=
  (off = 0x024 && bitsOf v 16 16 = lockKey && !s.masterAdmitted p i m) ||
  (s.wouldChangeRWL p i off m v && !(s.get (HDR.LOCK_OPEN p) i = 1 && s.masterAdmitted p i m))

/-- The kind of the error response an access meets, 0 for none (R506). Where several hold, the order is: decode miss,
window, width, unit or domain state, lock. (DESIGN CHOICE, assumption 6.) -/
def State.busKind (s : State) (m a : Nat) (write : Bool) (bytes v : Nat) : Nat :=
  let t := s.decode m a
  if t = .none then 1
  else if !s.admitted m a write t then 2
  else if !widthOk t a bytes write then 5
  else match t with
    | .page p i off =>
      if s.stateRefuses p i off write then 4
      else if write && s.lockRefuses p i off m v then 3
      else 0
    | t => if s.windowUp t then 0 else 4

/-- The error response of R506: recorded in ERR_INFO when that register is free, counted and signalled by its kind; it
changes nothing at the target. -/
def State.busError (s : State) (m a : Nat) (write : Bool) (kind : Nat) : State :=
  let s :=
    if s.get BUSMATRIX.ERR_INFO_VALID = 1 then s
    else ((((((s.set BUSMATRIX.ERR_ADDR_LO_ADDR (bitsOf a 0 32)).set BUSMATRIX.ERR_ADDR_HI_ADDR (bitsOf a 32 8)).set
      BUSMATRIX.ERR_INFO_MASTER m).set BUSMATRIX.ERR_INFO_KIND kind).set BUSMATRIX.ERR_INFO_WRITE (flag write)).set
      BUSMATRIX.ERR_INFO_VALID 1)
  match kind with
  | 1 => (s.bump BUSMATRIX.CNT_DECODE_ERRS).raise .busmatrix 0 BUSMATRIX.EV_DECODE_ERR
  | 2 => (s.bump BUSMATRIX.CNT_WIN_DENIES).raise .busmatrix 0 BUSMATRIX.EV_WIN_DENY
  | 3 => (s.bump BUSMATRIX.CNT_LOCK_DENIES).raise .busmatrix 0 BUSMATRIX.EV_LOCK_DENY
  | _ => (s.bump BUSMATRIX.CNT_ACCESS_ERRS).raise .busmatrix 0 BUSMATRIX.EV_ACCESS_ERR

/-- One plain field written under its access code (R508): RW and RWL fields take the value, a W1C field loses the bits
written 1, an RWS field's shadow takes the value; RO fields, WO fields and command bits are left to their own rows. -/
def State.writeField (s : State) (acc : Access) (f : Field) (i k v : Nat) : State :=
  match acc with
  | .rw | .rwl => s.set f v i k
  | .w1c => s.set f (maskOff (s.get f i k) v) i k
  | .rws => { s with shadow := s.shadow.put ⟨f, i, k⟩ (v % 2 ^ f.width) }
  | _ => s

/-- The plain fields of a register written with a word. -/
def State.writeRows (s : State) (i v : Nat) : List (LayoutRow × Nat) → State
  | [] => s
  | (r, k) :: t =>
    let s := if s.rowAbsent r i k || (r.field.page = .synth && 12 ≤ i && r.field.off < 0x048) then s
      else s.writeField r.acc r.field i k (bitsOf v r.field.lo r.field.width)
    s.writeRows i v t

/-- The plain fields of a block register written by a master. -/
def State.writePlain (s : State) (m : Nat) (p : Page) (i off v : Nat) : State :=
  s.writeRows (heldInst p i off m) v (rowsAt p i off)

/-- Whether the bus matrix answers: PD25 is powered and out of reset. While it is not, no access reaches a target.
(DEDUCED, assumption 7.) -/
def State.busUp (s : State) : Bool := s.domUp 25

/-- A master's 32-bit write of a page register that has a row of its own: the checks of R506, then the plain fields of
the word, then what the command does. A refused write changes nothing but the error record. -/
def State.withWrite (s : State) (m : Nat) (p : Page) (i off v : Nat) (act : State → State) : State :=
  if !s.busUp then s
  else
    let a := p.base + 0x1000 * i + off
    let kind := s.busKind m a true 4 v
    if kind = 0 then act (s.writePlain m p i off v) else s.busError m a true kind

/-- A master's 32-bit write of a page register whose plain fields the command itself decides on: the checks of R506, then
what the command does. -/
def State.withCheck (s : State) (m : Nat) (p : Page) (i off v : Nat) (act : State → State) : State :=
  if !s.busUp then s
  else
    let a := p.base + 0x1000 * i + off
    let kind := s.busKind m a true 4 v
    if kind = 0 then act s else s.busError m a true kind

/-- A master's write of an action bit of PAGE_CTRL: without effect while the page's domain is held or off (R509). -/
def State.withCtrl (s : State) (m : Nat) (p : Page) (i : Nat) (act : State → State) : State :=
  if p.instances ≤ i ∨ 0x80 ≤ p.code then s
  else s.withCheck m p i 0x008 0 (fun t => if t.domUp (p.domain i) then act t else t)

/-- A master's 32-bit read of a page register that has a row of its own. -/
def State.withRead (s : State) (m : Nat) (p : Page) (i off : Nat) (act : State → State) : State :=
  if !s.busUp then s
  else
    let a := p.base + 0x1000 * i + off
    let kind := s.busKind m a false 4 0
    if kind = 0 then act s else s.busError m a false kind

end Sys2Proof.Machine
end

