-- ==== Sys2Proof/Machine/Video.lean ====
section
/-! DEFINITION. Descriptors and raster geometry (Table 3.8, Table 3.11), and what the ledger charges for them: fabric
(R155), memory (R191, R238), engine shares (R219), with the stage selection of Table 7.4. -/
namespace Sys2Proof.Machine

/-- Bandwidths are held in bit/s times 1001, so that every rate of Table 3.8 is exact. -/
abbrev bwUnit : Nat := 1001

/-- Frame rate times 1001: 0 23.98, 1 24, 2 25, 3 29.97, 4 30, 5 50, 6 59.94, 7 60. -/
def rate1001 (r : Nat) : Nat := [24000, 24024, 25025, 30000, 30030, 50050, 60000, 60060].getD r 0

/-- Total lines per frame of a raster (Table 3.11). -/
def totalLines (r : Nat) : Nat := [525, 625, 750, 1125, 2250, 4500].getD r 0
/-- Active lines per frame, both fields (Table 3.11); for 4320, per slot of a four-slot picture. -/
def lact (r : Nat) : Nat := [487, 576, 720, 1080, 2160, 2160].getD r 0
/-- Active lines of the whole picture. -/
def pictureLines (r : Nat) : Nat := [487, 576, 720, 1080, 2160, 4320].getD r 0
/-- Active samples per line; for 4320, per slot. -/
def lineSamples (r : Nat) : Nat := [720, 720, 1280, 1920, 3840, 3840].getD r 0
/-- Active samples per line of the whole picture. -/
def pictureSamples (r : Nat) : Nat := [720, 720, 1280, 1920, 3840, 7680].getD r 0
/-- The switching line of an output (Table 3.11). -/
def switchingLine (r : Nat) : Nat := [10, 6, 7, 7, 13, 25].getD r 0

/-- Slots of a picture: four for 4320, one for the rest (R88, R129). -/
def Fmt.slots (f : Fmt) : Nat := if f.raster = 5 then 4 else 1

/-- Bits in one active line of one slot (R155). -/
def Fmt.lineBits (f : Fmt) : Nat :=
  lineSamples f.raster * (if f.sampling = 0 then 2 else 3) * (if f.depth = 0 then 10 else 12)

/-- The fabric charge of a source (R155): C for each slot. -/
def Fmt.fabricCharge (f : Fmt) : Nat := ceilTo f.lineBits 2048 * lact f.raster * rate1001 f.rate * f.slots

/-- The bandwidth charge of a synchroniser store (R191): S = 2 B Lact f, over the slots of the picture. -/
def Fmt.syncBw (f : Fmt) : Nat := 2 * f.lineBits * lact f.raster * rate1001 f.rate * f.slots

/-- The size of one frame buffer in whole MiB (Table 6.4). -/
def Fmt.bufferMiB (f : Fmt) : Nat :=
  ceilDiv (lact f.raster * (ceilDiv f.lineBits 2048 * 256 + 16) * f.slots) 1048576

/-- The capacity charge of a synchroniser store: three buffers. -/
def Fmt.syncCap (f : Fmt) : Nat := 3 * f.bufferMiB

/-- The active pixel rate times 1001 (R219). -/
def Fmt.pixelRate (f : Fmt) : Nat := pictureSamples f.raster * pictureLines f.raster * rate1001 f.rate

/-- Shares of a stream (R219). -/
def sharesOf (i o : Fmt) : Nat := ceilDiv (max i.pixelRate o.pixelRate) (124416000 * bwUnit)

/-- Whether two descriptors are equal in every field except MAPPING (R157); the sub-image layout of a four-slot picture
counts (R246): two-sample interleave arrives on SDI, square division on IP. -/
def Fmt.same (a b : Fmt) : Bool := { a with mapping := 0 } = { b with mapping := 0 }

/-- A profile of CE[0].PROFILE (Table 7.5). -/
structure Profile where
  filter : Nat
  lut : Nat
  deint : Nat
  qreq : Nat
  qmin : Nat
  priority : Nat
  aspect : Nat
  force : Bool
  cropped : Bool
  valid : Bool
  deriving DecidableEq, Repr

/-- The profile as the registers hold it; a QMIN better than QREQ is treated as QREQ (R229). -/
def State.profile (s : State) (p : Nat) : Profile :=
  { filter := s.get CE.PROF0_FILTER 0 p, lut := s.get CE.PROF0_LUT 0 p, deint := s.get CE.PROF0_DEINT 0 p,
    qreq := s.get CE.PROF0_QREQ 0 p, qmin := max (s.get CE.PROF0_QMIN 0 p) (s.get CE.PROF0_QREQ 0 p),
    priority := s.get CE.PROF0_PRIORITY 0 p, aspect := s.get CE.PROF0_ASPECT 0 p,
    force := s.get CE.PROF0_FORCE 0 p = 1,
    cropped := s.get CE.PROF1_H_WIDTH 0 p != 0 || s.get CE.PROF2_V_HEIGHT 0 p != 0,
    valid := s.get CE.PROF0_VALID 0 p = 1 }

/-- Stage 3: input interlaced, and output progressive, PsF, or of another raster or rate (Table 7.4). -/
def stage3 (i o : Fmt) : Bool := i.scan = 1 && (o.scan ≠ 1 || i.raster ≠ o.raster || i.rate ≠ o.rate)
/-- Stage 4: frame rates differ. -/
def stage4 (i o : Fmt) : Bool := i.rate ≠ o.rate
/-- Stage 7: COLOR or TRANSFER differ, or the profile names a LUT slot. -/
def stage7 (p : Profile) (i o : Fmt) : Bool := i.color ≠ o.color || i.transfer ≠ o.transfer || p.lut ≠ 0
/-- Stages 6 and 9: sampling differs between RGB and Y'CbCr, COLOR differs, or stage 7 is selected. -/
def stage6 (p : Profile) (i o : Fmt) : Bool :=
  (i.sampling = 2) != (o.sampling = 2) || i.color ≠ o.color || stage7 p i o
/-- Stage 8: RASTER differs, or the profile sets a crop or ASPECT other than FULL. -/
def stage8 (p : Profile) (i o : Fmt) : Bool := i.raster ≠ o.raster || p.cropped || p.aspect ≠ 0
/-- Stages 5 and 10: sampling or depth differ, or stages 6 to 8 are selected. -/
def stage5 (p : Profile) (i o : Fmt) : Bool :=
  i.sampling ≠ o.sampling || i.depth ≠ o.depth || stage6 p i o || stage7 p i o || stage8 p i o
/-- Stage 11: output interlaced or PsF. -/
def stage11 (o : Fmt) : Bool := o.scan ≠ 0

/-- The bits of STREAM.STAGES: stages 3, 4, 5, 6, 7, 8 and 11 in that order (Table 7.15). -/
def stagesOf (p : Profile) (i o : Fmt) : Nat :=
  flag (stage3 i o) + 2 * flag (stage4 i o) + 4 * flag (stage5 p i o) + 8 * flag (stage6 p i o)
    + 16 * flag (stage7 p i o) + 32 * flag (stage8 p i o) + 64 * flag (stage11 o)

/-- The bandwidth charge of an engine stream at a quality step (Table 7.7): 0 MC, 1 BLEND, 2 DROP. Fin is the bits of an
input frame. -/
def engineBw (p : Profile) (i o : Fmt) (q : Nat) : Nat :=
  let fin := i.lineBits * lact i.raster * i.slots
  let w := fin * rate1001 i.rate
  let nb := ceilDiv (pictureSamples i.raster) 8 * ceilDiv (pictureLines i.raster) 8
  w + (if stage4 i o && q < 2 then 2 * fin * rate1001 o.rate else fin * rate1001 o.rate)
    + (if stage3 i o && p.deint = 0 then 2 * w else 0)
    + (if stage4 i o && q = 0 then w + w / 2 + nb * 256 * rate1001 i.rate else 0)

/-- The capacity charge of an engine stream at the quality requested (Table 7.7, R238). -/
def engineCap (p : Profile) (i o : Fmt) (q : Nat) : Nat :=
  let buf := i.bufferMiB
  let nb := ceilDiv (pictureSamples i.raster) 8 * ceilDiv (pictureLines i.raster) 8
  3 * buf + (if stage4 i o && q < 2 then buf else 0) + (if stage3 i o && p.deint = 0 then buf else 0)
    + (if stage4 i o && q = 0 then 3 * buf + ceilDiv (2 * nb * 8) 1048576 else 0)

/-- The fixed delay D of a stream in half frames of the output (Table 7.11). -/
def fixedDelay (p : Profile) (i o : Fmt) (q : Nat) (gang : Bool) : Nat :=
  1 + flag (stage3 i o && p.deint = 0) + (if stage4 i o && q = 1 then 1 else 0) + (if stage4 i o && q = 0 then 5 else 0)
    + flag gang

/-- The descriptor of a VO (VOUT.FMT, active values). -/
def State.voFmt (s : State) (o : Nat) : Fmt :=
  { raster := s.get VOUT.FMT_RASTER o, rate := s.get VOUT.FMT_RATE o, scan := s.get VOUT.FMT_SCAN o,
    sampling := s.get VOUT.FMT_SAMPLING o, depth := s.get VOUT.FMT_DEPTH o, color := s.get VOUT.FMT_COLOR o,
    transfer := s.get VOUT.FMT_TRANSFER o, mapping := s.get VOUT.FMT_MAPPING o }

/-- The descriptor a VI last had (VIN.FMT). -/
def State.viFmt (s : State) (i : Nat) : Fmt :=
  { raster := s.get VIN.FMT_RASTER i, rate := s.get VIN.FMT_RATE i, scan := s.get VIN.FMT_SCAN i,
    sampling := s.get VIN.FMT_SAMPLING i, depth := s.get VIN.FMT_DEPTH i, color := s.get VIN.FMT_COLOR i,
    transfer := s.get VIN.FMT_TRANSFER i, mapping := s.get VIN.FMT_MAPPING i }

/-- The descriptor of a pattern generator (FABRIC[A].PATGEN_FMT). -/
def State.pgFmt (s : State) (k : Nat) : Fmt :=
  { raster := s.get FABRIC.PATGEN_FMT_RASTER 0 k, rate := s.get FABRIC.PATGEN_FMT_RATE 0 k,
    scan := s.get FABRIC.PATGEN_FMT_SCAN 0 k, sampling := s.get FABRIC.PATGEN_FMT_SAMPLING 0 k,
    depth := s.get FABRIC.PATGEN_FMT_DEPTH 0 k, color := s.get FABRIC.PATGEN_FMT_COLOR 0 k,
    transfer := s.get FABRIC.PATGEN_FMT_TRANSFER 0 k, mapping := 0 }

/-- A descriptor as the 32-bit word of Table 3.8, without VALID. -/
def Fmt.word (f : Fmt) : Nat :=
  f.raster + 2 ^ 4 * f.rate + 2 ^ 8 * f.scan + 2 ^ 12 * f.sampling + 2 ^ 14 * f.depth + 2 ^ 16 * f.color
    + 2 ^ 18 * f.transfer + 2 ^ 24 * f.mapping

/-- The descriptor that a word of Table 3.8 spells. -/
def fmtOfWord (w : Nat) : Fmt :=
  { raster := bitsOf w 0 3, rate := bitsOf w 4 3, scan := bitsOf w 8 2, sampling := bitsOf w 12 2, depth := bitsOf w 14 1,
    color := bitsOf w 16 2, transfer := bitsOf w 18 2, mapping := bitsOf w 24 4 }

/-- The state with VIN.FMT's fields set, VALID apart. -/
def State.setViFmt (s : State) (i : Nat) (f : Fmt) : State :=
  (((((((s.set VIN.FMT_RASTER f.raster i).set VIN.FMT_RATE f.rate i).set VIN.FMT_SCAN f.scan i).set
    VIN.FMT_SAMPLING f.sampling i).set VIN.FMT_DEPTH f.depth i).set VIN.FMT_COLOR f.color i).set
    VIN.FMT_TRANSFER f.transfer i).set VIN.FMT_MAPPING f.mapping i

end Sys2Proof.Machine
end

