-- ==== Sys2Proof/Machine/Memory.lean ====
section
/-! DEFINITION. The memory part of the ledger: totals and ceilings (Table 6.3), the choice of a home quadrant, channel
sets (R192), the standing plans of the retire test (R189, R190) and ledger pressure (R243). -/
namespace Sys2Proof.Machine

/-- Device's own marks on MQq: its state (SYNCMGR.QUAD_STAT.STATE) 0 RUN, 1 DEGRADED, 2 EVACUATED, 3 FAILED. -/
abbrev quadRUN : Nat := 0
abbrev quadDEGRADED : Nat := 1
abbrev quadEVACUATED : Nat := 2
abbrev quadFAILED : Nat := 3

/-- The channels of a quadrant (Table 6.1). -/
def quadChannels (q : Nat) : List Nat := (List.range 8).map (fun k => 8 * q + k)

/-- Whether a memory channel is in RUN. -/
def State.chanRun (s : State) (c : Nat) : Bool := s.unit ⟨.memch, c, 0⟩ = uRUN

/-- The channels of a quadrant in RUN. -/
def State.runChannels (s : State) (q : Nat) : List Nat := (quadChannels q).filter s.chanRun

/-- The bandwidth ceiling of n channels: n x 47.33 Gbit/s rounded down to 0.1 Gbit/s (Table 6.3). -/
def ceilBw (n : Nat) : Nat := n * 4733 / 10 * 100000000 * bwUnit
/-- The capacity ceiling of n channels: n x 910.2 MiB rounded down. -/
def ceilCap (n : Nat) : Nat := n * 9102 / 10

/-- The number of channels a quadrant is counted with: none while it is DEGRADED, EVACUATED or FAILED (R211 to R213). -/
def State.quadCount (s : State) (q : Nat) : Nat :=
  if s.get SYNCMGR.QUAD_STAT_STATE 0 q = quadRUN then (s.runChannels q).length else 0

/-- The device bandwidth figure: 1,460 Gbit/s (Table 6.2). -/
abbrev deviceBw : Nat := 1460000000000 * bwUnit
/-- The device capacity figure in MiB (Table 6.3). -/
abbrev deviceCap : Nat := 28160

/-- The load of a quadrant in bandwidth: homes, and the planned homes of moves in progress (R206). -/
def quadBw (l : List (Nat × Alloc)) (q : Nat) : Nat :=
  l.foldl (fun n e => n + (if e.2.quad = q then e.2.bw else 0) + (if e.2.moveTo = some q then e.2.bw else 0)) 0
/-- The load of a quadrant in capacity. -/
def quadCap (l : List (Nat × Alloc)) (q : Nat) : Nat :=
  l.foldl (fun n e => n + (if e.2.quad = q then e.2.cap else 0) + (if e.2.moveTo = some q then e.2.cap else 0)) 0
/-- The device load in bandwidth, each allocation once (R206). -/
def totalBw (l : List (Nat × Alloc)) : Nat := l.foldl (fun n e => n + e.2.bw) 0
/-- The device load in capacity. -/
def totalCap (l : List (Nat × Alloc)) : Nat := l.foldl (fun n e => n + e.2.cap) 0

/-- The four quadrants. -/
abbrev quads : List Nat := [0, 1, 2, 3]

/-- Room in a quadrant beside the loads of a list, as bandwidth and capacity; none where it is full. -/
def State.room (s : State) (l : List (Nat × Alloc)) (q : Nat) : Nat × Nat :=
  (ceilBw (s.quadCount q) - quadBw l q, ceilCap (s.quadCount q) - quadCap l q)

/-- Whether an allocation fits in a quadrant under its ceilings. -/
def State.fits (s : State) (l : List (Nat × Alloc)) (q bw cap : Nat) : Bool :=
  quadBw l q + bw ≤ ceilBw (s.quadCount q) && quadCap l q + cap ≤ ceilCap (s.quadCount q) && s.quadCount q ≠ 0

/-- The quadrant with the most bandwidth room, then the most capacity room, then the lowest index (R190), of a list. -/
def bestQuad (room : Nat → Nat × Nat) : List Nat → Option Nat
  | [] => none
  | q :: t =>
    match bestQuad room t with
    | none => some q
    | some r => if (room r).1 > (room q).1 || ((room r).1 = (room q).1 && (room r).2 > (room q).2) then some r else some q

/-- The home quadrant of a new allocation, outside the quadrants named: the one R190 would choose. The spec leaves the
choice to the ledger (R192). (DESIGN CHOICE, assumption 10.) -/
def State.homeQuad (s : State) (l : List (Nat × Alloc)) (bw cap : Nat) (avoid : List Nat) : Option Nat :=
  bestQuad (s.room l) ((quads.filter (fun q => !avoid.contains q)).filter (fun q => s.fits l q bw cap))

/-- Insertion of an allocation by bandwidth, largest first, and among equals the larger capacity first (R190). -/
def insertBySize (e : Nat × Alloc) : List (Nat × Alloc) → List (Nat × Alloc)
  | [] => [e]
  | x :: t => if x.2.bw < e.2.bw || (x.2.bw = e.2.bw && x.2.cap < e.2.cap) then e :: x :: t else x :: insertBySize e t

/-- Allocations in the order in which a standing plan takes them. -/
def sortBySize : List (Nat × Alloc) → List (Nat × Alloc)
  | [] => []
  | e :: t => insertBySize e (sortBySize t)

/-- The quadrant of an allocation's other half, which no plan uses for it. -/
def otherQuad (l : List (Nat × Alloc)) (a : Alloc) : List Nat :=
  match a.other with
  | none => []
  | some n => (l.filter (fun e => e.1 = n)).map (fun e => e.2.quad)

/-- The standing plan for the loss of a channel in a quadrant (R190): what of the sorted list must move and where to,
while the quadrant lies above the ceilings of one channel fewer; `none` in the second place where it cannot be completed. -/
def State.planFrom (s : State) (q capBw capMiB : Nat) (l : List (Nat × Alloc)) : List (Nat × Alloc) → List (Nat × Nat) × Bool
  | [] => ([], quadBw l q ≤ capBw && quadCap l q ≤ capMiB)
  | e :: t =>
    if quadBw l q ≤ capBw ∧ quadCap l q ≤ capMiB then ([], true)
    else
      let avoid := q :: otherQuad l e.2
      match s.homeQuad l e.2.bw e.2.cap avoid with
      | none => ((s.planFrom q capBw capMiB l t).1, false)
      | some r =>
        let l' := l.map (fun x => if x.1 = e.1 then (x.1, { x.2 with quad := r }) else x)
        let rest := s.planFrom q capBw capMiB l' t
        ((e.1, r) :: rest.1, rest.2)

/-- The allocations with those that already move out of a quadrant at their new homes: what leaves is no excess of it (R206, R243).
(DEDUCED, assumption 85.) -/
def leaving (q : Nat) (l : List (Nat × Alloc)) : List (Nat × Alloc) :=
  l.map (fun e => match e.2.moveTo with
    | some r => if e.2.quad = q then (e.1, { e.2 with quad := r, moveTo := none }) else e
    | none => e)

/-- The standing plan of a quadrant with allocations `l`, down to the ceilings of `n` channels. -/
def State.plan (s : State) (l : List (Nat × Alloc)) (q n : Nat) : List (Nat × Nat) × Bool :=
  let l := leaving q l
  s.planFrom q (ceilBw n) (ceilCap n) l (sortBySize (l.filter (fun e => e.2.quad = q)))

/-- The allocations with their bandwidth alone. -/
def bandwidthOnly (l : List (Nat × Alloc)) : List (Nat × Alloc) := l.map (fun e => (e.1, { e.2 with cap := 0 }))

/-- Whether the retire test applies: all 32 channels in RUN, one under a DOMAIN reset counted as in RUN (R189, R212). -/
def State.retireApplies (s : State) : Bool :=
  (List.range 32).all (fun c => s.chanRun c || s.get SYNCMGR.QUAD_STAT_STATE 0 (c / 8) = quadDEGRADED)

/-- The channels whose ceilings a quadrant's charge is held against in R243: those in RUN, an evacuation notwithstanding; none of a
FAILED quadrant (R211); of one under a DOMAIN reset all that are not retired (R212). -/
def State.heldCount (s : State) (q : Nat) : Nat :=
  let st := s.get SYNCMGR.QUAD_STAT_STATE 0 q
  if st = quadFAILED then 0
  else if st = quadDEGRADED then ((quadChannels q).filter (fun c => s.unit ⟨.memch, c, 0⟩ ≠ uRETIRED)).length
  else (s.runChannels q).length

/-- The excess condition of ledger pressure in a quadrant (R243): over its ceiling, and its plan cannot move the excess. A
quadrant under a DOMAIN reset is not counted. -/
def State.quadPressed (s : State) (q : Nat) : Bool :=
  let n := s.heldCount q
  let l := leaving q s.video.allocs
  s.get SYNCMGR.QUAD_STAT_STATE 0 q ≠ quadDEGRADED &&
  (quadBw l q > ceilBw n || quadCap l q > ceilCap n) && !(s.plan s.video.allocs q n).2

/-- The device figure as it then stands (R243): 1,460 Gbit/s, and no more than the ceilings of the quadrants come to.
(DEDUCED, assumption 86.) -/
def State.deviceFigure (s : State) : Nat := min deviceBw (quads.foldl (fun n q => n + ceilBw (s.heldCount q)) 0)

/-- Ledger pressure on memory (R243). -/
def State.memoryPressure (s : State) : Bool :=
  totalBw s.video.allocs > s.deviceFigure || quads.any s.quadPressed

/-- Whether every new request that needs memory is refused: ledger pressure on memory (R43), or a FAILED quadrant (R211). -/
def State.memoryShut (s : State) : Bool :=
  s.memoryPressure || quads.any (fun q => s.get SYNCMGR.QUAD_STAT_STATE 0 q = quadFAILED)

/-- The memory tests of Table 6.3 on a list of allocations: 0, or 0x13 for bandwidth, 0x14 for capacity; 0x13 where R43 or R211
refuses a new allocation. A retire test that fails on bandwidth alone is one of bandwidth. (DEDUCED, assumption 87.) -/
def State.memoryTests (s : State) (l : List (Nat × Alloc)) : Nat :=
  if l.length > s.video.allocs.length && s.memoryShut then 0x13
  else if totalBw l > deviceBw then 0x13
  else if quads.any (fun q => quadBw l q > ceilBw (s.quadCount q) && quadBw l q ≠ quadBw s.video.allocs q) then 0x13
  else if s.retireApplies && quads.any (fun q => !(s.plan (bandwidthOnly l) q 7).2) then 0x13
  else if totalCap l > deviceCap then 0x14
  else if quads.any (fun q => quadCap l q > ceilCap (s.quadCount q) && quadCap l q ≠ quadCap s.video.allocs q) then 0x14
  else if s.retireApplies && quads.any (fun q => !(s.plan l q 7).2) then 0x14
  else 0

/-- Three disjoint channel sets as even as the channels in RUN allow (R192: 3, 3, 2 of 8; 3, 2, 2 of 7), or more sets for
an engine's input buffers (R239), the first set rotated from store to store. -/
def splitSets (chans : List Nat) : Nat → List (List Nat)
  | 0 => []
  | n + 1 =>
    let k := ceilDiv chans.length (n + 1)
    chans.take k :: splitSets (chans.drop k) n

/-- A list turned left. -/
def rotate (l : List (List Nat)) (n : Nat) : List (List Nat) := l.drop (n % max 1 l.length) ++ l.take (n % max 1 l.length)

/-- The channel sets of an allocation's buffers in a quadrant: a synchroniser store's three; an engine store's input
buffers; one set of every channel in RUN for the other kinds (R192, R239). -/
def State.layOut (s : State) (k : AllocKind) (q buffers id : Nat) : List (List Nat) :=
  match k with
  | .sync => rotate (splitSets (s.runChannels q) 3) id
  | .engine => rotate (splitSets (s.runChannels q) (max 1 (min buffers 7))) id
  | _ => [s.runChannels q]

/-- The next number of a table. -/
def nextId {α : Type} (t : NTable α) : Nat := t.foldl (fun n e => max n (e.1 + 1)) 0

end Sys2Proof.Machine
end

