-- ==== Sys2Proof/Machine/Ledger.lean ====
section
/-! DEFINITION. The resource ledger: the fabric loads (R154 to R156), engine placement (R221, R246), link charges (R370),
the checks of a path in the order of R45 and R182, and the totals it reports (R533). -/
namespace Sys2Proof.Machine

/-- The number of this member; sources on it carry no link charge. -/
def State.selfId (s : State) : Nat := s.get MESHCTL.STAT_SELF_ID

/-- Whether a source lies on another member of the formation (R153): it names a member other than this one. -/
def State.remote (s : State) (mem : Nat) : Bool := mem ≠ s.selfId

/-- The key of a source of the fabric: slot and member, or an engine's stream (R220). -/
def srcKey (slot mem stream : Nat) : Nat := (mem * 512 + slot) * 4 + stream

/-- The key of an engine stream's output as a source. -/
def streamKey (st : Nat) : Nat := srcKey (192 + st / 4) 0 (st % 4)

/-- Whether a path's class is P1 or P2 (PROT of its W0). -/
def Path.protected (p : Path) : Bool := bitsOf p.w0 16 2 ≠ 0
/-- Whether a path's class is P2. -/
def Path.p2 (p : Path) : Bool := bitsOf p.w0 16 2 = 2

/-- Every path the ledger holds: active, pending, waiting in a fade or in a timed salvo, and fallback. -/
def VideoState.paths (v : VideoState) : List Path :=
  v.active.map (·.2) ++ v.pend.filterMap (·.2.path) ++ v.fades.filterMap (fun e => e.2.take.bind PendingTake.path)
    ++ v.timed.flatMap (fun t => t.takes.filterMap (·.2.path)) ++ v.fallback.map (·.2) ++ v.fallbackOld.map (·.2)

/-- The sources a path's halves put on the fabric, with their charges (R156): the source, and each engine output. -/
def Path.halfSources (p : Path) (second : Bool) : List (Nat × Nat) :=
  (srcKey p.src p.mem 0, p.srcFmt.fabricCharge) ::
    (match (if second then p.stream2 else p.stream) with
     | none => []
     | some st => [(streamKey st, p.dstFmt.fabricCharge)])

/-- The sources listed once each, in the order first met. -/
def dedupe : List (Nat × Nat) → List (Nat × Nat)
  | [] => []
  | e :: t => e :: (dedupe t).filter (fun x => x.1 ≠ e.1)

/-- The sum of the charges of a list of sources. -/
def chargeSum (l : List (Nat × Nat)) : Nat := l.foldl (fun n e => n + e.2) 0

/-- The sources counted in L0: those read by a P0 destination (R156). -/
def l0Sources (ps : List Path) : List (Nat × Nat) :=
  dedupe ((ps.filter (fun p => !p.protected)).flatMap (fun p => p.halfSources false))

/-- The sources counted in LA: copies on plane A of P1 and P2 paths whose source is not in L0. -/
def laSources (ps : List Path) : List (Nat × Nat) :=
  (dedupe ((ps.filter (fun p => p.protected && p.plane ≠ 1)).flatMap (fun p => p.halfSources false))).filter
    (fun e => !(l0Sources ps).any (fun x => x.1 = e.1))

/-- The sources counted in LB: the same for plane B, of the paths with a half there. -/
def lbSources (ps : List Path) : List (Nat × Nat) :=
  (dedupe ((ps.filter (fun p => p.protected && p.plane ≠ 0)).flatMap (fun p => p.halfSources (p.plane = 2)))).filter
    (fun e => !(l0Sources ps).any (fun x => x.1 = e.1))

/-- The admissible load of a plane: 6,100 Gbit/s (R156). -/
abbrev planeBw : Nat := 6100000000000 * bwUnit

/-- The fabric tests of R156: 0, 0x10 for plane A, 0x11 for plane B. -/
def fabricTests (ps : List Path) : Nat :=
  if chargeSum (l0Sources ps) + chargeSum (laSources ps) > planeBw then 0x10
  else if chargeSum (l0Sources ps) + chargeSum (lbSources ps) > planeBw then 0x11
  else 0

/-! ## Engines -/

/-- The cluster of an engine (Table 7.1). -/
def clusterOf (ce : Nat) : Nat := ce / 9

/-- The device's own mark on a cluster: it takes no new stream since an evacuation (R253). -/
def CE.HID_EVACUATED : Field := ⟨.ce, 0x1100, 0, 1, .const 0⟩

/-- Shares in use on an engine, those of soft moves toward it among them. -/
def State.engineShares (s : State) (ce : Nat) : Nat :=
  (s.video.streams.filter (fun e => (!e.2.fallback && (e.2.gang.contains ce || (e.2.gang = [] && e.1 / 4 = ce)))
      || e.2.moveGang.contains ce || (e.2.moveGang = [] && e.2.moveTo = some ce))).foldl
    (fun n e => n + (if e.2.gang = [] then e.2.shares else 4)) 0

/-- Whether an engine takes new streams (R35, R218, R253): in RUN, not the spare, its cluster open. -/
def State.assignable (s : State) (ce : Nat) : Bool :=
  s.unit ⟨.ce, ce, 0⟩ = uRUN && s.get (HDR.DRAIN .ce) ce = 0 && s.get CE.HID_EVACUATED (9 * clusterOf ce) = 0

/-- Whether an engine is a spare that can serve as a twin (R42, R221). -/
def State.freeSpare (s : State) (ce : Nat) : Bool := s.unit ⟨.ce, ce, 0⟩ = uSPARE && s.engineShares ce = 0

/-- The first free stream number of an engine. -/
def State.freeStream (s : State) (ce : Nat) : Option Nat :=
  ([0, 1, 2, 3].filter (fun k => !(s.video.streams.any (fun e => e.1 = 4 * ce + k)))).head?

/-- The engine of a list with the fewest free shares that still fits; among equals the lowest index (R221). -/
def State.tightest (s : State) (sh : Nat) : List Nat → Option Nat
  | [] => none
  | ce :: t =>
    if s.engineShares ce + sh ≤ 4 ∧ (s.freeStream ce).isSome then
      match s.tightest sh t with
      | none => some ce
      | some r => if s.engineShares r > s.engineShares ce then some r else some ce
    else s.tightest sh t

/-- All engines outside the clusters named. -/
def enginesAvoiding (avoid : List Nat) : List Nat := (List.range 36).filter (fun ce => !avoid.contains (clusterOf ce))

/-- The engine a new stream runs on (R221): an assignable engine, or, for a twin half, a free spare where no assignable
engine fits. -/
def State.placeEngine (s : State) (sh : Nat) (avoid : List Nat) (twinHalf : Bool) : Option Nat :=
  match s.tightest sh ((enginesAvoiding avoid).filter s.assignable) with
  | some ce => some ce
  | none => if twinHalf then s.tightest sh ((enginesAvoiding avoid).filter s.freeSpare) else none

/-- The four engines of a gang (R246): the lowest cluster with four assignable engines with 4 free shares each. -/
def State.placeGang (s : State) (avoid : List Nat) : List Nat → List Nat
  | [] => []
  | c :: t =>
    let l := ((List.range 9).map (fun k => 9 * c + k)).filter (fun ce => s.assignable ce && s.engineShares ce = 0)
    if l.length ≥ 4 ∧ !avoid.contains c then l.take 4 else s.placeGang avoid t

/-! ## The serving supervisor and refusals -/

/-- The control-plane check of a request, step 1 of R45: 0x62 during a CONTROL reset, 0x64 during the
rebuild, 0x61 in flywheel, 0x60 where no supervisor serves (Table 14.6). -/
def State.controlCode (s : State) : Nat :=
  if !s.domUp 25 then 0x62
  else if s.get LEDGER.STAT_REBUILDING = 1 then 0x64
  else if s.flywheel then 0x61
  else if s.get LEDGER.STAT_SERVING = 0 then 0x60
  else 0

/-- The master ID of the device's own requests (R533). -/
abbrev masterDevice : Nat := 7

/-- The device's own high word of the last refusal's stamp, which a read of the low word latches (R533). -/
def LEDGER.HID_REFSTAMP : Field := ⟨.ledger, 0x1100, 0, 16, .const 0⟩

/-- Records a refusal in LAST_REF and the counters, and raises REFUSAL (R533). -/
def State.noteRefusal (s : State) (code index master : Nat) (p : Page) (i : Nat) : State :=
  (((((((((s.set LEDGER.LAST_REF_CODE code).set LEDGER.LAST_REF_INDEX index).set LEDGER.LAST_REF_MEMBER s.selfId).set
    LEDGER.LAST_REF_MASTER master).set LEDGER.LAST_REF_PAGE_PAGE_ID (p.code * 65536 + i)).set
    LEDGER.LAST_REF_STAMP_LO_STAMP (bitsOf s.clk.uptime 0 32)).set LEDGER.HID_REFSTAMP (bitsOf s.clk.uptime 32 16)).bump
    LEDGER.CNT_REFUSED).raise .ledger 0 LEDGER.EV_REFUSAL)

/-- An entry of the journal: one more that the STANDBY supervisor has not applied (R406). -/
def State.journal (s : State) : State :=
  if s.get SUPERVISOR.STAT_PHOBOS = 3 ∨ s.get SUPERVISOR.STAT_DEIMOS = 3 then
    let s := s.bump SUPERVISOR.JOURNAL_LAG
    s.set SUPERVISOR.JOURNAL_IN_SYNC (flag (s.get SUPERVISOR.JOURNAL_LAG ≤ 64))
  else s

/-- Counts a request decided: admitted where the code is 0, refused otherwise (R533); each decision makes a journal entry. -/
def State.noteDecision (s : State) (code index master : Nat) (p : Page) (i : Nat) : State :=
  (if code = 0 then s.bump LEDGER.CNT_ADMITTED else s.noteRefusal code index master p i).journal

/-- The checks a request meets before its own: the control plane and the page's freeze (R45 steps 1 and 2, R515). -/
def State.gate (s : State) (p : Page) (i : Nat) : Nat :=
  if s.controlCode ≠ 0 then s.controlCode else if s.get (HDR.FREEZE p) i = 1 then 0x40 else 0

/-- The unit-state code of a unit a request needs (Table 14.6): 0 where it serves. -/
def State.unitCode (s : State) (u : UnitId) : Nat :=
  if s.get (HDR.DRAIN u.page) u.inst u.sub ≠ 0 then 0x52
  else match s.unit u with
    | 0 => 0x50
    | 1 => 0x51
    | 2 => 0x51
    | 5 => 0x53
    | _ => 0

/-! ## Sources and destinations -/

/-- Whether a slot is a pattern generator. -/
def isPG (slot : Nat) : Bool := 228 ≤ slot && slot < 244
/-- Whether a source slot can be named in a take (Table 5.1). -/
def sourceNamed (slot : Nat) : Bool := slot < 192 || isPG slot
/-- Whether a destination slot is a test tap. -/
def isTap (slot : Nat) : Bool := 452 ≤ slot && slot < 468
/-- Whether a destination slot can be named in a take. -/
def destNamed (slot : Nat) : Bool := slot < 192 || isTap slot

/-- The descriptor of a peer's source as its member's view gives it (R366): the device's own table of far sources. -/
def MESHCTL.HID_PEERFMT : Field := ⟨.meshctl, 0x1100, 0, 32, .const 0x01010133⟩
/-- The same table's mark that a far source is present, and the number of its audio channels (R370). -/
def MESHCTL.HID_PEERPRES : Field := ⟨.meshctl, 0x1104, 0, 1, .const 0⟩
def MESHCTL.HID_PEERAUD : Field := ⟨.meshctl, 0x1108, 0, 10, .const 0⟩
/-- The members known to be LEAVING (R380), and the IDs held vacant (R382). -/
def MESHCTL.HID_LEAVING : Field := ⟨.meshctl, 0x110C, 0, 8, .const 0⟩
def MESHCTL.HID_VACANT : Field := ⟨.meshctl, 0x1110, 0, 8, .const 0⟩
/-- The members that the peer of a link sees directly, as its last view lists them (R366). -/
def MESH.HID_SEES : Field := ⟨.mesh, 0x1100, 0, 8, .const 0⟩

/-- Device's own mark: the VI has had a valid descriptor since reset (R183). -/
def VIN.HID_EVER : Field := ⟨.vin, 0x1100, 0, 1, .const 0⟩

/-- The admission descriptor of a source (R183): of a VI its last valid descriptor, or the destination's where it has never
been present; of a pattern generator PATGEN_FMT; of a far source what its member reports. -/
def State.sourceFmt (s : State) (slot mem dst : Nat) : Fmt :=
  if s.remote mem then fmtOfWord (s.get MESHCTL.HID_PEERFMT 0 (mem * 512 + slot))
  else if isPG slot then s.pgFmt (slot - 228)
  else if s.get VIN.HID_EVER slot = 1 || s.get VIN.FMT_VALID slot = 1 then s.viFmt slot
  else s.voFmt dst

/-- States of VIN.STAT.STATE: 0 OFF, 1 SEARCH, 2 DETECT, 3 PRESENT, 4 GANGED. -/
abbrev viPRESENT : Nat := 3

/-- Whether a source is present (R91, Table 4.4): a pattern generator is; a far source as its member reports it, while that
member is in the formation (R379). -/
def State.sourcePresent (s : State) (slot mem : Nat) : Bool :=
  if s.remote mem then
    bitOf (s.get MESHCTL.STAT_MEMBERS) mem && (isPG slot || s.get MESHCTL.HID_PEERPRES 0 (mem * 512 + slot) = 1)
  else isPG slot || s.get VIN.STAT_STATE slot = viPRESENT

/-- Whether a path's source is present: one whose crossing stands on no link behaves as stopped (R372, R379). -/
def State.pathPresent (s : State) (p : Path) : Bool := s.sourcePresent p.src p.mem && !(s.remote p.mem && p.links = [])

/-- The output timing of a VO: rate and phase offset as one number (R195). -/
def State.timing (s : State) (o : Nat) : Nat :=
  (s.get VOUT.FMT_RATE o * 16384 + s.get VOUT.V_OFFSET_LINES o) * 131072 + s.get VOUT.H_OFFSET_STEPS o

/-- The receive slice that serves a pad lane, 7 for none (PADMAP). -/
def State.rxSliceOf (s : State) (q n : Nat) : Nat := bitsOf (s.get QUAD.PADMAP_RX_MAP q) (3 * n) 3
/-- The transmit slice that serves a pad lane. -/
def State.txSliceOf (s : State) (q n : Nat) : Nat := bitsOf (s.get QUAD.PADMAP_TX_MAP q) (3 * n) 3

/-- The unit-state check of a port-side unit (R35, R72): a VI's or VO's pad lane needs a slice, and its port engine must
serve; IP ones need the flow engine. -/
def State.portCode (s : State) (tx : Bool) (i : Nat) : Nat :=
  if s.laneSdi tx i then
    let sl := if tx then s.txSliceOf (i / 4) (i % 4) else s.rxSliceOf (i / 4) (i % 4)
    if sl > 4 then 0x54
    else if s.unitCode ⟨.quad, i / 4, 10⟩ ≠ 0 then s.unitCode ⟨.quad, i / 4, 10⟩
    else if s.unitCode ⟨if tx then .vout else .vin, i, 0⟩ ≠ 0 then s.unitCode ⟨if tx then .vout else .vin, i, 0⟩
    else s.unitCode ⟨.quad, i / 4, if tx then 5 + sl else sl⟩
  else if s.unitCode ⟨if tx then .vout else .vin, i, 0⟩ ≠ 0 then s.unitCode ⟨if tx then .vout else .vin, i, 0⟩
  else s.unitCode ⟨.flow, 0, 0⟩

/-- Whether a plane serves: in service, and its island pair ISP0 clocks it (R354). -/
def State.planeUp (s : State) (pl : Nat) : Bool :=
  s.unit ⟨.fabric, pl, 0⟩ = uRUN && s.get (HDR.DRAIN .fabric) pl = 0 && s.get SYNTH.HID_DOUBLE 12 = 0

/-- Whether a VI is the non-lead member of a gang (R88). -/
def State.viGanged (s : State) (i : Nat) : Bool := s.get VIN.STAT_STATE i = 4
/-- Whether a VO is the non-lead member of a gang. -/
def State.voGanged (s : State) (o : Nat) : Bool := s.get VOUT.STAT_GANGED o = 1

/-- The device's own record of each loaded LUT's header pair (R235), 0xFFFF for an empty slot: IN_COLOR, IN_TRANSFER,
OUT_COLOR and OUT_TRANSFER, two bits each. -/
def CE.HID_LUTPAIR : Field := ⟨.ce, 0x1104, 0, 16, .const 0xFFFF⟩

/-- The pair of a path for R227. -/
def lutPair (i o : Fmt) : Nat := i.color + 4 * i.transfer + 16 * o.color + 64 * o.transfer

/-- The conversion check of R223, R227 and R229: 0x23 where the engines have no function for the pair. -/
def State.conversionCode (s : State) (p : Profile) (i o : Fmt) : Nat :=
  if !p.valid then 0x23
  else if i.color = o.color && i.transfer = o.transfer then 0
  else if p.lut = 0 then
    (if i.transfer = 0 && o.transfer = 0 && i.color < 2 && o.color < 2 then 0 else 0x23)
  else if s.get CE.HID_LUTPAIR 0 p.lut = lutPair i o then 0 else 0x23

/-- The lock conditions of R157 between a source and a VO. -/
def State.lockable (s : State) (i o : Fmt) (present : Bool) (f : LockFacts) : Bool :=
  i.same o && present && f.traces && s.get FABRIC.LOCK_WIN_LO ≤ f.lead && f.lead ≤ s.get FABRIC.LOCK_WIN_HI

/-- The entry checks of R180: PROT 3 is 0x34; KIND_FORCE 3, a bad FTB_FRAMES under FTB and AXFADE above 20 are 0x29. -/
def entryCode (w0 : Nat) : Nat :=
  if bitsOf w0 16 2 = 3 then 0x34
  else if bitsOf w0 12 2 = 3 then 0x29
  else if bitOf w0 18 && (bitsOf w0 19 6 = 0 || bitsOf w0 19 6 > 60) then 0x29
  else if bitsOf w0 25 5 > 20 then 0x29
  else 0

/-- The form of a take, step 3 of R45: slots that can be named, then the entry fields. An unroute names no source. -/
def formCode (dst w0 : Nat) : Nat :=
  if !destNamed dst then 0x27
  else if bitOf w0 31 && !sourceNamed (bitsOf w0 0 9) then 0x27
  else entryCode w0

/-! ## Building a path -/

/-- The memory allocations referenced by a path. -/
def Path.stores (p : Path) : List Nat := p.store.toList ++ p.store2.toList
/-- The streams referenced by a path. -/
def Path.streams (p : Path) : List Nat := p.stream.toList ++ p.stream2.toList

/-- Drops the streams, stores and planes that no path uses: what a release under R41 leaves. Allocations of the other
kinds are released by their owners. -/
def VideoState.collect (v : VideoState) : VideoState :=
  let ps := v.paths
  let st := v.streams.filter (fun e => ps.any (fun p => p.streams.contains e.1))
  let used := ps.flatMap Path.stores ++ st.map (fun e => e.2.store)
  { v with
    streams := st
    allocs := v.allocs.filter (fun e => (e.2.kind ≠ .sync && e.2.kind ≠ .engine) || used.contains e.1)
    planes := ps.foldl (fun t p => if !p.protected && p.plane ≤ 1 && (NTable.find t (srcKey p.src p.mem 0)).isNone
        then NTable.put t (srcKey p.src p.mem 0) p.plane else t)
      (v.planes.filter (fun e => ps.any (fun p => !p.protected && srcKey p.src p.mem 0 = e.1))) }

/-- The plane that carries a P0 source, if one does; the output of an engine travels on the plane of its stream's source.
(DEDUCED, assumption 32.) -/
def VideoState.carrier (v : VideoState) (key : Nat) : Nat :=
  match NTable.find v.streams ((key / 4 % 512 - 192) * 4 + key % 4) with
  | some x => if 192 ≤ key / 4 % 512 ∧ key / 4 % 512 < 228 then NTable.getD v.planes (srcKey x.src x.mem 0) 0 else NTable.getD v.planes key 0
  | none => NTable.getD v.planes key 0

/-- The carried P0 charge of a plane. -/
def VideoState.planeLoad (v : VideoState) (pl : Nat) : Nat :=
  (l0Sources v.paths).foldl (fun n e => n + (if v.carrier e.1 = pl then e.2 else 0)) 0

/-- The plane that carries a P0 source: the one it is already on, else the one with the lower P0 load, plane A among
equals; the one in service where the other is out (R154). -/
def State.choosePlane (s : State) (key : Nat) : Nat :=
  match (NTable.find s.video.planes key).or ((s.video.paths.find? (fun p => !p.protected && p.plane ≤ 1 && srcKey p.src p.mem 0 = key)).map
      (fun p => p.plane)) with
  | some pl => pl
  | none =>
    if !s.planeUp 0 then 1
    else if !s.planeUp 1 then 0
    else if s.video.planeLoad 0 ≤ s.video.planeLoad 1 then 0 else 1

/-- A synchroniser store of a source at an output timing, outside the quadrants named: the one already held (R195), or a
new allocation. Answers the store's number, or a refusal code. -/
def State.openStore (s : State) (owner timing bw cap : Nat) (avoid : List Nat) (other : Option Nat) (twinHalf : Bool) :
    Nat × Option Nat × State :=
  match s.video.allocs.find? (fun e => e.2.kind = .sync && e.2.owner = owner && e.2.timing = timing && !avoid.contains e.2.quad) with
  | some e => (0, some e.1, s)
  | none =>
    match s.homeQuad s.video.allocs bw cap avoid with
    | none =>
      let code := if twinHalf && (s.homeQuad s.video.allocs bw cap []).isSome then 0x31
        else if quads.any (fun q => quadBw s.video.allocs q + bw ≤ ceilBw (s.quadCount q) && s.quadCount q ≠ 0) then 0x14 else 0x13
      (code, none, s)
    | some q =>
      let id := nextId s.video.allocs
      let a : Alloc := { kind := .sync, owner := owner, timing := timing, quad := q, bw := bw, cap := cap, other := other,
                         sets := s.layOut .sync q 3 id, moveTo := none, proved := 0 }
      (0, some id, { s with video := { s.video with allocs := NTable.put s.video.allocs id a } })

/-- The quadrant of an allocation, as a list to avoid. -/
def State.quadOf (s : State) (id : Option Nat) : List Nat :=
  match id with
  | none => []
  | some n => match NTable.find s.video.allocs n with | none => [] | some a => [a.quad]

/-- The engine of a stream, as a list of clusters to avoid. -/
def clusterOfStream (st : Option Nat) : List Nat :=
  match st with
  | none => []
  | some n => [clusterOf (n / 4)]

/-- An engine stream for a path (R219 to R221, R244, R246): one already running for the same source, profile, output
descriptor and timing, outside the clusters named; or a new one at the best step whose memory passes. Answers a refusal
code and the stream. -/
def State.openStream (s : State) (src mem dst prof : Nat) (i o : Fmt) (timing : Nat) (avoidC avoidQ : List Nat) (other : Option Nat)
    (twinHalf : Bool) : Nat × Option Nat × State :=
  match s.video.streams.find? (fun e => e.2.src = src && e.2.mem = mem && e.2.profile = prof && e.2.outFmt = o && e.2.timing = timing
      && !avoidC.contains (clusterOf (e.1 / 4))) with
  | some e => (0, some e.1, s)
  | none =>
    let p := s.profile prof
    let cap := engineCap p i o p.qreq
    let steps := [0, 1, 2].filter (fun q => p.qreq ≤ q && q ≤ p.qmin)
    let tries := steps.filterMap (fun q =>
      match s.homeQuad s.video.allocs (engineBw p i o q) cap avoidQ with
      | none => none
      | some r =>
        let id := nextId s.video.allocs
        let a : Alloc := { kind := .engine, owner := dst, timing := timing, quad := r, bw := engineBw p i o q, cap := cap,
                           other := other, sets := s.layOut .engine r (3 + flag (stage4 i o && q < 2) + (if q = 0 then 2 else 0)) id,
                           moveTo := none, proved := 0 }
        let l := NTable.put s.video.allocs id a
        if s.memoryTests l = 0 then some (q, id, l) else none)
    match tries.head? with
    | none =>
      (if twinHalf && (s.homeQuad s.video.allocs (engineBw p i o p.qmin) cap []).isSome then 0x31
       else match s.homeQuad s.video.allocs (engineBw p i o p.qmin) cap avoidQ with
         | some r => s.memoryTests (NTable.put s.video.allocs (nextId s.video.allocs)
             { kind := .engine, owner := dst, timing := timing, quad := r, bw := engineBw p i o p.qmin, cap := cap, other := other,
               sets := [], moveTo := none, proved := 0 })
         | none => if quads.any (fun q => quadBw s.video.allocs q + engineBw p i o p.qmin ≤ ceilBw (s.quadCount q) && s.quadCount q ≠ 0)
             then 0x14 else 0x13, none, s)
    | some (q, id, l) =>
      let sh := sharesOf i o
      let gang := if sh > 4 then s.placeGang avoidC [0, 1, 2, 3] else []
      let ce := if sh > 4 then gang.head? else s.placeEngine sh avoidC twinHalf
      match ce with
      | none => (if sh > 4 then 0x16 else 0x15, none, s)
      | some e =>
        let k := (s.freeStream e).getD 0
        let st : Stream := { src := src, mem := mem, dst := dst, timing := timing, profile := prof, inFmt := i, outFmt := o,
                             qreq := p.qreq, qadm := q, qnow := q, shares := min sh 4, stages := stagesOf p i o, store := id,
                             gang := gang, vecFault := false, fallback := false, failed := false, latency := 0, frame := 0, moveTo := none,
                             moveGang := [], proved := 0, disagree := false, vectors := 0 }
        (0, some (4 * e + k), { s with video := { s.video with allocs := l, streams := NTable.put s.video.streams (4 * e + k) st } })

/-- The admissible load of a link: 400 Gbit/s (Table 1.8). -/
abbrev linkBw : Nat := 400000000000 * bwUnit

/-- The charge of a source on a link, in bit/s times 1001 (R370), for a number of its audio channels. -/
def Fmt.linkCharge (f : Fmt) (audio : Nat) : Nat :=
  (f.lineBits + 128) * lact f.raster * rate1001 f.rate * f.slots + (4000000 + 1536000 * audio) * bwUnit

/-- The sources that cross a link toward this member, once each, with their charges (R153, R370). -/
def State.linkSources (s : State) (n : Nat) : List (Nat × Nat) :=
  dedupe ((s.video.paths.filter (fun p => p.links.contains n)).map (fun p =>
    (srcKey p.src p.mem 0, p.srcFmt.linkCharge (s.get MESHCTL.HID_PEERAUD 0 (p.mem * 512 + p.src)))))

/-- The receive channels of a link in use (R368): one for each slot of each source that crosses it. -/
def State.linkChannels (s : State) (n : Nat) : Nat :=
  (dedupe ((s.video.paths.filter (fun p => p.links.contains n)).map (fun p => (srcKey p.src p.mem 0, p.srcFmt.slots)))).foldl
    (fun k e => k + e.2) 0

/-- The tests of R370 on a link toward this member: the charge and the 32 channels. -/
def State.linkFits (s : State) (n : Nat) : Bool := chargeSum (s.linkSources n) ≤ linkBw && s.linkChannels n ≤ 32

/-- Whether a link can take one more path's source, which adds nothing where it crosses already (R368, R370). -/
def State.linkTakes (s : State) (n : Nat) (p : Path) : Bool :=
  let key := srcKey p.src p.mem 0
  if (s.linkSources n).any (fun e => e.1 = key) then true
  else chargeSum (s.linkSources n) + p.srcFmt.linkCharge (s.get MESHCTL.HID_PEERAUD 0 (p.mem * 512 + p.src)) ≤ linkBw
    && s.linkChannels n + p.srcFmt.slots ≤ 32

/-- The link of the first copies from a member: the GROUP link, or the SECOND link once its group has moved there (R372). -/
def State.groupLink (s : State) (mem : Nat) : Option Nat :=
  if s.get MESHCTL.PEER_LINK_VALID 0 mem = 1 then some (s.get MESHCTL.PEER_LINK 0 mem)
  else if s.get MESHCTL.PEER_SECOND_VALID 0 mem = 1 then some (s.get MESHCTL.PEER_SECOND 0 mem)
  else none

/-- The relays toward a member: other members with a GROUP link here that see it directly (R371). -/
def State.relays (s : State) (mem : Nat) : List Nat :=
  (List.range 8).filter (fun r => r ≠ mem && r ≠ s.selfId && bitOf (s.get MESHCTL.STAT_MEMBERS) r &&
    match s.groupLink r with | none => false | some n => bitOf (s.get MESH.HID_SEES n) mem)

/-- The link of a relay: of the one with the most free capacity on the hop to this member, the lowest ID among equals (R371).
The far hop is the other members' to judge, and their ledgers answer for it. -/
def State.relayLink (s : State) (mem : Nat) : Option Nat :=
  let load (r : Nat) : Nat := chargeSum (s.linkSources ((s.groupLink r).getD 0))
  match s.relays mem with
  | [] => none
  | r :: t => s.groupLink (t.foldl (fun a b => if load b < load a then b else a) r)

/-- The link a source on another member crosses (R369, R371): the GROUP link, else a relay's; for the second copy of a P2
path the SECOND link, else a relay's. -/
def State.linkTo (s : State) (mem : Nat) (second : Bool) : Option Nat :=
  if second then
    (if s.get MESHCTL.PEER_SECOND_VALID 0 mem = 1 ∧ s.get MESHCTL.PEER_LINK_VALID 0 mem = 1 then some (s.get MESHCTL.PEER_SECOND 0 mem) else s.relayLink mem)
  else match s.groupLink mem with
    | some n => some n
    | none => s.relayLink mem

/-- The links of a path to a source of another member: one, or two for P2. -/
def State.crossing (s : State) (mem : Nat) (p2 : Bool) : List Nat :=
  match s.linkTo mem false with
  | none => []
  | some n => n :: (if p2 then ((s.linkTo mem true).toList.filter (fun k => k ≠ n)) else [])

/-- PEER[m] shows the relay in use toward a member, RELAY_CHG where it changes (R371). -/
def State.showRelay (s : State) (mem : Nat) (links : List Nat) : State :=
  let own := (s.groupLink mem).toList ++ (if s.get MESHCTL.PEER_SECOND_VALID 0 mem = 1 then [s.get MESHCTL.PEER_SECOND 0 mem] else [])
  match (links.filter (fun n => !own.contains n)).head? with
  | none => s
  | some n =>
    let r := ((List.range 8).find? (fun r => s.groupLink r = some n)).getD 0
    if s.get MESHCTL.PEER_RELAY_VALID 0 mem = 1 ∧ s.get MESHCTL.PEER_RELAY 0 mem = r then s
    else ((s.set MESHCTL.PEER_RELAY r 0 mem).set MESHCTL.PEER_RELAY_VALID 1 0 mem).raise .meshctl 0 MESHCTL.EV_RELAY_CHG

/-- Whether any output has protection shed. -/
def State.anyShed (s : State) : Bool := s.get REPAIR.STAT_SHED_COUNT ≠ 0

/-- What a path needs checked and built: its destination, settings and the environment's facts. -/
structure PathAsk where
  dst : Nat
  w0 : Nat
  facts : LockFacts
  /-- A fallback path: decided with KIND_FORCE AUTO, NOCONV set and RSV_SYNC clear (R202). -/
  isFallback : Bool
  deriving DecidableEq, Repr

/-- The path kind of a take (R159, R162, R230): 0 LOCKED, 1 SYNC_FS, 2 SYNC_CE. -/
def kindOf (w0 : Nat) (i o : Fmt) (lockable : Bool) (prof : Profile) : Nat :=
  let force := bitsOf w0 12 2
  let engine := prof.force && !bitOf w0 30 && force ≠ 1 && stagesOf prof i o ≠ 0
  if !i.same o || engine then 2
  else if force = 2 then 1
  else if lockable then 0 else 1

/-- The format and rate checks, step 6 of R45 (Table 5.7). -/
def State.formatCode (s : State) (dst w0 kind : Nat) (i o : Fmt) (lockable : Bool) (prof : Profile) : Nat :=
  let src := bitsOf w0 0 9
  let mem := bitsOf w0 9 3
  if (src < 192 && !s.remote mem && s.viGanged src) || s.voGanged dst then 0x20
  else if s.get VOUT.CFG_EN dst = 0 then 0x26
  else if !i.same o && (bitOf w0 30 || bitsOf w0 12 2 = 1) then (if i.slots ≠ o.slots then 0x24 else 0x21)
  else if bitsOf w0 12 2 = 1 && !lockable then 0x22
  else if kind = 2 then s.conversionCode prof i o
  else 0

/-- The units a take needs, step 5 of R45: the source's and the destination's port side, and a plane. -/
def State.takeUnitCode (s : State) (dst w0 : Nat) : Nat :=
  let src := bitsOf w0 0 9
  let mem := bitsOf w0 9 3
  let sc := if src < 192 && !s.remote mem then s.portCode false src else 0
  if sc ≠ 0 then sc
  else
    let dc := if dst < 192 then s.portCode true dst else 0
    if dc ≠ 0 then dc
    else if s.planeUp 0 || s.planeUp 1 then 0 else s.unitCode ⟨.fabric, 0, 0⟩

/-- The formation check, step 4 of R45, of a request that names another member (Table 13.3): this device MEMBER and not
LEAVING, the member present and not leaving, a way to it UP. -/
def State.formationCode (s : State) (mem : Nat) : Nat :=
  if !s.remote mem then 0
  else if s.get MESHCTL.STAT_STATE = 3 then 0x74
  else if s.get MESHCTL.STAT_STATE ≠ 2 then 0x75
  else if !bitOf (s.get MESHCTL.STAT_MEMBERS) mem then 0x70
  else if bitOf (s.get MESHCTL.HID_LEAVING) mem then 0x74
  else if (s.linkTo mem false).isNone then 0x73
  else 0

/-- Builds the halves of a path: the stores of a synchronised path (or of a LOCKED one with RSV_SYNC) and the streams of a
converted one, the second half of a P1 or P2 path elsewhere (R36, R163, R192, R221). -/
def State.buildHalves (s : State) (a : PathAsk) (i o : Fmt) (kind : Nat) (prof : Nat) : Nat × Path × State :=
  let src := bitsOf a.w0 0 9
  let mem := bitsOf a.w0 9 3
  let prot := bitsOf a.w0 16 2 ≠ 0
  let owner := srcKey src mem 0
  let tm := s.timing a.dst
  let links := if s.remote mem then s.crossing mem (bitsOf a.w0 16 2 = 2) else []
  let s := if s.remote mem then s.showRelay mem links else s
  let p0 : Path := { src := src, mem := mem, w0 := a.w0, kind := kind, plane := if prot then 2 else s.choosePlane owner,
                     store := none, store2 := none, stream := none, stream2 := none, srcFmt := i, dstFmt := o, links := links,
                     twin := prot }
  if kind = 2 then
    let r := s.openStream src mem a.dst prof i o tm [] [] none false
    if r.1 ≠ 0 then (r.1, p0, s)
    else if !prot then (0, { p0 with stream := r.2.1 }, r.2.2)
    else
      let storeId := (r.2.1.bind (NTable.find r.2.2.video.streams)).map (fun (x : Stream) => x.store)
      let r2 := r.2.2.openStream src mem a.dst prof i o tm (clusterOfStream r.2.1) (r.2.2.quadOf storeId) storeId true
      if r2.1 ≠ 0 then (r2.1, p0, s) else (0, { p0 with stream := r.2.1, stream2 := r2.2.1 }, r2.2.2)
  else if kind = 1 || (bitOf a.w0 14 && bitsOf a.w0 12 2 ≠ 1) then
    let r := s.openStore owner tm i.syncBw i.syncCap [] none false
    if r.1 ≠ 0 then (r.1, p0, s)
    else if !prot then (0, { p0 with store := r.2.1 }, r.2.2)
    else
      let r2 := r.2.2.openStore owner tm i.syncBw i.syncCap (r.2.2.quadOf r.2.1) r.2.1 true
      if r2.1 ≠ 0 then (r2.1, p0, s) else (0, { p0 with store := r.2.1, store2 := r2.2.1 }, r2.2.2)
  else (0, p0, s)

/-- The resource and protection checks with the path in place (R182, then step 8 of R45): fabric, memory, links, then the
diversity of planes and links, and a class raise while protection is shed. -/
def State.pathTests (old new : State) (p : Path) (raise_ : Bool) (memCode : Nat) : Nat :=
  let ft := fabricTests new.video.paths
  if ft ≠ 0 then ft
  else if memCode = 0x13 || memCode = 0x14 then memCode
  else
    let mt := old.memoryTests new.video.allocs
    if new.video.allocs.length > old.video.allocs.length && mt ≠ 0 then mt
    else if memCode = 0x15 || memCode = 0x16 then memCode
    else if p.links.any (fun n => !new.linkFits n) then 0x17
    else if old.remote p.mem && p.links = [] then 0x17
    else if p.protected && !(old.planeUp 0 && old.planeUp 1) then 0x30
    else if memCode = 0x31 then 0x31
    else if p.p2 && old.remote p.mem && p.links.length < 2 then 0x32
    else if raise_ && old.anyShed then 0x33
    else 0

/-- The decision of a path to a VO by the checks of R45 from step 4 on: the code, and the path with the state that holds
its resources. The caller puts the path where it belongs. -/
def State.decidePath (s : State) (a : PathAsk) (place : State → Path → State) : Nat × Path × State :=
  let src := bitsOf a.w0 0 9
  let mem := bitsOf a.w0 9 3
  let i := s.sourceFmt src mem a.dst
  let o := s.voFmt a.dst
  let prof := s.get CE.PROF_MAP_PROFILE 0 a.dst
  let p := s.profile prof
  let lk := s.lockable i o (s.sourcePresent src mem) a.facts
  let kind := kindOf a.w0 i o lk p
  let none_ : Path := { src := src, mem := mem, w0 := a.w0, kind := 3, plane := 3, store := none, store2 := none, stream := none,
                        stream2 := none, srcFmt := i, dstFmt := o, links := [], twin := false }
  let c4 := s.formationCode mem
  if c4 ≠ 0 then (c4, none_, s)
  else
    let c5 := s.takeUnitCode a.dst a.w0
    if c5 ≠ 0 then (c5, none_, s)
    else
      let c6 := s.formatCode a.dst a.w0 kind i o lk p
      if c6 ≠ 0 then (c6, none_, s)
      else
        let b := s.buildHalves a i o kind prof
        let s' := place b.2.2 b.2.1
        let raise_ := (match NTable.find s.video.active a.dst with
          | some q => bitsOf q.w0 16 2 < bitsOf a.w0 16 2
          | none => bitsOf a.w0 16 2 ≠ 0)
        let c := s.pathTests s' b.2.1 raise_ b.1
        let c := if c = 0 then b.1 else c
        if c ≠ 0 then (c, none_, s) else (0, b.2.1, s')

/-- The decision of a take to a test tap (R153, R185): a P0 read of the source on the plane named, or on the plane that
carries it. -/
def State.decideTap (s : State) (w0 : Nat) (place : State → Path → State) : Nat × Path × State :=
  let src := bitsOf w0 0 9
  let mem := bitsOf w0 9 3
  let i := s.sourceFmt src mem 0
  let pl := match bitsOf w0 12 2 with
    | 1 => 0
    | 2 => 1
    | _ => s.choosePlane (srcKey src mem 0)
  let p : Path := { src := src, mem := mem, w0 := w0, kind := 3, plane := pl, store := none, store2 := none, stream := none,
                    stream2 := none, srcFmt := i, dstFmt := i, links := if s.remote mem then s.crossing mem false else [], twin := false }
  let c4 := s.formationCode mem
  if c4 ≠ 0 then (c4, p, s)
  else
    let c5 := if src < 192 && !s.remote mem then s.portCode false src else 0
    if c5 ≠ 0 then (c5, p, s)
    else if s.unitCode ⟨.fabric, pl, 0⟩ ≠ 0 then (s.unitCode ⟨.fabric, pl, 0⟩, p, s)
    else if src < 192 && !s.remote mem && s.viGanged src then (0x20, p, s)
    else
      let s' := place s p
      let c := s.pathTests s' p false 0
      if c ≠ 0 then (c, p, s) else (0, p, s')

/-! ## Totals -/

/-- A charge in 0.1 Gbit/s steps, rounded up, as the LEDGER page shows it. -/
def tenths (n : Nat) : Nat := ceilDiv n (100000000 * bwUnit)

/-- The totals shown: the charges of the fabric, of memory, of the engines and of the links, and the pressure with its events (R533). -/
def State.showTotals (s : State) (l0 la lb bw cap shares free spares links now : Nat) : State :=
  let was := s.get LEDGER.STAT_PRESSURE
  let s := (((((s.set LEDGER.FAB_L0_L0 l0).set LEDGER.FAB_AB_LA la).set LEDGER.FAB_AB_LB lb).set LEDGER.MEM_BW bw).set LEDGER.MEM_CAP cap)
  let s := (((s.set LEDGER.ENGINES_SHARES shares).set LEDGER.ENGINES_FREE free).set LEDGER.ENGINES_SPARES spares).set LEDGER.LINKS_MAX links
  let s := (s.set LEDGER.STAT_PRESSURE now).raiseIf (was = 0 && now = 1) .ledger 0 LEDGER.EV_PRESSURE_ON
  s.raiseIf (was = 1 && now = 0) .ledger 0 LEDGER.EV_PRESSURE_OFF

/-- The conversion shares in use. -/
def State.sharesUsed (s : State) : Nat := (List.range 36).foldl (fun n ce => n + s.engineShares ce) 0
/-- The engines that stand free for new streams, and the free spares. -/
def State.enginesFree (s : State) : Nat := ((List.range 36).filter (fun ce => s.assignable ce && s.engineShares ce = 0)).length
def State.sparesFree (s : State) : Nat := ((List.range 36).filter s.freeSpare).length
/-- The largest charge of a link. -/
def State.linksMax (s : State) : Nat := (List.range 8).foldl (fun n k => max n (tenths (chargeSum (s.linkSources k)))) 0

/-- The totals of the LEDGER and SYNCMGR pages, written at each charge and release while a supervisor serves (R533). -/
def State.recount (s : State) : State :=
  if s.get LEDGER.STAT_SERVING = 0 then s
  else s.showTotals (tenths (chargeSum (l0Sources s.video.paths))) (tenths (chargeSum (laSources s.video.paths)))
    (tenths (chargeSum (lbSources s.video.paths))) (tenths (totalBw s.video.allocs)) (totalCap s.video.allocs) s.sharesUsed s.enginesFree
    s.sparesFree s.linksMax (flag s.memoryPressure)

/-- Releases what no path uses and brings the totals up to date. -/
def State.release (s : State) : State := State.recount { s with video := s.video.collect }

end Sys2Proof.Machine
end

