-- ==== Sys2Proof/Machine/Units.lean ====
section
/-! DEFINITION. Repair units: the step log and the retirement map (R413, R414), isolation and retirement (R26, R392), the
drain of a block and its end (R30 to R33), and the self-test of a unit (R391). -/
namespace Sys2Proof.Machine

/-- A unit as PAGE_ID: block type in the high half, instance in the low half (Table 14.8). -/
def UnitId.pageId (u : UnitId) : Nat := u.page.code * 65536 + u.inst
/-- A number that tells units apart. -/
def UnitId.key (u : UnitId) : Nat := u.pageId * 256 + u.sub

/-- Steps of a step-log entry (Table 14.8). -/
abbrev stCORRECT : Nat := 1
abbrev stTWIN : Nat := 2
abbrev stMIGRATE : Nat := 3
abbrev stISOLATE : Nat := 4
abbrev stRESET_UNIT : Nat := 5
abbrev stRESET_DOMAIN : Nat := 6
abbrev stSELFTEST : Nat := 7
abbrev stRETURN : Nat := 8
abbrev stRETIRE : Nat := 9
abbrev stSHED : Nat := 10
abbrev stRESTORE : Nat := 11
abbrev stFAILOVER : Nat := 12
abbrev stFLYWHEEL_IN : Nat := 13
abbrev stFLYWHEEL_OUT : Nat := 14

/-- No destination, in SLOT of a step-log entry. -/
abbrev noSlot : Nat := 0x1FF

/-- Entries of the step log (R413). -/
abbrev stepLogSize : Nat := 3968
/-- Entries queued in AON in flywheel (R414). -/
abbrev stepQueueSize : Nat := 256
/-- Entries of the retirement map (R413). -/
abbrev retireMapSize : Nat := 512

/-- Puts an entry in the ring of the step log, with its SEQ, and raises STEP (R413, R414); a policy state change is a journal
entry too (R406). -/
def State.stepWrite (s : State) (e : StepEntry) : State :=
  let head := s.get REPAIR.LOG_HEAD_NEXT
  let seq := (s.get REPAIR.LOG_HEAD_SEQ + 1) % 65536
  let s := { s with repair := { s.repair with log := NTable.put s.repair.log head { e with seq := seq } } }
  let s := (s.set REPAIR.LOG_HEAD_NEXT ((head + 1) % stepLogSize)).set REPAIR.LOG_HEAD_SEQ seq
  ((s.bump REPAIR.CNT_LADDER_STEPS).raise .repair 0 REPAIR.EV_STEP).journal

/-- Queues an entry in AON while the device is in flywheel: up to 256, further ones counted and lost, a retirement never
dropped (R414). -/
def State.stepQueue (s : State) (e : StepEntry) : State :=
  if s.repair.queue.length < stepQueueSize || e.step = stRETIRE then
    State.set { s with repair := { s.repair with queue := s.repair.queue ++ [e] } } REPAIR.STAT_QUEUE
      (min 256 (s.repair.queue.length + 1))
  else State.raise { s with repair := { s.repair with lost := s.repair.lost + 1 } } .repair 0 REPAIR.EV_QUEUE_LOST

/-- A step-log entry, written at once, or queued in flywheel. -/
def State.stepEntry (s : State) (e : StepEntry) : State := if s.flywheel then s.stepQueue e else s.stepWrite e

/-- Logs a ladder step on a unit: the step, its outcome (0 done, 1 failed, 2 abandoned), the row of Table 14.1 of its
detector, the cause code, the destination most affected, its defective frames and a unit-specific value. -/
def State.logStep (s : State) (u : UnitId) (step : Nat) (outcome : Nat := 0) (detector : Nat := 0) (cause : Nat := 0)
    (slot : Nat := noSlot) (frames : Nat := 0) (detail : Nat := 0) : State :=
  s.stepEntry { stamp := s.clk.uptime, seq := 0, unit := u.pageId, sub := u.sub, step := step, outcome := outcome,
                detector := detector, cause := cause, slot := slot, frames := frames, detail := detail }

/-- The unit that stands for the supervisors and Charon in the step log: the SUPERVISOR page, sub 0 Phobos, 1 Deimos,
2 Charon. -/
def supUnit (k : Nat) : UnitId := ⟨.supervisor, 0, k⟩

/-- Writes the queued entries to the step log in their order (R412). -/
def State.flushQueue (s : State) : State :=
  let q := s.repair.queue
  let s := State.set { s with repair := { s.repair with queue := [] } } REPAIR.STAT_QUEUE 0
  q.foldl (fun t e => t.stepWrite e) s

/-- The retirement map with a unit's entry: UNIT, SUB and uptime (R413). A 513th retirement takes effect without one. -/
def State.retireEntry (s : State) (u : UnitId) : State :=
  if s.repair.retireMap.length < retireMapSize then
    { s with repair := { s.repair with retireMap := s.repair.retireMap ++ [(u.pageId, u.sub, s.clk.uptime)] } }
  else s.raise .repair 0 REPAIR.EV_RETIRE_MAP_FULL

/-- Retires a unit: its state, an entry in the retirement map and one in the step log, the counter and RETIRED (R392,
R413, R414). -/
def State.retire (s : State) (u : UnitId) (detector : Nat := 0) (cause : Nat := 0) : State :=
  let s := (s.setUnit u uRETIRED).set (HDR.DRAIN u.page) 0 u.inst u.sub
  let s := s.retireEntry u
  let s := (s.bump REPAIR.CNT_RETIREMENTS).raise .repair 0 REPAIR.EV_RETIRED
  s.logStep u stRETIRE 0 detector cause

/-- Whether the retirement map holds a unit. -/
def State.mapped (s : State) (u : UnitId) : Bool := s.repair.retireMap.any (fun e => e.1 = u.pageId && e.2.1 = u.sub)

/-- XTAL32 periods in 24 hours. -/
abbrev dayPeriods : Nat := 86400 * 32768
/-- XTAL32 periods in 60 seconds. -/
abbrev minutePeriods : Nat := 60 * 32768

/-- The stamps of a list within a window before now. -/
def recent (now window : Nat) (l : List Nat) : List Nat := l.filter (fun t => now ≤ t + window)

/-- The isolations of a unit in the last 24 hours (R392). -/
def State.recentIsolations (s : State) (u : UnitId) : List Nat :=
  recent s.clk.uptime dayPeriods (NTable.getD s.repair.isolations u.key [])

/-- RETIRE_LIMIT, 0 treated as 1. -/
def State.retireLimit (s : State) : Nat := max 1 (s.get REPAIR.CFG_RETIRE_LIMIT)

/-- Whether the active supervisor runs the policy steps of the ladder: one is ACTIVE, no flywheel, and AUTO is set. -/
def State.policy (s : State) : Bool :=
  s.get SUPERVISOR.STAT_ACTIVE ≠ 3 && !s.flywheel && s.get REPAIR.CFG_AUTO = 1

/-- Isolates a unit (R26): its wrapper closes, a running drain ends, the isolation is stamped and logged. A unit that has
no place in service is left alone. -/
def State.isolateUnit (s : State) (u : UnitId) (detector : Nat := 0) (cause : Nat := 0) : State :=
  if s.unit u = uRETIRED ∨ s.unit u = uISOLATED then s
  else
    let l := s.recentIsolations u ++ [s.clk.uptime]
    let s := { s with repair := { s.repair with isolations := NTable.put s.repair.isolations u.key l } }
    let s := (s.setUnit u uISOLATED).set (HDR.DRAIN u.page) 0 u.inst u.sub
    s.logStep u stISOLATE 0 detector cause

/-- Retires an isolated unit whose isolations in 24 hours have reached RETIRE_LIMIT; retirement needs the active
supervisor (R391, R392). -/
def State.retireIfLimit (s : State) (u : UnitId) : State :=
  if s.policy ∧ s.retireLimit ≤ (s.recentIsolations u).length ∧ s.unit u = uISOLATED then s.retire u else s

/-- Whether any unit of a page drains. -/
def State.draining (s : State) (p : Page) (i : Nat) : Bool := (p.units i).any (fun u => s.get (HDR.DRAIN p) i u.sub ≠ 0)

/-- Starts the drain of a unit that is in service (R30): a second request on a draining unit has no effect (R33); a unit
not in RUN or SPARE has nothing in flight, and one in OFF still goes to ISOLATED. -/
def State.startDrain (s : State) (aim : Nat) (u : UnitId) : State :=
  if s.get (HDR.DRAIN u.page) u.inst u.sub ≠ 0 then s
  else if s.unit u = uRUN ∨ s.unit u = uSPARE ∨ (aim = 2 ∧ s.unit u = uOFF) then s.set (HDR.DRAIN u.page) aim u.inst u.sub
  else s

/-- The units that PAGE_CTRL of a page disables: the AMCLK outputs shown in APORT[0] have their own enables (R310). -/
def Page.ctrlUnits (p : Page) (i : Nat) : List UnitId := if p = .aport then [⟨.aport, i, 0⟩] else p.units i

/-- Starts the drain of every unit of a page. -/
def State.drainPage (s : State) (aim : Nat) (p : Page) (i : Nat) : State :=
  (p.ctrlUnits i).foldl (fun t u => t.startDrain aim u) s

/-- The state of PAGE_STAT.BUSY: a unit of the page drains, or a request of the page is being decided. -/
def State.pageBusy (s : State) (p : Page) (i : Nat) : Bool := s.draining p i || s.get (HDR.BUSY p) i = 1

end Sys2Proof.Machine
end

