-- ==== Sys2Proof/Machine/Lanes.lean ====
section
/-! DEFINITION. Port lanes and quads: the slices of a quad and the pad multiplexer, spares and substitution, PRBS, loopback
and eye tests, and the Ethernet ports' counters (R48 to R83). -/
namespace Sys2Proof.Machine

/-- Device's own marks of a quad, by direction (0 receive, 1 transmit): a flip decided and waiting for its switching line,
a forced substitution, the spare aligned under R67, the window of R68 extended once, the spare in its periodic self-test,
an eye scan running. -/
def QUAD.HID_FLIP : Field := ⟨.quad, 0x1100, 0, 1, .const 0⟩
def QUAD.HID_FORCED : Field := ⟨.quad, 0x1108, 0, 1, .const 0⟩
def QUAD.HID_ALIGNED : Field := ⟨.quad, 0x1110, 0, 1, .const 0⟩
def QUAD.HID_EXTENDED : Field := ⟨.quad, 0x1118, 0, 1, .const 0⟩
def QUAD.HID_SELFTEST : Field := ⟨.quad, 0x1120, 0, 1, .const 0⟩
def QUAD.HID_EYE : Field := ⟨.quad, 0x1128, 0, 1, .const 0⟩
/-- Signal detect of a receive slice (R58). -/
def QUAD.HID_SIGDET : Field := ⟨.quad, 0x1130, 0, 1, .const 0⟩
/-- The SDI class a receive slice is trying, and the class it last locked to (R60). -/
def QUAD.HID_CLASS : Field := ⟨.quad, 0x1134, 0, 3, .const 0⟩
def QUAD.HID_LAST : Field := ⟨.quad, 0x1138, 0, 3, .const 0⟩
/-- Bits of the generator output inverted by ERR_INJECT on a pad lane. -/
def QUAD.HID_INJECTED : Field := ⟨.quad, 0x113C, 0, 32, .const 0⟩
/-- The high word latched by a read of the low word of a counter, by 8 x port + counter (R83). -/
def ETH.HID_LATCH : Field := ⟨.eth, 0x1100, 0, 32, .const 0⟩

/-- The state register of a slice by direction. -/
def slState (tx : Bool) : Field := if tx then QUAD.TXSL_STAT_STATE else QUAD.RXSL_STAT_STATE
/-- The pad lane a slice serves. -/
def slLane (tx : Bool) : Field := if tx then QUAD.TXSL_STAT_PADLANE else QUAD.RXSL_STAT_PADLANE
/-- The mark SUSPECT of a slice. -/
def slSuspect (tx : Bool) : Field := if tx then QUAD.TXSL_STAT_SUSPECT else QUAD.RXSL_STAT_SUSPECT
/-- The mode field of a pad lane by direction. -/
def laneMode (tx : Bool) : Field := if tx then QUAD.LANE_CFG_TXMODE else QUAD.LANE_CFG_RXMODE
/-- The map of pad lanes to slices by direction. -/
def padMap (tx : Bool) : Field := if tx then QUAD.PADMAP_TX_MAP else QUAD.PADMAP_RX_MAP
/-- The busy mark of a spare by direction. -/
def spareBusy (tx : Bool) : Field := if tx then QUAD.QUAD_STAT_TX_SPARE_BUSY else QUAD.QUAD_STAT_RX_SPARE_BUSY
/-- A slice as a repair unit. -/
def sliceUnit (tx : Bool) (q sl : Nat) : UnitId := ⟨.quad, q, if tx then 5 + sl else sl⟩

/-- The slice behind a pad lane, 7 for none. -/
def State.sliceOf (s : State) (tx : Bool) (q n : Nat) : Nat := bitsOf (s.get (padMap tx) q) (3 * n) 3
/-- A map with pad lane n given to a slice. -/
def mapWith (map n sl : Nat) : Nat := map - bitsOf map (3 * n) 3 * 2 ^ (3 * n) + sl * 2 ^ (3 * n)
/-- The pad lane that a slice serves by the map, if any. -/
def State.laneOf (s : State) (tx : Bool) (q sl : Nat) : Option Nat :=
  ([0, 1, 2, 3].filter (fun n => s.sliceOf tx q n = sl)).head?

/-- The slice of a quad that serves no pad lane and is in SPARE, SHADOW or its self-test. -/
def State.spareOf (s : State) (tx : Bool) (q : Nat) : Option Nat :=
  ([0, 1, 2, 3, 4].filter (fun sl => (s.laneOf tx q sl).isNone &&
    (s.get (slState tx) q sl = slSPARE || s.get (slState tx) q sl = slSHADOW ||
      (s.get (slState tx) q sl = slTEST && s.get QUAD.HID_SELFTEST q (flag tx) = 1)))).head?

/-- Whether a pad lane is in an Ethernet mode. -/
def State.laneEth (s : State) (q n : Nat) : Bool :=
  s.get QUAD.QUAD_CFG_Q100 q = 1 || 2 ≤ s.get QUAD.LANE_CFG_RXMODE q n
/-- Whether the Ethernet port of a pad lane is enabled; with Q100 the quad is port 0. -/
def State.portEnabled (s : State) (q n : Nat) : Bool :=
  s.laneEth q n && s.get ETH.PORT_CFG_EN q (if s.get QUAD.QUAD_CFG_Q100 q = 1 then 0 else n) = 1
/-- Whether a pad lane carries an admitted path: its VI is a path's source or its VO a path's destination. -/
def State.laneCarries (s : State) (q n : Nat) : Bool :=
  (s.laneSdi false (4 * q + n) && s.video.paths.any (fun p => p.src = 4 * q + n && !s.remote p.mem)) ||
  (s.laneSdi true (4 * q + n) && ((NTable.find s.video.active (4 * q + n)).isSome || (NTable.find s.video.pend (4 * q + n)).isSome))
/-- Whether a pad lane may be taken out of service (R55, R77). -/
def State.laneFree (s : State) (q n : Nat) : Bool := !s.laneCarries q n && !s.portEnabled q n

/-! ## Reception -/

/-- A slice leaves its lock: CDR_LOCK clear, RX_FREQ of its lane invalid, LOCK_CHG where it had lock. -/
def State.loseLock (s : State) (q sl : Nat) : State :=
  let had := s.get QUAD.RXSL_STAT_CDR_LOCK q sl
  let n := (s.laneOf false q sl).getD 0
  let s := (s.set QUAD.RXSL_STAT_CDR_LOCK 0 q sl).set QUAD.RXSL_STAT_RATE_DET 7 q sl
  if (s.laneOf false q sl).isSome then
    (s.set QUAD.RX_FREQ_VALID 0 q n).raiseIf (had = 1) .quad q (QUAD.EV_LOCK_CHG + n)
  else s

/-- Enters ACQUIRE, trying the last locked class first (R60). -/
def State.enterAcquire (s : State) (q sl : Nat) : State :=
  (s.set QUAD.RXSL_STAT_STATE slACQUIRE q sl).set QUAD.HID_CLASS (s.get QUAD.HID_LAST q sl) q sl

/-- Signal detect of a receive slice changes (R58). -/
def execSignalDetectChange (q : Fin 24) (sl : Fin 5) (present : Bool) (s : State) : Host.Outcome State Fault Refusal :=
  done (s.set QUAD.HID_SIGDET (flag present) q sl)

/-- Releases the spare of a quad and direction: back to SPARE, the marks of its shadow cleared. -/
def State.releaseSpare (s : State) (tx : Bool) (q : Nat) : State :=
  match s.spareOf tx q with
  | none => s
  | some sl =>
    ((((((s.set (slState tx) slSPARE q sl).set (slLane tx) 7 q sl).set (spareBusy tx) 0 q).set QUAD.HID_FLIP 0 q (flag tx)).set
      QUAD.HID_FORCED 0 q (flag tx)).set QUAD.HID_ALIGNED 0 q (flag tx)).set QUAD.HID_EXTENDED 0 q (flag tx)

/-- The pad lane that the spare shadows, if any. -/
def State.shadowed (s : State) (tx : Bool) (q : Nat) : Option Nat :=
  match s.spareOf tx q with
  | none => none
  | some sl => if s.get (slState tx) q sl = slSHADOW then some (s.get (slLane tx) q sl) else none

/-- Ends an eye scan that runs on a slice, with ABORTED set (Table 2.5). -/
def State.abortEye (s : State) (q sl : Nat) : State :=
  if s.get QUAD.HID_EYE q = 1 ∧ s.get QUAD.EYE_CTL_SLICE q = sl then
    ((s.set QUAD.HID_EYE 0 q).set QUAD.EYE_CTL_ABORTED 1 q).raise .quad q QUAD.EV_EYE_DONE
  else s

/-- Stops the spare's periodic self-test, which is not counted (Table 2.5). -/
def State.stopSelftest (s : State) (tx : Bool) (q sl : Nat) : State :=
  if s.get QUAD.HID_SELFTEST q (flag tx) = 1 then
    ((s.set QUAD.HID_SELFTEST 0 q (flag tx)).set (slState tx) slSPARE q sl)
  else s

/-- Places the spare in SHADOW behind a pad lane (R66, R70). -/
def State.bridge (s : State) (tx : Bool) (q n sl : Nat) : State :=
  let s := (s.stopSelftest tx q sl).abortEye q sl
  let s := if tx then s else s.abortEye q (s.sliceOf false q n)
  ((s.set (slState tx) slSHADOW q sl).set (slLane tx) n q sl).set (spareBusy tx) 1 q

/-- Gives a pad lane to a slice and counts the substitution: the flip of R68 to R70. The slice takes the state the lane
needs, and the map, PADLANE, the counters and the event follow. -/
def State.flip (s : State) (tx : Bool) (q n sl : Nat) : State :=
  let old := s.sliceOf tx q n
  let busy := if tx then s.get QUAD.TXSL_STAT_STATE q old else slRUN
  let s := s.set (padMap tx) (mapWith (s.get (padMap tx) q) n sl) q
  let s := ((s.set (slState tx) (if tx && old < 5 then busy else slRUN) q sl).set (slLane tx) n q sl).set (spareBusy tx) 0 q
  let s := if tx then s else
    (((s.set QUAD.RXSL_STAT_CDR_LOCK 1 q sl).set QUAD.RXSL_STAT_RATE_DET (if old < 5 then s.get QUAD.RXSL_STAT_RATE_DET q old else 7) q sl).set
      QUAD.RXSL_STAT_FAM_DET (if old < 5 then s.get QUAD.RXSL_STAT_FAM_DET q old else 0) q sl).set
      QUAD.HID_LAST (if old < 5 then s.get QUAD.HID_LAST q old else 0) q sl
  let s := ((s.set QUAD.HID_FLIP 0 q (flag tx)).set QUAD.HID_FORCED 0 q (flag tx)).set QUAD.HID_ALIGNED 0 q (flag tx)
  let s := (s.set QUAD.HID_EXTENDED 0 q (flag tx)).bump QUAD.CNT_SUB_COUNT q
  let s := s.raise .quad q (if tx then QUAD.EV_TX_SUB else QUAD.EV_RX_SUB)
  s.logStep (sliceUnit tx q sl) stMIGRATE 0 0 0 noSlot 0 n

/-- Takes the failed slice of a pad lane out: isolated, serving no lane (R68, R69). -/
def State.dropSlice (s : State) (tx : Bool) (q sl det : Nat) : State :=
  if sl < 5 then (((s.set (slLane tx) 7 q sl).isolateUnit (sliceUnit tx q sl) det).retireIfLimit (sliceUnit tx q sl)) else s

/-- Leaves a pad lane without a slice: SUB_EXHAUSTED; a Q100 port loses its link (R72). -/
def State.exhaust (s : State) (tx : Bool) (q n det : Nat) : State :=
  let old := s.sliceOf tx q n
  let s := (s.set (padMap tx) (mapWith (s.get (padMap tx) q) n 7) q).dropSlice tx q old det
  let s := s.raise .quad q QUAD.EV_SUB_EXHAUSTED
  if s.get QUAD.QUAD_CFG_Q100 q = 1 ∧ s.get ETH.PORT_STAT_LINK_UP q 0 = 1 then
    ((s.set ETH.PORT_STAT_LINK_UP 0 q 0).set QUAD.QUAD_STAT_Q100_ALIGN 0 q).raise .eth q ETH.EV_LINK_CHG
  else s

/-- A hard fault of the slice behind a pad lane (R69, R70): the spare takes the lane without a proof, and any shadow it
served elsewhere ends; with no spare left, R72. -/
def State.hardFault (s : State) (tx : Bool) (q n det : Nat) : State :=
  let old := s.sliceOf tx q n
  match s.spareOf tx q with
  | none => s.exhaust tx q n det
  | some sl => (((s.stopSelftest tx q sl).releaseSpare tx q).flip tx q n sl).dropSlice tx q old det

/-- LOS of a pad lane's slice (R58, R62): the lane enters LOS; a shadow of that lane ends without outcome (Table 2.5). -/
def State.enterLos (s : State) (q sl n : Nat) : State :=
  let s := if s.shadowed false q = some n then s.releaseSpare false q else s
  let s := (s.loseLock q sl).set QUAD.RXSL_STAT_STATE slLOS q sl
  (s.bump QUAD.CNT_LOS_COUNT q).raise .quad q (QUAD.EV_LOS_CHG + n)

/-- LOS declared (R58): confirmed where no free spare exists or the spare, bridged for 50 us, sees no signal either;
with signal at the spare it is a hard fault of the slice (R68, Table 2.4). -/
def execLosDeclare (q : Fin 24) (sl : Fin 5) (spareSees : Bool) (s : State) : Host.Outcome State Fault Refusal :=
  match s.laneOf false q sl with
  | none => done s
  | some n =>
    if s.get QUAD.RXSL_STAT_STATE q sl = slACQUIRE ∨ s.get QUAD.RXSL_STAT_STATE q sl = slRUN then
      (if spareSees && (s.spareOf false q).isSome then done (s.hardFault false q n 0) else done (s.enterLos q sl n))
    else done s

/-- A slice leaves LOS once signal detect has been present for 100 us (R59). -/
def execLosExit (q : Fin 24) (sl : Fin 5) (s : State) : Host.Outcome State Fault Refusal :=
  if s.get QUAD.RXSL_STAT_STATE q sl = slLOS ∧ s.get QUAD.HID_SIGDET q sl = 1 then
    done ((s.enterAcquire q sl).raise .quad q (QUAD.EV_LOS_CHG + (s.laneOf false q sl).getD 0))
  else done s

/-- The classes a slice tries in turn: the last locked one, then each other enabled class from the highest down (R60). -/
def classOrder (last mask : Nat) : List Nat := last :: ([4, 3, 2, 1, 0].filter (fun k => bitOf mask k && k ≠ last))

/-- The class after one in the cycle of R60. -/
def nextClass (l : List Nat) (c : Nat) : Nat :=
  match (l.dropWhile (fun k => k ≠ c)).drop 1 with
  | k :: _ => k
  | [] => l.headD c

/-- An SDI slice that has not locked within 200 us tries its next class (R60). -/
def execAcquireClassTimeout (q : Fin 24) (sl : Fin 5) (s : State) : Host.Outcome State Fault Refusal :=
  match s.laneOf false q sl with
  | none => done s
  | some n =>
    if s.get QUAD.RXSL_STAT_STATE q sl = slACQUIRE ∧ !s.laneEth q n then
      done (s.set QUAD.HID_CLASS (nextClass (classOrder (s.get QUAD.HID_LAST q sl) (s.get QUAD.LANE_CFG_RX_RATE_MASK q n))
        (s.get QUAD.HID_CLASS q sl)) q sl)
    else done s

/-- Clock recovery has held lock for 20 us (R60): a slice in ACQUIRE enters RUN and reports what it locked to; a spare in
SHADOW is locked and stays there. -/
def execCdrLockHeld (q : Fin 24) (sl : Fin 5) (fam : Bool) (s : State) : Host.Outcome State Fault Refusal :=
  if s.get QUAD.RXSL_STAT_STATE q sl = slSHADOW then done (s.set QUAD.RXSL_STAT_CDR_LOCK 1 q sl)
  else
    match s.laneOf false q sl with
    | none => done s
    | some n =>
      if s.get QUAD.RXSL_STAT_STATE q sl = slACQUIRE then
        let c := s.get QUAD.HID_CLASS q sl
        let eth := s.laneEth q n
        let s := (((s.set QUAD.RXSL_STAT_STATE slRUN q sl).set QUAD.RXSL_STAT_CDR_LOCK 1 q sl).set
          QUAD.RXSL_STAT_RATE_DET (if eth then 7 else c) q sl).set QUAD.RXSL_STAT_FAM_DET (if eth then 0 else flag fam) q sl
        let s := if eth then s else s.set QUAD.HID_LAST c q sl
        done (s.raise .quad q (QUAD.EV_LOCK_CHG + n))
      else done s

/-- Every 10 ms RX_FREQ is updated while the lane's slice is in RUN, and marked invalid in every other state (R61). -/
def execRxFreqUpdate (q : Fin 24) (n : Fin 4) (off : BitVec 16) (s : State) : Host.Outcome State Fault Refusal :=
  let sl := s.sliceOf false q n
  if sl < 5 ∧ s.get QUAD.RXSL_STAT_STATE q sl = slRUN then
    done ((s.set QUAD.RX_FREQ_OFFSET off.toNat q n).set QUAD.RX_FREQ_VALID 1 q n)
  else done (s.set QUAD.RX_FREQ_VALID 0 q n)

/-! ## Substitution -/

/-- A soft trigger of R66 places the receive spare in SHADOW, with SPARE_AUTO set and a spare in SPARE or in its
self-test. -/
def execSpareShadow (q : Fin 24) (n : Fin 4) (s : State) : Host.Outcome State Fault Refusal :=
  match s.spareOf false q with
  | none => done s
  | some sl =>
    if s.get QUAD.QUAD_CFG_SPARE_AUTO q = 1 ∧ (s.shadowed false q).isNone ∧ s.sliceOf false q n < 5 then
      done (s.bridge false q n sl)
    else done s

/-- The spare's data is aligned: line by line selection begins (R67). -/
def execSpareAligned (q : Fin 24) (s : State) : Host.Outcome State Fault Refusal :=
  if (s.shadowed false q).isSome then done (s.set QUAD.HID_ALIGNED 1 q 0) else done s

/-- Starts the self-test of a spare (R75). -/
def State.startSpareTest (s : State) (tx : Bool) (q sl : Nat) : State :=
  ((s.set (slState tx) slTEST q sl).set QUAD.HID_SELFTEST 1 q (flag tx)).set (spareBusy tx) 1 q

/-- The comparison window of a receive shadow ends (R68, Table 2.4): whether the active slice erred, whether the spare
erred, and whether on the same lines. A forced substitution flips whatever the counts (R65). Errors of both on different
lines are in no row of the table: the window goes on. (DESIGN CHOICE, assumption 11.) -/
def execShadowWindowEnd (q : Fin 24) (activeErr spareErr sameLines : Bool) (s : State) : Host.Outcome State Fault Refusal :=
  match s.spareOf false q, s.shadowed false q with
  | some sl, some n =>
    if s.get QUAD.HID_FORCED q 0 = 1 then done (s.set QUAD.HID_FLIP 1 q 0)
    else if activeErr && !spareErr then done (s.set QUAD.HID_FLIP 1 q 0)
    else if activeErr && spareErr then
      (if sameLines then done ((s.releaseSpare false q).raise .quad q QUAD.EV_RX_INPUT_FAULT) else done s)
    else if spareErr then done ((s.releaseSpare false q).startSpareTest false q sl)
    else if s.get QUAD.HID_EXTENDED q 0 = 0 then done (s.set QUAD.HID_EXTENDED 1 q 0)
    else done ((s.releaseSpare false q).set QUAD.RXSL_STAT_SUSPECT 1 q (s.sliceOf false q n))
  | _, _ => done s

/-- The flip of a decided substitution at a switching line or block boundary (R68, R70): the old slice is isolated. -/
def execSliceFlip (q : Fin 24) (tx : Bool) (s : State) : Host.Outcome State Fault Refusal :=
  match s.spareOf tx q, s.shadowed tx q with
  | some sl, some n =>
    if s.get QUAD.HID_FLIP q (flag tx) = 1 then done ((s.flip tx q n sl).dropSlice tx q (s.sliceOf tx q n) 2) else done s
  | _, _ => done s

/-- A hard fault of the slice behind a pad lane, or a stall (R69, R70). -/
def execHardFault (q : Fin 24) (tx : Bool) (n : Fin 4) (s : State) : Host.Outcome State Fault Refusal :=
  if s.sliceOf tx q n < 5 then done (s.hardFault tx q n 8) else done s

/-- An alarm or an output-sense mismatch places the transmit spare in SHADOW, to flip at the next switching line (R70). -/
def execTxSpareShadow (q : Fin 24) (n : Fin 4) (s : State) : Host.Outcome State Fault Refusal :=
  match s.spareOf true q with
  | none => done s
  | some sl =>
    if s.get QUAD.QUAD_CFG_SPARE_AUTO q = 1 ∧ (s.shadowed true q).isNone ∧ s.sliceOf true q n < 5 then
      done ((s.bridge true q n sl).set QUAD.HID_FLIP 1 q 1)
    else done s

/-- What FORCE_RX or FORCE_TX of n + 1 does (R65): the spare shadows pad lane n and flips after the proof whatever the
error counts; 0, or no spare free, does nothing. -/
def State.forceSpare (s : State) (tx : Bool) (q code : Nat) : State :=
  match s.spareOf tx q with
  | none => s
  | some sl =>
    if 1 ≤ code ∧ code ≤ 4 ∧ (s.shadowed tx q).isNone then
      ((s.bridge tx q (code - 1) sl).set QUAD.HID_FORCED 1 q (flag tx)).set QUAD.HID_FLIP (flag tx) q (flag tx)
    else s

/-- A write of SPARE_CTL.FORCE_RX (R65). -/
def execForceRx (m : Fin 7) (q : Fin 24) (v : Word) (s : State) : Host.Outcome State Fault Refusal :=
  done (s.withWrite m .quad q 0x04C v.toNat (fun t => t.forceSpare false q (bitsOf v.toNat 16 3)))

/-- A write of SPARE_CTL.FORCE_TX (R65). -/
def execForceTx (m : Fin 7) (q : Fin 24) (v : Word) (s : State) : Host.Outcome State Fault Refusal :=
  done (s.withWrite m .quad q 0x04C v.toNat (fun t => t.forceSpare true q (bitsOf v.toNat 20 3)))

/-- The periodic self-test of a spare starts, with SELFTEST_EN set and below throttle stage T1 (R75). -/
def execSpareSelftest (q : Fin 24) (tx : Bool) (s : State) : Host.Outcome State Fault Refusal :=
  match s.spareOf tx q with
  | none => done s
  | some sl =>
    if s.get QUAD.SPARE_CTL_SELFTEST_EN q = 1 ∧ s.get THERMAL.STAT_STAGE = 0 ∧ s.get (slState tx) q sl = slSPARE then
      done (s.startSpareTest tx q sl)
    else done s

/-- A spare's self-test ends: back to SPARE, or retired with SPARE_FAIL (R75). -/
def execSpareSelftestEnd (q : Fin 24) (tx pass : Bool) (s : State) : Host.Outcome State Fault Refusal :=
  match s.spareOf tx q with
  | none => done s
  | some sl =>
    if s.get QUAD.HID_SELFTEST q (flag tx) = 1 then
      let s := ((s.set QUAD.HID_SELFTEST 0 q (flag tx)).set (spareBusy tx) 0 q).set (slState tx) slSPARE q sl
      if pass then done s else done ((s.retire (sliceUnit tx q sl) 9).raise .quad q QUAD.EV_SPARE_FAIL)
    else done s

/-! ## Tests -/

/-- Whether a pad lane is shadowed in either direction. -/
def State.laneShadowed (s : State) (q n : Nat) : Bool := s.shadowed false q = some n || s.shadowed true q = some n

/-- Blocks a commit or write for the pad lanes of a mask (R55). -/
def State.blockLanes (s : State) (q mask : Nat) : State :=
  (s.set QUAD.QUAD_STAT_CFG_BLOCKED (s.get QUAD.QUAD_STAT_CFG_BLOCKED q ||| mask) q).raise .quad q QUAD.EV_CFG_BLOCKED

/-- The slices of a pad lane after its TEST_CTL changed: TEST while a checker, generator or loopback is set (R62, R63). -/
def State.testSlices (s : State) (q n : Nat) : State :=
  let loop := s.get QUAD.TEST_CTL_LOOP q n ≠ 0
  let rxOn := s.get QUAD.TEST_CTL_PRBS_CHK q n ≠ 0 || loop
  let txOn := s.get QUAD.TEST_CTL_PRBS_GEN q n ≠ 0 || loop
  let r := s.sliceOf false q n
  let t := s.sliceOf true q n
  let rs := s.get QUAD.RXSL_STAT_STATE q r
  let ts := s.get QUAD.TXSL_STAT_STATE q t
  let s := if r < 5 ∧ rxOn ∧ (rs = slRUN ∨ rs = slLOS) then s.set QUAD.RXSL_STAT_STATE slTEST q r
    else if r < 5 ∧ !rxOn ∧ rs = slTEST then s.enterAcquire q r else s
  if t < 5 ∧ txOn ∧ (ts = slIDLE ∨ ts = slRUN) then s.set QUAD.TXSL_STAT_STATE slTEST q t
  else if t < 5 ∧ !txOn ∧ ts = slTEST then s.set QUAD.TXSL_STAT_STATE slIDLE q t else s

/-- A TEST_CTL word applied to a free pad lane: its fields, the slices' states, and the checker out of sync when off. -/
def State.applyTestCtl (s : State) (m q n v : Nat) : State :=
  let s := (s.writePlain m .quad q (0x0D0 + 4 * n) v).testSlices q n
  let s := if s.get QUAD.TEST_CTL_PRBS_CHK q n = 0 then s.set QUAD.TEST_CTL_CHK_SYNC 0 q n else s
  s.set QUAD.QUAD_STAT_CFG_BLOCKED (clrBit (s.get QUAD.QUAD_STAT_CFG_BLOCKED q) n) q

/-- A write of TEST_CTL: applied to a pad lane that is free and not shadowed, otherwise blocked (R55, R77, Table 2.5). -/
def execTestCtlWrite (m : Fin 7) (q : Fin 24) (n : Fin 4) (v : Word) (s : State) : Host.Outcome State Fault Refusal :=
  done (s.withCheck m .quad q (0x0D0 + 4 * n) v.toNat (fun t =>
    if t.laneFree q n && !t.laneShadowed q n then t.applyTestCtl m q n v.toNat else t.blockLanes q (2 ^ n.val)))

/-- A write of TEST_CTL.ERR_INJECT inverts one bit of the generator output, where a generator runs (R78). -/
def execErrInject (m : Fin 7) (q : Fin 24) (n : Fin 4) (s : State) : Host.Outcome State Fault Refusal :=
  done (s.withCheck m .quad q (0x0D0 + 4 * n) 0x100 (fun t =>
    if t.get QUAD.TEST_CTL_PRBS_GEN q n ≠ 0 then t.incr QUAD.HID_INJECTED q n else t))

/-- A write of TEST_CTL.CHK_CLEAR clears PRBS_ERR (R78). -/
def execChkClear (m : Fin 7) (q : Fin 24) (n : Fin 4) (s : State) : Host.Outcome State Fault Refusal :=
  done (s.withCheck m .quad q (0x0D0 + 4 * n) 0x400 (fun t => t.set QUAD.PRBS_ERR_COUNT 0 q n))

/-- A write of EYE_CTL with START: begins a scan; ignored while one runs (R80). -/
def execEyeStart (m : Fin 7) (q : Fin 24) (v : Word) (s : State) : Host.Outcome State Fault Refusal :=
  done (s.withCheck m .quad q 0x100 v.toNat (fun t =>
    if t.get QUAD.HID_EYE q = 1 then t
    else (((t.writePlain m .quad q 0x100 v.toNat).set QUAD.EYE_CTL_DONE 0 q).set QUAD.EYE_CTL_ABORTED 0 q).set QUAD.HID_EYE 1 q))

/-- An eye scan ends after 2^DWELL bits (R80). -/
def execEyeDone (q : Fin 24) (mismatches : Nat) (s : State) : Host.Outcome State Fault Refusal :=
  if s.get QUAD.HID_EYE q = 1 then
    done ((((s.set QUAD.HID_EYE 0 q).set QUAD.EYE_CTL_DONE 1 q).set QUAD.EYE_ERR_COUNT (min mismatches 0xFFFFFFFF) q).raise
      .quad q QUAD.EV_EYE_DONE)
  else done s

/-- The PRBS checker of a pad lane gains or loses sync and counts errored bits (R78). -/
def execPrbsCheckerSync (q : Fin 24) (n : Fin 4) (inSync : Bool) (errors : Nat) (s : State) : Host.Outcome State Fault Refusal :=
  if s.get QUAD.TEST_CTL_PRBS_CHK q n ≠ 0 then
    done (((s.set QUAD.TEST_CTL_CHK_SYNC (flag inSync) q n).bumpBy QUAD.PRBS_ERR_COUNT errors q n).raiseIf (errors ≠ 0)
      .quad q QUAD.EV_PRBS_ERR)
  else done s

/-! ## Ethernet ports -/

/-- The counters of a port in the order of R83. -/
def ethCounter : Nat → Field
  | 0 => ETH.COUNT_RX_GOOD | 1 => ETH.COUNT_FCS_ERR | 2 => ETH.COUNT_OVERSIZE | 3 => ETH.COUNT_FEC_CORR
  | 4 => ETH.COUNT_FEC_UNCORR | 5 => ETH.COUNT_LOCK_LOSS | 6 => ETH.COUNT_TX_SENT | _ => ETH.COUNT_TX_DROP

/-- A read of the low word of a counter latches its high word (R83); ports that do not exist read 0 (R82). -/
def execEthCountRead (m : Fin 7) (q : Fin 24) (p : Fin 4) (k : Fin 8) (s : State) : Host.Outcome State Fault Refusal :=
  done (s.withRead m .eth q (0x100 + 0x40 * p + 8 * k) (fun t =>
    if t.get QUAD.QUAD_CFG_Q100 q = 1 ∧ p.val ≠ 0 then t
    else t.set ETH.HID_LATCH (bitsOf (t.get (ethCounter k) q p) 32 32) q (8 * p + k)))

/-- The PCS of a port enters or leaves its high bit error ratio state (R83). -/
def execHiBerChange (q : Fin 24) (p : Fin 4) (high : Bool) (s : State) : Host.Outcome State Fault Refusal :=
  if (flag high) = s.get ETH.PORT_STAT_HI_BER q p then done s
  else done ((s.set ETH.PORT_STAT_HI_BER (flag high) q p).raise .eth q (ETH.EV_HI_BER + p))

/-! ## Commits of the QUAD page -/

/-- The fields of a pad lane whose change R55 guards: mode, rate, family, and the transmit clock it takes. -/
def State.laneGuard (s : State) (q n : Nat) : List Nat :=
  let eth := s.laneEth q n
  let f := s.get QUAD.LANE_CFG_TX_FAM q n = 1 && s.get QUAD.LANE_CFG_TX_RATE q n ≠ 0
  [s.get QUAD.QUAD_CFG_Q100 q] ++
  (if s.get QUAD.QUAD_CFG_Q100 q = 1 then [] else
    [s.get QUAD.LANE_CFG_RXMODE q n, s.get QUAD.LANE_CFG_TXMODE q n, s.get QUAD.LANE_CFG_RX_RATE_MASK q n,
     s.get QUAD.LANE_CFG_TX_RATE q n, s.get QUAD.LANE_CFG_TX_FAM q n]) ++
  (if eth then [s.get QUAD.TXCLK_SEL_E_SYN q, s.get QUAD.TXCLK_SEL_E_OUT q]
   else if f then [s.get QUAD.TXCLK_SEL_F_SYN q, s.get QUAD.TXCLK_SEL_F_OUT q]
   else [s.get QUAD.TXCLK_SEL_V_SYN q, s.get QUAD.TXCLK_SEL_V_OUT q])

/-- R54: the selectors name outputs of the right synthesisers. -/
def State.txclkOk (s : State) (q : Nat) : Bool :=
  s.get QUAD.TXCLK_SEL_V_SYN q < 4 && 4 ≤ s.get QUAD.TXCLK_SEL_F_SYN q && s.get QUAD.TXCLK_SEL_F_SYN q < 8 &&
  8 ≤ s.get QUAD.TXCLK_SEL_E_SYN q && s.get QUAD.TXCLK_SEL_E_SYN q < 10 &&
  s.get QUAD.TXCLK_SEL_V_OUT q < 6 && s.get QUAD.TXCLK_SEL_F_OUT q < 6 && s.get QUAD.TXCLK_SEL_E_OUT q < 6

/-- R51 and Table 2.1: an Ethernet mode is the same in both directions, and no reserved mode or class is set. -/
def State.laneModeOk (s : State) (q n : Nat) : Bool :=
  let r := s.get QUAD.LANE_CFG_RXMODE q n
  let t := s.get QUAD.LANE_CFG_TXMODE q n
  s.get QUAD.QUAD_CFG_Q100 q = 1 || (r < 5 && t < 5 && ((r < 2 && t < 2) || r = t) && s.get QUAD.LANE_CFG_TX_RATE q n < 5)

/-- The pad lanes for which a commit that takes `s` to `t` may not apply (R55). -/
def quadBlocked (s t : State) (q : Nat) : List Nat :=
  [0, 1, 2, 3].filter (fun n => !t.txclkOk q || !t.laneModeOk q n || (s.laneGuard q n ≠ t.laneGuard q n && !s.laneFree q n))

/-- A slice after a commit of its lane's mode: out of OFF, or back to OFF with nothing in flight (R62, R63). -/
def State.modeSlice (s : State) (tx : Bool) (q n : Nat) : State :=
  let sl := s.sliceOf tx q n
  let on := s.get QUAD.QUAD_CFG_Q100 q = 1 || s.get (laneMode tx) q n ≠ 0
  let st := s.get (slState tx) q sl
  if 4 < sl then s
  else if on ∧ st = slOFF then
    (if tx then (s.set (slState tx) slIDLE q sl).set (slLane tx) n q sl else (s.enterAcquire q sl).set (slLane tx) n q sl)
  else if !on ∧ (st = slRUN ∨ st = slACQUIRE ∨ st = slLOS ∨ st = slIDLE ∨ st = slTEST) then
    (if tx then s.set (slState tx) slOFF q sl else (s.loseLock q sl).set (slState tx) slOFF q sl)
  else s

/-- After a commit of a QUAD page that applied: CFG_BLOCKED cleared for its lanes, and every slice as its lane's mode says. -/
def State.quadCommitted (s : State) (q : Nat) : State :=
  [0, 1, 2, 3].foldl (fun t n => (t.modeSlice false q n).modeSlice true q n) (s.set QUAD.QUAD_STAT_CFG_BLOCKED 0 q)

/-- The transmit slice of an Ethernet port runs while the port is enabled (R63). -/
def State.portSlice (s : State) (q n : Nat) : State :=
  let sl := s.sliceOf true q n
  if 4 < sl ∨ !s.laneEth q n then s
  else if s.portEnabled q n ∧ s.get QUAD.TXSL_STAT_STATE q sl = slIDLE then s.set QUAD.TXSL_STAT_STATE slRUN q sl
  else if !s.portEnabled q n ∧ s.get QUAD.TXSL_STAT_STATE q sl = slRUN then s.set QUAD.TXSL_STAT_STATE slIDLE q sl
  else s

/-- After a commit of an ETH page. -/
def State.ethCommitted (s : State) (q : Nat) : State := [0, 1, 2, 3].foldl (fun t n => t.portSlice q n) s

/-- The transmit slice of an SDI output runs while the output runs (R63). -/
def State.voSlice (s : State) (o : Nat) (run : Bool) : State :=
  let sl := s.sliceOf true (o / 4) (o % 4)
  if !s.laneSdi true o ∨ 4 < sl then s
  else if run ∧ s.get QUAD.TXSL_STAT_STATE (o / 4) sl = slIDLE then s.set QUAD.TXSL_STAT_STATE slRUN (o / 4) sl
  else if !run ∧ s.get QUAD.TXSL_STAT_STATE (o / 4) sl = slRUN then s.set QUAD.TXSL_STAT_STATE slIDLE (o / 4) sl
  else s

end Sys2Proof.Machine
end

