-- ==== Sys2Proof/Machine/Sdi.lean ====
section
/-! DEFINITION. SDI ingress and egress: the states of a VI, format detection, line checks, comet tags, ancillary data,
embedded audio, timecode, black and freeze detection, and the mappings of Table 3.1 (R84 to R118). -/
namespace Sys2Proof.Machine

/-- States of a VI (Table 3.7). -/
abbrev viOFF : Nat := 0
abbrev viSEARCH : Nat := 1
abbrev viDETECT : Nat := 2
abbrev viGANGED : Nat := 4

/-- Device's own scalars of a VI: the frame count of its comet tags (R94), consecutive lines with TRS, complete frames of
one descriptor counted toward PRESENT, whether a whole frame has begun since DETECT, the descriptor of those frames,
frames without ST 352, an error seen in the frame, consecutive black and not black frames, consecutive equal signatures
and the last signature, bytes stored of the frame that fills, and the last line unit's comet tag (R97). -/
def VIN.HID_FRAME : Field := ⟨.vin, 0x1110, 0, 20, .const 0⟩
def VIN.HID_TRS : Field := ⟨.vin, 0x1114, 0, 3, .const 0⟩
def VIN.HID_GOOD : Field := ⟨.vin, 0x1118, 0, 2, .const 0⟩
def VIN.HID_BEGUN : Field := ⟨.vin, 0x111C, 0, 1, .const 0⟩
def VIN.HID_CAND : Field := ⟨.vin, 0x1120, 0, 32, .const 0⟩
def VIN.HID_NOPID : Field := ⟨.vin, 0x1124, 0, 2, .const 0⟩
def VIN.HID_CRC : Field := ⟨.vin, 0x1128, 0, 1, .const 0⟩
def VIN.HID_BLACK : Field := ⟨.vin, 0x112C, 0, 10, .const 0⟩
def VIN.HID_NOTBLACK : Field := ⟨.vin, 0x1130, 0, 2, .const 0⟩
def VIN.HID_SAME : Field := ⟨.vin, 0x1134, 0, 10, .const 0⟩
def VIN.HID_SIG : Field := ⟨.vin, 0x1138, 0, 33, .const 0⟩
def VIN.HID_ANCBYTES : Field := ⟨.vin, 0x1140, 0, 14, .const 0⟩
def VIN.HID_TAG : Field := ⟨.vin, 0x1144, 0, 128, .const 0⟩

/-! ## Mappings and gangs -/

/-- The links of a mapping (Table 3.1). -/
def mapLinks (m : Nat) : Nat := if m = 4 then 2 else if m = 5 ∨ m = 8 then 4 else 1
/-- The SDI class of a mapping (Table 3.1). -/
def mapClass (m : Nat) : Nat := [0, 1, 2, 2, 2, 2, 3, 4, 4].getD m 0

/-- Whether Table 3.1 lists a picture for a mapping (R86, R113). -/
def mapCarries (m : Nat) (f : Fmt) : Bool :=
  let ycc10 := f.sampling = 0 && f.depth = 0
  let ycc12 := f.sampling = 0 && f.depth = 1
  let full := (f.sampling = 1 || f.sampling = 2)
  let slow := f.rate ≤ 4
  let fast := 5 ≤ f.rate && f.rate ≤ 7
  let prog := f.scan = 0
  let ranged := 1 ≤ f.color && f.color ≤ 2 && f.transfer ≤ 2
  match m with
  | 0 => ycc10 && f.color = 0 && f.transfer = 0 && f.scan = 1 &&
      ((f.raster = 0 && f.rate = 3) || (f.raster = 1 && f.rate = 2))
  | 1 => ranged && ycc10 && ((f.raster = 2 && prog) || (f.raster = 3 && f.scan = 1 && 2 ≤ f.rate && slow)
      || (f.raster = 3 && f.scan ≠ 1 && slow))
  | 2 => ranged && f.raster = 3 && ((prog && fast && ycc10) || (slow && (full || ycc12)))
  | 3 => ranged && f.raster = 3 && prog && fast && ycc10
  | 4 => ranged && prog && ((f.raster = 3 && fast && full) || (f.raster = 4 && slow && ycc10))
  | 5 => ranged && prog && f.raster = 4 && ((fast && ycc10) || (slow && full))
  | 6 => ranged && prog && ((f.raster = 4 && slow && ycc10) || (f.raster = 3 && fast && full))
  | 7 => ranged && prog && f.raster = 4 && ((fast && ycc10) || (slow && full && f.depth = 1))
  | 8 => ranged && prog && f.raster = 5 && ycc10
  | _ => false

/-- Whether a gang of a mapping may start at a pad lane (R87). -/
def gangStart (m n : Nat) : Bool := mapLinks m = 1 || (mapLinks m = 2 && n % 2 = 0) || (mapLinks m = 4 && n = 0)

/-- The pad lanes of a gang led by lane n. -/
def gangLanes (m n : Nat) : List Nat := (List.range (mapLinks m)).map (fun k => n + k)

/-- Whether every lane of a gang is set to one class and family (R87). -/
def State.gangUniform (s : State) (tx : Bool) (q : Nat) (l : List Nat) : Bool :=
  l.all (fun n => if tx then
      s.get QUAD.LANE_CFG_TXMODE q n = 1 && s.get QUAD.LANE_CFG_TX_RATE q n = s.get QUAD.LANE_CFG_TX_RATE q (l.headD 0) &&
      s.get QUAD.LANE_CFG_TX_FAM q n = s.get QUAD.LANE_CFG_TX_FAM q (l.headD 0)
    else s.get QUAD.LANE_CFG_RXMODE q n = 1 && s.get QUAD.LANE_CFG_RX_RATE_MASK q n = s.get QUAD.LANE_CFG_RX_RATE_MASK q (l.headD 0))

/-- The links of a VI's gang as configured; detection under 0xF never forms one (R117). -/
def State.viLinks (s : State) (i : Nat) : Nat := if s.laneSdi false i then mapLinks (s.get VIN.CFG_MAPPING i) else 1
/-- The links of a VO's gang as configured. -/
def State.voLinks (s : State) (o : Nat) : Nat := if s.laneSdi true o then mapLinks (s.get VOUT.CFG_MAPPING o) else 1

/-- Whether VI i is a non-lead member of an enabled gang of its quad (R88). -/
def State.viMember (s : State) (i : Nat) : Bool :=
  s.laneSdi false i && (List.range (i % 4)).any (fun k =>
    s.get VIN.CFG_EN (i / 4 * 4 + k) = 1 && k + s.viLinks (i / 4 * 4 + k) > i % 4)
/-- Whether VO o is a non-lead member of an enabled gang of its quad. -/
def State.voMember (s : State) (o : Nat) : Bool :=
  s.laneSdi true o && (List.range (o % 4)).any (fun k =>
    s.get VOUT.CFG_EN (o / 4 * 4 + k) = 1 && k + s.voLinks (o / 4 * 4 + k) > o % 4)

/-- The slices of a VI's links are all in RUN. -/
def State.viSlicesRun (s : State) (i : Nat) : Bool :=
  (gangLanes (if s.viLinks i = 1 then 1 else s.get VIN.CFG_MAPPING i) (i % 4)).all (fun n =>
    s.sliceOf false (i / 4) n < 5 && s.get QUAD.RXSL_STAT_STATE (i / 4) (s.sliceOf false (i / 4) n) = slRUN)

/-! ## States -/

/-- Enters a state of Table 3.2: PRESENT_CHG when PRESENT is entered or left; TRS_LOCK and PID_SEEN clear outside DETECT
and PRESENT; the counts that lead on restart. -/
def State.viEnter (s : State) (i st : Nat) : State :=
  let was := s.get VIN.STAT_STATE i
  if was = st then s
  else
    let s := ((((s.set VIN.STAT_STATE st i).set VIN.HID_TRS 0 i).set VIN.HID_GOOD 0 i).set VIN.HID_BEGUN 0 i).set VIN.HID_NOPID 0 i
    let s := s.set VIN.STAT_TRS_LOCK (flag (st = viDETECT || st = viPRESENT)) i
    let s := if st = viDETECT ∨ st = viPRESENT then s else s.set VIN.STAT_PID_SEEN 0 i
    let s := if st = viPRESENT then (s.set VIN.HID_FRAME 0 i).set VIN.HID_EVER 1 i else s
    let s := s.set VIN.FMT_VALID (flag (st = viPRESENT)) i
    s.raiseIf (was = viPRESENT || st = viPRESENT) .vin i VIN.EV_PRESENT_CHG

/-- TRS missing on 4 consecutive lines, or a slice out of RUN: back to SEARCH (R91). -/
def execTrsMissing (i : Fin 192) (s : State) : Host.Outcome State Fault Refusal :=
  if s.laneSdi false i ∧ (s.get VIN.STAT_STATE i = viDETECT ∨ s.get VIN.STAT_STATE i = viPRESENT) then done (s.viEnter i viSEARCH)
  else done s

/-- The states of the VIs of a quad after a commit of a VIN or QUAD page (Table 3.2, R88): members of a gang GANGED, an
enabled SDI VI out of OFF, a disabled one OFF. -/
def State.viSettle (s : State) (i : Nat) : State :=
  if !s.laneSdi false i then s
  else if s.viMember i then s.viEnter i viGANGED
  else if s.get VIN.CFG_EN i = 0 then s.viEnter i viOFF
  else if s.get VIN.STAT_STATE i = viOFF ∨ s.get VIN.STAT_STATE i = viGANGED then s.viEnter i viSEARCH
  else s

/-- The four VIs of a quad settled. -/
def State.viSettleQuad (s : State) (q : Nat) : State := [0, 1, 2, 3].foldl (fun t n => t.viSettle (4 * q + n)) s

/-- The members of the VO gangs of a quad. -/
def State.voSettleQuad (s : State) (q : Nat) : State :=
  [0, 1, 2, 3].foldl (fun t n => t.set VOUT.STAT_GANGED (flag (t.voMember (4 * q + n))) (4 * q + n)) s

/-- Whether a commit of a VIN page may apply (R86, R87): a listed mapping or 0xF, a gang at its lanes, of one class. -/
def viCommitOk (t : State) (i : Nat) : Bool :=
  let m := t.get VIN.CFG_MAPPING i
  !t.laneSdi false i || t.get VIN.CFG_EN i = 0 || m = 0xF ||
    (m ≤ 8 && gangStart m (i % 4) && (mapLinks m = 1 || t.gangUniform false (i / 4) (gangLanes m (i % 4))))

/-! ## Lines -/

/-- A comet tag (Table 3.3). -/
def cometTag (slot member frame line crc hops : Nat) : Nat :=
  slot % 2 ^ 9 + 2 ^ 9 * (member % 2 ^ 3) + 2 ^ 12 * (frame % 2 ^ 20) + 2 ^ 32 * (line % 2 ^ 13) + 2 ^ 45 * (crc % 2 ^ 32)
    + 2 ^ 77 * (hops % 2 ^ 16)

/-- The size of one ANC buffer: 8 KiB (R101). -/
abbrev ancBuffer : Nat := 8192

/-- The index of the lowest filter of a list that matches a packet, as its ACTION: 1 drops (R102). -/
def State.ancAction (s : State) (i : Nat) (p : AncPacket) : List Nat → Nat
  | [] => 0
  | k :: t =>
    if s.get VIN.ANC_FILT_VALID i k = 1 ∧ s.get VIN.ANC_FILT_DID i k = p.did ∧
        (s.get VIN.ANC_FILT_ANY_SDID i k = 1 ∨ s.get VIN.ANC_FILT_SDID i k = p.sdid)
    then s.get VIN.ANC_FILT_ACTION i k else s.ancAction i p t

/-- One packet of a received line (R100 to R102): ST 352 payloads to PID, other stored packets to the buffer that fills. -/
def State.ancPacket (s : State) (i : Nat) (p : AncPacket) : State :=
  if p.bad && s.get VIN.CFG_KEEP_BAD i = 0 then s.bump VIN.CNT_ANC_DROP i
  else if p.kind = 1 then s.set VIN.PID_WORD p.payload i p.link
  else if p.kind = 2 || s.ancAction i p (List.range 16) = 1 then s
  else if s.get VIN.HID_ANCBYTES i + p.bytes ≤ ancBuffer then
    State.set { s with ess := { s.ess with ancFill := NTable.put s.ess.ancFill i (NTable.getD s.ess.ancFill i [] ++ [p]) } }
      VIN.HID_ANCBYTES (s.get VIN.HID_ANCBYTES i + p.bytes) i
  else (s.bump VIN.CNT_ANC_DROP i).raise .vin i VIN.EV_ANC_OVERFLOW

/-- Whether a channel of a VI is taken: its group present and enabled (R106). -/
def State.viChannel (s : State) (i c : Nat) : Bool := bitOf (s.get VIN.AUD_STAT_PRESENT i) c && bitOf (s.get VIN.AUD_CFG_GROUPS i) (c / 4)

/-- Gives a Cicada source channel its sample; silence is not listed. -/
def State.putSample (s : State) (ch v : Nat) : State :=
  { s with ess := { s.ess with samples := NTable.putD s.ess.samples ch (v % 2 ^ 24) 0 } }

/-- The line checks of R95 and R96: an errored line counts; the frame counts once and raises CRC_ERR once. -/
def State.lineCheck (s : State) (i : Nat) (bad : Bool) : State :=
  if !bad then s
  else
    let s := s.bump VIN.CNT_CRC_LINES i
    if s.get VIN.HID_CRC i = 1 then s
    else ((s.set VIN.HID_CRC 1 i).bump VIN.CNT_CRC_FRAMES i).raise .vin i VIN.EV_CRC_ERR

/-- What a PRESENT VI does with a line (R97 to R108): its line unit with the comet tag, its packets, its samples. -/
def State.lineUnit (s : State) (i : Nat) (f : SdiLine) : State :=
  let s := if f.active then s.set VIN.HID_TAG (cometTag i s.selfId (s.get VIN.HID_FRAME i) f.line f.crc 1) i else s
  let s := f.packets.foldl (fun t p => t.ancPacket i p) s
  let s := f.samples.foldl (fun t e => t.putSample (32 * i + e.1) (if t.viChannel i e.1 then e.2 else 0)) s
  s.bumpBy VIN.CNT_AUD_UNCORR f.audioBad i

/-- A line of a VI carried by SDI is received (R91, R95, R97, R100, R105). -/
def execSdiLineReceived (i : Fin 192) (f : SdiLine) (s : State) : Host.Outcome State Fault Refusal :=
  let st := s.get VIN.STAT_STATE i
  if !s.laneSdi false i then done s
  else if st = viSEARCH then
    (if !f.trs || !s.viSlicesRun i then done (s.set VIN.HID_TRS 0 i)
     else if s.get VIN.HID_TRS i + 1 ≥ 4 then done (s.viEnter i viDETECT)
     else done (s.set VIN.HID_TRS (s.get VIN.HID_TRS i + 1) i))
  else if st = viDETECT then
    done ((f.packets.filter (fun p => p.kind = 1)).foldl (fun t p => t.ancPacket i p) (s.lineCheck i f.crcErr))
  else if st = viPRESENT then
    (if f.fits then done ((s.lineCheck i f.crcErr).lineUnit i f) else done ((s.lineCheck i f.crcErr).viEnter i viDETECT))
  else done s

/-! ## Frames -/

/-- The descriptor of a frame (R86, R92, R93): structure from the signal, the other four fields fixed on class 0, from
FMT_OVR, from ST 352, or from FMT_OVR after 2 frames without ST 352. None while it is not complete. -/
def State.frameDesc (s : State) (i : Nat) (f : SdiFrame) : Option Fmt :=
  let base : Fmt := { raster := f.raster, rate := f.rate, scan := f.scan, sampling := 0, depth := 0, color := 0, transfer := 0,
                      mapping := f.mapping }
  let ovr : Fmt := { base with sampling := s.get VIN.FMT_OVR_SAMPLING i, depth := s.get VIN.FMT_OVR_DEPTH i,
                               color := s.get VIN.FMT_OVR_COLOR i, transfer := s.get VIN.FMT_OVR_TRANSFER i }
  if !f.valid || (s.get VIN.CFG_MAPPING i ≠ 0xF && s.get VIN.CFG_MAPPING i ≠ f.mapping) then none
  else if f.mapping = 0 then some base
  else if s.get VIN.CFG_FMT_OVR_EN i = 1 then some ovr
  else match f.pid with
    | some (a, b, c, d) => some { base with sampling := a, depth := b, color := c, transfer := d }
    | none =>
      if 1 ≤ s.get VIN.HID_NOPID i && s.get VIN.CFG_PID_REQUIRE i = 0 then some ovr else none

/-- PID_MISMATCH (R86, R92): an ST 352 field contradicts the structure, or on class 0 names other values. -/
def pidMismatch (f : SdiFrame) : Bool :=
  f.contradicts || (f.mapping = 0 && match f.pid with
    | some (a, b, c, d) => a ≠ 0 || b ≠ 0 || c ≠ 0 || d ≠ 0
    | none => false)

/-- Black detection at the end of a frame (R110). -/
def State.blackDetect (s : State) (i : Nat) (f : SdiFrame) : State :=
  let k := if s.get VIN.FMT_DEPTH i = 1 then 4 else 1
  let isBlack := f.mean ≤ k * s.get VIN.BLACK_CFG_MEAN i && f.peak ≤ k * s.get VIN.BLACK_CFG_PEAK i
  let n := if isBlack then min 1023 (s.get VIN.HID_BLACK i + 1) else 0
  let c := if isBlack then 0 else min 2 (s.get VIN.HID_NOTBLACK i + 1)
  let was := s.get VIN.STAT_BLACK i
  let now := if max 1 (s.get VIN.BLACK_CFG_FRAMES i) ≤ n then 1 else if 2 ≤ c then 0 else was
  (((s.set VIN.HID_BLACK n i).set VIN.HID_NOTBLACK c i).set VIN.STAT_BLACK now i).raiseIf (was ≠ now) .vin i VIN.EV_BLACK_CHG

/-- Freeze detection at the end of a frame (R111). -/
def State.freezeDetect (s : State) (i : Nat) (f : SdiFrame) : State :=
  let g := 2 ^ 32 + (if s.get VIN.FREEZE_CFG_MODE i = 0 then f.sigExact else f.sigCoarse) % 2 ^ 32
  let n := if s.get VIN.HID_SIG i = g then min 1023 (s.get VIN.HID_SAME i + 1) else 0
  let was := s.get VIN.STAT_FREEZE i
  let now := if n = 0 then 0 else if max 1 (s.get VIN.FREEZE_CFG_FRAMES i) ≤ n then 1 else was
  (((s.set VIN.HID_SIG g i).set VIN.HID_SAME n i).set VIN.STAT_FREEZE now i).raiseIf (was ≠ now) .vin i VIN.EV_FREEZE_CHG

/-- Timecode at the end of a frame (R109): the last value of the type selected, RUNNING while it advances. -/
def State.timecode (s : State) (i : Nat) (f : SdiFrame) : State :=
  match (if s.get VIN.TC_SRC_SEL i = 0 then f.ltc else f.vitc) with
  | none => s.set VIN.TC_RUNNING 0 i
  | some w => ((((s.set VIN.TC_FRAMES (bitsOf w 0 6) i).set VIN.TC_SECONDS (bitsOf w 8 7) i).set VIN.TC_MINUTES (bitsOf w 16 7) i).set
      VIN.TC_HOURS (bitsOf w 24 6) i).set VIN.TC_RUNNING (flag f.tcAdvances) i

/-- The audio found in the frame, of the enabled groups (R105, R106). -/
def State.audioFound (s : State) (i : Nat) (f : SdiFrame) : State :=
  let mask := (List.range 32).foldl (fun n c => n + (if bitOf f.audio c && bitOf (s.get VIN.AUD_CFG_GROUPS i) (c / 4) then 2 ^ c else 0)) 0
  let chg := mask ≠ s.get VIN.AUD_STAT_PRESENT i || f.audioRate % 65536 ≠ s.get VIN.AUD_RATE_RATE i
  ((s.set VIN.AUD_STAT_PRESENT mask i).set VIN.AUD_RATE_RATE (f.audioRate % 65536) i).raiseIf chg .vin i VIN.EV_AUD_CHG

/-- The ANC buffers change places at a frame start (R101). -/
def State.ancSwap (s : State) (i : Nat) : State :=
  State.set { s with ess := { s.ess with
    ancRead := NTable.putD s.ess.ancRead i (NTable.getD s.ess.ancFill i []) [], ancFill := NTable.erase s.ess.ancFill i } }
    VIN.HID_ANCBYTES 0 i

/-- What both kinds of VI do at a frame start while PRESENT (R94, R101, R109 to R111, R116). -/
def State.presentFrame (s : State) (i : Nat) (f : SdiFrame) : State :=
  ((((s.incr VIN.HID_FRAME i).blackDetect i f).freezeDetect i f).timecode i f).ancSwap i

/-- VIN.FMT takes a descriptor; a change raises FMT_CHG and counts. -/
def State.takeDesc (s : State) (i : Nat) (d : Fmt) : State :=
  if s.viFmt i = d then s else ((s.setViFmt i d).bump VIN.CNT_FMT_CHANGES i).raise .vin i VIN.EV_FMT_CHG

/-- The end of a frame in DETECT: a complete frame of the same valid descriptor counts toward the two that lead to
PRESENT; the first to count began after DETECT was entered. -/
def State.detectFrame (s : State) (i : Nat) (f : SdiFrame) : State :=
  let begun := s.get VIN.HID_BEGUN i
  let s' := s.set VIN.HID_BEGUN 1 i
  match s.frameDesc i f with
  | none => s'.set VIN.HID_GOOD 0 i
  | some d =>
    let n := if begun = 1 && f.complete then (if s.get VIN.HID_CAND i = d.word && s.get VIN.HID_GOOD i = 1 then 2 else 1) else 0
    let s' := (s'.set VIN.HID_CAND d.word i).set VIN.HID_GOOD n i
    if n = 2 then ((s'.takeDesc i d).viEnter i viPRESENT).audioFound i f else s'

/-- A frame of a VI starts, and the frame before it ends (R91 to R94, R109 to R111). -/
def execViFrameStart (i : Fin 192) (f : SdiFrame) (s : State) : Host.Outcome State Fault Refusal :=
  let st := s.get VIN.STAT_STATE i
  if !s.laneSdi false i then (if st = viPRESENT then done (s.presentFrame i f) else done s)
  else if st = viDETECT ∨ st = viPRESENT then
    let bad := s.viLinks i ≠ 1 && 2000 < f.skew
    let s := (s.set VIN.STAT_SKEW (if s.viLinks i = 1 then 0 else min 0x1FFF f.skew) i).set VIN.HID_CRC 0 i
    let s := (s.raiseIf (bad && s.get VIN.STAT_SKEW_ERR i = 0) .vin i VIN.EV_SKEW_ERR).set VIN.STAT_SKEW_ERR (flag bad) i
    let s := (s.raiseIf (pidMismatch f) .vin i VIN.EV_PID_MISMATCH).set VIN.STAT_PID_SEEN (flag f.pid.isSome) i
    let s' := s.set VIN.HID_NOPID (if f.pid.isSome then 0 else min 3 (s.get VIN.HID_NOPID i + 1)) i
    if bad then done (s'.viEnter i viSEARCH)
    else if st = viDETECT then done ((s.detectFrame i f).set VIN.HID_NOPID (s'.get VIN.HID_NOPID i) i)
    else
      match s.frameDesc i f with
      | some d => if d = s.viFmt i then done ((s'.presentFrame i f).audioFound i f) else done (s'.viEnter i viDETECT)
      | none => if f.complete && f.pid.isNone && s.get VIN.HID_NOPID i = 0 then done ((s'.presentFrame i f).audioFound i f)
                else done (s'.viEnter i viDETECT)
  else done s

end Sys2Proof.Machine
end

