-- ==== Sys2Proof/Machine/Takes.lean ====
section
/-! DEFINITION. Takes and salvos: the take buffers of the masters, the decision and the commit of a take, a salvo and a
timed salvo (R167 to R173, R377, R534 to R536). -/
namespace Sys2Proof.Machine

/-- No member is named as the destination's: it is on this member. -/
abbrev localMember : Nat := 8

/-- The member of the destination in a master's TAKE_CTL: 8 for this member (R377). -/
def State.takeMember (s : State) (m : Nat) : Nat :=
  if s.get ROUTE.TAKE_CTL_DM_VALID m = 1 ∧ s.get ROUTE.TAKE_CTL_DMEMBER m ≠ s.selfId then s.get ROUTE.TAKE_CTL_DMEMBER m
  else localMember

/-- The frame count modulo 2^20. -/
abbrev frameMod : Nat := 1048576

/-- The frame on which a take committed now acts on a destination: the next, or the one after where tCUT has passed
(R168). -/
def State.takeFrame (s : State) (dst : Nat) (pastCut : Bool) : Nat :=
  if dst < 192 then (s.get VOUT.FRAME_CNT_COUNT dst + (if pastCut then 2 else 1)) % frameMod else 0

/-- The later of two frame counts of one rate. -/
def laterFrame (a b : Nat) : Nat := if (b + frameMod - a) % frameMod < frameMod / 2 then b else a

/-- Puts a path as the pending take of a destination: a later commit cancels an earlier one (R170). -/
def placePending (dst w0 frame origin : Nat) (st : State) (p : Path) : State :=
  { st with video := { st.video with pend := NTable.put st.video.pend dst { path := some p, w0 := w0, frame := frame, origin := origin } } }

/-- An unrouting take pending on a destination. -/
def State.placeUnroute (s : State) (dst w0 frame origin : Nat) : State :=
  { s with video := { s.video with pend := NTable.put s.video.pend dst { path := none, w0 := w0, frame := frame, origin := origin } } }

/-- The formation step of R45 for a part on another member (Table 13.3): what this device knows of it, then what that
member's ledger answers. -/
def State.peerCode (s : State) (mem : Nat) (reply : Nat) : Nat :=
  if s.formationCode mem ≠ 0 then s.formationCode mem else reply

/-- The decision of one take of a master from the form on (R45 steps 3 to 8): the code, and the state with the take placed as
pending on its destination. -/
def State.decideTake (s : State) (dst w0 dmember frame : Nat) (f : TakeFacts) : Nat × State :=
  let c3 := formCode dst w0
  if c3 ≠ 0 then (c3, s)
  else if dmember ≠ localMember then (s.peerCode dmember f.reply, s)
  else if !bitOf w0 31 then (0, s.placeUnroute dst w0 frame s.selfId)
  else
    let c4 := if s.remote (bitsOf w0 9 3) then s.peerCode (bitsOf w0 9 3) f.reply else 0
    if c4 ≠ 0 then (c4, s)
    else if isTap dst then
      let r := s.decideTap w0 (placePending dst w0 frame s.selfId)
      (r.1, r.2.2)
    else
      let r := s.decidePath { dst := dst, w0 := w0, facts := f.lock, isFallback := false } (placePending dst w0 frame s.selfId)
      (r.1, r.2.2)

/-- A master's RESP after a decision: the code, the index, DONE (R406). -/
def State.setResp (s : State) (m code index : Nat) : State :=
  (((s.set ROUTE.RESP_CODE code m).set ROUTE.RESP_INDEX index m).set ROUTE.RESP_DONE 1 m).set ROUTE.RESP_BUSY 0 m

/-- The member of the part of a take that fails (R377): the destination's, or the source's where its answer refuses. -/
def State.failMember (s : State) (w0 dmember : Nat) (f : TakeFacts) : Nat :=
  let src := bitsOf w0 9 3
  if dmember ≠ localMember then dmember
  else if bitOf w0 31 && s.remote src && s.peerCode src f.reply ≠ 0 then src
  else s.selfId

/-- MESHCTL.SALVO_MEMBER: the member of the first failing part. -/
def State.setFailMember (s : State) (m : Nat) : State := s.set MESHCTL.SALVO_MEMBER_MEMBER m

/-- A refusal in a master's RESP and in the counters of the ROUTE and LEDGER pages. -/
def State.refuseTake (s : State) (m code index : Nat) : State :=
  ((s.setResp m code index).bump ROUTE.CNT_REFUSALS).noteRefusal code index m .route 0

/-- A destination's route entry shows a committed take that has not acted. -/
def State.markPending (s : State) (dst : Nat) : State := s.set RTE.W1_PENDING 1 dst

/-- The state after the decision of a single take: committed with RESP, the counters and PENDING, or refused with nothing
changed but the answer (R46, R168). -/
def State.submitTake (s : State) (m dst w0 dmember : Nat) (f : TakeFacts) : State :=
  let c0 := s.gate .route 0
  if c0 ≠ 0 then s.refuseTake m c0 0
  else
    let r := s.decideTake dst w0 dmember (s.takeFrame dst f.pastCut) f
    if r.1 ≠ 0 then (s.refuseTake m r.1 0).setFailMember (s.failMember w0 dmember f)
    else
      let t := if dmember = localMember then r.2.markPending dst else r.2
      ((t.setResp m 0 0).bump ROUTE.CNT_TAKES).noteDecision 0 0 m .route 0 |>.release

/-- A write of TAKE_CTL with GO and without BATCH (R168); with BATCH the row TAKE_HOLD has the meaning. -/
def execTake (m : Fin 7) (v : Word) (f : TakeFacts) (s : State) : Host.Outcome State Fault Refusal :=
  done (s.withWrite m .route 0 0x048 v.toNat (fun t =>
    if bitOf v.toNat 0 && !bitOf v.toNat 1 then
      t.submitTake m (t.get ROUTE.TAKE_DST_SLOT m) (t.get ROUTE.TAKE_ENTRY_W0 m) (t.takeMember m) f
    else t))

/-- The takes a master holds. -/
def State.heldTakes (s : State) (m : Nat) : List HeldTake := NTable.getD s.video.held m []

/-- The state with a master's buffer and its HELD count set. -/
def State.setHeld (s : State) (m : Nat) (l : List HeldTake) : State :=
  State.set { s with video := { s.video with held := NTable.putD s.video.held m l [] } } ROUTE.SALVO_CTL_HELD l.length m

/-- The takes a buffer holds at most (R171). -/
abbrev salvoSize : Nat := 512

/-- Holds a take; a 513th is refused with 0x12 and INDEX 512, the buffer left as it was (R171). -/
def State.holdTake (s : State) (m : Nat) : State :=
  let l := s.heldTakes m
  if l.length < salvoSize then
    s.setHeld m (l ++ [{ dst := s.get ROUTE.TAKE_DST_SLOT m, w0 := s.get ROUTE.TAKE_ENTRY_W0 m, dmember := s.takeMember m }])
  else s.refuseTake m 0x12 512

/-- A write of TAKE_CTL with GO and BATCH holds the take in the writing master's buffer (R167). -/
def execTakeHold (m : Fin 7) (v : Word) (s : State) : Host.Outcome State Fault Refusal :=
  done (s.withWrite m .route 0 0x048 v.toNat (fun t => if bitOf v.toNat 0 && bitOf v.toNat 1 then t.holdTake m else t))

/-! ## Salvos -/

/-- Whether a later take of a list names the same destination: the take is superseded (R171). -/
def superseded (h : HeldTake) (rest : List HeldTake) : Bool := rest.any (fun x => x.dst = h.dst && x.dmember = h.dmember)

/-- The facts of a take that the environment gave none for: no lock, tCUT not passed, no answer of a peer. -/
def noFacts : TakeFacts := { lock := { lead := 9, traces := false }, pastCut := false, reply := 0 }

/-- Decides the takes of a salvo in their order, superseded ones skipped: the first failing code with its index, and the
state with every take placed. -/
def State.decideSalvo (s : State) (i : Nat) : List HeldTake → List TakeFacts → Nat × Nat × State
  | [], _ => (0, 0, s)
  | h :: t, fs =>
    if superseded h t then s.decideSalvo (i + 1) t fs.tail
    else
      let f := fs.headD noFacts
      let r := s.decideTake h.dst h.w0 h.dmember (s.takeFrame h.dst f.pastCut) f
      if r.1 ≠ 0 then (r.1, i, s) else r.2.decideSalvo (i + 1) t fs.tail

/-- The rate of a destination, for the groups of R172: of a test tap the rate it reads. -/
def State.destRate (s : State) (h : HeldTake) : Nat :=
  if h.dst < 192 then s.get VOUT.FMT_RATE h.dst else (s.sourceFmt (bitsOf h.w0 0 9) (bitsOf h.w0 9 3) 0).rate

/-- The frame of a rate group: the first whose tCUT on every output of the group has not passed (R172). -/
def State.groupFrame (s : State) (l : List (HeldTake × TakeFacts)) (rate : Nat) : Nat :=
  match (l.filter (fun e => e.1.dst < 192 && s.destRate e.1 = rate)).map (fun e => s.takeFrame e.1.dst e.2.pastCut) with
  | [] => 0
  | x :: t => t.foldl laterFrame x

/-- The takes that act, each with its facts. -/
def actingTakes : List HeldTake → List TakeFacts → List (HeldTake × TakeFacts)
  | [], _ => []
  | h :: t, fs =>
    if superseded h t || h.dmember ≠ localMember then actingTakes t fs.tail else (h, fs.headD noFacts) :: actingTakes t fs.tail

/-- Gives every pending take of a salvo the frame of its rate group, and marks its route entry. -/
def State.groupFrames (s : State) (l : List (HeldTake × TakeFacts)) : State :=
  l.foldl (fun t e =>
    match NTable.find t.video.pend e.1.dst with
    | none => t
    | some p =>
      let q := { p with frame := s.groupFrame l (s.destRate e.1) }
      State.markPending { t with video := { t.video with pend := NTable.put t.video.pend e.1.dst q } } e.1.dst) s

/-- The instant of a timed salvo in system time nanoseconds. -/
def State.salvoAt (s : State) (m : Nat) : Nat := s.get ROUTE.SALVO_AT_S_SECONDS m * 1000000000 + s.get ROUTE.SALVO_AT_NS_NS m
/-- System time in nanoseconds, of the seconds the 32-bit register names. -/
def State.nowNs (s : State) : Nat := s.sysSeconds % 2 ^ 32 * 1000000000 + s.sysNs

/-- The salvo-wide checks of R45 and R173: the timed instant at least 1 ms after the decision (0x27), a destination on
another member only when timed (0x79). -/
def State.salvoCode (s : State) (m : Nat) (timed : Bool) (l : List HeldTake) : Nat :=
  let c0 := s.gate .route 0
  if c0 ≠ 0 then c0
  else if timed && s.salvoAt m < s.nowNs + 1000000 then 0x27
  else if !timed && l.any (fun h => h.dmember ≠ localMember) then 0x79
  else 0

/-- Moves the pending takes of a timed salvo from the destinations to its record: they are charged and not committed, and
what was pending before stays (R173). -/
def State.setTimed (s old : State) (m : Nat) (l : List (HeldTake × TakeFacts)) : State :=
  let takes := l.filterMap (fun e => (NTable.find s.video.pend e.1.dst).map (fun p => (e.1.dst, p)))
  let z : TimedSalvo := { master := m, seconds := s.get ROUTE.SALVO_AT_S_SECONDS m, ns := s.get ROUTE.SALVO_AT_NS_NS m,
                          takes := takes }
  { s with video := { s.video with pend := old.video.pend, timed := s.video.timed ++ [z] } }

/-- One raise of each count of takes. -/
def State.countTakes (s : State) (n : Nat) : State := s.bumpBy ROUTE.CNT_TAKES n

/-- Commits a master's buffer as one salvo (R171 to R173, R536): all of its takes or none. The buffer is empty after a GO,
admitted or refused. (DEDUCED, assumption 12.) -/
def State.submitSalvo (s : State) (m : Nat) (timed : Bool) (fs : List TakeFacts) : State :=
  let l := s.heldTakes m
  if l = [] then s.raise .route 0 ROUTE.EV_TRIG_EMPTY
  else
    let c := s.salvoCode m timed l
    if c ≠ 0 then (s.refuseTake m c 0).setHeld m []
    else
      let r := s.decideSalvo 0 l fs
      if r.1 ≠ 0 then
        (match l[r.2.1]? with
         | none => (s.refuseTake m r.1 r.2.1).setHeld m []
         | some h => ((s.refuseTake m r.1 r.2.1).setHeld m []).setFailMember (r.2.2.failMember h.w0 h.dmember (fs.getD r.2.1 noFacts)))
      else
        let acting := actingTakes l fs
        let t := if timed then (r.2.2.setTimed s m acting).set ROUTE.RESP_WAITING 1 m
                 else (r.2.2.groupFrames acting).countTakes acting.length
        ((((t.setResp m 0 0).bump ROUTE.CNT_SALVOS).noteDecision 0 0 m .route 0).setHeld m []).release

/-- A write of SALVO_CTL.GO (R171). -/
def execSalvoGo (m : Fin 7) (v : Word) (f : List TakeFacts) (s : State) : Host.Outcome State Fault Refusal :=
  done (s.withWrite m .route 0 0x04C v.toNat (fun t =>
    if bitOf v.toNat 0 then t.submitSalvo m (bitOf v.toNat 2) f else t))

/-- Discards a master's held takes; its TAKE and SALVO copies return to their reset values (R167, R534). -/
def State.discardHeld (s : State) (m : Nat) : State :=
  let s := s.setHeld m []
  (((((s.set ROUTE.TAKE_DST_SLOT 0 m).set ROUTE.TAKE_ENTRY_W0 0x0A088000 m).set ROUTE.TAKE_CTL_BATCH 0 m).set
    ROUTE.TAKE_CTL_DMEMBER 0 m).set ROUTE.TAKE_CTL_DM_VALID 0 m).set ROUTE.SALVO_CTL_TIMED 0 m

/-- A write of SALVO_CTL.ABORT (R167). -/
def execSalvoAbort (m : Fin 7) (s : State) : Host.Outcome State Fault Refusal :=
  done (s.withCheck m .route 0 0x04C 2 (fun t => t.discardHeld m))

/-- Commits the takes of an admitted timed salvo: each becomes the pending take of its destination (R170, R173), on the
frame of its rate group; `late` names the destinations whose tCUT of the next boundary has passed. -/
def State.commitTimed (s : State) (z : TimedSalvo) (late : List Nat) : State :=
  let held := z.takes.map (fun e => (({ dst := e.1, w0 := e.2.w0, dmember := localMember } : HeldTake),
    ({ noFacts with pastCut := late.contains e.1 } : TakeFacts)))
  let t := z.takes.foldl (fun (u : State) e => { u with video := { u.video with pend := NTable.put u.video.pend e.1 e.2 } })
    { s with video := { s.video with timed := s.video.timed.filter (fun x => x ≠ z) } }
  ((t.groupFrames held).countTakes z.takes.length).set ROUTE.RESP_WAITING
    (flag (t.video.timed.any (fun x => x.master = z.master))) z.master

/-- The commit instant of the first admitted timed salvo of a master is reached (R173). -/
def execTimedSalvoCommit (m : Fin 7) (late : List Nat) (s : State) : Host.Outcome State Fault Refusal :=
  match s.video.timed.find? (fun z => z.master = m.val) with
  | none => done s
  | some z => done (s.commitTimed z late).release

/-- A rising edge on a GPIO set as an input acts as SALVO_CTL.GO of every master whose SALVO_TRIG names it, in the order of
master ID; while a decision runs it is ignored with TRIG_IGNORED (R536). -/
def State.trigEdge (s : State) (g : Nat) (fs : List TakeFacts) : List Nat → State
  | [] => s
  | m :: t =>
    let s := if s.get ROUTE.SALVO_TRIG_EN m = 1 ∧ s.get ROUTE.SALVO_TRIG_GPIO m = g then
        (if s.get ROUTE.RESP_BUSY m = 1 then s.raise .route 0 ROUTE.EV_TRIG_IGNORED
         else s.submitSalvo m (s.get ROUTE.SALVO_CTL_TIMED m = 1) fs)
      else s
    s.trigEdge g fs t

/-- The GPIO edge of R536, on a pin set as an input. -/
def execSalvoTrigEdge (g : Fin 32) (f : List TakeFacts) (s : State) : Host.Outcome State Fault Refusal :=
  if bitOf (s.get GPIO.DIR_OUT_EN) g then done s else done (s.trigEdge g f (List.range 7))

end Sys2Proof.Machine
end

