-- ==== Sys2Proof/Machine/Moves.lean ====
section
/-! DEFINITION. Moving what an admitted path holds: allocations between quadrants (R206 to R208), engine streams between
engines (R249 to R252), the quality ladder (R242 to R244), the order of shedding (R402), and relief under ledger pressure
(R243). -/
namespace Sys2Proof.Machine

/-- Device's own mark of a shedding due on an output at its next boundary: 1 its twin half, 2 its second copy. -/
def VOUT.HID_SHED : Field := ⟨.vout, 0x1134, 0, 2, .const 0⟩

/-! ## Allocations -/

/-- An allocation changed. -/
def State.setAlloc (s : State) (id : Nat) (a : Alloc) : State :=
  { s with video := { s.video with allocs := NTable.put s.video.allocs id a } }

/-- Whether an allocation has a part on a channel. -/
def Alloc.onChannel (a : Alloc) (c : Nat) : Bool := a.sets.any (fun l => l.contains c)

/-- Whether no allocation has a part on a channel. -/
def State.channelEmpty (s : State) (c : Nat) : Bool := !s.video.allocs.any (fun e => e.2.onChannel c)

/-- An allocation flips to its new home (R207): the old home is released. -/
def State.flipAlloc (s : State) (id : Nat) : State :=
  match NTable.find s.video.allocs id with
  | none => s
  | some a =>
    match a.moveTo with
    | none => s
    | some q =>
      let s := s.setAlloc id { a with quad := q, moveTo := none, proved := 0, sets := s.layOut a.kind q (max 1 a.sets.length) id }
      (s.bump SYNCMGR.CNT_MIGRATIONS).raise .syncmgr 0 SYNCMGR.EV_MIGR_DONE

/-- Starts the moves of a plan (R206): the new homes are charged. Kinds that flip at a packet or sample frame flip at once;
stores flip at a frame boundary after their proof. -/
def State.startMoves (s : State) : List (Nat × Nat) → State
  | [] => s
  | (id, q) :: t =>
    match NTable.find s.video.allocs id with
    | none => s.startMoves t
    | some a =>
      let s := s.setAlloc id { a with moveTo := some q, proved := 0 }
      (if a.kind = .sync || a.kind = .engine then s else s.flipAlloc id).startMoves t

/-- Lays out afresh, over the channels that remain, every allocation of a quadrant that has a part on a channel and does
not move away (R206). -/
def State.relayout (s : State) (c : Nat) : State :=
  { s with video := { s.video with allocs := s.video.allocs.map (fun e =>
      if e.2.onChannel c && e.2.moveTo.isNone then
        (e.1, { e.2 with sets := (s.layOut e.2.kind e.2.quad (max 1 e.2.sets.length) e.1).map (fun l => l.filter (fun k => k ≠ c)) })
      else e) } }

/-- How many moves are in progress. -/
def State.countMoves (s : State) : State :=
  s.set SYNCMGR.MIGR_STAT_ACTIVE (s.video.allocs.filter (fun e => e.2.moveTo.isSome)).length

/-- Device's own record of the quadrant of the evacuation that runs. -/
def SYNCMGR.HID_EVACQ : Field := ⟨.syncmgr, 0x1100, 0, 2, .const 0⟩
/-- Device's own record of the cluster of the evacuation that runs. -/
def CE.HID_EVACC : Field := ⟨.ce, 0x1108, 0, 2, .const 0⟩

/-- An evacuation ends when its quadrant is empty (R213). -/
def State.evacDone (s : State) : State :=
  let q := s.get SYNCMGR.HID_EVACQ
  if s.get SYNCMGR.EVAC_BUSY = 1 ∧ !s.video.allocs.any (fun e => e.2.quad = q) then
    ((s.set SYNCMGR.EVAC_BUSY 0).set SYNCMGR.EVAC_DONE 1).raise .syncmgr 0 SYNCMGR.EV_EVAC_DONE
  else s

/-- Health of a channel (Table 6.8). -/
abbrev chGOOD : Nat := 0
abbrev chWATCH : Nat := 1
abbrev chFAILING : Nat := 2
abbrev chDEAD : Nat := 3

/-- A memory channel as a repair unit. -/
def chUnit (c : Nat) : UnitId := ⟨.memch, c, 0⟩

/-- A FAILING or DEAD channel with no allocation left enters ISOLATED and then TEST (R209). -/
def State.emptyChannel (s : State) (c : Nat) : State :=
  if 2 ≤ s.get MEMCH.CH_STAT_HEALTH c ∧ (s.unit (chUnit c) = uRUN ∨ s.unit (chUnit c) = uISOLATED) ∧ s.channelEmpty c then
    let s := (s.raise .memch c MEMCH.EV_MIGRATE_DONE).isolateUnit (chUnit c) 3
    let s := s.retireIfLimit (chUnit c)
    if s.unit (chUnit c) = uRETIRED then s else s.setUnit (chUnit c) uTEST
  else s

/-- What follows any flip or release of allocations: the counts, evacuations and emptied channels. -/
def State.settleMoves (s : State) : State :=
  (List.range 32).foldl (fun t c => t.emptyChannel c) s.countMoves.evacDone

/-- The proof of the moves of a path's stores at a boundary (R207): 1 one more frame agreed, and after two the flip; 2 the
flip at once; 3 PROVE_FAIL and the proof begins again. -/
def State.proveAlloc (s : State) (id proof : Nat) : State :=
  match NTable.find s.video.allocs id with
  | none => s
  | some a =>
    if a.moveTo.isNone then s
    else if proof = 2 ∨ 2 ≤ a.proved then s.flipAlloc id
    else if proof = 1 then s.setAlloc id { a with proved := a.proved + 1 }
    else if proof = 3 then ((s.setAlloc id { a with proved := 0 }).bump SYNCMGR.CNT_PROVE_FAIL).raise .syncmgr 0 SYNCMGR.EV_PROVE_FAIL
    else s

/-! ## Streams -/

/-- A stream changed. -/
def State.setStream (s : State) (n : Nat) (x : Stream) : State :=
  { s with video := { s.video with streams := NTable.put s.video.streams n x } }

/-- A path with one stream's number replaced by another. -/
def Path.renumber (p : Path) (old new : Nat) : Path :=
  { p with stream := p.stream.map (fun n => if n = old then new else n), stream2 := p.stream2.map (fun n => if n = old then new else n) }

/-- A pending take with one stream's number replaced. -/
def PendingTake.renumber (t : PendingTake) (old new : Nat) : PendingTake := { t with path := t.path.map (fun p => p.renumber old new) }

/-- Gives a stream another number wherever it is named: it runs on another engine. -/
def State.renumber (s : State) (old new : Nat) : State :=
  match NTable.find s.video.streams old with
  | none => s
  | some x =>
    let g := x.gang.map (fun e => if e = old / 4 then new / 4 else e)
    let y : Stream :=
      { x with gang := g, moveTo := none, moveGang := [], proved := 0, disagree := false, fallback := false, failed := false }
    { s with video := { s.video with
        streams := NTable.put (NTable.erase s.video.streams old) new y
        active := s.video.active.map (fun e => (e.1, e.2.renumber old new))
        pend := s.video.pend.map (fun e => (e.1, e.2.renumber old new))
        fallback := s.video.fallback.map (fun e => (e.1, e.2.renumber old new))
        fallbackOld := s.video.fallbackOld.map (fun e => (e.1, e.2.renumber old new))
        fades := s.video.fades.map (fun e => (e.1, { e.2 with take := e.2.take.map (fun t => t.renumber old new) }))
        timed := s.video.timed.map (fun z => { z with takes := z.takes.map (fun e => (e.1, e.2.renumber old new)) }) } }

/-- The streams that run on an engine, as lead or alone. -/
def State.streamsOn (s : State) (ce : Nat) : List Nat := (s.video.streams.filter (fun e => e.1 / 4 = ce)).map (·.1)

/-- A stream moved to an engine, under its own number there or the first free one. -/
def State.moveStream (s : State) (n ce : Nat) : State :=
  match s.freeStream ce with
  | none => s
  | some k => s.renumber n (4 * ce + (if (NTable.find s.video.streams (4 * ce + n % 4)).isNone then n % 4 else k))

/-- MIGRATED on an engine's page. -/
def State.migrated (s : State) (ce : Nat) : State := s.raise .ce ce CE.EV_MIGRATED

/-- The step a stream may run at (Table 7.9): its admitted step, no better than BLEND at T2 or under a vector fault, DROP
at T5. -/
def State.stepOf (s : State) (x : Stream) : Nat :=
  let st := s.get THERMAL.STAT_STAGE
  let q := if 2 ≤ st || x.vecFault then max x.qadm 1 else x.qadm
  if 5 ≤ st then max q 2 else q

/-- A stream's running step changed, with STEP_DOWN or STEP_UP (R242). -/
def State.stepTo (s : State) (n : Nat) (x : Stream) (q : Nat) : State :=
  ((s.setStream n { x with qnow := q, vectors := 0 }).bump CE.CNT_STEPS (n / 4)).raise .ce (n / 4)
    (if x.qnow < q then CE.EV_STEP_DOWN else CE.EV_STEP_UP)

/-- The output frames of a stream in which its lost stores are rebuilt: 3 input frames (R239). -/
def Stream.rebuildFrames (x : Stream) : Nat := ceilDiv (3 * rate1001 x.outFmt.rate) (max 1 (rate1001 x.inFmt.rate))

/-- The ladder of a stream at an output frame boundary (R242, R244): a step down or back to BLEND or DROP at once, a step up
to MC after 2 frames of vectors; a vector fault ends once its stores are rebuilt (Table 7.9). -/
def State.ladder (s : State) (n : Nat) : State :=
  match NTable.find s.video.streams n with
  | none => s
  | some x =>
    let q := s.stepOf x
    if q = x.qnow then
      (if !x.vecFault then s
       else if x.vectors + 1 < x.rebuildFrames then s.setStream n { x with vectors := x.vectors + 1 }
       else s.setStream n { x with vecFault := false, vectors := 0 })
    else if q = 0 ∧ x.vectors < 2 then s.setStream n { x with vectors := x.vectors + 1 }
    else s.stepTo n x q

/-- What a stream shows of the output frame built at a boundary: its latency and FRAME (Table 7.15). -/
def State.noteFrame (s : State) (n latency frame : Nat) : State :=
  match NTable.find s.video.streams n with
  | none => s
  | some x => s.setStream n { x with latency := latency % 65536, frame := frame }

/-- A stream flips to the engine of its soft move (R250): a spare is assigned by it; a SUSPECT engine left without streams is
self-tested. -/
def State.flipStream (s : State) (n ce : Nat) : State :=
  let old := n / 4
  let s := match NTable.find s.video.streams n with
    | none => s
    | some x => if x.moveGang = [] then s else s.setStream n { x with gang := x.moveGang.map (fun e => if e = ce then old else e) }
  let s := s.moveStream n ce
  let s := if s.unit ⟨.ce, ce, 0⟩ = uSPARE then s.setUnit ⟨.ce, ce, 0⟩ uRUN else s
  let s := ((s.migrated old).migrated ce).logStep ⟨.ce, ce, 0⟩ stMIGRATE 0 0 0 noSlot 0 old
  if s.get CE.ENG_STAT_SUSPECT old = 1 ∧ s.streamsOn old = [] ∧ s.unit ⟨.ce, old, 0⟩ = uRUN then
    (s.set CE.ENG_STAT_SUSPECT 0 old).setUnit ⟨.ce, old, 0⟩ uTEST
  else s

/-- The proof of a soft move at a boundary of an output of its stream (R250): the flip after 2 agreeing frames; a first
disagreement proves once more, a second flips and isolates the old engine. -/
def State.proveStream (s : State) (n proof : Nat) : State :=
  match NTable.find s.video.streams n with
  | none => s
  | some x =>
    match x.moveTo with
    | none => s
    | some ce =>
      if 2 ≤ x.proved ∨ proof = 2 then s.flipStream n ce
      else if proof = 1 then s.setStream n { x with proved := x.proved + 1 }
      else if proof = 3 then
        (if x.disagree then (s.flipStream n ce).isolateUnit ⟨.ce, n / 4, 0⟩ 1
         else s.setStream n { x with disagree := true, proved := 0 })
      else s

/-- An evacuation of a cluster ends when it carries no stream (R253). -/
def State.ceEvacDone (s : State) : State :=
  let c := s.get CE.HID_EVACC
  if s.get CE.EVAC_BUSY = 1 ∧ !s.video.streams.any (fun e => clusterOf (e.1 / 4) = c) then
    ((s.set CE.EVAC_BUSY 0).set CE.EVAC_DONE 1).raise .ce 0 CE.EV_EVAC_DONE
  else s

/-- The moves of a path's stores and streams at a boundary. -/
def State.proveMoves (s : State) (p : Path) (proof : Nat) : State :=
  let ids := p.stores ++ (p.streams.filterMap (fun n => (NTable.find s.video.streams n).map (fun (x : Stream) => x.store)))
  let s := ids.foldl (fun t id => t.proveAlloc id proof) s
  let s := p.streams.foldl (fun t n => t.proveStream n proof) s
  if ids.any (fun id => (NTable.find s.video.allocs id).isNone) then s else s.settleMoves.ceEvacDone

/-- The spare that takes an engine's streams (R249): its own cluster's, else a free spare of another cluster, lowest first;
a gang's only from its own cluster (R251). -/
def State.spareFor (s : State) (ce : Nat) (gang : Bool) : Option Nat :=
  let own := (List.range 36).filter (fun e => clusterOf e = clusterOf ce && e ≠ ce && s.freeSpare e)
  let other := (List.range 36).filter (fun e => clusterOf e ≠ clusterOf ce && s.freeSpare e)
  match own with
  | e :: _ => some e
  | [] => if gang then none else other.head?

/-- Marks the streams of an engine as carried on their fallback (R32), with GANG_FAIL for a gang; `failed` where the engine has
failed, so that another may take them (R251). -/
def State.fallBack (s : State) (ce : Nat) (failed : Bool := false) : State :=
  let l := (s.video.streams.filter (fun e => e.1 / 4 = ce || e.2.gang.contains ce)).map (·.1)
  l.foldl (fun t n => match NTable.find t.video.streams n with
    | none => t
    | some x => (t.setStream n { x with fallback := true, failed := failed }).raiseIf (x.gang ≠ []) .ce ce CE.EV_GANG_FAIL) s

/-- A gang with one engine replaced. -/
def State.gangReplace (s : State) (old new : Nat) : State :=
  { s with video := { s.video with streams := s.video.streams.map (fun e =>
      (e.1, { e.2 with gang := e.2.gang.map (fun k => if k = old then new else k) })) } }

/-- All streams of an engine taken at once by a spare (R249): the spare is assigned, and the streams keep their stores. -/
def State.takeOver (s : State) (ce sp : Nat) : State :=
  let s := (s.gangReplace ce sp).setUnit ⟨.ce, sp, 0⟩ uRUN
  let s := (s.streamsOn ce).foldl (fun t n => t.moveStream n sp) s
  ((s.migrated ce).migrated sp).logStep ⟨.ce, sp, 0⟩ stMIGRATE 0 0 0 noSlot 0 ce

/-- Begins the soft move of one stream to an engine. -/
def State.softMove (s : State) (n ce : Nat) (gang : List Nat) : State :=
  match NTable.find s.video.streams n with
  | none => s
  | some x => s.setStream n { x with moveTo := some ce, moveGang := gang, proved := 0, disagree := false }

/-- Begins the soft moves of every stream of a SUSPECT engine to a spare, if one is free (R242, R250). -/
def State.softMoves (s : State) (ce : Nat) : State :=
  let gang := s.video.streams.any (fun e => e.2.gang.contains ce)
  match s.spareFor ce gang with
  | none => s
  | some sp => (s.streamsOn ce).foldl (fun t n => t.softMove n sp []) s

/-- A stream on its fallback resumes (R32, R251): on its own engine back in RUN; where that engine starts as the spare, on another
under R221; where it has failed, on a free spare or on an assignable engine that shedding freed, with SHED_TAKEOVER; a gang on a
spare of its own cluster. -/
def State.resumeOne (s : State) (shed : Bool) (n : Nat) : State :=
  match NTable.find s.video.streams n with
  | none => s
  | some x =>
    if !x.fallback then s
    else if x.gang ≠ [] then
      let bad := x.gang.filter (fun e => s.unit ⟨.ce, e, 0⟩ ≠ uRUN)
      match bad with
      | [] => s.setStream n { x with fallback := false, failed := false }
      | [e] => (match (if x.failed then s.spareFor e true else none) with
        | none => s
        | some sp => ((s.setStream n { x with fallback := false, failed := false }).takeOver e sp))
      | _ => s
    else if s.unit ⟨.ce, n / 4, 0⟩ = uRUN then s.setStream n { x with fallback := false, failed := false }
    else if s.unit ⟨.ce, n / 4, 0⟩ = uSPARE then
      (match s.placeEngine x.shares [] false with
        | some e => (s.moveStream n e).migrated e
        | none => s)
    else if !x.failed then s
    else
      let free := (List.range 36).filter (fun e => s.freeSpare e || (shed && s.assignable e && s.engineShares e + x.shares ≤ 4))
      match free with
      | [] => s
      | e :: _ =>
        let s := if s.unit ⟨.ce, e, 0⟩ = uSPARE then s.setUnit ⟨.ce, e, 0⟩ uRUN else s
        ((s.moveStream n e).migrated e).raiseIf shed .ce e CE.EV_SHED_TAKEOVER

/-- Every stream on its fallback that can resume does. -/
def State.resumeStreams (s : State) (shed : Bool) : State :=
  ((s.video.streams.filter (fun e => e.2.fallback)).map (·.1)).foldl (fun t n => t.resumeOne shed n) s

/-! ## Shedding -/

/-- Whether an output carries nothing: unrouted, or its source not present (Table 14.5). -/
def State.carriesNothing (s : State) (p : Path) : Bool := !s.pathPresent p

/-- The order of an output's next shedding (Table 14.5): 1 a twin of an output that carries nothing, 2 a second copy, 3 a
twin; 0 nothing left. -/
def State.shedOrder (s : State) (o : Nat) (p : Path) : Nat :=
  if s.get VOUT.HID_SHED o ≠ 0 || !p.twin then 0
  else if s.carriesNothing p then 1
  else if p.p2 && 2 ≤ p.links.length then 2
  else 3

/-- Picks the better of two candidates: lower order, then lower PRIO, then the higher slot (R402). -/
def shedBetter (prio : Nat → Nat) (a b : Nat × Nat) : Nat × Nat :=
  if a.2 < b.2 then a else if b.2 < a.2 then b
  else if prio a.1 < prio b.1 then a else if prio b.1 < prio a.1 then b
  else if a.1 < b.1 then b else a

/-- The next output to shed, with the order of its item, among those a test admits. -/
def State.shedNext (s : State) (ok : Nat → Path → Bool) : Option (Nat × Nat) :=
  let l := s.video.active.filterMap (fun e => if e.1 < 192 ∧ s.shedOrder e.1 e.2 ≠ 0 ∧ ok e.1 e.2 then some (e.1, s.shedOrder e.1 e.2) else none)
  match l with
  | [] => none
  | x :: t => some (t.foldl (shedBetter (fun o => s.get REPAIR.PROT_CFG_PRIO 0 o)) x)

/-- Marks one more item to shed, at its output's next boundary (R402, R403). -/
def State.shedOne (s : State) (ok : Nat → Path → Bool) : State :=
  match s.shedNext ok with
  | none => s
  | some (o, k) => s.set VOUT.HID_SHED (if k = 2 then 2 else 1) o

/-! ## Relief under ledger pressure -/

/-- Whether relief may take from an allocation: any while the device figure is exceeded, else only those homed in a pressed
quadrant (R243). -/
def State.reliefQuad (s : State) (id : Nat) : Bool :=
  s.deviceFigure < totalBw s.video.allocs ||
  (match NTable.find s.video.allocs id with | none => false | some a => s.quadPressed a.quad)

/-- The stream of a step to lower first: lowest PRIORITY, then the highest destination (Table 7.10). -/
def State.reliefNext (s : State) (q : Nat) : Option (Nat × Stream) :=
  let prio (x : Stream) : Nat := s.get CE.PROF0_PRIORITY 0 x.profile
  match s.video.streams.filter (fun e => e.2.qadm = q && stage4 e.2.inFmt e.2.outFmt && s.reliefQuad e.2.store) with
  | [] => none
  | x :: t => some (t.foldl (fun a b => if prio b.2 < prio a.2 || (prio b.2 = prio a.2 && a.2.dst < b.2.dst) then b else a) x)

/-- A stream's admitted step changed, with its store's bandwidth charge (R244). -/
def State.admitStep (s : State) (n : Nat) (x : Stream) (q : Nat) : State :=
  let s := match NTable.find s.video.allocs x.store with
    | none => s
    | some a => s.setAlloc x.store { a with bw := engineBw (s.profile x.profile) x.inFmt x.outFmt q }
  s.setStream n { x with qadm := q }

/-- Whether an output's shedding waits for its boundary. -/
def State.shedWaits (s : State) : Bool := (List.range 192).any (fun o => s.get VOUT.HID_SHED o ≠ 0)

/-- Relief one item at a time until the charge fits (Table 7.10). Shedding waits for the output's boundary, and what comes after it in
the order waits with it. -/
def State.relieve (s : State) : Nat → State
  | 0 => s
  | k + 1 =>
    if !s.memoryPressure then s
    else match s.reliefNext 0 with
      | some (n, x) => (s.admitStep n x 1).relieve k
      | none =>
        if s.shedWaits then s
        else match s.shedNext (fun _ p => p.stores.any s.reliefQuad || p.streams.any (fun n =>
            match NTable.find s.video.streams n with | none => false | some x => s.reliefQuad x.store)) with
        | some (o, j) => s.set VOUT.HID_SHED (if j = 2 then 2 else 1) o
        | none =>
          match s.reliefNext 1 with
          | some (n, x) => (s.admitStep n x 2).relieve k
          | none => s

/-- Relief and the totals after it. -/
def State.relief (s : State) : State := (s.relieve (2 * s.video.streams.length + 1)).recount

/-! ## A quadrant lost -/

/-- Whether an allocation serves protected paths only. -/
def State.protectedAlloc (s : State) (id : Nat) : Bool :=
  let uses (p : Path) : Bool := p.stores.contains id ||
    p.streams.any (fun n => match NTable.find s.video.streams n with | none => false | some x => x.store = id)
  s.video.paths.any (fun p => p.protected && uses p) && !s.video.paths.any (fun p => !p.protected && uses p)

/-- Moves toward a quadrant abandoned: the old copies go on (Table 6.9). -/
def State.abandonMoves (s : State) (q : Nat) : State :=
  { s with video := { s.video with allocs := s.video.allocs.map (fun e =>
      if e.2.moveTo = some q then (e.1, { e.2 with moveTo := none, proved := 0 }) else e) } }

/-- What a FAILED quadrant's allocations can be rehomed to (R211): of P0 paths first, largest first. -/
def State.rescuePlan (s : State) (q : Nat) : List (Nat × Nat) :=
  let l := leaving q s.video.allocs
  let mine := sortBySize (l.filter (fun e => e.2.quad = q))
  (s.planFrom q 0 0 l (mine.filter (fun e => !s.protectedAlloc e.1) ++ mine.filter (fun e => s.protectedAlloc e.1))).1

/-- Rehomes what finds room of a FAILED quadrant's allocations (R211). Their content is gone, so nothing is proved. -/
def State.rescue (s : State) (q : Nat) : State :=
  if s.get SYNCMGR.QUAD_STAT_STATE 0 q = quadFAILED then
    let s := s.startMoves (s.rescuePlan q)
    (((s.video.allocs.filter (fun e => e.2.quad = q)).map (·.1)).foldl (fun (t : State) id => t.flipAlloc id) s).settleMoves
  else s

/-- Relief and rehoming go on until the charge fits (R43, R211, R243). -/
def State.relieveOn (s : State) : State :=
  let s := quads.foldl (fun (t : State) q => t.rescue q) s
  if s.memoryPressure then s.relief else s.recount

end Sys2Proof.Machine
end

