-- ==== Sys2Proof/Machine/Planes.lean ====
section
/-! DEFINITION. The moves of P0 sources between the fabric planes by proof and flip (R398, R401, R454), the proof of a twin
half that is rebuilt (R398, R404), and the change of SEL at the isolation of a unit (R396). -/
namespace Sys2Proof.Machine

/-- Device's own scalars of the planes: the source that moves, as its key plus one, the frames proved, and whether the plane is
being emptied at T4 (R454). -/
def FABRIC.HID_MOVE : Field := ⟨.fabric, 0x1100, 0, 24, .const 0⟩
def FABRIC.HID_PROVED : Field := ⟨.fabric, 0x1104, 0, 2, .const 0⟩
def FABRIC.HID_EMPTY : Field := ⟨.fabric, 0x1108, 0, 1, .const 0⟩
/-- The proof of a rebuilt twin half of a VO: 0 none, else one more than the agreeing frames. -/
def VOUT.HID_TWIN : Field := ⟨.vout, 0x1160, 0, 2, .const 0⟩

/-- Consecutive frames in which the SEL half has failed lines (R396). -/
def VOUT.HID_SELRUN : Field := ⟨.vout, 0x1128, 0, 2, .const 0⟩

/-- The PLANE_A_OUT and PLANE_B_OUT marks (R418). -/
def planeOutField (pl : Nat) : Field := if pl = 0 then REPAIR.STAT_PLANE_A_OUT else REPAIR.STAT_PLANE_B_OUT

/-- Every path the ledger holds changed by one function. -/
def State.mapPaths (s : State) (f : Path → Path) : State :=
  let g (t : PendingTake) : PendingTake := { t with path := t.path.map f }
  { s with video := { s.video with
      active := s.video.active.map (fun e => (e.1, f e.2))
      pend := s.video.pend.map (fun e => (e.1, g e.2))
      fades := s.video.fades.map (fun e => (e.1, { e.2 with take := e.2.take.map g }))
      timed := s.video.timed.map (fun z => { z with takes := z.takes.map (fun e => (e.1, g e.2)) })
      fallback := s.video.fallback.map (fun e => (e.1, f e.2))
      fallbackOld := s.video.fallbackOld.map (fun e => (e.1, f e.2)) } }

/-- The P0 sources carried on a plane, with their charges. -/
def State.carriedOn (s : State) (pl : Nat) : List (Nat × Nat) :=
  (l0Sources s.video.paths).filter (fun e => NTable.find s.video.planes e.1 = some pl)

/-- P0 sources change to a plane: the paths that read them, and what their route entries show. -/
def State.carryOn (s : State) (keys : List Nat) (pl : Nat) : State :=
  let s := { s with video := { s.video with planes := keys.foldl (fun t k => NTable.put t k pl) s.video.planes } }
  let s := s.mapPaths (fun p => if !p.protected && p.plane ≤ 1 && keys.contains (srcKey p.src p.mem 0) && !(p.kind = 3 && bitsOf p.w0 12 2 ≠ 0)
    then { p with plane := pl } else p)
  s.video.active.foldl (fun (t : State) e => t.set RTE.W1_PLANE e.2.plane e.1) s

/-- The next P0 source to move and the plane it leaves: of a plane that is being emptied (R454); else, below T1 and with both planes in
service, of the heavier plane, until the charges differ by no more than the largest P0 source (R401). The sources go in the
order the ledger holds them. -/
def State.nextPlaneMove (s : State) : Option (Nat × Nat) :=
  let empty := [0, 1].filter (fun pl => s.get FABRIC.HID_EMPTY pl = 1 && s.planeUp (1 - pl))
  match empty with
  | pl :: _ => (s.carriedOn pl).head?.map (fun e => (e.1, pl))
  | [] =>
    let a := s.video.planeLoad 0
    let b := s.video.planeLoad 1
    let diff := if a ≤ b then b - a else a - b
    let largest := (l0Sources s.video.paths).foldl (fun n e => max n e.2) 0
    if s.get THERMAL.STAT_STAGE ≠ 0 || !(s.planeUp 0 && s.planeUp 1) || diff ≤ largest then none
    else
      let pl := if a ≤ b then 1 else 0
      ((s.carriedOn pl).filter (fun e => e.2 < diff)).head?.map (fun e => (e.1, pl))

/-- Begins the next move of a P0 source when none runs. -/
def State.planeMoves (s : State) : State :=
  if s.get FABRIC.HID_MOVE ≠ 0 || s.regs.any (fun e => e.1.field = VOUT.HID_TWIN) then s
  else match s.nextPlaneMove with
    | none => s
    | some e => (s.set FABRIC.HID_MOVE (e.1 + 1)).set FABRIC.HID_PROVED 0

/-- The proof of a moving P0 source at a boundary of a destination that reads it (R398): it flips after two frames of agreeing
lines, and a disagreement starts the count again. -/
def State.planeMoveStep (s : State) (p : Path) (proof : Nat) : State :=
  let k := s.get FABRIC.HID_MOVE
  if k = 0 ∨ k ≠ srcKey p.src p.mem 0 + 1 then s
  else if !(s.planeUp 0 && s.planeUp 1) then (s.set FABRIC.HID_MOVE 0).planeMoves
  else if proof = 3 then s.set FABRIC.HID_PROVED 0
  else if proof = 0 then s
  else if s.get FABRIC.HID_PROVED = 0 then s.set FABRIC.HID_PROVED 1
  else
    let pl := NTable.getD s.video.planes (k - 1) 0
    ((((s.carryOn [k - 1] (1 - pl)).set FABRIC.HID_MOVE 0).set FABRIC.HID_PROVED 0).logStep ⟨.fabric, pl, 0⟩ stMIGRATE).planeMoves

/-- The proof of a twin half under rebuilding at a boundary (R398, R404): after two agreeing frames the twin is in service again, and
RESTORED is raised where it had been shed. -/
def State.twinProof (s : State) (o proof : Nat) : State :=
  let k := s.get VOUT.HID_TWIN o
  if k = 0 ∨ proof = 0 then s
  else if proof = 3 then s.set VOUT.HID_TWIN 1 o
  else if k = 1 then s.set VOUT.HID_TWIN 2 o
  else
    let s := ((s.set VOUT.HID_TWIN 0 o).set REPAIR.PROT_CFG_TWIN_UP 1 0 o).logStep ⟨.vout, o, 0⟩ stRESTORE 0 0 0 o
    if s.get REPAIR.PROT_CFG_SHED 0 o = 0 then s
    else
      let s := (s.set REPAIR.PROT_CFG_SHED 0 0 o).set REPAIR.STAT_SHED_COUNT (s.get REPAIR.STAT_SHED_COUNT - 1)
      s.raise .repair 0 REPAIR.EV_RESTORED

/-- SEL of every twin whose SEL half stands on a unit that has just been isolated changes at once (R396): step 2 of the ladder
(Table 14.2, R413). -/
def State.selAway (s : State) (u : UnitId) (on : Path → Nat → Bool) : State :=
  s.video.active.foldl (fun t e =>
    let sel := t.get REPAIR.PROT_CFG_SEL 0 e.1
    if e.2.twin && e.2.plane = 2 && on e.2 sel then
      ((t.set REPAIR.PROT_CFG_SEL (1 - sel) 0 e.1).set VOUT.HID_SELRUN 0 e.1).logStep u stTWIN 0 0 0 e.1
    else t) s

/-- Whether a half of a path (0 the plane A half) stands on an engine. -/
def Path.halfEngine (ce : Nat) (p : Path) (half : Nat) : Bool :=
  match (if half = 0 then p.stream else p.stream2) with
  | none => false
  | some n => n / 4 = ce

/-- Whether the store of a path's half, or that of its stream, has a part on a memory channel. -/
def State.halfOnChannel (s : State) (c : Nat) (p : Path) (half : Nat) : Bool :=
  let st := if half = 0 then p.stream else p.stream2
  let own := if half = 0 then p.store else p.store2
  let ids := own.toList ++ ((st.bind (NTable.find s.video.streams)).map (fun (x : Stream) => x.store)).toList
  ids.any (fun id => match NTable.find s.video.allocs id with | none => false | some a => a.onChannel c)

end Sys2Proof.Machine
end

