-- ==== Sys2Proof/Machine/Boundary.lean ====
section
/-! DEFINITION. The frame boundary of an output: availability (R415), output timing (R256 to R268), takes that act and fades
(R168 to R177), path kinds (R160 to R165), synchroniser slips and input loss (R195 to R202), twins (R395 to R397), and what
VOUT.STAT shows (R120). -/
namespace Sys2Proof.Machine

/-- Device's own scalars of a VO: the frame it reads and whether it has one; consecutive tSW with the lead outside the
window; a change of kind due at the next boundary; consecutive tSW with the lead back; a forced path outside its window; a
source format the path cannot carry; defective and late marks of the frame; the SEL half's failed lines in this frame; a FILL that stands for a HOLD with nothing readable (Table 6.7); a return due; a start
in service (R267); a phase step to follow, in femtoseconds; the remainder of a STEP; a LOCKED path that waits for its source to be
locked again (R165); and a refused synchroniser request (R164). The marks of a path have an index: 0 the active path, 1 the
fallback path. -/
def VOUT.HID_P : Field := ⟨.vout, 0x1100, 0, 20, .const 0⟩
def VOUT.HID_PVALID : Field := ⟨.vout, 0x1104, 0, 1, .const 0⟩
def VOUT.HID_OUT : Field := ⟨.vout, 0x1108, 0, 2, .const 0⟩
def VOUT.HID_KCH : Field := ⟨.vout, 0x110C, 0, 1, .const 0⟩
def VOUT.HID_BACK : Field := ⟨.vout, 0x1110, 0, 4, .const 0⟩
def VOUT.HID_LOST : Field := ⟨.vout, 0x1114, 0, 1, .const 0⟩
def VOUT.HID_SRCFMT : Field := ⟨.vout, 0x1118, 0, 1, .const 0⟩
def VOUT.HID_DEF : Field := ⟨.vout, 0x111C, 0, 1, .const 0⟩
def VOUT.HID_LATE : Field := ⟨.vout, 0x1120, 0, 1, .const 0⟩
def VOUT.HID_SELFAIL : Field := ⟨.vout, 0x1124, 0, 1, .const 0⟩
def VOUT.HID_NOFRAME : Field := ⟨.vout, 0x112C, 0, 1, .const 0⟩
def VOUT.HID_RETURN : Field := ⟨.vout, 0x1130, 0, 1, .const 0⟩
def VOUT.HID_INSERVICE : Field := ⟨.vout, 0x1138, 0, 1, .const 0⟩
def VOUT.HID_STEP : Field := ⟨.vout, 0x113C, 0, 1, .const 0⟩
def VOUT.HID_DELTA : Field := ⟨.vout, 0x1140, 0, 80, .const 0⟩
def VOUT.HID_REST : Field := ⟨.vout, 0x1150, 0, 80, .const 0⟩
def VOUT.HID_WAIT : Field := ⟨.vout, 0x1164, 0, 1, .const 0⟩
def VOUT.HID_DENIED : Field := ⟨.vout, 0x1168, 0, 1, .const 0⟩

/-- States of a generator (Table 8.1). -/
abbrev tgOFF : Nat := 0
abbrev tgWAIT : Nat := 1
abbrev tgFREE : Nat := 2
abbrev tgLOCKED : Nat := 3
abbrev tgSLEW : Nat := 4
abbrev tgSTEP : Nat := 5

/-- Whether a generator runs. -/
def State.tgRuns (s : State) (o : Nat) : Bool := tgFREE ≤ s.get VOUT.TIM_STAT_STATE o

/-- Whether the reference manager reports a qualified reference: a slot is ACTIVE (R434). -/
def State.refQualified (s : State) : Bool := s.get REFMGR.RM_STAT_ACTIVE_VALID = 1

/-- LOCKED with a qualified reference, FREE without. -/
def State.restState (s : State) : Nat := if s.refQualified then tgLOCKED else tgFREE

/-- The frame period of a rate in femtoseconds. -/
def framePeriod (rate : Nat) : Nat := fsPerSecond * 1001 / max 1 (rate1001 rate)

/-- A phase in femtoseconds as 0.842 ns steps, 1/8 of a sample at 148.5 MHz (R256). -/
def phaseSteps (r : Int) : Int := (r * 1188).fdiv 1000000000

/-- System time at an instant as a frame count of a rate (R256). -/
def State.sysFrame (s : State) (rate : Nat) : Nat := s.clk.sysFs * rate1001 rate / (1001 * fsPerSecond) % frameMod

/-! ## Availability and line selection -/

/-- Whether the frames of an output are counted (R415): the generator runs and its route entry is VALID. -/
def State.counted (s : State) (o : Nat) : Bool := 2 ≤ s.get VOUT.STAT_STATE o && s.get RTE.W0_VALID o = 1

/-- Counts the frame that ended: once, as DEFECTIVE where both apply (R415). -/
def State.countFrame (s : State) (o : Nat) : State :=
  if !s.counted o then s
  else
    let s := s.incr REPAIR.FRAMES_COUNT 0 o
    if s.get VOUT.HID_DEF o = 1 then (s.bump REPAIR.DEFECTIVE_COUNT 0 o).raise .repair 0 REPAIR.EV_DEFECTIVE
    else if s.get VOUT.HID_LATE o = 1 then (s.bump REPAIR.LATE_COUNT 0 o).raise .repair 0 REPAIR.EV_DEFECTIVE
    else s

/-- SEL changes after the SEL half has failed lines in 2 consecutive frames (R396): step 2 of the ladder. -/
def State.settleSel (s : State) (o : Nat) : State :=
  let n := if s.get VOUT.HID_SELFAIL o = 1 then s.get VOUT.HID_SELRUN o + 1 else 0
  let s := s.set VOUT.HID_SELFAIL 0 o
  if 2 ≤ n then
    ((s.set REPAIR.PROT_CFG_SEL (1 - s.get REPAIR.PROT_CFG_SEL 0 o) 0 o).set VOUT.HID_SELRUN 0 o).logStep ⟨.vout, o, 0⟩ stTWIN 0 1 0 o
  else s.set VOUT.HID_SELRUN n o

/-- Closes the frame that ended at a boundary. -/
def State.closeFrame (s : State) (o : Nat) (f : BoundaryFacts) : State :=
  let s := ((s.countFrame o).settleSel o).bumpBy VOUT.CNT_ANC_DROPPED f.ancDropped o
  ((s.bumpBy VOUT.CNT_AUD_DROPPED f.audDropped o).set VOUT.HID_DEF 0 o).set VOUT.HID_LATE 0 o

/-- The hop mask that a path's units set on a line of a plane (Table 3.4). -/
def Path.hops (p : Path) (self : Nat) (planeB : Bool) : Nat :=
  1 + (if planeB then 4 else 2) + (if p.kind = 1 then 8 else 0) + (if p.kind = 2 then 16 else 0)
    + (if p.mem ≠ self && p.links ≠ [] then 96 else 0) + 128

/-- The slot that a line of a path names: the source's, or its engine's output slot (R389). -/
def Path.lineSlot (p : Path) (planeB : Bool) : Nat :=
  match (if planeB then p.stream2 else p.stream) with
  | some st => 192 + st / 4
  | none => p.src

/-- The output check of R389 on a copy of a line. -/
def State.lineCheckOut (s : State) (o : Nat) (p : Path) (line : Nat) (planeB : Bool) (c : LineCopy) : Bool :=
  c.arrived && c.slot = p.lineSlot planeB && c.member = (if p.kind = 2 then s.selfId else p.mem) && c.crcOk && !c.poison
    && c.frame = s.get VOUT.HID_P o && c.line = line && c.hops = p.hops s.selfId planeB

/-- A line sent black makes the frame defective (R390). -/
def State.lineLost (s : State) (o : Nat) : State := s.set VOUT.HID_DEF 1 o

/-- Streams of a destination's halves are marked and moved after three mismatches within 60 s (R397): the engines' mark. -/
def State.markSuspect (s : State) (st : Option Nat) : State :=
  match st with
  | none => s
  | some n => s.set CE.ENG_STAT_SUSPECT 1 (n / 4)

/-- A twin mismatch: both copies pass and differ (R397). -/
def State.twinMismatch (s : State) (o : Nat) (p : Path) : State :=
  let l := recent s.clk.uptime minutePeriods (NTable.getD s.repair.mismatches o []) ++ [s.clk.uptime]
  let s := { s with repair := { s.repair with mismatches := NTable.put s.repair.mismatches o (if 3 ≤ l.length then [] else l) } }
  let s := (s.bump REPAIR.CNT_TWIN_MISMATCH).raise .repair 0 REPAIR.EV_TWIN_MISMATCH
  if 3 ≤ l.length then (s.markSuspect p.stream).markSuspect p.stream2 else s

/-- The selection of Table 14.4 on a twin: `a` and `b` say whether the SEL copy and the other pass. -/
def State.selectLine (s : State) (o : Nat) (p : Path) (a b same : Bool) : State :=
  if a && b then (if same then s else s.twinMismatch o p)
  else if a then s
  else if b then (s.bump REPAIR.CNT_LINE_SWAPS).set VOUT.HID_SELFAIL 1 o
  else (s.lineLost o).set VOUT.HID_SELFAIL 1 o

/-- A copy of a line whose comet tag fails at the egress of its plane is counted there (R185, R389). -/
def State.noteTag (s : State) (o : Nat) (p : Path) (line : Nat) (planeB : Bool) (c : LineCopy) : State :=
  if c.arrived && !s.lineCheckOut o p line planeB { c with poison := false } then
    (s.bump FABRIC.CNT_TAG_ERR (flag planeB)).raise .fabric (flag planeB) FABRIC.EV_TAG_ERR
  else s

/-- A line is read from the destination's line store at its output-timing instant (R166, R389, R390, R395). -/
def execOutputLineRead (o : Fin 192) (f : LineFacts) (s : State) : Host.Outcome State Fault Refusal :=
  match NTable.find s.video.active o with
  | none => done s
  | some p =>
    if s.get VOUT.STAT_STATE o ≠ 3 then done s
    else if p.plane = 2 then
      let a := s.lineCheckOut o p f.line false f.copyA
      let b := p.twin && s.lineCheckOut o p f.line true f.copyB
      let same := f.copyA.crc = f.copyB.crc
      let s := s.noteTag o p f.line false f.copyA
      let s := if p.twin then s.noteTag o p f.line true f.copyB else s
      if s.get REPAIR.PROT_CFG_SEL 0 o = 0 then done (s.selectLine o p a b same) else done (s.selectLine o p b a same)
    else
      let planeB := p.plane = 1
      let c := if planeB then f.copyB else f.copyA
      let s := s.noteTag o p f.line planeB c
      if s.lineCheckOut o p f.line planeB c then done s else done (s.lineLost o)

/-! ## Output timing -/

/-- The split of a phase step at its boundary (R260): whole frames n and residual r, by FOLLOW. -/
def splitStep (stepMode : Bool) (t : Nat) (d : Int) : Int × Int :=
  let n := if stepMode then d.fdiv t else (2 * d + t).fdiv (2 * t)
  (n, d - n * t)

/-- A generator with a residual to follow: SLEW, with PHASE_ERR; at rest where it is within one step (Table 8.1). -/
def State.followBy (s : State) (o : Nat) (r : Int) : State :=
  let e := phaseSteps r
  let s := s.set VOUT.PHASE_ERR_ERR (ofSigned 28 e) o
  if e = 0 then s.set VOUT.TIM_STAT_STATE s.restState o
  else (s.set VOUT.TIM_STAT_STATE tgSLEW o).raise .vout o VOUT.EV_SLEW_START

/-- The lines of a STEP: whole line periods of the residual, and what remains (R262). -/
def stepLines (t total : Nat) (r : Int) : Nat × Int :=
  let k := (r * total).fdiv t
  (k.toNat, r - (k * t).fdiv total)

/-- The phase error left of earlier steps, in femtoseconds, which a new step re-targets (R263). -/
def State.phaseLeft (s : State) (o : Nat) : Int := (signedOf 28 (s.get VOUT.PHASE_ERR_ERR o) * 1000000000).fdiv 1188

/-- A re-base: the boundary keeps its instant, its count is lowered by n, and the phase moves later by r (R260 to R264). A
pending take more than 16 frames beyond the count acts at this boundary, with TAKE_REBASED. -/
def State.rebase (s : State) (o : Nat) : State :=
  let t := framePeriod (s.get VOUT.FMT_RATE o)
  let stepMode := s.get VOUT.TIM_CFG_FOLLOW o = 1
  let nr := splitStep stepMode t (signedOf 80 (s.get VOUT.HID_DELTA o) + s.phaseLeft o)
  let count := (((s.get VOUT.FRAME_CNT_COUNT o : Int) - nr.1) % (frameMod : Int)).toNat
  let s := ((s.set VOUT.HID_STEP 0 o).set VOUT.HID_DELTA 0 o).set VOUT.FRAME_CNT_COUNT count o
  let s := s.raiseIf (nr.1 ≠ 0) .vout o VOUT.EV_REBASE
  let kl := stepLines t (totalLines (s.get VOUT.FMT_RASTER o)) nr.2
  let s := if stepMode ∧ kl.1 ≠ 0 then
      ((s.set VOUT.TIM_STAT_STATE tgSTEP o).set VOUT.TIM_STAT_INSERT kl.1 o).set VOUT.HID_REST (ofSigned 80 kl.2) o
    else s.followBy o nr.2
  match NTable.find s.video.pend o with
  | none => s
  | some p =>
    let d := (p.frame + frameMod - count) % frameMod
    if 16 < d ∧ d < frameMod / 2 then
      let q := { p with frame := count }
      State.raise { s with video := { s.video with pend := NTable.put s.video.pend o q } } .vout o VOUT.EV_TAKE_REBASED
    else s

/-- The frame count of the boundary: one on, and a re-base where a phase step waits. -/
def State.nextFrame (s : State) (o : Nat) : State :=
  let s := s.incr VOUT.FRAME_CNT_COUNT o
  if s.get VOUT.HID_STEP o = 1 then s.rebase o else s

/-- A phase step of system time, or an offset commit, reaches a generator: it is followed at the next boundary; one that
comes before that boundary adds to it (R260, R263). -/
def State.stepPhase (s : State) (o : Nat) (d : Int) : State :=
  if s.tgRuns o then
    (s.set VOUT.HID_STEP 1 o).set VOUT.HID_DELTA (ofSigned 80 (signedOf 80 (s.get VOUT.HID_DELTA o) + d)) o
  else s

/-- A slew has brought the phase error within one step (Table 8.1). -/
def execSlewDone (o : Fin 192) (s : State) : Host.Outcome State Fault Refusal :=
  if s.get VOUT.TIM_STAT_STATE o = tgSLEW then
    done (((s.set VOUT.TIM_STAT_STATE s.restState o).set VOUT.PHASE_ERR_ERR 0 o).raise .vout o VOUT.EV_SLEW_DONE)
  else done s

/-- The inserted lines of a STEP are sent, and the remainder slews (R262). -/
def execStepLinesSent (o : Fin 192) (s : State) : Host.Outcome State Fault Refusal :=
  if s.get VOUT.TIM_STAT_STATE o = tgSTEP then
    done (((s.raise .vout o VOUT.EV_STEPPED).followBy o (signedOf 80 (s.get VOUT.HID_REST o))).set VOUT.HID_REST 0 o)
  else done s

/-- A VO leaves service or its format changes: its generator waits or stops, its pads idle (Table 8.1, R573). -/
def State.stopGenerator (s : State) (o st : Nat) : State :=
  let s := ((s.set VOUT.TIM_STAT_STATE st o).set VOUT.STAT_STATE (if st = tgWAIT then 1 else 0) o).set VOUT.PHASE_ERR_ERR 0 o
  ((s.set VOUT.TIM_STAT_INSERT 0 o).set VOUT.HID_STEP 0 o).voSlice o false

/-! ## Sources and paths at a boundary -/

/-- The descriptor of a path's source as it is now, if it is present. -/
def State.presentFmt (s : State) (p : Path) : Option Fmt :=
  if s.pathPresent p then some (s.sourceFmt p.src p.mem 0) else none

/-- Whether a path can carry its source as it is now to its destination as committed (R183). -/
def State.pathFits (s : State) (o : Nat) (p : Path) : Bool :=
  (match s.presentFmt p with
   | none => true
   | some f => f.same p.srcFmt) && (s.voFmt o).same p.dstFmt

/-- Whether the quadrant of a path's store is out (R211, R212): the destination is STARVED. -/
def State.starved (s : State) (p : Path) : Bool :=
  p.stores.any (fun id => match NTable.find s.video.allocs id with
    | none => false
    | some a => s.get SYNCMGR.QUAD_STAT_STATE 0 a.quad = quadDEGRADED || s.get SYNCMGR.QUAD_STAT_STATE 0 a.quad = quadFAILED)

/-- Fields of FS_STAT for a destination: MODE. -/
def State.fsMode (s : State) (o : Nat) : Nat := s.get SYNCMGR.FS_STAT_MODE 0 o
/-- The state with FS_STAT.MODE of a destination set. -/
def State.setMode (s : State) (o v : Nat) : State := s.set SYNCMGR.FS_STAT_MODE v 0 o
/-- Modes of FS_STAT (Table 6.12). -/
abbrev fsNONE : Nat := 0
abbrev fsNORMAL : Nat := 1
abbrev fsHOLD : Nat := 2
abbrev fsBLACK : Nat := 3
abbrev fsFALLBACK : Nat := 4
abbrev fsSTARVED : Nat := 5
abbrev fsFILL : Nat := 6

/-- A synchroniser event of a destination, with EVT_DST. -/
def State.syncEvent (s : State) (o bit : Nat) : State := (s.set SYNCMGR.EVT_DST_SLOT o).raise .syncmgr 0 bit

/-- A repeat (true) or a drop counted (R196). -/
def State.slip (s : State) (o : Nat) (rep : Bool) : State :=
  ((s.bump (if rep then SYNCMGR.FS_SLIPS_REPEATS else SYNCMGR.FS_SLIPS_DROPS) 0 o).bump SYNCMGR.CNT_SLIPS).syncEvent o SYNCMGR.EV_SLIP

/-- The input-loss state of the policy (Tables 6.6 and 6.7): FILL in place of HOLD where nothing is readable. -/
def State.lossMode (s : State) (o : Nat) : Nat :=
  let pol := s.get SYNCMGR.FS_CFG_POLICY 0 o
  if pol = 1 then fsBLACK
  else if pol = 2 ∧ (NTable.find s.video.fallback o).isSome then fsFALLBACK
  else if s.get VOUT.HID_PVALID o = 1 then fsHOLD
  else fsFILL

/-- Enters the input-loss state of the policy (R200). -/
def State.enterLoss (s : State) (o : Nat) : State :=
  let mode := s.lossMode o
  let s := ((s.setMode o mode).bump SYNCMGR.CNT_LOSS_ENTRIES).syncEvent o SYNCMGR.EV_LOSS
  let s := s.set VOUT.HID_NOFRAME (flag (mode = fsFILL)) o
  if mode = fsFALLBACK then (s.set VOUT.HID_PVALID 0 o 1).syncEvent o SYNCMGR.EV_FALLBACK_ON else s

/-- Whether a trigger of the FALLBACK policy holds: BLACK or FREEZE of the path's VI. -/
def State.lossTrigger (s : State) (o : Nat) (p : Path) : Bool :=
  s.get SYNCMGR.FS_CFG_POLICY 0 o = 2 && p.src < 192 && !s.remote p.mem &&
  ((s.get SYNCMGR.FS_CFG_TRIG_BLACK 0 o = 1 && s.get VIN.STAT_BLACK p.src = 1) ||
   (s.get SYNCMGR.FS_CFG_TRIG_FREEZE 0 o = 1 && s.get VIN.STAT_FREEZE p.src = 1))

/-- The home quadrants shown in FS_STAT. -/
def State.showQuads (s : State) (o : Nat) (p : Path) : State :=
  let q (id : Option Nat) : Nat := (s.quadOf id).headD 0
  let st (x : Option Nat) : Option Nat := (x.bind (NTable.find s.video.streams)).map (fun (y : Stream) => y.store)
  (s.set SYNCMGR.FS_STAT_QUAD (q (if p.kind = 2 then st p.stream else p.store)) 0 o).set SYNCMGR.FS_STAT_QUAD2
    (q (if p.kind = 2 then st p.stream2 else p.store2)) 0 o

/-- The engine shown by W1.CE. -/
def Path.engine (p : Path) : Nat := match p.stream with | some st => st / 4 | none => 0x3F

/-- Word W1 of a route entry, of the path shown, PENDING and FADING apart (R176, R180). -/
def State.showW1 (s : State) (o : Nat) (p : Option Path) (lead : Nat) : State :=
  match p with
  | none => ((((s.set RTE.W1_KIND 3 o).set RTE.W1_LEAD 0xF o).set RTE.W1_PLANE 3 o).set RTE.W1_CE 0x3F o)
  | some p => ((((s.set RTE.W1_KIND p.kind o).set RTE.W1_LEAD (if p.kind = 0 then min lead 0xF else 0xF) o).set
      RTE.W1_PLANE p.plane o).set RTE.W1_CE p.engine o)

/-- Word W0 of a route entry takes the settings of a take (R180). -/
def State.showW0 (s : State) (o w0 : Nat) : State :=
  let s := ((((s.set RTE.W0_SRC (bitsOf w0 0 9) o).set RTE.W0_MEMBER (bitsOf w0 9 3) o).set RTE.W0_KIND_FORCE (bitsOf w0 12 2) o).set
    RTE.W0_RSV_SYNC (bitsOf w0 14 1) o).set RTE.W0_AFV (bitsOf w0 15 1) o
  let s := ((((s.set RTE.W0_PROT (bitsOf w0 16 2) o).set RTE.W0_FTB (bitsOf w0 18 1) o).set RTE.W0_FTB_FRAMES (bitsOf w0 19 6) o).set
    RTE.W0_AXFADE (bitsOf w0 25 5) o).set RTE.W0_NOCONV (bitsOf w0 30 1) o
  s.set RTE.W0_VALID (bitsOf w0 31 1) o

/-- The marks of a path's kind cleared: the active path's (0) or the fallback path's (1). -/
def State.clearKind (s : State) (o w : Nat) : State :=
  (((((s.set VOUT.HID_OUT 0 o w).set VOUT.HID_KCH 0 o w).set VOUT.HID_BACK 0 o w).set VOUT.HID_LOST 0 o w).set VOUT.HID_WAIT 0 o w).set
    VOUT.HID_DENIED 0 o w

/-- The marks of a destination cleared when a path takes over. -/
def State.clearMarks (s : State) (o : Nat) : State :=
  ((((s.clearKind o 0).set VOUT.HID_SRCFMT 0 o).set VOUT.HID_NOFRAME 0 o).set VOUT.HID_RETURN 0 o).set VOUT.HID_SHED 0 o

/-- The frame read by a path that has just taken over: the newest readable one; none makes a fill frame on a synchronised
path (R198). A source not present leads to the input-loss state of the policy, FILL in place of HOLD where nothing is
readable (Table 6.7). -/
def State.firstFrame (s : State) (o : Nat) (p : Path) (v : PathView) : State :=
  let s := (s.set VOUT.HID_P (v.newest.getD 0) o).set VOUT.HID_PVALID (flag v.newest.isSome) o
  if p.kind = 0 then s.setMode o fsNONE
  else
    let s := s.set SYNCMGR.FS_STAT_LATENCY v.latency 0 o
    if s.pathPresent p then s.setMode o (if v.newest.isSome then fsNORMAL else fsFILL)
    else s.enterLoss o

/-- The protection fields of a destination whose path has just taken over: SEL on plane A, the twin in service (R395). -/
def State.firstTwin (s : State) (o : Nat) (p : Path) : State :=
  let s := (s.set REPAIR.PROT_CFG_SEL 0 0 o).set REPAIR.PROT_CFG_TWIN_UP (flag p.twin) 0 o
  let s := s.set REPAIR.PROT_CFG_P2_DEGRADED 0 0 o
  if s.get REPAIR.PROT_CFG_SHED 0 o = 1 then
    (s.set REPAIR.PROT_CFG_SHED 0 0 o).set REPAIR.STAT_SHED_COUNT (s.get REPAIR.STAT_SHED_COUNT - 1)
  else s

/-- The slips that a retake of the same source costs where its new stream has another latency (R231): the whole frames
between the two latencies, as repeats where the new one is longer. -/
def State.retakeSlips (s : State) (o : Nat) (p : Path) (v : PathView) : State :=
  match NTable.find s.video.active o with
  | none => s
  | some q =>
    if q.kind = 2 ∧ p.kind = 2 ∧ q.src = p.src ∧ q.mem = p.mem ∧ q.stream ≠ p.stream then
      let old := match q.stream.bind (NTable.find s.video.streams) with | none => 0 | some x => x.latency
      let lines := max 1 (totalLines (s.get VOUT.FMT_RASTER o))
      let n := ((if old ≤ v.latency then v.latency - old else old - v.latency) + lines / 2) / lines
      if n = 0 then s
      else ((s.bumpBy (if old ≤ v.latency then SYNCMGR.FS_SLIPS_REPEATS else SYNCMGR.FS_SLIPS_DROPS) n 0 o).bumpBy
        SYNCMGR.CNT_SLIPS n).syncEvent o SYNCMGR.EV_SLIP
    else s

/-- The device's own word beside RSRC: where the resolved source lies: 0 this member, n + 1 member n, 15 silence. -/
def XPT.HID_FROM : Field := ⟨.xpt, 0x1100, 0, 4, .const 0⟩

/-- The audio of a destination follows its video (R178, R278): with AFV, every FOLLOW channel resolves to the same channel of
the new source; a pattern generator, and no source, to silence. -/
def State.followAudio (s : State) (o : Nat) (p : Option Path) : State :=
  if 192 ≤ o ∨ s.get RTE.W0_AFV o = 0 then s
  else (List.range 32).foldl (fun t c =>
    let d := 32 * o + c
    if t.get XPT.W0_FOLLOW d = 0 then t
    else match p with
      | none => t.set XPT.HID_FROM 15 d
      | some q =>
        if 192 ≤ q.src then t.set XPT.HID_FROM 15 d
        else (t.set XPT.W3_RSRC (32 * q.src + c) d).set XPT.HID_FROM (if t.remote q.mem then q.mem + 1 else 0) d) s

/-- The path of a take becomes the destination's (R41, R174): the entry, the first frame, the release of the old path. -/
def State.actPath (s : State) (o : Nat) (t : PendingTake) (v : PathView) : State :=
  let s := (s.clearMarks o).set VOUT.HID_TWIN 0 o
  let s := s.set RTE.W1_FRAME (s.get VOUT.FRAME_CNT_COUNT o) o
  let s := s.followAudio o t.path
  match t.path with
  | none =>
    let s := { s with video := { s.video with active := NTable.erase s.video.active o } }
    (((s.showW1 o none 0xF).setMode o fsNONE).set REPAIR.PROT_CFG_TWIN_UP 0 0 o).release
  | some p =>
    let s := s.retakeSlips o p v
    let s := { s with video := { s.video with active := NTable.put s.video.active o p } }
    ((((s.showW1 o (some p) v.lead).firstFrame o p v).firstTwin o p).showQuads o p).release

/-- A four-slot picture routes all four slots: the entries of the other slots follow the lead's (R180). -/
def State.gangEntries (s : State) (o : Nat) (p : Option Path) (w0 : Nat) : State :=
  match p with
  | some q => if q.dstFmt.slots = 4 ∧ o % 4 = 0 ∧ o < 192 then
      [1, 2, 3].foldl (fun t k => (t.showW0 (o + k) (w0 - bitsOf w0 0 9 + (if q.srcFmt.slots = 4 then bitsOf w0 0 9 + k else bitsOf w0 0 9))).showW1
        (o + k) (some q) 0xF) s
    else s
  | none => s

/-- The gain in use during a fade, in thousandths (R176). -/
def Fade.gain (f : Fade) : Nat :=
  let d := ceilDiv f.n 2
  if f.k < d then f.start * (d - 1 - f.k) / d else 1000 * (f.k - d + 1) / (f.n - d + 1)

/-- The gain in use on a destination: full outside a fade. -/
def State.gain (s : State) (o : Nat) : Nat := match NTable.find s.video.fades o with | some f => f.gain | none => 1000

/-- The shown source changes within a fade (R176): the take's path acts once its downward part is over. -/
def State.fadeChange (s : State) (o : Nat) (v : PathView) : State :=
  match NTable.find s.video.fades o with
  | none => s
  | some f =>
    match f.take with
    | none => s
    | some t =>
      if f.k = ceilDiv f.n 2 then
        State.actPath { s with video := { s.video with fades := NTable.put s.video.fades o { f with take := none } } } o t v
      else s

/-- One more frame of a fade, which ends after its last (R176). -/
def State.fadeStep (s : State) (o : Nat) (v : PathView) : State :=
  match NTable.find s.video.fades o with
  | none => s
  | some f =>
    let f' := { f with k := f.k + 1 }
    if f'.n ≤ f'.k then
      let s := State.fadeChange { s with video := { s.video with fades := NTable.put s.video.fades o f' } } o v
      State.set { s with video := { s.video with fades := NTable.erase s.video.fades o } } RTE.W1_FADING 0 o
    else State.fadeChange { s with video := { s.video with fades := NTable.put s.video.fades o f' } } o v

/-- A take acts at a destination's boundary (R168, R175 to R177): a cut at once; a fade begins, from the gain in use. Either
ends the fade that runs. -/
def State.actTake (s : State) (o : Nat) (t : PendingTake) (v : PathView) : State :=
  let g := s.gain o
  let n := bitsOf t.w0 19 6
  let s := { s with video := { s.video with pend := NTable.erase s.video.pend o, fades := NTable.erase s.video.fades o } }
  let s := ((s.showW0 o t.w0).gangEntries o t.path t.w0).set RTE.W1_PENDING 0 o
  let s := (s.set ROUTE.EVT_DST_SLOT o).raise .route 0 ROUTE.EV_TAKE_ACTED
  if bitOf t.w0 18 then
    let fd : Fade := { k := 0, n := n, start := g, take := some t }
    State.set { s with video := { s.video with fades := NTable.put s.video.fades o fd } } RTE.W1_FADING 1 o
  else (s.set RTE.W1_FADING 0 o).actPath o t v

/-- Whether a pending take is due at a boundary: its frame is the boundary's or lies before it. -/
def State.takeDue (s : State) (o : Nat) : Option PendingTake :=
  match NTable.find s.video.pend o with
  | none => none
  | some t => if (s.get VOUT.FRAME_CNT_COUNT o + frameMod - t.frame) % frameMod < frameMod / 2 then some t else none

/-! ## Path kinds -/

/-- Whether a lead lies outside the widened window LO - 1 to HI + 1, clamped to 0 to 8 (R160). -/
def State.leadWide (s : State) (lead : Nat) : Bool :=
  lead + 1 < s.get FABRIC.LOCK_WIN_LO || min 8 (s.get FABRIC.LOCK_WIN_HI + 1) < lead

/-- Replaces a destination's active path. -/
def State.setActive (s : State) (o : Nat) (p : Path) : State :=
  { s with video := { s.video with active := NTable.put s.video.active o p } }

/-- Replaces a destination's active path (0) or its fallback path (1). -/
def State.putPath (s : State) (o w : Nat) (p : Path) : State :=
  if w = 0 then s.setActive o p else { s with video := { s.video with fallback := NTable.put s.video.fallback o p } }

/-- The active path of a destination (0) or its fallback path (1). -/
def State.pathOf (s : State) (o w : Nat) : Option Path :=
  if w = 0 then NTable.find s.video.active o else NTable.find s.video.fallback o

/-- Whether a destination's output comes from its active path (0) or its fallback path (1). -/
def State.isShown (s : State) (o w : Nat) : Bool := (s.fsMode o = fsFALLBACK) = (w = 1)

/-- The slip a change of kind costs (R161): where the frame read next is not the one after the frame read last, a repeat on a change
to SYNC_FS and a drop on a change to LOCKED. -/
def State.kindSlip (s : State) (o w kind : Nat) (v : PathView) : State :=
  match v.newest with
  | none => s
  | some n =>
    if s.isShown o w ∧ s.get VOUT.HID_PVALID o w = 1 ∧ n ≠ (s.get VOUT.HID_P o w + 1) % frameMod then s.slip o (kind = 1) else s

/-- A change of kind acts (R161): the entry, KIND_CHG, the counter, and the slip it costs. -/
def State.changeKind (s : State) (o w : Nat) (p : Path) (kind : Nat) (v : PathView) : State :=
  let q := { p with kind := kind }
  let s := (((s.putPath o w q).bump ROUTE.CNT_KIND_CHANGES).set ROUTE.EVT_DST_SLOT o).raise .route 0 ROUTE.EV_KIND_CHG
  let s := (s.kindSlip o w kind v).clearKind o w
  let s := (s.set VOUT.HID_P (v.newest.getD (s.get VOUT.HID_P o w)) o w).set VOUT.HID_PVALID 1 o w
  if w = 0 then ((s.showW1 o (some q) v.lead).setMode o (if kind = 0 then fsNONE else fsNORMAL)).showQuads o q else s

/-- The synchroniser request of an AUTO path without one (R164): opened and charged, or refused with SYNC_DENIED. -/
def State.requestSync (s : State) (o w : Nat) (p : Path) (v : PathView) : State :=
  let owner := srcKey p.src p.mem 0
  let c0 := s.controlCode
  let r := s.openStore owner (s.timing o) p.srcFmt.syncBw p.srcFmt.syncCap [] none false
  let r2 := if p.twin then r.2.2.openStore owner (s.timing o) p.srcFmt.syncBw p.srcFmt.syncCap (r.2.2.quadOf r.2.1) r.2.1 true
            else (r.1, none, r.2.2)
  let code := if c0 ≠ 0 then c0 else if r.1 ≠ 0 then r.1 else if r2.1 ≠ 0 then r2.1 else s.memoryTests r2.2.2.video.allocs
  if code ≠ 0 then
    ((s.noteRefusal code 0 masterDevice .route 0).set ROUTE.EVT_DST_SLOT o).raise .route 0 ROUTE.EV_SYNC_DENIED
  else
    let q := { p with store := r.2.1, store2 := r2.2.1 }
    (((r2.2.2.putPath o w q).noteDecision 0 0 masterDevice .route 0).changeKind o w q 1 v).recount

/-- A forced LOCKED path, or one whose request was refused, with its lead outside 0 to 8 lines (R162, R164): black until
the first boundary after the lead has been back for 8 consecutive tSW. -/
def State.forcedLock (s : State) (o w : Nat) (v : PathView) : State :=
  if 8 < v.lead then
    let was := s.get VOUT.HID_LOST o w
    let s := (s.set VOUT.HID_LOST 1 o w).set VOUT.HID_BACK 0 o w
    if was = 0 then (s.set ROUTE.EVT_DST_SLOT o).raise .route 0 ROUTE.EV_LOCK_LOST else s
  else if s.get VOUT.HID_LOST o w = 1 then
    (if 8 ≤ s.get VOUT.HID_BACK o w then (s.set VOUT.HID_LOST 0 o w).set VOUT.HID_BACK 0 o w
     else s.set VOUT.HID_BACK (s.get VOUT.HID_BACK o w + 1) o w)
  else s

/-- What a tSW finds of an AUTO path on a LOCKED path (R160): whether a change to SYNC_FS becomes due. A path whose request was
refused behaves as a forced one (R164). -/
def State.kindDue (s : State) (o w : Nat) (v : PathView) : State :=
  let n := if s.leadWide v.lead then min 2 (s.get VOUT.HID_OUT o w + 1) else 0
  let due := 8 < v.lead || 2 ≤ n || !v.traces
  let s := (s.set VOUT.HID_OUT n o w).set VOUT.HID_KCH (flag due) o w
  if s.get VOUT.HID_DENIED o w = 1 then
    let t := s.forcedLock o w v
    t.set VOUT.HID_DENIED (flag (due || t.get VOUT.HID_LOST o w = 1)) o w
  else s.set VOUT.HID_LOST (flag (8 < v.lead)) o w

/-- The mark of a refused request; black that R160 began goes on as that of a forced path. -/
def State.noteDenied (s : State) (o w : Nat) : State :=
  if s.get VOUT.HID_DENIED o w = 1 then s
  else
    let s := s.set VOUT.HID_DENIED 1 o w
    if s.get VOUT.HID_LOST o w = 1 then (s.set ROUTE.EVT_DST_SLOT o).raise .route 0 ROUTE.EV_LOCK_LOST else s

/-- Whether the lock conditions of R157 hold at a tSW for a path whose descriptors are equal. -/
def State.lockHolds (s : State) (v : PathView) : Bool :=
  v.traces && s.get FABRIC.LOCK_WIN_LO ≤ v.lead && v.lead ≤ s.get FABRIC.LOCK_WIN_HI

/-- A LOCKED path at a boundary on which no take acts (R160 to R165): with its source gone it becomes SYNC_FS where it is charged
for a synchroniser, and is black until present and locked again where it is not. -/
def State.lockedStep (s : State) (o w : Nat) (p : Path) (v : PathView) : State :=
  if !s.pathPresent p then
    (if p.store.isSome then s.changeKind o w p 1 { v with newest := none }
     else ((s.set VOUT.HID_WAIT 1 o w).set VOUT.HID_KCH 0 o w).set VOUT.HID_OUT 0 o w)
  else if s.get VOUT.HID_WAIT o w = 1 ∧ !s.lockHolds v then s
  else
    let s := s.set VOUT.HID_WAIT 0 o w
    if bitsOf p.w0 12 2 = 1 then s.forcedLock o w v
    else if s.get VOUT.HID_KCH o w = 1 then
      (if p.store.isSome then s.changeKind o w p 1 v
       else
         let t := s.requestSync o w p v
         if (t.pathOf o w).any (fun q => q.kind = 1) then t else (t.noteDenied o w).kindDue o w v)
    else s.kindDue o w v

/-- Path kinds of the active path at a boundary on which no take acts (R160 to R165). -/
def State.kindStep (s : State) (o : Nat) (p : Path) (v : PathView) : State :=
  if p.kind = 0 then s.lockedStep o 0 p v
  else if p.kind = 1 ∧ bitsOf p.w0 12 2 = 0 ∧ v.relocked ∧ s.fsMode o = fsNORMAL ∧ s.pathPresent p then s.changeKind o 0 p 0 v
  else s

/-! ## Synchronisers -/

/-- The choice of R196, of the active path (0) or the fallback path (1): repeat, drop, or the next frame. -/
def State.chooseFrame (s : State) (o w : Nat) (v : PathView) : State :=
  let s := s.set SYNCMGR.FS_STAT_LATENCY v.latency 0 o
  if s.get VOUT.HID_PVALID o w = 0 then
    (match v.newest with | some n => (s.set VOUT.HID_P n o w).set VOUT.HID_PVALID 1 o w | none => s)
  else if !v.next then s.slip o true
  else if v.drop then (s.set VOUT.HID_P (s.get VOUT.HID_P o w + 2) o w).slip o false
  else s.set VOUT.HID_P (s.get VOUT.HID_P o w + 1) o w

/-- The return to NORMAL, with a readable frame (Table 6.6). -/
def State.backToNormal (s : State) (o : Nat) (v : PathView) : State :=
  let s := ((s.setMode o fsNORMAL).set VOUT.HID_NOFRAME 0 o).set VOUT.HID_RETURN 0 o
  let s := (s.set VOUT.HID_P (v.newest.getD (s.get VOUT.HID_P o)) o).set VOUT.HID_PVALID 1 o
  s.syncEvent o SYNCMGR.EV_RETURN

/-- The state a destination in FALLBACK takes once the fallback is withdrawn (Table 6.6). -/
def State.leaveFallback (s : State) (o : Nat) (p : Path) (v : PathView) : State :=
  if s.pathPresent p && !s.lossTrigger o p then s.backToNormal o v
  else s.setMode o (if s.get SYNCMGR.FS_CFG_POLICY 0 o = 1 then fsBLACK else fsHOLD)

/-- Whether a destination's fallback path can be read at a boundary: its source present, a LOCKED one in its window, a synchronised
one with a readable frame. -/
def State.fallbackReads (s : State) (o : Nat) (q : Path) (v : PathView) : Bool :=
  s.pathPresent q && !s.starved q &&
    (if q.kind = 0 then s.get VOUT.HID_LOST o 1 = 0 && s.get VOUT.HID_WAIT o 1 = 0 else v.newest.isSome)

/-- The previous fallback is read until the new one can be (Table 6.7), and then released. -/
def State.oldFallbackStep (s : State) (o : Nat) (v : PathView) : State :=
  if (NTable.find s.video.fallbackOld o).isNone then s
  else if s.fsMode o = fsFALLBACK && (NTable.find s.video.fallback o).any (fun q => !s.fallbackReads o q v) then s
  else State.release { s with video := { s.video with fallbackOld := NTable.erase s.video.fallbackOld o } }

/-- The fallback path follows R160 to R165 at every boundary, shown or not (R202). -/
def State.fallbackStep (s : State) (o : Nat) (v : PathView) : State :=
  let s := match NTable.find s.video.fallback o with
    | none => s
    | some q =>
      if q.kind = 0 then (s.lockedStep o 1 q v).set VOUT.HID_P (v.newest.getD (s.get VOUT.HID_P o 1)) o 1
      else if v.relocked ∧ s.pathPresent q then s.changeKind o 1 q 0 v
      else s
  s.oldFallbackStep o v

/-- The fallback that a destination in FALLBACK reads: the previous one while it is kept, else the present one. -/
def State.fallbackRead (s : State) (o : Nat) : Option Path :=
  match NTable.find s.video.fallbackOld o with
  | some q => some q
  | none => NTable.find s.video.fallback o

/-- A boundary in FALLBACK (Table 6.6): the return after RETURN_T, the loss of the fallback's source, or its next frame. -/
def State.fallbackFrame (s : State) (o : Nat) (p : Path) (f : BoundaryFacts) : State :=
  let back := s.pathPresent p && !s.lossTrigger o p
  if s.get VOUT.HID_RETURN o = 1 ∧ back then s.backToNormal o f.main
  else
    let s := s.set VOUT.HID_RETURN 0 o
    match s.fallbackRead o with
    | none => s.leaveFallback o p f.main
    | some q =>
      if !s.pathPresent q then s.setMode o (if q.kind = 0 then fsBLACK else fsHOLD)
      else if q.kind = 0 ∨ (NTable.find s.video.fallbackOld o).isSome then s
      else s.chooseFrame o 1 f.fb

/-- The path whose store a destination reads. -/
def State.readPath (s : State) (o : Nat) (p : Path) : Path := if s.fsMode o = fsFALLBACK then (s.fallbackRead o).getD p else p

/-- The input-loss policy at a boundary (Table 6.6). -/
def State.lossStep (s : State) (o : Nat) (p : Path) (f : BoundaryFacts) : State :=
  let v := f.main
  let mode := s.fsMode o
  let here := s.pathPresent p
  let newest := v.newest.isSome
  let fb := (NTable.find s.video.fallback o).isSome
  if s.starved (s.readPath o p) then
    (if mode = fsSTARVED then s.lineLost o
     else (((s.setMode o fsSTARVED).set VOUT.HID_PVALID 0 o).lineLost o).syncEvent o SYNCMGR.EV_STARVED)
  else if mode = fsSTARVED then (if here ∧ newest then s.backToNormal o v else if here then s else s.enterLoss o)
  else if mode = fsFILL ∧ s.get VOUT.HID_NOFRAME o = 0 then
    (if !here then s.enterLoss o else if newest then (s.chooseFrame o 0 v).setMode o fsNORMAL else s)
  else if mode = fsFALLBACK then s.fallbackFrame o p f
  else if mode = fsFILL ∨ mode = fsHOLD ∨ mode = fsBLACK then (if here ∧ newest then s.backToNormal o v else s)
  else if !here ∨ (s.lossTrigger o p ∧ fb) then
    (let s := s.enterLoss o
     if s.fsMode o = fsFALLBACK then s.fallbackFrame o p f else s)
  else s.chooseFrame o 0 v

/-- HOLD_MAX seconds in HOLD, with HOLD_MAX not 0, move the destination to BLACK (Table 6.6). -/
def execHoldMaxExpire (o : Fin 192) (s : State) : Host.Outcome State Fault Refusal :=
  if s.fsMode o = fsHOLD ∧ s.get SYNCMGR.FS_CFG_HOLD_MAX 0 o ≠ 0 then done (s.setMode o fsBLACK) else done s

/-- RETURN_T of present source and clear trigger (Table 6.6): with AUTO_RETURN, the next boundary returns to NORMAL. -/
def execReturnTExpire (o : Fin 192) (s : State) : Host.Outcome State Fault Refusal :=
  if s.fsMode o = fsFALLBACK ∧ s.get SYNCMGR.FS_CFG_AUTO_RETURN 0 o = 1 then done (s.set VOUT.HID_RETURN 1 o) else done s

/-! ## The boundary -/

/-- Drops the half of a twin that is not SEL, or the second copy of a P2 path, at a boundary (R402, R403). -/
def State.shedAt (s : State) (o : Nat) : State :=
  match NTable.find s.video.active o, s.get VOUT.HID_SHED o with
  | none, _ => s.set VOUT.HID_SHED 0 o
  | some _, 0 => s
  | some p, k =>
    let sel := s.get REPAIR.PROT_CFG_SEL 0 o
    let q := if k = 2 then { p with links := p.links.take 1 }
      else { p with store := (if sel = 0 then p.store else p.store2), store2 := none,
                    stream := (if sel = 0 then p.stream else p.stream2), stream2 := none, twin := false, links := p.links.take 1,
                    plane := sel }
    let s := (s.set VOUT.HID_SHED 0 o).setActive o q
    let s := if k = 2 then s.set REPAIR.PROT_CFG_P2_DEGRADED 1 0 o else s.set REPAIR.PROT_CFG_TWIN_UP 0 0 o
    let s := if s.get REPAIR.PROT_CFG_SHED 0 o = 1 then s
      else (s.set REPAIR.PROT_CFG_SHED 1 0 o).set REPAIR.STAT_SHED_COUNT (s.get REPAIR.STAT_SHED_COUNT + 1)
    let s := ((s.bump REPAIR.CNT_SHEDS).raise .repair 0 REPAIR.EV_SHED).logStep ⟨.vout, o, 0⟩ stSHED 0 0 0 o
    (((s.showW1 o (some q) (s.get RTE.W1_LEAD o)).release).resumeStreams true).recount

/-- The W0 word of a route entry as its fields hold it. -/
def State.entryW0 (s : State) (o : Nat) : Nat :=
  s.get RTE.W0_SRC o + 2 ^ 9 * s.get RTE.W0_MEMBER o + 2 ^ 12 * s.get RTE.W0_KIND_FORCE o + 2 ^ 14 * s.get RTE.W0_RSV_SYNC o
    + 2 ^ 15 * s.get RTE.W0_AFV o + 2 ^ 16 * s.get RTE.W0_PROT o + 2 ^ 25 * s.get RTE.W0_AXFADE o + 2 ^ 30 * s.get RTE.W0_NOCONV o
    + 2 ^ 31 * s.get RTE.W0_VALID o

/-- Whether a VALID route entry has no path, none pending and no fade. -/
def State.unbuilt (s : State) (o : Nat) : Bool :=
  s.get RTE.W0_VALID o = 1 && (NTable.find s.video.active o).isNone && (NTable.find s.video.pend o).isNone
    && (NTable.find s.video.fades o).isNone

/-- The device's own request for the path of a VALID route entry that has none (R412, R574). -/
def State.retryPath (s : State) (o : Nat) (lk : LockFacts) : State :=
  if s.unbuilt o then
    let w0 := s.entryW0 o
    let c0 := s.controlCode
    let place := placePending o w0 (if o < 192 then (s.get VOUT.FRAME_CNT_COUNT o + 1) % frameMod else 0) s.selfId
    let r := if isTap o then s.decideTap w0 place else s.decidePath { dst := o, w0 := w0, facts := lk, isFallback := false } place
    let code := if c0 ≠ 0 then c0 else r.1
    if code ≠ 0 then s.noteRefusal code 0 masterDevice .route 0
    else ((r.2.2.noteDecision 0 0 masterDevice .route 0).markPending o).release
  else s

/-- A route entry restored and not built makes a request of the device's own at each boundary (R574). -/
def State.retryEntry (s : State) (o : Nat) (f : BoundaryFacts) : State :=
  s.retryPath o { lead := f.main.lead, traces := f.main.traces }

/-- Whether every stream of a path is carried on its fallback (R32). -/
def State.onFallback (s : State) (p : Path) : Bool :=
  p.kind = 2 && p.streams.all (fun n => match NTable.find s.video.streams n with | none => true | some x => x.fallback)

/-- Whether a destination in FALLBACK carries its fallback's source, and not black (R162, R165, R183, R202). -/
def State.fallbackShows (s : State) (o : Nat) : Bool :=
  match s.fallbackRead o with
  | none => false
  | some q =>
    s.pathPresent q && s.pathFits o q && !s.starved q &&
      ((NTable.find s.video.fallbackOld o).isSome ||
        (if q.kind = 0 then s.get VOUT.HID_LOST o 1 = 0 && s.get VOUT.HID_WAIT o 1 = 0 else s.get VOUT.HID_PVALID o 1 = 1))

/-- What the output sends from this boundary (R120): 2 BLACK or 3 RUN. A path whose engines are out sends the unconverted
source where the destination carries it unchanged, and black in every other case (R32). -/
def State.shows (s : State) (o : Nat) : Nat :=
  match NTable.find s.video.active o with
  | none => 2
  | some p =>
    if s.get VOUT.HID_SRCFMT o = 1 || !(s.planeUp 0 || s.planeUp 1) then 2
    else if p.kind = 0 then (if s.get VOUT.HID_LOST o = 1 || s.get VOUT.HID_WAIT o = 1 || !s.pathPresent p then 2 else 3)
    else if s.fsMode o = fsFALLBACK then (if s.fallbackShows o then 3 else 2)
    else if (s.onFallback p && !p.srcFmt.same p.dstFmt) || (p.kind = 2 && s.get SYNTH.HID_DOUBLE 13 = 1) then 2
    else if s.fsMode o = fsSTARVED || s.fsMode o = fsFILL || s.fsMode o = fsBLACK then 2
    else 3

/-- A source format the path cannot carry: black and SRC_FMT, until they fit again (R183). -/
def State.fitStep (s : State) (o : Nat) (p : Path) : State :=
  if s.pathFits o p then s.set VOUT.HID_SRCFMT 0 o
  else if s.get VOUT.HID_SRCFMT o = 1 then s
  else ((s.set VOUT.HID_SRCFMT 1 o).set ROUTE.EVT_DST_SLOT o).raise .route 0 ROUTE.EV_SRC_FMT

/-- The path of a destination at a boundary on which no take acts. -/
def State.runPath (s : State) (o : Nat) (f : BoundaryFacts) : State :=
  match NTable.find s.video.active o with
  | none => s.retryEntry o f
  | some p =>
    let s := s.fitStep o p
    if s.get VOUT.HID_SRCFMT o = 1 then s
    else
      let s := s.kindStep o p f.main
      match NTable.find s.video.active o with
      | none => s
      | some q =>
        let s := if q.kind = 0 then (if p.kind = 0 then s.set VOUT.HID_P (f.main.newest.getD (s.get VOUT.HID_P o)) o else s)
                 else if q.kind = p.kind || !s.pathPresent q then s.lossStep o q f
                 else s
        s.showW1 o (some q) f.main.lead

/-- Nominal frames per second of a rate. -/
def nominalFps (rate : Nat) : Nat := max 1 (ceilDiv (rate1001 rate) 1001)

/-- A count of nominal frames since midnight in the layout of VIN.TC; at 50 frames per second and above the frame field
counts pairs (R109, R268). -/
def packTc (rate frames : Nat) : Nat :=
  let fps := nominalFps rate
  let n := frames % (86400 * fps)
  let bcd (x : Nat) : Nat := x / 10 * 16 + x % 10
  bcd (if 50 ≤ fps then n % fps / 2 else n % fps) + 2 ^ 8 * bcd (n / fps % 60) + 2 ^ 16 * bcd (n / fps / 60 % 60)
    + 2 ^ 24 * bcd (n / fps / 3600)

/-- The count of nominal frames that a timecode in the layout of VIN.TC stands for. -/
def unpackTc (rate w : Nat) : Nat :=
  let fps := nominalFps rate
  let dec (x : Nat) : Nat := x / 16 * 10 + x % 16
  ((dec (bitsOf w 24 6) * 60 + dec (bitsOf w 16 7)) * 60 + dec (bitsOf w 8 7)) * fps
    + (if 50 ≤ fps then 2 else 1) * dec (bitsOf w 0 6)

/-- A timecode a number of frames on. -/
def tcPlus (rate w : Nat) (n : Int) : Nat := packTc rate (((unpackTc rate w : Int) + n) % ((86400 * nominalFps rate : Nat) : Int)).toNat

/-- Frames skipped by drop-frame counting before a count of nominal frames at 30 per second (ST 12-1): two at each minute
but every tenth. -/
def dropFrames (n : Nat) : Nat :=
  let d := n / 17982
  let m := n % 17982
  n + 18 * d + (if m < 1800 then 0 else 2 * ((m - 1800) / 1798 + 1))

/-- The offset of time of day from system time (R328): UTC_CFG's, or currentUtcOffset of the ACTIVE PTP instance. -/
def State.utcOffset (s : State) : Nat :=
  let k := s.get REFMGR.RM_STAT_ACTIVE
  let i := s.get REFMGR.RC_CFG_SOURCE 0 k
  if s.get REFMGR.UTC_CFG_USE_PTP = 1 ∧ s.get REFMGR.RM_STAT_ACTIVE_VALID = 1 ∧ s.get REFMGR.RC_CFG_KIND 0 k = 6
      ∧ s.get REFMGR.UTC_STAT_VALID 0 i = 1 then s.get REFMGR.UTC_STAT_OFFSET 0 i
  else s.get REFMGR.UTC_CFG_UTC_OFFSET

/-- The frames since midnight of a destination's time of day, with the zone (R268). -/
def State.dayFrames (s : State) (o : Nat) : Nat :=
  let rate := s.get VOUT.FMT_RATE o
  let zone := signedOf 8 (s.get VOUT.TC_CFG_ZONE o) * 900
  let sec := (((s.sysSeconds : Int) - s.utcOffset + zone) % 86400).toNat
  let n := (sec * fsPerSecond + s.clk.sysFs % fsPerSecond) * rate1001 rate / (1001 * fsPerSecond)
  let n := if s.get VOUT.TC_CFG_DF o = 1 ∧ rate = 3 then dropFrames n
           else if s.get VOUT.TC_CFG_DF o = 1 ∧ rate = 6 then 2 * dropFrames (n / 2) + n % 2 else n
  (((n : Int) + signedOf 12 (s.get VOUT.TC_CFG_OFFSET o)) % ((86400 * nominalFps rate : Nat) : Int)).toNat

/-- The timecode decoded on a VI, without RUNNING. -/
def State.viTc (s : State) (i : Nat) : Nat :=
  s.get VIN.TC_FRAMES i + 2 ^ 8 * s.get VIN.TC_SECONDS i + 2 ^ 16 * s.get VIN.TC_MINUTES i + 2 ^ 24 * s.get VIN.TC_HOURS i

/-- The timecode inserted at a boundary (R268): in SYSTEM mode from system time; in SOURCE mode from the path's VI plus
OFFSET frames, or counting on from the last value with TC_SRC_LOST where that carries none. -/
def State.tcStep (s : State) (o : Nat) : State :=
  let rate := s.get VOUT.FMT_RATE o
  if s.get VOUT.CFG_TC_INSERT o = 0 then s
  else if s.get VOUT.TC_CFG_MODE o = 0 then s.set VOUT.TC_OUT_TC (packTc rate (s.dayFrames o)) o
  else
    match NTable.find s.video.active o with
    | none => (s.set VOUT.TC_OUT_TC (tcPlus rate (s.get VOUT.TC_OUT_TC o) 1) o).raise .vout o VOUT.EV_TC_SRC_LOST
    | some p =>
      if p.src < 192 ∧ !s.remote p.mem ∧ s.get VIN.TC_RUNNING p.src = 1 then
        s.set VOUT.TC_OUT_TC (tcPlus rate (s.viTc p.src) (signedOf 12 (s.get VOUT.TC_CFG_OFFSET o))) o
      else (s.set VOUT.TC_OUT_TC (tcPlus rate (s.get VOUT.TC_OUT_TC o) 1) o).raise .vout o VOUT.EV_TC_SRC_LOST

/-- The take, fade and path of a boundary. -/
def State.boundaryPath (s : State) (o : Nat) (f : BoundaryFacts) : State :=
  match s.takeDue o with
  | some t => if f.tokenLost then (s.set VOUT.HID_LATE 1 o).runPath o f else s.actTake o t f.take
  | none =>
    if (NTable.find s.video.fades o).isSome then (s.fadeStep o f.take).runPath o f else s.runPath o f

/-- The ladder of a path's streams at a boundary, and what they show of the frame built (R242, Table 7.15). -/
def State.boundaryStreams (s : State) (o : Nat) (p : Path) (latency : Nat) : State :=
  p.streams.foldl (fun t n => (t.ladder n).noteFrame n latency (s.get VOUT.FRAME_CNT_COUNT o)) s

/-- The release of a fallback path at the boundary after VALID is cleared or POLICY leaves FALLBACK (R202). -/
def State.dropFallback (s : State) (o : Nat) : State :=
  if (NTable.find s.video.fallback o).isSome
      ∧ (s.get SYNCMGR.FS_FALLBACK_VALID 0 o = 0 ∨ s.get SYNCMGR.FS_CFG_POLICY 0 o ≠ 2) then
    State.release (State.clearKind { s with video := { s.video with
      fallback := NTable.erase s.video.fallback o, fallbackOld := NTable.erase s.video.fallbackOld o } } o 1)
  else s

/-- The moves of a destination's stores and streams at its boundary. -/
def State.boundaryMoves (s : State) (o : Nat) (f : BoundaryFacts) : State :=
  let s := s.dropFallback o
  match NTable.find s.video.active o with
  | none => s
  | some p =>
    let s := (((s.boundaryStreams o p f.main.latency).proveMoves p f.proof).planeMoveStep p f.proof).twinProof o f.proof
    match NTable.find s.video.active o with
    | none => s
    | some q => if q = p then s else s.showW1 o (some q) (s.get RTE.W1_LEAD o)

/-- The request for the crossing of a path on another member that stands on no link, repeated at every boundary until it is
admitted (R372, R379). Answers the links, if it is. -/
def State.crossingFor (s : State) (p : Path) (reply : Nat) : Nat × List Nat :=
  let links := s.crossing p.mem p.p2
  let c0 := s.controlCode
  if c0 ≠ 0 then (c0, [])
  else if s.formationCode p.mem ≠ 0 then (s.formationCode p.mem, [])
  else if links.any (fun n => !s.linkTakes n p) then (0x17, [])
  else (reply, links)

/-- Whether a path lacks its crossing. -/
def State.lacksCrossing (s : State) (p : Path) : Bool := s.remote p.mem && p.links = []

/-- The second copy of a P2 path that lost it with a link or a relay: admitted once a SECOND link or a relay has room (R372). -/
def State.secondCopy (s : State) (o : Nat) (p : Path) (reply : Nat) : State :=
  if p.p2 && s.remote p.mem && p.links.length = 1 && s.get REPAIR.PROT_CFG_SHED 0 o = 0 && s.controlCode = 0 && s.formationCode p.mem = 0
      && reply = 0 then
    match (s.linkTo p.mem true).toList.filter (fun n => !p.links.contains n && s.linkTakes n p) with
    | [] => s
    | n :: _ => (((s.setActive o { p with links := p.links ++ [n] }).set REPAIR.PROT_CFG_P2_DEGRADED 0 0 o).showRelay p.mem [n]).recount
  else s

/-- The crossings that a destination's active and fallback paths lack are requested (R372, R379). Capacity that a crossing lacks
comes from shedding: second copies first, then twins. -/
def State.crossingStep (s : State) (o reply : Nat) : State :=
  let s := match NTable.find s.video.active o with
    | none => s
    | some p =>
      if !s.lacksCrossing p then s.secondCopy o p reply
      else
        let r := s.crossingFor p reply
        if r.1 ≠ 0 then
          (let l := s.crossing p.mem false
           let t := if r.1 = 0x17 then s.shedOne (fun _ q => q.links.any (fun n => l.contains n)) else s
           t.noteRefusal r.1 0 masterDevice .route 0)
        else ((s.setActive o { p with links := r.2 }).noteDecision 0 0 masterDevice .route 0).showRelay p.mem r.2 |>.recount
  match NTable.find s.video.fallback o with
  | none => s
  | some p =>
    if !s.lacksCrossing p then s
    else
      let r := s.crossingFor p reply
      if r.1 ≠ 0 then s.noteRefusal r.1 0 masterDevice .syncmgr 0
      else State.recount (State.showRelay (State.noteDecision
        { s with video := { s.video with fallback := NTable.put s.video.fallback o { p with links := r.2 } } } 0 0 masterDevice .syncmgr 0) p.mem r.2)

/-- A frame boundary of a running VO. -/
def State.boundary (s : State) (o : Nat) (f : BoundaryFacts) : State :=
  let s := ((((((s.closeFrame o f).nextFrame o).crossingStep o f.reply).boundaryMoves o f).fallbackStep o f.fb).boundaryPath o f).shedAt o
  let s := if s.memoryShut then s.relieveOn else s
  let s := s.set VOUT.STAT_STATE (s.shows o) o
  let s := if !(s.planeUp 0 || s.planeUp 1) ∧ s.get RTE.W0_VALID o = 1 then s.lineLost o else s
  s.tcStep o

/-- A frame boundary of a test tap: a pending take acts, its errors are cleared (Table 5.9). -/
def State.tapBoundary (s : State) (o : Nat) : State :=
  match NTable.find s.video.pend o with
  | none => s
  | some t =>
    let k := o - 452
    let s := { s with video := { s.video with pend := NTable.erase s.video.pend o } }
    let s := ((s.showW0 o t.w0).set RTE.W1_PENDING 0 o).set FABRIC.TAP_STAT_ERRORS 0 0 k
    let s := (s.set ROUTE.EVT_DST_SLOT o).raise .route 0 ROUTE.EV_TAKE_ACTED
    match t.path with
    | none => (State.showW1 { s with video := { s.video with active := NTable.erase s.video.active o } } o none 0xF).release
    | some p => (((s.setActive o p).showW1 o (some p) 0xF).set FABRIC.TAP_STAT_PRESENT (flag (s.pathPresent p)) 0 k).release

/-- The switching line of a frame, the frame boundary of an output (R21): of a VO whose generator runs, or of a test tap.
During standby entry the VO stops there (R440). -/
def execSwitchingLine (o : Fin 512) (f : BoundaryFacts) (s : State) : Host.Outcome State Fault Refusal :=
  if o.val < 192 then
    (if s.tgRuns o && s.domUp (Page.vout.domain o) then
      (if s.get POWER.STBY_BUSY = 1 then done (s.stopGenerator o tgOFF) else done (s.boundary o f))
     else done s)
  else if isTap o then done (s.tapBoundary o)
  else done s

end Sys2Proof.Machine
end

