-- ==== Sys2Proof/Machine/Scarab.lean ====
section
/-! DEFINITION. Scarab: corrected and uncorrectable sectors, remapping, the health of the memory channels, migration,
the self-test of a channel, quadrants under a DOMAIN reset, and evacuation (R187, R188, R204 to R215). -/
namespace Sys2Proof.Machine

/-- The key under which the corrections of one sector of a channel are kept, and the key of all those of a channel. -/
def sectorKey (c sector : Nat) : Nat := c * 2 ^ 24 + sector % 2 ^ 24
/-- The key of the corrections of a channel within CE_WINDOW. -/
def channelKey (c : Nat) : Nat := 2 ^ 32 + c

/-- Sectors of a page: 2 KiB of 64 data bytes each (R187, R188). (DEDUCED, assumption 14.) -/
abbrev pageSectors : Nat := 32

/-- The stamps kept under a key set. -/
def State.setCorrections (s : State) (k : Nat) (l : List Nat) : State :=
  { s with repair := { s.repair with corrections := NTable.putD s.repair.corrections k l [] } }

/-- Whether the memory reserve is spent (R215): a channel has failed, has been lost or is retired. (DEDUCED, assumption 15.) -/
def State.reserveSpent (s : State) : Bool :=
  (List.range 32).any (fun c => 2 ≤ s.get MEMCH.CH_STAT_HEALTH c || s.unit (chUnit c) = uRETIRED)

/-- LEDGER.STAT.RESERVE_SPENT follows the channels. -/
def State.noteReserve (s : State) : State := s.set LEDGER.STAT_RESERVE_SPENT (flag s.reserveSpent)

/-- Carries out the standing plan of a channel's quadrant, with the channel counted out (R190, R206): the moves, the layout
afresh over the channels that remain, and relief of what the plan could not place (R43, R215). -/
def State.runPlan (s : State) (c n : Nat) : State :=
  let p := s.plan s.video.allocs (c / 8) n
  let s := ((s.startMoves p.1).relayout c).settleMoves
  let s := if s.memoryPressure then s.relief.raise .syncmgr 0 SYNCMGR.EV_RESERVE_SPENT else s
  s.recount

/-- The channels a quadrant's standing plan counts on: those in RUN and not FAILING; none of a quadrant to be emptied. -/
def State.planCount (s : State) (q : Nat) : Nat :=
  if 2 ≤ s.get SYNCMGR.QUAD_STAT_STATE 0 q then 0
  else ((s.runChannels q).filter (fun c => s.get MEMCH.CH_STAT_HEALTH c < 2)).length

/-- The moves toward a channel's quadrant begin again elsewhere once the channel is lost (Table 6.9). -/
def State.replanInto (s : State) (c : Nat) : State :=
  let homes := quads.filter (fun h => s.video.allocs.any (fun e => e.2.quad = h && e.2.moveTo = some (c / 8)))
  homes.foldl (fun (t : State) h => t.startMoves (t.plan t.video.allocs h (t.planCount h)).1) (s.abandonMoves (c / 8)) |>.countMoves

/-- A channel enters FAILING (Table 6.8): the reserve, the health, and with `move` the migration of R206. -/
def State.failChannel (s : State) (c : Nat) (move : Bool) : State :=
  if s.chanRun c ∧ s.get MEMCH.CH_STAT_HEALTH c < 2 then
    let s := s.raiseIf s.reserveSpent .syncmgr 0 SYNCMGR.EV_RESERVE_SPENT
    let s := (s.set MEMCH.CH_STAT_HEALTH chFAILING c).noteReserve
    if move then (s.logStep (chUnit c) stMIGRATE 0 3).runPlan c ((s.runChannels (c / 8)).length - 1) else s
  else s

/-- The automatic entry of a channel into FAILING, under AUTO_MIGRATE. -/
def State.failAuto (s : State) (c : Nat) : State := s.failChannel c (s.get MEMCH.CH_CFG_AUTO_MIGRATE c = 1)

/-- The count of corrected sectors in the window and what it means for the channel (R205). -/
def State.countCorrection (s : State) (c : Nat) : State :=
  let l := recent s.clk.uptime (s.get MEMCH.CH_CFG_CE_WINDOW c * xtalPerSecond)
    (NTable.getD s.repair.corrections (channelKey c) []) ++ [s.clk.uptime]
  let s := (s.setCorrections (channelKey c) l).set MEMCH.CE_RATE_COUNT (min 65535 l.length) c
  let limit := s.get MEMCH.CH_CFG_CE_LIMIT c
  if limit ≤ l.length then (s.raise .memch c MEMCH.EV_CORR_LIMIT).failAuto c
  else if limit ≤ 4 * l.length ∧ s.get MEMCH.CH_STAT_HEALTH c = chGOOD ∧ s.chanRun c then s.set MEMCH.CH_STAT_HEALTH chWATCH c
  else s

/-- A page remapped to a spare page, or with none left REMAP_EXHAUSTED and FAILING (R188, R205). -/
def State.remapPage (s : State) (c page : Nat) : State :=
  if s.get MEMCH.CH_STAT_SPARE_LEFT c = 0 then (s.raise .memch c MEMCH.EV_REMAP_EXHAUSTED).failAuto c
  else
    let s := { s with repair := { s.repair with remaps := s.repair.remaps ++ [(c, page)] } }
    ((s.set MEMCH.CH_STAT_SPARE_LEFT (s.get MEMCH.CH_STAT_SPARE_LEFT c - 1) c).bump MEMCH.CNT_REMAPPED c).raise .memch c MEMCH.EV_REMAP

/-- Corrections of one sector, three of which within 24 hours remap its page (R188). -/
def State.sectorHistory (s : State) (c sector : Nat) : State :=
  let l := recent s.clk.uptime dayPeriods (NTable.getD s.repair.corrections (sectorKey c sector) []) ++ [s.clk.uptime]
  if 3 ≤ l.length then (s.setCorrections (sectorKey c sector) []).remapPage c (sector / pageSectors)
  else s.setCorrections (sectorKey c sector) l

/-- The sector of the last error of a channel. -/
def State.noteSector (s : State) (c sector kind : Nat) : State :=
  (s.set MEMCH.ERR_ADDR_SECTOR sector c).set MEMCH.ERR_ADDR_KIND kind c

/-- A sector read with correctable errors: delivered corrected, counted, rewritten (R187, R188, R205). -/
def execSectorCorrected (c : Fin 32) (sector : Nat) (s : State) : Host.Outcome State Fault Refusal :=
  if s.chanRun c then
    done ((((s.bump MEMCH.CNT_CORR c).noteSector c sector 0).sectorHistory c sector).countCorrection c)
  else done s

/-- A sector that cannot be corrected: counted and raised; in an allocation the channel enters FAILING (R187). The line units
it held are missing where they are read. -/
def execSectorUncorrectable (c : Fin 32) (sector : Nat) (alloc : Bool) (s : State) : Host.Outcome State Fault Refusal :=
  if s.chanRun c then
    let t := ((s.bump MEMCH.CNT_UNCORR c).noteSector c sector 1).raise .memch c MEMCH.EV_UNCORR
    done (if alloc then t.failAuto c else t)
  else done s

/-- A scrub pass of a channel ends after a number of hours (R204); scrubbing pauses at T1 and above. -/
def execScrubPass (c : Fin 32) (hours : Nat) (s : State) : Host.Outcome State Fault Refusal :=
  if s.chanRun c ∧ s.get SYNCMGR.SCRUB_CFG_EN = 1 ∧ s.get THERMAL.STAT_STAGE = 0 then
    let t := ((s.bump MEMCH.CNT_SCRUB_PASS c).set MEMCH.SCRUB_STAT_AGE 0 c).set MEMCH.SCRUB_STAT_LATE (flag (24 < hours)) c
    done (t.raiseIf (24 < hours) .memch c MEMCH.EV_SCRUB_LATE)
  else done s

/-- 24 hours in WATCH without such a count return a channel to GOOD (Table 6.8). -/
def execWatchExpire (c : Fin 32) (s : State) : Host.Outcome State Fault Refusal :=
  if s.get MEMCH.CH_STAT_HEALTH c = chWATCH then done (s.set MEMCH.CH_STAT_HEALTH chGOOD c) else done s

/-- The bytes of a still's window in BAR2 (R500). -/
abbrev stillWindow : Nat := 0x20000000

/-- Still images striped over a channel are lost (R208): their content ends, STILL_LOST, and the window is laid out afresh on the
channels in RUN for software to write them again. -/
def State.loseStills (s : State) (c : Nat) : State :=
  let lost := (s.video.allocs.filter (fun e => e.2.kind = AllocKind.still && e.2.onChannel c)).map (fun e => e.2.owner)
  if lost = [] then s
  else
    let again (e : Nat × Alloc) : Nat × Alloc :=
      if e.2.kind = AllocKind.still && e.2.onChannel c then (e.1, { e.2 with sets := s.layOut .still e.2.quad 1 e.1 }) else e
    let s := { s with video := { s.video with allocs := s.video.allocs.map again },
                      buf := { s.buf with bar2 := s.buf.bar2.filter (fun b => !lost.contains (b.1 / stillWindow)) } }
    s.raise .syncmgr 0 SYNCMGR.EV_STILL_LOST

/-- A channel lost for good in service (R208): isolated, its stores laid out afresh, the plan carried out. -/
def execChannelDead (c : Fin 32) (s : State) : Host.Outcome State Fault Refusal :=
  if s.chanRun c then
    let t := s.raiseIf s.reserveSpent .syncmgr 0 SYNCMGR.EV_RESERVE_SPENT
    let t := ((t.set MEMCH.CH_STAT_HEALTH chDEAD c).raise .memch c MEMCH.EV_DEAD).isolateUnit (chUnit c) 8
    let t := ((t.noteReserve.selAway (chUnit c) (t.halfOnChannel c)).loseStills c)
    done ((t.replanInto c).runPlan c (t.runChannels (c / 8)).length)
  else done s

/-- A write of CH_CTL.MIGRATE_OUT (R205, R206): the channel enters FAILING and its allocations move; a channel that is
FAILING with AUTO_MIGRATE clear begins to move. -/
def execMigrateOut (m : Fin 7) (c : Fin 32) (s : State) : Host.Outcome State Fault Refusal :=
  done (s.withWrite m .memch c 0x058 1 (fun t =>
    if t.chanRun c ∧ t.get MEMCH.CH_STAT_HEALTH c = chFAILING then
      (t.logStep (chUnit c) stMIGRATE 0 3).runPlan c ((t.runChannels (c / 8)).length - 1)
    else t.failChannel c true))

/-- The end of a channel's march test with a number of failing pages (R209): remapped where spare pages remain, and back in
RUN with HEALTH WATCH; else retired. -/
def State.channelTested (s : State) (c failing : Nat) : State :=
  let left := s.get MEMCH.CH_STAT_SPARE_LEFT c
  let s := s.raise .memch c MEMCH.EV_SELFTEST_DONE
  if left < failing then ((s.logStep (chUnit c) stSELFTEST 1).retire (chUnit c) 0).noteReserve
  else
    let s := ((s.set MEMCH.CH_STAT_SPARE_LEFT (left - failing) c).bumpBy MEMCH.CNT_REMAPPED failing c).raiseIf (failing ≠ 0)
      .memch c MEMCH.EV_REMAP
    let s := (s.setUnit (chUnit c) uRUN).set MEMCH.CH_STAT_HEALTH chWATCH c
    ((s.logStep (chUnit c) stSELFTEST).logStep (chUnit c) stRETURN).noteReserve.recount

/-- A write of CH_CTL.SELFTEST, acted on only while the channel holds no allocation (Table 6.11, R209). -/
def execChannelSelftest (m : Fin 7) (c : Fin 32) (failing : Nat) (s : State) : Host.Outcome State Fault Refusal :=
  done (s.withWrite m .memch c 0x058 2 (fun t => if t.channelEmpty c then t.channelTested c failing else t))

/-- Retraining of a quadrant ends 2 ms after its domain is released (R212): its channels are trained, its ceilings return. -/
def execRetrainEnd (q : Fin 4) (s : State) : Host.Outcome State Fault Refusal :=
  if s.domUp (13 + q) then
    let t := (quadChannels q).foldl (fun (u : State) c => u.set MEMCH.CH_STAT_TRAINED 1 c) s
    done ((if t.get SYNCMGR.QUAD_STAT_STATE 0 q = quadDEGRADED then t.set SYNCMGR.QUAD_STAT_STATE quadRUN 0 q else t).recount)
  else done s

/-- The code of an evacuation of a quadrant (R213): 0, or 0x13 or 0x14 where the other quadrants lack room. -/
def State.evacCode (s : State) (q : Nat) : Nat :=
  if (s.plan s.video.allocs q 0).2 then 0
  else if (s.plan (bandwidthOnly s.video.allocs) q 0).2 then 0x14 else 0x13

/-- An evacuation of a quadrant, as one ledger request (R213). -/
def State.evacuate (s : State) (m q : Nat) : State :=
  let c0 := s.gate .syncmgr 0
  let code := if c0 ≠ 0 then c0 else s.evacCode q
  let s := (s.set SYNCMGR.EVAC_CODE code).noteDecision code 0 m .syncmgr 0
  if code ≠ 0 then s
  else
    let moves := (s.plan s.video.allocs q 0).1
    let s := ((((s.set SYNCMGR.HID_EVACQ q).set SYNCMGR.EVAC_BUSY 1).set SYNCMGR.EVAC_DONE 0).set SYNCMGR.QUAD_STAT_STATE
      quadEVACUATED 0 q).startMoves moves
    s.settleMoves.recount

/-- A write of SYNCMGR.EVAC with GO (R213). A GO while an evacuation runs is not taken. (DEDUCED, assumption 16.) -/
def execSyncEvacGo (m : Fin 7) (v : Word) (s : State) : Host.Outcome State Fault Refusal :=
  done (s.withWrite m .syncmgr 0 0x070 v.toNat (fun t =>
    if bitOf v.toNat 4 && t.get SYNCMGR.EVAC_BUSY = 0 then t.evacuate m (bitsOf v.toNat 0 2) else t))

/-- A write of SYNCMGR.EVAC with RELEASE: the ceilings of the quadrant named return (R213). -/
def execSyncEvacRelease (m : Fin 7) (v : Word) (s : State) : Host.Outcome State Fault Refusal :=
  done (s.withWrite m .syncmgr 0 0x070 v.toNat (fun t =>
    let q := bitsOf v.toNat 0 2
    if bitOf v.toNat 5 && t.get SYNCMGR.QUAD_STAT_STATE 0 q = quadEVACUATED then
      let t := t.set SYNCMGR.QUAD_STAT_STATE quadRUN 0 q
      (if t.get SYNCMGR.HID_EVACQ = q then t.set SYNCMGR.EVAC_BUSY 0 else t).recount
    else t))

/-! ## The fallback of a destination -/

/-- Puts a path as the fallback of a destination; one that the destination is reading is read on until the new one can be
(Table 6.7). -/
def placeFallback (o : Nat) (st : State) (p : Path) : State :=
  let old := if (NTable.find st.video.fallbackOld o).isSome then NTable.find st.video.fallbackOld o else NTable.find st.video.fallback o
  let keep := match old with
    | some q => if st.fsMode o = fsFALLBACK then NTable.put st.video.fallbackOld o q else st.video.fallbackOld
    | none => st.video.fallbackOld
  State.set (State.clearKind { st with video := { st.video with fallback := NTable.put st.video.fallback o p, fallbackOld := keep } } o 1)
    VOUT.HID_PVALID 0 o 1

/-- The fallback request of R202: decided as a take with KIND_FORCE AUTO, NOCONV set and RSV_SYNC clear; its code in FB_CODE.
A refused one leaves the previous fallback in place. -/
def State.requestFallback (s : State) (m o : Nat) (f : LockFacts) : State :=
  let src := s.get SYNCMGR.FS_FALLBACK_SRC 0 o
  let w0 := src + 2 ^ 9 * s.get SYNCMGR.FS_FALLBACK_MEMBER 0 o + 2 ^ 30 + 2 ^ 31
  let c0 := s.gate .syncmgr 0
  let c := if c0 ≠ 0 then c0 else if !sourceNamed src then 0x27 else 0
  let r := s.decidePath { dst := o, w0 := w0, facts := f, isFallback := true } (placeFallback o)
  let code := if c ≠ 0 then c else r.1
  let t := if code = 0 then r.2.2.release else s
  (t.set SYNCMGR.FS_STAT_FB_CODE code 0 o).noteDecision code 0 m .syncmgr 0

end Sys2Proof.Machine
end

