-- ==== Sys2Proof/Machine/Engines.lean ====
section
/-! DEFINITION. Conversion engines: profiles of destinations (R231), loading of LUTs and filters (R233 to R237), evacuation
of a cluster (R253), faults, spares and the quality ladder (R242 to R252). -/
namespace Sys2Proof.Machine

/-- An engine as a repair unit. -/
def ceUnit (ce : Nat) : UnitId := ⟨.ce, ce, 0⟩

/-! ## Profiles -/

/-- The profile of a destination (Table 7.15): a VO's or a test tap's. -/
def State.setDstProfile (s : State) (dst p : Nat) : State :=
  if dst < 192 then s.set CE.PROF_MAP_PROFILE p 0 dst else s.set CE.PROF_MAP_TT_PROFILE p 0 (dst - 452)

/-- PROF_RESP after a decision. -/
def State.profResp (s : State) (code : Nat) : State := (s.set CE.PROF_RESP_CODE code).set CE.PROF_RESP_DONE 1

/-- The decision of a profile request (R231): refused with 0x23 for an unusable profile; on a SYNC_CE path a retake of the
same source at the next boundary. -/
def State.profRequest (s : State) (m dst p : Nat) (f : TakeFacts) : State :=
  let c0 := s.gate .ce 0
  let c := if c0 ≠ 0 then c0 else if !destNamed dst then 0x27 else if s.get CE.PROF0_VALID 0 p = 0 then 0x23 else 0
  if c ≠ 0 then (s.profResp c).noteDecision c 0 m .ce 0
  else
    match NTable.find s.video.active dst with
    | none => ((s.setDstProfile dst p).profResp 0).noteDecision 0 0 m .ce 0
    | some q =>
      if q.kind ≠ 2 then ((s.setDstProfile dst p).profResp 0).noteDecision 0 0 m .ce 0
      else
        let r := (s.setDstProfile dst p).decidePath { dst := dst, w0 := q.w0, facts := f.lock, isFallback := false }
          (placePending dst q.w0 (s.takeFrame dst f.pastCut) s.selfId)
        if r.1 ≠ 0 then (s.profResp r.1).noteDecision r.1 0 m .ce 0
        else (((r.2.2.markPending dst).profResp 0).noteDecision 0 0 m .ce 0).release

/-- A write of CE[0].PROF_DST with GO (R231). -/
def execProfDstGo (m : Fin 7) (v : Word) (f : TakeFacts) (s : State) : Host.Outcome State Fault Refusal :=
  done (s.withWrite m .ce 0 0x210 v.toNat (fun t =>
    if bitOf v.toNat 31 && t.get CE.PROF_RESP_BUSY = 0 then t.profRequest m (bitsOf v.toNat 0 9) (bitsOf v.toNat 16 6) f else t))

/-! ## Loading -/

/-- Device's own record of the load that runs: its kind and target. -/
def CE.HID_LOADKIND : Field := ⟨.ce, 0x110C, 0, 1, .const 0⟩
def CE.HID_LOADTARGET : Field := ⟨.ce, 0x110C, 1, 4, .const 0⟩

/-- Bytes used of the LUT staging area and of a filter staging area (Table 7.6). -/
def usedBytes (filter : Bool) : Nat := if filter then 0x1400 else 0x34A56
/-- Where a staging area begins in the LUT/filter window. -/
def stageBase (filter : Bool) : Nat := if filter then 0x40000 else 0
/-- Where the current content of a slot begins. -/
def slotBase (filter : Bool) (target : Nat) : Nat := if filter then 0x300000 + 0x2000 * target else 0x100000 + 0x40000 * (target - 1)

/-- A little-endian 16-bit word of a memory. -/
def Memory.half (m : Memory) (a : Nat) : Nat := (m.read a).toNat + 256 * (m.read (a + 1)).toNat

/-- One bit of a CRC-32C (Castagnoli), reflected. -/
def crcBit (c : Nat) : Nat := if c % 2 = 1 then (c / 2) ^^^ 0x82F63B78 else c / 2
/-- One byte of a CRC-32C. -/
def crcByte (c b : Nat) : Nat := crcBit (crcBit (crcBit (crcBit (crcBit (crcBit (crcBit (crcBit (c ^^^ b))))))))
/-- The CRC-32C of a run of bytes of a memory. -/
def Memory.crc32c (m : Memory) (base n : Nat) : Nat :=
  ((List.range n).foldl (fun c k => crcByte c (m.read (base + k)).toNat) 0xFFFFFFFF) ^^^ 0xFFFFFFFF

/-- The 14-bit coefficient of a filter word (R234). -/
def coefficient (w : Nat) : Int := signedOf 14 (bitsOf w 0 14)

/-- The sum of the taps of one phase of a table of a filter set (R234). -/
def Memory.phaseSum (m : Memory) (base taps p : Nat) : Int :=
  (List.range taps).foldl (fun z t => z + coefficient (m.half (base + 2 * taps * p + 2 * t))) 0

/-- Whether the taps of every phase of every table sum to 4,096 (R234). -/
def Memory.filterOk (m : Memory) (base : Nat) : Bool :=
  [(0, 12), (0x600, 12), (0xC00, 8), (0x1000, 8)].all (fun (t : Nat × Nat) =>
    (List.range 64).all (fun p => m.phaseSum (base + t.1) t.2 p = 4096))

/-- The header pair of a LUT in staging, as R227 compares it. -/
def Memory.headerPair (m : Memory) : Nat :=
  (m.read 0).toNat + 4 * (m.read 1).toNat + 16 * (m.read 2).toNat + 64 * (m.read 3).toNat

/-- Whether the header fields are codes of Table 3.8 of two bits. -/
def Memory.headerFits (m : Memory) : Bool := [0, 1, 2, 3].all (fun k => (m.read k).toNat < 4)

/-- The error code of a load (R236): the lowest code that applies. (DEDUCED, assumption 17.) -/
def State.loadError (s : State) (filter : Bool) (target : Nat) : Nat :=
  let m := s.buf.conv
  if m.crc32c (stageBase filter) (usedBytes filter) ≠ s.get CE.LOAD_CRC_CRC then 1
  else if filter && !m.filterOk (stageBase true) then 2
  else if target = 0 || (!filter && 8 < target) then 3
  else if !filter && s.video.streams.any (fun e => (s.profile e.2.profile).lut = target
      && !(m.headerFits && lutPair e.2.inFmt e.2.outFmt = m.headerPair)) then 4
  else if !filter && (List.range 12).any (fun k => m.read (4 + k) ≠ 0) then 5
  else 0

/-- The check of a load that has been committed (R236). -/
def State.loadCommit (s : State) (filter : Bool) (target : Nat) : State :=
  let e := s.loadError filter target
  let s := (s.set CE.LOAD_STAT_DONE 0).set CE.LOAD_STAT_ERR e
  if e ≠ 0 then s.raise .ce 0 CE.EV_LOAD_ERR
  else ((s.set CE.LOAD_STAT_BUSY 1).set CE.HID_LOADKIND (flag filter)).set CE.HID_LOADTARGET target

/-- A write of LOAD_CTL with COMMIT (R236); a COMMIT while a load is busy is not taken. (DEDUCED, assumption 17.) -/
def execLoadCommit (m : Fin 7) (v : Word) (s : State) : Host.Outcome State Fault Refusal :=
  done (s.withWrite m .ce 0 0x200 v.toNat (fun t =>
    if bitOf v.toNat 8 && t.get CE.LOAD_STAT_BUSY = 0 then t.loadCommit (bitOf v.toNat 0) (bitsOf v.toNat 1 4) else t))

/-- A run of bytes of a memory copied to another place. -/
def Memory.copy (m : Memory) (src dst n : Nat) : Memory :=
  (List.range n).foldl (fun t k => t.write (dst + k) (m.read (src + k))) m

/-- The checked content is in every cluster store: DONE and LOAD_DONE (R236). -/
def execLoadDone (s : State) : Host.Outcome State Fault Refusal :=
  if s.get CE.LOAD_STAT_BUSY = 1 then
    let filter := s.get CE.HID_LOADKIND = 1
    let k := s.get CE.HID_LOADTARGET
    let t := { s with buf := { s.buf with conv := s.buf.conv.copy (stageBase filter) (slotBase filter k) (usedBytes filter) } }
    let t := if filter then t else t.set CE.HID_LUTPAIR (if s.buf.conv.headerFits then s.buf.conv.headerPair else 0xFFFF) 0 k
    done (((t.set CE.LOAD_STAT_BUSY 0).set CE.LOAD_STAT_DONE 1).raise .ce 0 CE.EV_LOAD_DONE)
  else done s

/-! ## Evacuation of a cluster -/

/-- The clusters a stream may not move to: its own, and that of the other half of its path. -/
def State.streamAvoid (s : State) (n : Nat) : List Nat :=
  clusterOf (n / 4) :: s.video.paths.flatMap (fun p =>
    if p.stream = some n then clusterOfStream p.stream2 else if p.stream2 = some n then clusterOfStream p.stream else [])

/-- Plans the soft moves of streams out of their cluster under R221: the first code that fails, and the state with the moves
begun. -/
def State.evacStreams (s : State) : List Nat → Nat × State
  | [] => (0, s)
  | n :: t =>
    match NTable.find s.video.streams n with
    | none => s.evacStreams t
    | some x =>
      let avoid := s.streamAvoid n
      if x.gang ≠ [] then
        match s.placeGang avoid [0, 1, 2, 3] with
        | [] => (0x16, s)
        | e :: g => (s.softMove n e (e :: g)).evacStreams t
      else
        match s.placeEngine x.shares avoid false with
        | none => (0x15, s)
        | some e => (s.softMove n e []).evacStreams t

/-- An evacuation of a cluster, as one ledger request (R253). -/
def State.evacCluster (s : State) (m c : Nat) : State :=
  let c0 := s.gate .ce 0
  let r := s.evacStreams ((s.video.streams.filter (fun e => clusterOf (e.1 / 4) = c)).map (·.1))
  let code := if c0 ≠ 0 then c0 else r.1
  if code ≠ 0 then (s.set CE.EVAC_CODE code).noteDecision code 0 m .ce 0
  else
    let t := (r.2.set CE.EVAC_CODE 0).noteDecision 0 0 m .ce 0
    ((((t.set CE.HID_EVACC c).set CE.HID_EVACUATED 1 (9 * c)).set CE.EVAC_BUSY 1).set CE.EVAC_DONE 0).ceEvacDone.recount

/-- A write of CE[0].EVAC with GO (R253); not taken while one runs. (DEDUCED, assumption 16.) -/
def execCeEvacGo (m : Fin 7) (v : Word) (s : State) : Host.Outcome State Fault Refusal :=
  done (s.withWrite m .ce 0 0x218 v.toNat (fun t =>
    if bitOf v.toNat 4 && t.get CE.EVAC_BUSY = 0 then t.evacCluster m (bitsOf v.toNat 0 2) else t))

/-- A write of CE[0].EVAC with RELEASE reopens the cluster (R253). -/
def execCeEvacRelease (m : Fin 7) (v : Word) (s : State) : Host.Outcome State Fault Refusal :=
  done (s.withWrite m .ce 0 0x218 v.toNat (fun t =>
    let c := bitsOf v.toNat 0 2
    if bitOf v.toNat 5 then
      let t := t.set CE.HID_EVACUATED 0 (9 * c)
      (if t.get CE.HID_EVACC = c then t.set CE.EVAC_BUSY 0 else t).recount
    else t))

/-! ## Faults and spares -/

/-- Raises NO_SPARE in the page of an engine whose retirement leaves its cluster without a spare (R218). -/
def State.noteNoSpare (s : State) (ce : Nat) : State :=
  s.raiseIf (s.unit (ceUnit ce) = uRETIRED && !(List.range 36).any (fun e => clusterOf e = clusterOf ce && s.unit (ceUnit e) = uSPARE))
    .ce ce CE.EV_NO_SPARE

/-- The streams of an engine that has failed (R249, R251): each soft move toward a spare ends in its flip; the rest go to a
spare, or fall back, and one item of protection is shed for them. -/
def State.loseEngine (s : State) (ce : Nat) : State :=
  let moving := s.video.streams.filterMap (fun e =>
    if e.1 / 4 = ce then e.2.moveTo.map (fun sp => (e.1, sp)) else none)
  let s := moving.foldl (fun t (e : Nat × Nat) => t.flipStream e.1 e.2) s
  let gang := s.video.streams.any (fun e => e.2.gang.contains ce)
  if s.streamsOn ce = [] ∧ !gang then s
  else match s.spareFor ce gang with
    | some sp => s.takeOver ce sp
    | none => (s.fallBack ce true).shedOne (fun _ p => p.streams ≠ [])

/-- A hard fault of an engine (R249 to R251): isolated, its streams taken by a spare at once, and retired at its limit. -/
def State.engineFault (s : State) (ce cause : Nat) : State :=
  if s.unit (ceUnit ce) = uRUN ∨ s.unit (ceUnit ce) = uSPARE then
    let s := (((s.isolateUnit (ceUnit ce) 8 cause).selAway (ceUnit ce) (Path.halfEngine ce)).loseEngine ce).retireIfLimit (ceUnit ce)
    (s.noteNoSpare ce).release
  else s

/-- A stall, a parity error or a failed drain of an engine. -/
def execEngineHardFault (ce : Fin 36) (cause : Nat) (s : State) : Host.Outcome State Fault Refusal := done (s.engineFault ce cause)

/-- A vector fault of a stream (R242): BLEND from its next boundary; three on one engine within 60 s mark it SUSPECT, and its
streams begin their soft move. -/
def execVectorFault (ce : Fin 36) (st : Fin 4) (s : State) : Host.Outcome State Fault Refusal :=
  match NTable.find s.video.streams (4 * ce.val + st.val) with
  | none => done s
  | some x =>
    let l := recent s.clk.uptime minutePeriods (NTable.getD s.repair.vecFaults ce.val []) ++ [s.clk.uptime]
    let t := s.setStream (4 * ce.val + st.val) { x with vecFault := true, vectors := 0 }
    let t := { t with repair := { t.repair with vecFaults := NTable.put t.repair.vecFaults ce.val l } }
    let t := (t.bump CE.CNT_VEC_FAULTS ce.val).raise .ce ce.val CE.EV_VEC_FAULT
    if 3 ≤ l.length ∧ t.get CE.ENG_STAT_SUSPECT ce.val = 0 then done ((t.set CE.ENG_STAT_SUSPECT 1 ce.val).softMoves ce.val)
    else done t

/-- The once-per-second request of a stream below QREQ (R244). -/
def State.stepUp (s : State) (n : Nat) : State :=
  match NTable.find s.video.streams n with
  | none => s
  | some x =>
    if x.qadm ≤ x.qreq then s
    else
      let q := x.qadm - 1
      let t := s.admitStep n x q
      let code := if s.controlCode ≠ 0 then s.controlCode else if s.memoryShut then 0x13 else s.memoryTests t.video.allocs
      if code ≠ 0 then s.noteDecision code 0 masterDevice .ce (n / 4)
      else (t.noteDecision 0 0 masterDevice .ce (n / 4)).recount

/-- A stream's request for the next better step. -/
def execQualityStepRequest (ce : Fin 36) (st : Fin 4) (s : State) : Host.Outcome State Fault Refusal :=
  done (s.stepUp (4 * ce.val + st.val))

/-- The soft moves of SUSPECT engines that found no spare begin again (R250). -/
def State.retrySoft (s : State) : State :=
  (List.range 36).foldl (fun t ce =>
    if t.get CE.ENG_STAT_SUSPECT ce = 1 ∧ t.video.streams.any (fun e => e.1 / 4 = ce && e.2.moveTo.isNone) then t.softMoves ce else t) s

/-- Where a tested engine goes (R218, R391): it becomes its cluster's spare; where the cluster has one, or streams of its own wait for
it (R32), it goes back to RUN by the active supervisor, and with a spare in its cluster it waits ISOLATED for one (Table 14.9). -/
def State.returnState (s : State) (ce : Nat) : Nat :=
  if (List.range 36).any (fun e => e ≠ ce && clusterOf e = clusterOf ce && s.unit (ceUnit e) = uSPARE) then
    (if s.policy then uRUN else uISOLATED)
  else if s.policy ∧ s.streamsOn ce ≠ [] then uRUN
  else uSPARE

/-- The end of an engine's known-answer test (R218, R248): a spare stays one, an engine out of service returns; a failure retires it. A stream that moved toward it begins again on another spare. -/
def State.engineTested (s : State) (ce : Nat) (pass : Bool) : State :=
  let s := s.bump CE.CNT_SELFTESTS ce
  if pass then
    (if s.unit (ceUnit ce) = uSPARE then s
     else
       let t := (s.setUnit (ceUnit ce) (s.returnState ce)).logStep (ceUnit ce) stSELFTEST
       let t := if s.returnState ce = uISOLATED then t else t.logStep (ceUnit ce) stRETURN
       (t.resumeStreams false).retrySoft.recount)
  else
    let s := { s with video := { s.video with streams := s.video.streams.map (fun (e : Nat × Stream) =>
        if e.2.moveTo = some ce then (e.1, { e.2 with moveTo := none, moveGang := [], proved := 0, disagree := false }) else e) } }
    let s := (s.raise .ce ce CE.EV_SELFTEST_FAIL).logStep (ceUnit ce) stSELFTEST 1
    (((s.retire (ceUnit ce) 9).noteNoSpare ce).retrySoft).recount

/-- The known-answer test of a spare, periodic with SELFTEST_EN set and below T1, or of an engine out of service (R248). -/
def execCeSpareSelftest (ce : Fin 36) (pass : Bool) (s : State) : Host.Outcome State Fault Refusal :=
  let u := s.unit (ceUnit ce)
  if (u = uSPARE ∧ s.engineShares ce = 0 ∧ s.get CE.ENG_CFG_SELFTEST_EN ce = 1 ∧ s.get THERMAL.STAT_STAGE = 0)
      ∨ u = uISOLATED ∨ u = uTEST then done (s.engineTested ce pass)
  else done s

end Sys2Proof.Machine
end

