-- ==== Sys2Proof/Machine/Synth.lean ====
section
/-! DEFINITION. Clock synthesisers: acquisition, loss of lock and HOLD, pair swaps, the move of consumers, SYNC_IN, and
LOCK_ANA (R344 to R361). -/
namespace Sys2Proof.Machine

/-- States of a synthesiser (Table 12.3). -/
abbrev syOFF : Nat := 0
abbrev syBAND : Nat := 1
abbrev syACQUIRE : Nat := 2
abbrev syLOCKED : Nat := 3
abbrev syHOLD : Nat := 4
abbrev syFAILED : Nat := 5
abbrev syRETIRED : Nat := 6

/-- Device's own marks of a synthesiser: a half has been LOCKED before, by half; an output armed for SYNC_IN, by output; the
system time at which an output's divider was last restarted by SYNC_IN. -/
def SYNTH.HID_WASLOCKED : Field := ⟨.synth, 0x1104, 0, 1, .const 0⟩
def SYNTH.HID_ARMED : Field := ⟨.synth, 0x110C, 0, 1, .const 0⟩
def SYNTH.HID_RESTART : Field := ⟨.synth, 0x1124, 0, 96, .const 0⟩
/-- Device's own mark that SYNC_OUT is gated under R355. -/
def SYNTHCTL.HID_GATED : Field := ⟨.synthctl, 0x1104, 0, 1, .const 0⟩

/-- The repair unit of a synthesiser, or of a half of a pair. -/
def synUnit (k b : Nat) : UnitId := ⟨.synth, k, b⟩

/-- The state of a synthesiser or a half set. -/
def State.setSyn (s : State) (k b v : Nat) : State :=
  if b = 0 then s.set SYNTH.SYN_STAT_STATE v k else s.set SYNTH.SYN_STAT_STATE_B v k

/-- Whether output `j` of timing synthesiser `k` runs: enabled, its loop LOCKED or in HOLD (R348, R355). -/
def State.outRuns (s : State) (k j : Nat) : Bool :=
  k < 12 && s.get SYNTH.OUT_CFG_EN k j = 1 && (s.synState k 0 = syLOCKED || s.synState k 0 = syHOLD)

/-- The synthesiser output that clocks the transmit side of a pad lane (R54). -/
def State.laneClock (s : State) (q n : Nat) : Nat × Nat :=
  if s.get QUAD.LANE_CFG_TXMODE q n = 1 && s.get QUAD.QUAD_CFG_Q100 q = 0 then
    (if s.get QUAD.LANE_CFG_TX_FAM q n = 0 || s.get QUAD.LANE_CFG_TX_RATE q n = 0 then
       (s.get QUAD.TXCLK_SEL_V_SYN q, s.get QUAD.TXCLK_SEL_V_OUT q)
     else (s.get QUAD.TXCLK_SEL_F_SYN q, s.get QUAD.TXCLK_SEL_F_OUT q))
  else (s.get QUAD.TXCLK_SEL_E_SYN q, s.get QUAD.TXCLK_SEL_E_OUT q)

/-- A pad lane whose transmit clock comes from a synthesiser follows it: idle without its clock, sending with it (R64, R348,
R356). -/
def State.laneFollow (s : State) (k q n : Nat) : State :=
  let c := s.laneClock q n
  if c.1 ≠ k then s
  else
    let up := s.outRuns c.1 c.2
    let sl := s.sliceOf true q n
    if s.laneSdi true (4 * q + n) then s.voSlice (4 * q + n) (up && s.tgRuns (4 * q + n))
    else if up then s.portSlice q n
    else if sl < 5 ∧ s.get QUAD.TXSL_STAT_STATE q sl = slRUN then s.set QUAD.TXSL_STAT_STATE slIDLE q sl
    else s

/-- Every pad lane a synthesiser clocks follows it. -/
def State.lanesFollow (s : State) (k : Nat) : State :=
  (List.range 24).foldl (fun t q => [0, 1, 2, 3].foldl (fun u n => u.laneFollow k q n) t) s

/-- An AMCLK output follows its synthesiser (R310): gated while that one is out of lock, with AMCLK_GATED. -/
def State.amclkFollow (s : State) (n : Nat) : State :=
  let locked := s.synState (10 + s.get APORT.AMCLK_CFG_SYN 0 n) 0 = syLOCKED
  let g := s.get APORT.AMCLK_CFG_GATED 0 n
  if s.get APORT.AMCLK_CFG_EN 0 n = 0 ∨ locked then s.set APORT.AMCLK_CFG_GATED 0 0 n
  else if g = 1 then s
  else (s.set APORT.AMCLK_CFG_GATED 1 0 n).raise .aport 0 APORT.EV_AMCLK_GATED

/-- SYNC_OUT follows its synthesiser (R355). -/
def State.syncOutFollow (s : State) : State :=
  let locked := s.synState (s.get SYNTHCTL.SYNCOUT_CFG_SYN) 0 = syLOCKED
  if s.get SYNTHCTL.SYNCOUT_CFG_MODE = 0 ∨ locked then s.set SYNTHCTL.HID_GATED 0
  else if s.get SYNTHCTL.HID_GATED = 1 then s
  else (s.set SYNTHCTL.HID_GATED 1).raise .synthctl 0 SYNTHCTL.EV_SYNCOUT_GATED

/-- OUT_CFG.RUN of a timing synthesiser, and its consumers, after a change of its state or its outputs. -/
def State.clocksFollow (s : State) (k : Nat) : State :=
  if 12 ≤ k then s
  else
    let s := (List.range 6).foldl (fun (t : State) j => t.set SYNTH.OUT_CFG_RUN (flag (t.outRuns k j)) k j) s
    let s := if 10 ≤ k ∧ s.domUp 19 then (List.range 4).foldl (fun t n => t.amclkFollow n) s else s
    (s.lanesFollow k).syncOutFollow

/-- A loop begins acquisition from BAND (R347). -/
def State.startBand (s : State) (k b : Nat) : State :=
  ((s.setSyn k b syBAND).bump SYNTH.CNT_BAND_SEARCHES k).clocksFollow k

/-- A write of SYN_N, or of SYN_FRAC, restarts acquisition from BAND (R348); in a pair's page the fields are read-only. -/
def execSynNWrite (m : Fin 7) (k : Fin 20) (frac : Bool) (v : Word) (s : State) : Host.Outcome State Fault Refusal :=
  done (s.withWrite m .synth k (if frac then 0x044 else 0x040) v.toNat (fun t =>
    if k.val < 12 ∧ t.synState k 0 ≠ syOFF then t.startBand k 0 else t))

/-- Whether a loop is one of the device's: half 1 only in a pair. -/
def synExists (k : Nat) (b : Bool) : Bool := !b || 12 ≤ k

/-- The VCO band search of a loop ends (R344, R347). -/
def execBandFound (k : Fin 20) (b : Bool) (band : BitVec 6) (s : State) : Host.Outcome State Fault Refusal :=
  if synExists k b ∧ s.synState k (flag b) = syBAND then
    done ((s.setSyn k (flag b) syACQUIRE).set (if b then SYNTH.SYN_STAT_BAND_B else SYNTH.SYN_STAT_BAND) band.toNat k)
  else done s

/-- A pair of which one half has just locked: the island clocks take it where the selected half is out (R353, R354). -/
def State.pairSelect (s : State) (k b : Nat) : State :=
  if k < 12 then s
  else
    let sel := s.get SYNTH.SYN_STAT_SEL k
    let s := if s.synState k sel ≠ syLOCKED then s.set SYNTH.SYN_STAT_SEL b k else s
    (s.set SYNTH.HID_DOUBLE 0 k).set SYNTH.SYN_STAT_FALLBACK 0 k

/-- A loop enters LOCKED: RELOCK where it had been LOCKED before; its outputs run again. -/
def State.enterLocked (s : State) (k b : Nat) : State :=
  let s := s.raiseIf (s.get SYNTH.HID_WASLOCKED k b = 1) .synth k SYNTH.EV_RELOCK
  (((s.setSyn k b syLOCKED).set SYNTH.HID_WASLOCKED 1 k b).pairSelect k b).clocksFollow k

/-- Phase error within 3.2 ns for 100 us (R347). -/
def execSynLocked (k : Fin 20) (b : Bool) (s : State) : Host.Outcome State Fault Refusal :=
  if synExists k b ∧ s.synState k (flag b) = syACQUIRE then done (s.enterLocked k (flag b)) else done s

/-- A memory quadrant whose clock is gated (R211): FAILED, protection shed, and what fits of its allocations rehomed. -/
def State.quadLost (s : State) (q : Nat) : State :=
  let s := (s.set SYNCMGR.QUAD_STAT_STATE quadFAILED 0 q).raise .syncmgr 0 SYNCMGR.EV_QUAD_FAIL
  let s := (quadChannels q).foldl (fun (t : State) c => t.selAway ⟨.memch, c, 0⟩ (t.halfOnChannel c)) s
  (s.abandonMoves q).relieveOn.settleMoves.recount

/-- Both halves of a pair out of lock (R354). -/
def State.pairLost (s : State) (k : Nat) : State :=
  let s := (s.set SYNTH.HID_DOUBLE 1 k).raise .synthctl 0 SYNTHCTL.EV_PAIR_DOUBLE
  if k = 15 then s.set SYNTH.SYN_STAT_FALLBACK 1 k else if 16 ≤ k then s.quadLost (k - 16) else s

/-- The stamp of a loss of lock, for the limit of R357. -/
def State.stampLoss (s : State) (k b : Nat) : State :=
  let l := s.recentIsolations (synUnit k b) ++ [s.clk.uptime]
  { s with repair := { s.repair with isolations := NTable.put s.repair.isolations (synUnit k b).key l } }

/-- A half out of lock is taken out of service for its repair (R357). -/
def State.dropHalf (s : State) (k b : Nat) : State :=
  ((s.setSyn k b syFAILED).setUnit (synUnit k b) uISOLATED).logStep (synUnit k b) stISOLATE

/-- The change of a pair to its other half (R353). -/
def State.swapHalf (s : State) (k : Nat) : State :=
  ((s.set SYNTH.SYN_STAT_SEL (1 - s.get SYNTH.SYN_STAT_SEL k) k).bump SYNTH.CNT_HOLDS k).raise .synth k SYNTH.EV_HOLD_SWAP

/-- A loss of lock (R352): HOLD for a timing synthesiser, the partner for a selected half, the double loss of R354. -/
def State.lockLost (s : State) (k b : Nat) : State :=
  let s := ((s.bump SYNTH.CNT_LOCK_LOSSES k).raise .synth k SYNTH.EV_LOCK_LOST).stampLoss k b
  if k < 12 then
    (((s.setSyn k 0 syHOLD).bump SYNTH.CNT_HOLDS k).raise .synth k SYNTH.EV_HOLD_SWAP).clocksFollow k
  else
    let s := s.dropHalf k b
    if s.get SYNTH.SYN_STAT_SEL k ≠ b then s
    else if s.synState k (1 - b) = syLOCKED then s.swapHalf k
    else s.pairLost k

/-- A loop's phase error or frequency leaves its limits (R352). -/
def execLossOfLock (k : Fin 20) (b : Bool) (s : State) : Host.Outcome State Fault Refusal :=
  if synExists k b ∧ s.synState k (flag b) = syLOCKED then done (s.lockLost k (flag b)) else done s

/-- An attempt to reacquire in HOLD, every 10 ms, with continuous phase (R355). -/
def execHoldReacquire (k : Fin 12) (ok : Bool) (s : State) : Host.Outcome State Fault Refusal :=
  if s.synState k 0 = syHOLD ∧ ok then done (s.enterLocked k 0) else done s

/-- The family of a timing synthesiser (Table 12.1). -/
def synFamily (k : Nat) : List Nat :=
  if k < 4 then [0, 1, 2, 3] else if k < 8 then [4, 5, 6, 7] else if k < 10 then [8, 9] else [k]

/-- The divider of an output: 0 is treated as 1. -/
def State.outDiv (s : State) (k j : Nat) : Nat := max 1 (s.get SYNTH.OUT_CFG_DIV k j)

/-- The output that replaces output `j` of a failed synthesiser (R356): of the lowest LOCKED one of its family with the same
N and FRAC that runs one of the same DIV. -/
def State.replacement (s : State) (k j : Nat) : Option (Nat × Nat) :=
  ((synFamily k).flatMap (fun e => (List.range 6).map (fun i => (e, i)))).find? (fun e =>
    e.1 ≠ k && s.synState e.1 0 = syLOCKED && s.get SYNTH.SYN_N_N e.1 = s.get SYNTH.SYN_N_N k
      && s.get SYNTH.SYN_FRAC_FRAC e.1 = s.get SYNTH.SYN_FRAC_FRAC k && s.outRuns e.1 e.2 && s.outDiv e.1 e.2 = s.outDiv k j)

/-- One selector of a quad moved off a failed synthesiser. -/
def State.moveSel (s : State) (k q : Nat) (syn out : Field) : State :=
  if s.get syn q ≠ k then s
  else match s.replacement k (s.get out q) with
    | none => s
    | some e => (s.set syn e.1 q).set out e.2 q

/-- The consumers of a failed synthesiser move to an equal LOCKED one (R356). -/
def State.moveConsumers (s : State) (k : Nat) : State :=
  let s := (List.range 24).foldl (fun t q =>
    ((t.moveSel k q QUAD.TXCLK_SEL_V_SYN QUAD.TXCLK_SEL_V_OUT).moveSel k q QUAD.TXCLK_SEL_F_SYN QUAD.TXCLK_SEL_F_OUT).moveSel
      k q QUAD.TXCLK_SEL_E_SYN QUAD.TXCLK_SEL_E_OUT) s
  s.clocksFollow k

/-- 1 s in HOLD without reacquiring, or the control voltage at a rail (R347, R356). -/
def execHoldTimeout (k : Fin 12) (s : State) : Host.Outcome State Fault Refusal :=
  if s.synState k 0 = syHOLD then
    done (((s.dropHalf k 0).raise .synth k SYNTH.EV_FAILED).moveConsumers k)
  else done s

/-- The outputs with SYNC_EN set. -/
def State.syncOutputs (s : State) : List (Nat × Nat) :=
  ((List.range 12).flatMap (fun k => (List.range 6).map (fun j => (k, j)))).filter (fun e => s.get SYNTH.OUT_CFG_SYNC_EN e.1 e.2 = 1)

/-- A write of SYNC_ARM with ARM (R351): blocked while an output with SYNC_EN set has EN set. -/
def execSyncArm (m : Fin 7) (v : Word) (s : State) : Host.Outcome State Fault Refusal :=
  done (s.withWrite m .synthctl 0 0x040 v.toNat (fun t =>
    if !bitOf v.toNat 0 then t
    else
      let bad := t.syncOutputs.filter (fun e => t.get SYNTH.OUT_CFG_EN e.1 e.2 = 1)
      if bad ≠ [] then
        bad.foldl (fun (u : State) e => u.raise .synth e.1 SYNTH.EV_CFG_BLOCKED) (t.raise .synthctl 0 SYNTHCTL.EV_CFG_BLOCKED)
      else t.syncOutputs.foldl (fun (u : State) e => u.set SYNTH.HID_ARMED 1 e.1 e.2) (t.set SYNTHCTL.SYNC_ARM_ARMED 1)))

/-- A SYNC_IN edge on one armed output: its divider restarts where its synthesiser is LOCKED (R351). -/
def State.syncOutput (s : State) (e : Nat × Nat) : State :=
  if s.get SYNTH.HID_ARMED e.1 e.2 = 1 ∧ s.synState e.1 0 = syLOCKED then
    (s.set SYNTH.HID_ARMED 0 e.1 e.2).set SYNTH.HID_RESTART (s.clk.sysFs + 40000000) e.1 e.2
  else s

/-- A rising edge on SYNC_IN, high for at least 20 ns (R351). -/
def execSyncInEdge (s : State) : Host.Outcome State Fault Refusal :=
  if s.get SYNTHCTL.SYNC_ARM_ARMED = 1 ∧ s.domUp 22 then
    let t := s.syncOutputs.foldl (fun u e => u.syncOutput e) s
    let left := t.syncOutputs.any (fun e => t.get SYNTH.HID_ARMED e.1 e.2 = 1)
    done ((t.set SYNTHCTL.SYNC_ARM_ARMED (flag left)).raise .synthctl 0 SYNTHCTL.EV_SYNC_DONE)
  else done s

/-- A write of ISP_CTL with SWAP: the pair changes to its other half if that one is LOCKED (R360). -/
def execIspSwap (m : Fin 7) (k : Fin 8) (v : Word) (s : State) : Host.Outcome State Fault Refusal :=
  done (s.withWrite m .synth (12 + k) 0x080 v.toNat (fun t =>
    if bitOf v.toNat 0 ∧ t.synState (12 + k) (1 - t.get SYNTH.SYN_STAT_SEL (12 + k)) = syLOCKED then t.swapHalf (12 + k) else t))

/-- Takes the unselected half of a pair to its self-test (R360). -/
def State.testHalf (s : State) (k : Nat) : State :=
  let u := synUnit k (1 - s.get SYNTH.SYN_STAT_SEL k)
  if s.unit u = uRUN then s.setUnit u uTEST else s

/-- A write of ISP_CTL with TEST: the unselected half is self-tested (R360). -/
def execIspTest (m : Fin 7) (k : Fin 8) (v : Word) (s : State) : Host.Outcome State Fault Refusal :=
  done (s.withWrite m .synth (12 + k) 0x080 v.toNat (fun t => if bitOf v.toNat 1 then t.testHalf (12 + k) else t))

/-- The hold of a lower LOCK_ANA code ends after 1 s: the code of the condition present takes effect (R359). -/
def execLockAnaHoldEnd (s : State) : Host.Outcome State Fault Refusal := done (s.set SYNTHCTL.HID_ANAHOLD 0)

/-- The repair of a synthesiser or a half ends (R357): in service, or RETIRED after a failure or 3 losses in 24 hours. -/
def State.synthTested (s : State) (k b : Nat) (pass : Bool) : State :=
  if pass ∧ (s.recentIsolations (synUnit k b)).length < 3 then
    (((s.setUnit (synUnit k b) uRUN).logStep (synUnit k b) stSELFTEST).logStep (synUnit k b) stRETURN).clocksFollow k
  else
    let s := (s.logStep (synUnit k b) stSELFTEST (if pass then 0 else 1)).retire (synUnit k b)
    ((s.setSyn k b syRETIRED).raise .synth k SYNTH.EV_FAILED).clocksFollow k

end Sys2Proof.Machine
end

