-- ==== Sys2Proof/Machine/Reference.lean ====
section
/-! DEFINITION. The reference manager: candidates, qualification, selection, the switch, disputes, and what follows system
time (R322 to R343). -/
namespace Sys2Proof.Machine

/-- Candidate states (Table 11.2). -/
abbrev rcDISABLED : Nat := 0
abbrev rcABSENT : Nat := 1
abbrev rcQUALIFYING : Nat := 2
abbrev rcQUALIFIED : Nat := 3
abbrev rcACTIVE : Nat := 4
abbrev rcREJECTED : Nat := 5

/-- States of the reference manager (RM_STAT.STATE). -/
abbrev rmFREE_RUN : Nat := 0
abbrev rmACQUIRE : Nat := 1
abbrev rmLOCKED : Nat := 2
abbrev rmHOLDOVER : Nat := 3
abbrev rmDISPUTE : Nat := 4
abbrev rmPREPARE : Nat := 5

/-- Device's own scalars: the state to return to when a PREPARE ends without its switch; HOLDOFF running; the candidate
awaited after an abandoned switch, plus 1; a dispute without an arbiter; the cap of the loop in use, in mHz; the uptime at
which a slot that was ACTIVE became ABSENT, plus 1. -/
def REFMGR.HID_REST : Field := ⟨.refmgr, 0x1100, 0, 3, .const 0⟩
def REFMGR.HID_HOLDOFF : Field := ⟨.refmgr, 0x1104, 0, 1, .const 0⟩
def REFMGR.HID_AWAIT : Field := ⟨.refmgr, 0x1108, 0, 5, .const 0⟩
def REFMGR.HID_DISPUTE : Field := ⟨.refmgr, 0x110C, 0, 1, .const 0⟩
def REFMGR.HID_CAP : Field := ⟨.refmgr, 0x1110, 0, 20, .const 0xFFFFF⟩
def REFMGR.HID_LOST : Field := ⟨.refmgr, 0x1200, 0, 49, .const 0⟩

/-- The 16 slots. -/
abbrev rcSlots : List Nat := List.range 16

/-- The state of a slot. -/
def State.rc (s : State) (k : Nat) : Nat := s.get REFMGR.RC_STAT_STATE 0 k
/-- The kind of a slot. -/
def State.rcKind (s : State) (k : Nat) : Nat := s.get REFMGR.RC_CFG_KIND 0 k
/-- The rank of a slot. -/
def State.rcRank (s : State) (k : Nat) : Nat := s.get REFMGR.RC_CFG_RANK 0 k

/-- Whether a kind carries time of day (Table 11.1). -/
def kindTime (kind : Nat) : Bool := kind = 6 || kind = 8
/-- Whether a kind delivers phase (Table 11.1). -/
def kindPhase (kind : Nat) : Bool := kind ≠ 3 && kind ≠ 9 && kind ≠ 0

/-- A slot enters a state, with QUAL_CHG and EVT_SLOT. -/
def State.setRc (s : State) (k st : Nat) : State :=
  if s.rc k = st then s
  else ((s.set REFMGR.RC_STAT_STATE st 0 k).set REFMGR.EVT_SLOT_SLOT k).raise .refmgr 0 REFMGR.EV_QUAL_CHG

/-- Whether a slot of the local oscillator excludes a rank (R332): candidates ranked below it, or equal to it. -/
def State.xoExcludes (s : State) (rank : Nat) : Bool :=
  rcSlots.any (fun k => s.rcKind k = 9 && s.get REFMGR.RC_CFG_EN 0 k = 1 && s.rcRank k ≤ rank)

/-- Whether a slot can be selected: QUALIFIED or ACTIVE, not the oscillator, not excluded by it. -/
def State.selectable (s : State) (k : Nat) : Bool :=
  (s.rc k = rcQUALIFIED || s.rc k = rcACTIVE) && s.rcKind k ≠ 9 && !s.xoExcludes (s.rcRank k)

/-- The better of two slots: lower rank, the ACTIVE one among equals, then the lower index (R332). -/
def State.betterRc (s : State) (a b : Nat) : Nat :=
  if s.rcRank b < s.rcRank a then b else if s.rcRank a < s.rcRank b then a
  else if s.rc b = rcACTIVE then b else if s.rc a = rcACTIVE then a else min a b

/-- The slot that the rules of R332 select. -/
def State.bestRc (s : State) : Option Nat :=
  let f := s.get REFMGR.RM_CFG_FORCE_SLOT
  if s.get REFMGR.RM_CFG_MANUAL = 1 && (s.rc f = rcQUALIFIED || s.rc f = rcACTIVE) && s.rcKind f ≠ 9 then some f
  else match rcSlots.filter s.selectable with
    | [] => none
    | k :: t => some (t.foldl s.betterRc k)

/-- The ACTIVE slot. -/
def State.activeRc (s : State) : Option Nat :=
  if s.get REFMGR.RM_STAT_ACTIVE_VALID = 1 then some (s.get REFMGR.RM_STAT_ACTIVE) else none
/-- The slot in PREPARE. -/
def State.pendingRc (s : State) : Option Nat :=
  if s.get REFMGR.RM_STAT_PENDING_VALID = 1 then some (s.get REFMGR.RM_STAT_PENDING) else none

/-- A switch to a slot begins (R335). -/
def State.beginPrepare (s : State) (k : Nat) : State :=
  let s := if s.pendingRc.isSome then s else s.set REFMGR.HID_REST (s.get REFMGR.RM_STAT_STATE)
  (((s.set REFMGR.RM_STAT_STATE rmPREPARE).set REFMGR.RM_STAT_PENDING k).set REFMGR.RM_STAT_PENDING_VALID 1).set REFMGR.HID_AWAIT 0

/-- The switch in PREPARE ends without acting: the state before it stands. -/
def State.endPrepare (s : State) : State :=
  if s.pendingRc.isNone then s
  else (s.set REFMGR.RM_STAT_PENDING_VALID 0).set REFMGR.RM_STAT_STATE (s.get REFMGR.HID_REST)

/-- Selection under R332 after any change: a better candidate displaces the ACTIVE one under REVERT or MANUAL at once; with
none ACTIVE a switch begins once HOLDOFF is over, or at once to a candidate that returns (R334). -/
def State.select (s : State) : State :=
  if s.get REFMGR.HID_DISPUTE = 1 then s
  else match s.bestRc with
    | none => s.endPrepare
    | some b =>
      if s.pendingRc = some b then s
      else if s.get REFMGR.HID_AWAIT ≠ 0 ∧ s.get REFMGR.HID_AWAIT ≠ b + 1 then s
      else match s.activeRc with
        | some a =>
          if a = b then s.endPrepare
          else if s.get REFMGR.RM_CFG_REVERT = 1 ∨ s.get REFMGR.RM_CFG_MANUAL = 1 then s.beginPrepare b
          else s
        | none =>
          if s.get REFMGR.HID_HOLDOFF = 1 ∧ s.get REFMGR.RC_STAT_RETURN 0 b = 0 then s else s.beginPrepare b

/-- HOLDOVER is entered (R333): at the frequency reached, with no phase moved. -/
def State.enterHoldover (s : State) : State :=
  let s := if s.pendingRc.isSome then s.set REFMGR.HID_REST rmHOLDOVER else s.set REFMGR.RM_STAT_STATE rmHOLDOVER
  ((((s.set REFMGR.RM_STAT_ACTIVE_VALID 0).set REFMGR.HOLD_STAT_AGE 0).set REFMGR.HOLD_STAT_ERR 0).bump REFMGR.CNT_HOLDOVERS).raise
    .refmgr 0 REFMGR.EV_HOLDOVER

/-- HOLDOFF starts (R334). -/
def State.startHoldoff (s : State) : State := s.set REFMGR.HID_HOLDOFF (flag (s.get REFMGR.RM_CFG_HOLDOFF ≠ 0))

/-- The ACTIVE slot, or the slot in PREPARE, is lost. -/
def State.loseRc (s : State) (k : Nat) : State :=
  let s := if s.pendingRc = some k then s.endPrepare.startHoldoff else s
  if s.activeRc = some k then s.enterHoldover.startHoldoff else s

/-- A candidate becomes ABSENT (Table 11.1): its measures end; one that was ACTIVE may return within 10 s (R331). -/
def State.rcAbsent (s : State) (k : Nat) : State :=
  let was := s.activeRc = some k
  let s := (s.loseRc k).setRc k rcABSENT
  let s := ((s.set REFMGR.RC_STAT_RETURN 0 0 k).set REFMGR.RC_STAT_PHASE_VALID 0 0 k).set REFMGR.RC_FREQ_VALID 0 0 k
  let s := if s.get REFMGR.HID_AWAIT = k + 1 then s.set REFMGR.HID_AWAIT 0 else s
  if was then s.set REFMGR.HID_LOST (s.clk.uptime + 1) 0 k else s

/-- The measures of a candidate as the device makes them: frequency in 0.001 ppm, phase in nanoseconds, and what it detects
of its format. -/
def State.rcMeasure (s : State) (k : Nat) (f : RcMeas) : State :=
  let s := (s.set REFMGR.RC_FREQ_OFFSET (ofSigned 24 f.freq) 0 k).set REFMGR.RC_FREQ_VALID 1 0 k
  let ph := max (-2147483648) (min 2147483647 f.phase)
  let s := (s.set REFMGR.RC_PHASE_NS (if kindPhase (s.rcKind k) then ofSigned 32 ph else 0) 0 k).set REFMGR.RC_STAT_PHASE_VALID
    (flag (kindPhase (s.rcKind k))) 0 k
  let s := s.set REFMGR.RC_STAT_TIME (flag (kindTime (s.rcKind k))) 0 k
  if s.rcKind k = 1 ∨ s.rcKind k = 2 ∨ s.rcKind k = 7 then
    ((((s.set REFMGR.RC_DETECT_RASTER f.raster 0 k).set REFMGR.RC_DETECT_RATE f.rate 0 k).set REFMGR.RC_DETECT_TRILEVEL
      (flag f.trilevel) 0 k).set REFMGR.RC_DETECT_TENFIELD (flag f.tenfield) 0 k).set REFMGR.RC_DETECT_AMPL f.ampl 0 k
  else s

/-- Whether a slot would be preferred to another once it qualifies (R337). -/
def State.outranks (s : State) (k p : Nat) : Bool :=
  s.rcKind k ≠ 9 && !s.xoExcludes (s.rcRank k) &&
  ((s.get REFMGR.RM_CFG_MANUAL = 1 && s.get REFMGR.RM_CFG_FORCE_SLOT = k) ||
   (s.rcRank k < s.rcRank p && !(s.get REFMGR.RM_CFG_MANUAL = 1 && s.get REFMGR.RM_CFG_FORCE_SLOT = p)))

/-- A better candidate before tRS abandons the switch (R337). -/
def State.abandonFor (s : State) (k : Nat) : State :=
  match s.pendingRc with
  | none => s
  | some p =>
    if s.outranks k p then
      (((s.endPrepare.set REFMGR.HID_AWAIT (k + 1)).bump REFMGR.CNT_ABANDONS).set REFMGR.EVT_SLOT_SLOT k).raise .refmgr 0 REFMGR.EV_ABANDON
    else s

/-- XTAL32 periods in 10 seconds. -/
abbrev tenSeconds : Nat := 10 * 32768

/-- The signal of an ABSENT candidate returns (R329): QUALIFYING, over 200 ms where R331 applies. -/
def execCandidatePresent (k : Fin 16) (f : RcMeas) (s : State) : Host.Outcome State Fault Refusal :=
  if s.rc k = rcABSENT then
    let lost := s.get REFMGR.HID_LOST 0 k
    let ret := lost ≠ 0 && s.clk.uptime + 1 ≤ lost + tenSeconds && f.predicted
    done ((((s.setRc k rcQUALIFYING).rcMeasure k f).set REFMGR.RC_STAT_RETURN (flag ret) 0 k).abandonFor k)
  else done s

/-- A candidate meets its ABSENT condition, or its grandmaster changes (Table 11.1, Table 11.5). -/
def execCandidateAbsent (k : Fin 16) (gm : Bool) (s : State) : Host.Outcome State Fault Refusal :=
  if s.rc k = rcDISABLED ∨ s.rc k = rcABSENT ∨ s.rcKind k = 9 then done s
  else done (((s.raiseIf gm .refmgr 0 REFMGR.EV_GM_CHG).rcAbsent k).select)

/-- A test of R330 fails: QUALIFYING again, with the time restarted. -/
def execQualTestFail (k : Fin 16) (s : State) : Host.Outcome State Fault Refusal :=
  if s.rc k = rcQUALIFYING ∨ s.rc k = rcQUALIFIED then
    let t := (if s.pendingRc = some k.val then s.endPrepare.startHoldoff else s).setRc k rcQUALIFYING
    let t := t.set REFMGR.RC_STAT_RETURN 0 0 k
    let t := if t.get REFMGR.HID_AWAIT = k.val + 1 then t.set REFMGR.HID_AWAIT 0 else t
    done t.select
  else done s

/-- The tests of a candidate have held for their time (R330, R331). -/
def execQualifyEnd (k : Fin 16) (f : RcMeas) (s : State) : Host.Outcome State Fault Refusal :=
  if s.rc k = rcQUALIFYING then done (((s.setRc k rcQUALIFIED).rcMeasure k f).select) else done s

/-- HOLDOFF ends (R334). -/
def execHoldoffExpire (s : State) : Host.Outcome State Fault Refusal :=
  if s.get REFMGR.HID_HOLDOFF = 1 then done (s.set REFMGR.HID_HOLDOFF 0).select else done s

/-- The phase ambiguity of a candidate in femtoseconds, 0 for none (Table 11.1). -/
def State.ambiguity (s : State) (k : Nat) : Nat :=
  match s.rcKind k with
  | 1 | 2 =>
    let p := framePeriod (s.get REFMGR.RC_DETECT_RATE 0 k)
    if s.get REFMGR.RC_DETECT_RASTER 0 k = 0 && s.get REFMGR.RC_DETECT_TENFIELD 0 k = 1 then 5 * p else p
  | 7 => framePeriod (s.get REFMGR.RC_DETECT_RATE 0 k)
  | 4 | 5 => fsPerSecond
  | _ => 0

/-- A phase difference reduced to -A/2 < d <= A/2 (R335). -/
def reducePhase (a : Nat) (d : Int) : Int :=
  if a = 0 then d else
    let r := d % (a : Int)
    if (a : Int) < 2 * r then r - a else r

/-- The step of system time that a switch to a slot makes (R335). -/
def State.switchStep (s : State) (k : Nat) (d : Int) : Int := if kindPhase (s.rcKind k) then reducePhase (s.ambiguity k) d else 0

/-- The cap of the loop of a kind in mHz (R336): of PTP its Sync rate divided by 16. -/
def loopCap (kind ptpCap : Nat) : Nat := match kind with | 6 => ptpCap | 4 | 5 => 62 | 7 => 10000 | _ => 1000000

/-- BW_TRACK in use, clamped to its range and the cap. -/
def State.bwTrack (s : State) : Nat := min (max 1 (min 1000000 (s.get REFMGR.LOOP_CFG_BW_TRACK))) (max 1 (s.get REFMGR.HID_CAP))

/-- The bandwidth at which the loop opens (R336). -/
def State.bwOpen (s : State) : Nat := if 100000 < s.bwTrack then s.bwTrack else min 100000 (max 1 (s.get REFMGR.HID_CAP))

/-- System time stepped, with LAST_STEP, and every generator told (R335, R260). -/
def State.stepTime (s : State) (d : Int) : State :=
  let s := { s with clk := { s.clk with sysFs := ((s.clk.sysFs : Int) - d).toNat } }
  let s := (s.set REFMGR.LAST_STEP_NS_NS (ofSigned 32 ((d.tmod fsPerSecond).tdiv 1000000))).set REFMGR.LAST_STEP_S_SECONDS
    (ofSigned 32 (d.tdiv fsPerSecond))
  (List.range 192).foldl (fun t o => t.stepPhase o d) s

/-- The end of PREPARE, tRS (R335, R336): system time adopts the candidate's phase, the loop opens, SWITCH. -/
def State.switchTo (s : State) (k : Nat) (diff : Int) (ptpCap : Nat) : State :=
  let d := s.switchStep k diff
  let s := match s.activeRc with | some a => if a = k then s else s.setRc a rcQUALIFIED | none => s
  let s := (s.setRc k rcACTIVE).set REFMGR.RC_STAT_RETURN 0 0 k
  let s := ((((s.set REFMGR.RM_STAT_ACTIVE k).set REFMGR.RM_STAT_ACTIVE_VALID 1).set REFMGR.RM_STAT_PENDING_VALID 0).set
    REFMGR.RM_STAT_STATE rmACQUIRE).set REFMGR.HID_HOLDOFF 0
  let s := s.set REFMGR.HID_CAP (min 1000000 (loopCap (s.rcKind k) ptpCap))
  let s := ((s.set REFMGR.BW_NOW_BW s.bwOpen).bump REFMGR.CNT_SWITCHES).set REFMGR.EVT_SLOT_SLOT k
  (s.raise .refmgr 0 REFMGR.EV_SWITCH).stepTime d

/-- tRS: the candidate's phase minus system time's, in femtoseconds, and the cap of a PTP loop in mHz. -/
def execPrepareEnd (diff : Int) (ptpCap : Nat) (s : State) : Host.Outcome State Fault Refusal :=
  match s.pendingRc with
  | none => done s
  | some k => done (s.switchTo k diff ptpCap)

/-- A loop step has been held for its time (R336): ten times narrower, LOCKED at BW_TRACK. -/
def execLoopStep (s : State) : Host.Outcome State Fault Refusal :=
  if s.get REFMGR.RM_STAT_STATE = rmACQUIRE ∨ (s.get REFMGR.RM_STAT_STATE = rmPREPARE ∧ s.get REFMGR.HID_REST = rmACQUIRE) then
    let b := max s.bwTrack (s.get REFMGR.BW_NOW_BW / 10)
    let t := s.set REFMGR.BW_NOW_BW b
    if b ≠ s.bwTrack then done t
    else if s.get REFMGR.RM_STAT_STATE = rmACQUIRE then done (t.set REFMGR.RM_STAT_STATE rmLOCKED)
    else done (t.set REFMGR.HID_REST rmLOCKED)
  else done s

/-! ## Disputes -/

/-- The measured frequency of a slot, in 0.001 ppm. -/
def State.rcFreq (s : State) (k : Nat) : Int := signedOf 24 (s.get REFMGR.RC_FREQ_OFFSET 0 k)
/-- The difference of two frequencies, in 0.001 ppm. -/
def freqGap (a b : Int) : Nat := (a - b).natAbs
/-- U of the oscillator class, in 0.001 ppm (Table 11.3). -/
def State.xoU (s : State) : Nat := match s.get REFMGR.RM_CFG_XO_CLASS with | 0 => 500 | 1 => 20 | _ => 2

/-- The winner of an arbitration between two slots (R338), if an arbiter is found: another QUALIFIED candidate, then the local
oscillator. -/
def State.arbiter (s : State) (a b : Nat) : Option Nat :=
  let agrees (k x : Nat) : Bool := freqGap (s.rcFreq k) (s.rcFreq x) ≤ 100
  let others := rcSlots.filter (fun k => k ≠ a && k ≠ b && s.rc k = rcQUALIFIED && s.rcKind k ≠ 9 && agrees k a != agrees k b)
  match others with
  | k :: _ => some (if agrees k a then a else b)
  | [] =>
    let u := s.xoU
    let inA := decide ((s.rcFreq a).natAbs ≤ u)
    let inB := decide ((s.rcFreq b).natAbs ≤ u)
    if inA && !inB then some a else if inB && !inA then some b else none

/-- The loser of an arbitration is REJECTED (R338): HOLDOVER where it was ACTIVE; the winner is switched to at once. -/
def State.arbitrate (s : State) (winner loser : Nat) : State :=
  let s := (((s.set REFMGR.HID_DISPUTE 0).bump REFMGR.CNT_DISPUTES).set REFMGR.EVT_SLOT_SLOT loser).raise .refmgr 0 REFMGR.EV_DISPUTE
  let s := if s.pendingRc = some loser then s.endPrepare else s
  let s := if s.activeRc = some loser then s.enterHoldover else s
  let s := if s.get REFMGR.RM_STAT_STATE = rmDISPUTE then s.set REFMGR.RM_STAT_STATE (s.get REFMGR.HID_REST) else s
  let s := s.setRc loser rcREJECTED
  if s.activeRc.isSome then s.select else s.beginPrepare winner

/-- A disagreement that no arbiter resolves (R339): below DISPUTE_THR the ACTIVE candidate is kept and the state reads DISPUTE;
at or above it, HOLDOVER. -/
def State.openDispute (s : State) (a b : Nat) : State :=
  let big := s.get REFMGR.RM_CFG_DISPUTE_THR * 10 ≤ freqGap (s.rcFreq a) (s.rcFreq b)
  let was := s.get REFMGR.HID_DISPUTE
  let s := if s.pendingRc = some a ∨ s.pendingRc = some b then s.endPrepare else s
  let s := s.set REFMGR.HID_DISPUTE 1
  let s := if was = 0 then s.bump REFMGR.CNT_DISPUTES else s
  if s.activeRc = some a ∨ s.activeRc = some b then
    (if big then
       let x := s.activeRc.getD 0
       ((s.set REFMGR.EVT_SLOT_SLOT x).raise .refmgr 0 REFMGR.EV_DISPUTE).enterHoldover.setRc x rcQUALIFIED
     else if was = 0 then (s.set REFMGR.HID_REST (s.get REFMGR.RM_STAT_STATE)).set REFMGR.RM_STAT_STATE rmDISPUTE
     else s)
  else s

/-- Two slots of the best rank are measured and disagree by more than 0.1 ppm (R338, R339). -/
def execDispute (a b : Fin 16) (fa fb : Int) (s : State) : Host.Outcome State Fault Refusal :=
  let t := (s.set REFMGR.RC_FREQ_OFFSET (ofSigned 24 fa) 0 a).set REFMGR.RC_FREQ_OFFSET (ofSigned 24 fb) 0 b
  let best := match s.bestRc with | none => 16 | some k => s.rcRank k
  if a ≠ b ∧ s.selectable a ∧ s.selectable b ∧ s.rcRank a = best ∧ s.rcRank b = best ∧ 100 < freqGap (t.rcFreq a) (t.rcFreq b) then
    match t.arbiter a b with
    | some w => done (t.arbitrate w (if w = a.val then b.val else a.val))
    | none => done (t.openDispute a b)
  else done s

/-- A disagreement of two slots ends (R338, R339): below 0.05 ppm a REJECTED slot is QUALIFIED again and selection resumes; or
an arbiter has appeared. -/
def execDisputeEnd (a b : Fin 16) (fa fb : Int) (s : State) : Host.Outcome State Fault Refusal :=
  let t := (s.set REFMGR.RC_FREQ_OFFSET (ofSigned 24 fa) 0 a).set REFMGR.RC_FREQ_OFFSET (ofSigned 24 fb) 0 b
  if freqGap (t.rcFreq a) (t.rcFreq b) < 50 then
    let t := if t.rc a = rcREJECTED then t.setRc a rcQUALIFIED else t
    let t := if t.rc b = rcREJECTED then t.setRc b rcQUALIFIED else t
    let t := if t.get REFMGR.RM_STAT_STATE = rmDISPUTE then t.set REFMGR.RM_STAT_STATE (t.get REFMGR.HID_REST) else t
    done (t.set REFMGR.HID_DISPUTE 0).select
  else if t.get REFMGR.HID_DISPUTE = 1 then
    (match t.arbiter a b with
     | some w => done (t.arbitrate w (if w = a.val then b.val else a.val))
     | none => done t)
  else done t

/-! ## Writes, system time and commits -/

/-- What a change of RANK, REVERT or MANUAL does at once (R332, R337): the switch in PREPARE is abandoned for a better
candidate, or selection runs. -/
def State.reselect (s : State) : State :=
  let s := rcSlots.foldl (fun t k => if t.rc k = rcQUALIFYING then t.abandonFor k else t) s
  match s.pendingRc, s.bestRc with
  | some p, some b => if p = b then s else (s.abandonFor b).select
  | _, _ => s.select

/-- A write of RM_CFG, or of RC_CFG of a slot, whose RANK applies at once (R332). HOLDOFF above 10 reads 10. -/
def execRmCfgWrite (m : Fin 7) (slot : Option (Fin 16)) (v : Word) (s : State) : Host.Outcome State Fault Refusal :=
  match slot with
  | none => done (s.withWrite m .refmgr 0 0x040 v.toNat (fun t =>
      (t.set REFMGR.RM_CFG_HOLDOFF (min 10 (t.get REFMGR.RM_CFG_HOLDOFF))).reselect))
  | some k => done (s.withWrite m .refmgr 0 (0x100 + 0x20 * k.val) v.toNat (fun t =>
      (t.set REFMGR.RC_CFG_RANK (bitsOf v.toNat 4 4) 0 k.val).reselect))

/-- Once a second system time is copied into the backup counter while the ACTIVE candidate carries time of day (R322). -/
def execRtcCopy (s : State) : Host.Outcome State Fault Refusal :=
  match s.activeRc with
  | none => done s
  | some k =>
    if kindTime (s.rcKind k) then
      done { s with clk := { s.clk with rtcSeconds := s.sysSeconds, rtcSub := s.clk.sysFs % fsPerSecond * 32768 / fsPerSecond } }
    else done s

/-- The leap instant announced by the ACTIVE PTP instance (R328): the UTC offset changes, and LEAP. -/
def execLeapSecond (s : State) : Host.Outcome State Fault Refusal :=
  match s.activeRc with
  | none => done s
  | some k =>
    let i := s.get REFMGR.RC_CFG_SOURCE 0 k
    let up := s.get REFMGR.UTC_STAT_LEAP61 0 i
    let dn := s.get REFMGR.UTC_STAT_LEAP59 0 i
    if s.rcKind k = 6 ∧ up + dn ≠ 0 then
      let t := s.set REFMGR.UTC_STAT_OFFSET (s.get REFMGR.UTC_STAT_OFFSET 0 i + up + 65536 - dn) 0 i
      done (((t.set REFMGR.UTC_STAT_LEAP61 0 0 i).set REFMGR.UTC_STAT_LEAP59 0 0 i).raise .refmgr 0 REFMGR.EV_LEAP)
    else done s

/-- System time latched for a read (R342). -/
def State.latchTime (s : State) : State :=
  ((s.set REFMGR.SYSTIME_S_LO_SECONDS (bitsOf s.sysSeconds 0 32)).set REFMGR.SYSTIME_S_HI_SECONDS (bitsOf s.sysSeconds 32 16)).set
    REFMGR.SYSTIME_NS_NS s.sysNs

/-- A read of SYSTIME_S_LO latches the other two words (R342). -/
def execSystimeRead (m : Fin 7) (s : State) : Host.Outcome State Fault Refusal :=
  done (s.withRead m .refmgr 0 0x050 State.latchTime)

/-- Whether a commit of the REFMGR page may apply to `s` as `t` (R324, R343). -/
def refCommitOk (s t : State) : Bool :=
  let on := rcSlots.filter (fun k => t.get REFMGR.RC_CFG_EN 0 k = 1)
  let count (p : Nat → Bool) : Nat := (on.filter p).length
  let cfg (k : Nat) : Nat × Nat := (t.rcKind k, t.get REFMGR.RC_CFG_SOURCE 0 k)
  let held (k : Nat) : Bool := s.activeRc = some k || s.pendingRc = some k
  [1, 2, 3, 4].all (fun kd => count (fun k => t.rcKind k = kd || (t.rcKind k = 5 && (kd = 3 || kd = 4))) ≤ 1) &&
  count (fun k => t.rcKind k = 6) ≤ 4 && count (fun k => t.rcKind k = 7) ≤ 8 &&
  on.all (fun k => !(6 ≤ t.rcKind k && t.rcKind k ≤ 8) || count (fun j => cfg j = cfg k) ≤ 1) &&
  on.all (fun k => t.rcKind k ≠ 7 || t.laneSdi false (t.get REFMGR.RC_CFG_SOURCE 0 k)) &&
  rcSlots.all (fun k => !held k || t.get REFMGR.RC_CFG_EN 0 k = 0 ||
    (s.rcKind k = t.rcKind k && s.get REFMGR.RC_CFG_SOURCE 0 k = t.get REFMGR.RC_CFG_SOURCE 0 k)) &&
  rcSlots.all (fun k => !held k || s.rcKind k ≠ 6 ||
    (let i := s.get REFMGR.RC_CFG_SOURCE 0 k
     [REFMGR.PTP_CFG_PORT, REFMGR.PTP_CFG_DOMAIN, REFMGR.PTP_CFG_IPV6, REFMGR.PTP_CFG_DREQ_UNICAST, REFMGR.PTP_CFG_ANN_TIMEOUT,
      REFMGR.PTP_CFG2_CLASS_MAX, REFMGR.PTP_CFG2_DSCP, REFMGR.PTP_CFG2_VLAN, REFMGR.PTP_CFG2_VLAN_EN].all (fun f => s.get f 0 i = t.get f 0 i)))

/-- A slot after a commit: EN set leads out of DISABLED, EN clear back to it (Table 11.2). -/
def State.rcCommitted (s : State) (k : Nat) : State :=
  if s.get REFMGR.RC_CFG_EN 0 k = 1 then (if s.rc k = rcDISABLED then s.setRc k rcABSENT else s)
  else if s.rc k = rcDISABLED then s else (s.rcAbsent k).setRc k rcDISABLED

/-- The slots and the selection after a commit of the REFMGR page. -/
def State.refCommitted (s : State) : State := (rcSlots.foldl (fun t k => t.rcCommitted k) s).reselect

end Sys2Proof.Machine
end

