-- ==== Sys2Proof/Machine/Generators.lean ====
section
/-! DEFINITION. The start of output timing generators (R256, R266, R267, R573). -/
namespace Sys2Proof.Machine

/-- The TX_V context of a VO as a port, if one is allocated: the device's own index of the contexts that send a VO. -/
def State.txvPort (s : State) (o : Nat) : Option Nat :=
  (s.regs.filterMap (fun e => if e.1.field = FC.W0_TYPE ∧ e.2 = 5 ∧ bitsOf (s.get FC.W8_RAW e.1.inst) 0 15 = o then
    some (s.get FC.W0_PORT e.1.inst) else none)).head?

/-- Whether the clock of a VO is locked (R266): for an SDI VO its quad's family selector, for an IP VO the Ethernet
synthesiser of its TX_V port, or either of TS8 and TS9. -/
def State.voClock (s : State) (o : Nat) : Bool :=
  if s.laneSdi true o then
    let c := s.laneClock (o / 4) (o % 4)
    s.synState c.1 0 = syLOCKED && s.outRuns c.1 c.2
  else match s.txvPort o with
    | some p => s.synState (s.get QUAD.TXCLK_SEL_E_SYN (p / 4)) 0 = syLOCKED
    | none => s.synState 8 0 = syLOCKED || s.synState 9 0 = syLOCKED

/-- Whether a VO may start: in service under R267, or after a reset under R266. -/
def State.mayStart (s : State) (o : Nat) (timedOut : Bool) : Bool :=
  s.get VOUT.TIM_STAT_STATE o = tgWAIT && s.get VOUT.CFG_EN o = 1 && s.domUp (Page.vout.domain o) && s.portCode true o = 0 &&
  !s.voGanged o &&
  (s.get VOUT.HID_INSERVICE o = 1 ||
    ((s.get RESET.SEQ_STAT_LOADED = 1 || s.get RESET.SEQ_STAT_EMPTY = 1) && s.voClock o && (s.refQualified || timedOut)))

/-- A take that waits for an output whose generator starts acts on its first frame (R574). -/
def State.dueAtStart (s : State) (o : Nat) : State :=
  match NTable.find s.video.pend o with
  | none => s
  | some t => { s with video := { s.video with pend := NTable.put s.video.pend o { t with frame := s.get VOUT.FRAME_CNT_COUNT o } } }

/-- A VO starts at an aligned frame boundary, at its offsets: its frame count is system time's (R256, R266). -/
def State.startGenerator (s : State) (o : Nat) : State :=
  let s := ((s.set VOUT.TIM_STAT_STATE s.restState o).set VOUT.PHASE_ERR_ERR 0 o).set VOUT.FRAME_CNT_COUNT (s.sysFrame (s.get VOUT.FMT_RATE o)) o
  let s := s.dueAtStart o
  let s := (((s.set VOUT.HID_INSERVICE 0 o).set VOUT.HID_STEP 0 o).set VOUT.HID_DELTA 0 o).set VOUT.HID_PVALID 0 o
  let s := (s.set VOUT.STAT_STATE (s.shows o) o).raise .vout o VOUT.EV_STARTED
  s.voSlice o (s.voClock o)

/-- The first aligned frame boundary after the start conditions; `timedOut`: the timeout of R266 since PD22's release has
passed. -/
def execGeneratorStart (o : Fin 192) (timedOut : Bool) (s : State) : Host.Outcome State Fault Refusal :=
  if s.mayStart o timedOut then done (s.startGenerator o) else done s

end Sys2Proof.Machine
end

