-- ==== Sys2Proof/Machine/Flows.lean ====
section
/-! DEFINITION. ST 2110 flows: the flow contexts and their requests, reception, ST 2022-7 pairs, sending, forwarding and flow
takes, multicast membership, the host packet path and the flow store (R121 to R152), and the Ethernet ports' frames (R83,
R127). -/
namespace Sys2Proof.Machine

/-- Device's own scalars of a context: whether a sequence number was seen, the last one, complete frames counted in DETECT,
whether FMT_MISMATCH was raised in this DETECT, the RTP timestamp of the frame in progress, the last sequence number sent,
whether an output or a forwarded pair waits for the first packet of a frame, from which timestamp on, the last sequence
number released by a merge and whether there was one, the policing window and the bits counted in it, and the samples of
an audio flow since a gap. -/
def FC.HID_SEEN : Field := ⟨.fc, 0x1100, 0, 1, .const 0⟩
def FC.HID_SEQ : Field := ⟨.fc, 0x1104, 0, 32, .const 0⟩
def FC.HID_GOOD : Field := ⟨.fc, 0x1108, 0, 2, .const 0⟩
def FC.HID_MISM : Field := ⟨.fc, 0x110C, 0, 1, .const 0⟩
def FC.HID_TS : Field := ⟨.fc, 0x1110, 0, 32, .const 0⟩
def FC.HID_TXSEQ : Field := ⟨.fc, 0x1114, 0, 32, .const 0⟩
def FC.HID_AWAIT : Field := ⟨.fc, 0x1118, 0, 1, .const 0⟩
def FC.HID_FROM : Field := ⟨.fc, 0x111C, 0, 32, .const 0⟩
def FC.HID_MSEQ : Field := ⟨.fc, 0x1120, 0, 33, .const 0⟩
def FC.HID_WIN : Field := ⟨.fc, 0x1124, 0, 20, .const 0⟩
def FC.HID_BITS : Field := ⟨.fc, 0x1128, 0, 48, .const 0⟩
def FC.HID_RAMP : Field := ⟨.fc, 0x112C, 0, 6, .const 32⟩

/-- Kinds of context (Table 4.1). -/
abbrev fcRXV : Nat := 1
abbrev fcRXA30 : Nat := 2
abbrev fcRXA31 : Nat := 3
abbrev fcRXANC : Nat := 4
abbrev fcTXV : Nat := 5
abbrev fcTXA30 : Nat := 6
abbrev fcTXA31 : Nat := 7
abbrev fcTXANC : Nat := 8
abbrev fcFWDIN : Nat := 9
abbrev fcFWDOUT : Nat := 10

/-- States of a context (Table 4.3, W0.STATE). -/
abbrev fcIDLE : Nat := 1
abbrev fcWAIT : Nat := 2
abbrev fcDETECT : Nat := 3
abbrev fcRUN : Nat := 4
abbrev fcLOST : Nat := 5
abbrev fcDRAIN : Nat := 6

/-- Whether a kind receives: terminated reception or FWD_IN. -/
def kindReceives (k : Nat) : Bool := (1 ≤ k && k ≤ 4) || k = 9
/-- Whether a kind sends: a terminated send flow or FWD_OUT. -/
def kindSends (k : Nat) : Bool := (5 ≤ k && k ≤ 8) || k = 10
/-- Whether a terminated kind carries audio. -/
def kindAudio (k : Nat) : Bool := k = 2 || k = 3 || k = 6 || k = 7
/-- Whether a kind forwards. -/
def kindForwards (k : Nat) : Bool := k = 9 || k = 10

/-- No context, in LINK and NEXT. -/
abbrev noFc : Nat := 0x7FFFF

/-- The kind of a context. -/
def State.fcType (s : State) (fc : Nat) : Nat := s.get FC.W0_TYPE fc
/-- The state of a context. -/
def State.fcState (s : State) (fc : Nat) : Nat := s.get FC.W0_STATE fc

/-- The contexts allocated, in rising order. -/
def State.contexts (s : State) : List Nat := (s.regs.filter (fun e => e.1.field = FC.W0_TYPE)).map (fun e => e.1.inst)

/-- A field of a context image, twelve words. -/
def imgGet (w : List Nat) (f : Field) : Nat := bitsOf (w.getD (f.off / 4) 0) f.lo f.width

/-- The image of a context as it stands. -/
def State.imageOf (s : State) (fc : Nat) : List Nat :=
  (List.range 12).map (fun k => (FC.layout.filter (fun r => r.field.off = 4 * k)).foldl
    (fun n r => n + s.get r.field fc * 2 ^ r.field.lo) 0)

/-- The image in CTX_IMG. -/
def State.ctxImg (s : State) : List Nat := (List.range 12).map (fun k => s.get FLOW.CTX_IMG_WORD 0 k)

/-- The software fields of a context set from an image; the device's own are left (R126). -/
def State.writeImage (s : State) (fc : Nat) (w : List Nat) : State :=
  (FC.layout.filter (fun r => r.acc = .rw)).foldl (fun t r => t.set r.field (imgGet w r.field) fc) s

/-- The channels of an audio image: NCH + 1, doubled at 96 kHz. -/
def imgChannels (w : List Nat) : Nat :=
  (bitsOf (w.getD 8 0) 16 6 + 1) * (if bitOf (w.getD 8 0) 23 then 2 else 1)
/-- BIND of an image. -/
def imgBind (w : List Nat) : Nat := bitsOf (w.getD 8 0) 0 15
/-- NEXT of an image. -/
def imgNext (w : List Nat) : Nat := bitsOf (w.getD 8 0) 0 19
/-- RATE of a forward image. -/
def imgRate (w : List Nat) : Nat := bitsOf (w.getD 9 0) 16 3
/-- KIND of a forward image: 0 video, 1 audio, 2 ANC. -/
def imgKind (w : List Nat) : Nat := bitsOf (w.getD 9 0) 20 2

/-- An address (R125): whether it is IPv6, and its number; index 0 is an IPv4 address. -/
def State.addressOf (s : State) (pfx low : Nat) : Bool × Nat :=
  if pfx = 0 then (false, low)
  else (true, ((s.get FLOW.PREFIX_WORD0 2 pfx * 2 ^ 32 + s.get FLOW.PREFIX_WORD1 2 pfx) * 2 ^ 32 + s.get FLOW.PREFIX_WORD2 2 pfx) * 2 ^ 32 + low)

/-- Whether an address is multicast. -/
def isMulticast (a : Bool × Nat) : Bool := if a.1 then a.2 / 2 ^ 120 = 0xFF else a.2 / 2 ^ 28 = 0xE

/-- The destination address of an image. -/
def State.imgDst (s : State) (w : List Nat) : Bool × Nat := s.addressOf (imgGet w FC.W0_DPFX) (imgGet w FC.W1_DADDR)
/-- The source address of an image. -/
def State.imgSrc (s : State) (w : List Nat) : Bool × Nat := s.addressOf (imgGet w FC.W0_SPFX) (imgGet w FC.W2_SADDR)

/-- The key of a receive image (R128): port, destination address, UDP port, VLAN where tagged, source where SSM. -/
def State.imgKey (s : State) (w : List Nat) : List Nat :=
  let d := s.imgDst w
  [imgGet w FC.W0_PORT, flag d.1, d.2, imgGet w FC.W3_DPORT] ++
  (if imgGet w FC.W0_VLAN_EN = 1 then [1, imgGet w FC.W5_VLAN] else [0, 0]) ++
  (if imgGet w FC.W0_SSM = 1 then [1, flag (s.imgSrc w).1, (s.imgSrc w).2] else [0, 0, 0])

/-! ## Rates and charges -/

/-- The video bits of a frame sent in 1,260-byte payloads with their headers (R124). -/
def videoBits (f : Fmt) (header : Nat) : Nat :=
  let bytes := ceilDiv (pictureSamples f.raster * pictureLines f.raster * (if f.sampling = 0 then 2 else 3) * (if f.depth = 0 then 10 else 12)) 8
  (bytes + ceilDiv bytes 1260 * header) * 8

/-- The flow rate of an image in bit/s times 1001 (R124). -/
def State.imgFlowRate (s : State) (w : List Nat) : Nat :=
  let ty := imgGet w FC.W0_TYPE
  let v6 := imgGet w FC.W0_DPFX ≠ 0
  let vlan := 4 * imgGet w FC.W0_VLAN_EN
  let fmt := if ty = fcTXV then s.voFmt (imgBind w) else fmtOfWord (w.getD 9 0)
  let small := bitOf (w.getD 8 0) 22
  let bytes := if ty = fcRXA31 ∨ ty = fcTXA31 then 4 else if bitOf (w.getD 8 0) 24 then 3 else 2
  if ty = fcRXV ∨ ty = fcTXV then videoBits fmt ((if v6 then 112 else 92) + vlan) * rate1001 fmt.rate
  else if kindAudio ty then
    (imgChannels w * (if small then 6 else 48) * bytes + (if v6 then 98 else 78) + vlan) * 8 * (if small then 8000 else 1000) * bwUnit
  else if ty = fcTXANC then Config.ancRate (s.get VOUT.FMT_RATE (imgBind w)) * bwUnit
  else if kindForwards ty then bitsOf (w.getD 9 0) 0 16 * 10000000 * bwUnit
  else 0

/-- What a port admits in each direction: 95 % of its rate (R124), times 1001; 0 where it is no Ethernet port. -/
def State.portRate (s : State) (p : Nat) : Nat :=
  bwUnit * (if s.get QUAD.QUAD_CFG_Q100 (p / 4) = 1 then (if p % 4 = 0 then 95000000000 else 0)
    else match s.get QUAD.LANE_CFG_RXMODE (p / 4) (p % 4) with
      | 2 => 9500000000 | 3 => 23750000000 | 4 => 23750000000 | _ => 0)

/-- The image charged for a context: the one a MODIFY waits with, else its own. -/
def State.chargedImage (s : State) (fc : Nat) : List Nat := (NTable.find s.flow.images fc).getD (s.imageOf fc)

/-- The bandwidth charged on a port in one direction by the contexts other than one. -/
def State.portLoad (s : State) (p : Nat) (tx : Bool) (but : Nat) : Nat :=
  (s.contexts.filter (fun c => c ≠ but)).foldl (fun n c =>
    let w := s.chargedImage c
    let ty := imgGet w FC.W0_TYPE
    n + (if imgGet w FC.W0_PORT = p ∧ (if tx then kindSends ty else kindReceives ty) then s.imgFlowRate w else 0)) 0

/-- Source channels of a flow: an IP VI's range or the flow range (Table 9.1, R132). -/
def State.rxChannelsOk (s : State) (first n : Nat) : Bool :=
  (6144 ≤ first && first + n ≤ 22528) ||
  (first + n ≤ 6144 && first / 32 = (first + n - 1) / 32 && !s.laneSdi false (first / 32))

/-- Whether two ranges of channels meet. -/
def rangesMeet (a n b m : Nat) : Bool := a < b + m && b < a + n

/-! ## Pairs -/

/-- The partner a paired image would merge with (R135): a context of the same kind that names this one, the other leg. -/
def State.partnerOf (s : State) (fc : Nat) (w : List Nat) : Option Nat :=
  let o := imgGet w FC.W7_LINK
  if imgGet w FC.W7_PAIRED = 1 ∧ o < 262144 ∧ s.fcType o = imgGet w FC.W0_TYPE ∧ s.get FC.W7_PAIRED o = 1 ∧ s.get FC.W7_LINK o = fc
      ∧ s.get FC.W7_LEG o ≠ imgGet w FC.W7_LEG ∧ imgGet w FC.W0_TYPE ≠ fcFWDOUT then some o else none

/-- The partner of a context. -/
def State.partner (s : State) (fc : Nat) : Option Nat := s.partnerOf fc (s.imageOf fc)

/-- The number by which a pair's merge buffer is kept: the lower context of the two. -/
def State.lead (s : State) (fc : Nat) : Nat := match s.partner fc with | some o => min fc o | none => fc

/-- WINDOW in 0.1 ms, 1 to 500. -/
def windowOf (w : List Nat) : Nat := max 1 (min 500 (imgGet w FC.W7_WINDOW))

/-- The merge buffer of a pair as an allocation (Table 6.4): twice the flow rate; the flow rate times WINDOW + 2 ms. -/
def State.mergeAlloc (s : State) (owner : Nat) (w : List Nat) (q : Nat) : Alloc :=
  { kind := .merge, owner := owner, timing := 0, quad := q, bw := 2 * s.imgFlowRate w,
    cap := ceilDiv (s.imgFlowRate w * (windowOf w + 20)) (bwUnit * 10000 * 8 * 1048576), other := none,
    sets := s.layOut .merge q 1 0, moveTo := none, proved := 0 }

/-- The allocations without the merge buffer of a context. -/
def State.allocsWithout (s : State) (owner : Nat) : List (Nat × Alloc) :=
  s.video.allocs.filter (fun e => !(e.2.kind = .merge && e.2.owner = owner))

/-- The home quadrant a pair's merge buffer would take. -/
def State.mergeHome (s : State) (owner : Nat) (w : List Nat) : Option Nat :=
  let a := s.mergeAlloc owner w 0
  s.homeQuad (s.allocsWithout owner) a.bw a.cap []

/-- The merge allocations of a pair brought up to date after a context changed: one per formed pair, none otherwise. -/
def State.settlePair (s : State) (fc : Nat) : State :=
  let others := s.contexts ++ [fc]
  let keep := s.video.allocs.filter (fun e => e.2.kind ≠ .merge ||
    (e.2.owner ≠ fc && others.any (fun c => c = e.2.owner && (s.partner c).isSome && (s.partner c) ≠ some fc)))
  let s := { s with video := { s.video with allocs := keep } }
  match s.partner fc with
  | none => s
  | some o =>
    let k := min fc o
    match s.mergeHome k (s.imageOf fc) with
    | none => s
    | some q =>
      let id := nextId s.video.allocs
      let a := s.mergeAlloc k (s.imageOf fc) q
      { s with video := { s.video with allocs := NTable.put s.video.allocs id a } }

/-! ## The checks of a context request -/

/-- A refusal whose code the spec gives only as its range 0x20 to 0x2F, and one given as 0x10 to 0x1F: the code is a free
value of that range. (DESIGN CHOICE, assumption 19.) -/
abbrev codeInFormats : Nat := 0x120
abbrev codeInResources : Nat := 0x110

/-- The code a request answers with, and the state after a free value was drawn for it where the spec gives a range only. -/
def State.answerCode (s : State) (c : Nat) : Nat × State :=
  if c < 0x100 then (c, s) else (c - 0x100 + s.fresh.1 % 16, s.fresh.2)

/-- The rules of a kind that no code of Table 5.7 names: RX_V under R129 and R130, TX_V and TX_ANC under R137 and R138, the
channel limits of R132, the window of a pair (R126, R135). -/
def State.shapeOk (s : State) (fc : Nat) (w : List Nat) : Bool :=
  let ty := imgGet w FC.W0_TYPE
  let b := imgBind w
  let f := fmtOfWord (w.getD 9 0)
  1 ≤ ty && ty ≤ 10 && imgGet w FC.W0_PORT < 96 &&
  (ty ≠ fcRXV || (b < 192 && !s.laneSdi false b && f.raster ≤ 5 && (f.raster ≠ 5 || (b % 4 = 0 && s.portRate (imgGet w FC.W0_PORT) = 95000000000 * bwUnit)))) &&
  (ty ≠ fcRXANC || (b < 192 && !s.laneSdi false b)) &&
  (ty ≠ fcTXV || b < 192) &&
  (ty ≠ fcTXANC || (b < 192 && s.contexts.any (fun c => c ≠ fc && s.fcType c = fcTXV && imgBind (s.imageOf c) = b))) &&
  ((ty ≠ fcRXA31 && ty ≠ fcTXA31) || (bitsOf (w.getD 8 0) 16 6 < 32 && !bitOf (w.getD 8 0) 23))

/-- Whether a VI that an RX_V would bind is bound by another that is not its partner, or taken by a 4320p flow (R129). -/
def State.viTaken (s : State) (fc : Nat) (w : List Nat) : Bool :=
  let span (x : List Nat) : Nat := (fmtOfWord (x.getD 9 0)).slots
  s.contexts.any (fun c => c ≠ fc && s.fcType c = fcRXV && s.partnerOf fc w ≠ some c &&
    rangesMeet (imgBind w) (span w) (imgBind (s.imageOf c)) (span (s.imageOf c)))

/-- The resource checks of a context request, step 7 of R45 (Table 5.7, R123, R124, R128, R135, R143). -/
def State.ctxResource (s : State) (fc : Nat) (w : List Nat) : Nat :=
  let ty := imgGet w FC.W0_TYPE
  let others := s.contexts.filter (fun c => c ≠ fc)
  let pair := s.partnerOf fc w
  let owner := match pair with | some o => min fc o | none => fc
  let alloc := s.allocsWithout owner
  let memCode :=
    if pair.isNone then 0
    else match s.mergeHome owner w with
      | none => if totalBw alloc + 2 * s.imgFlowRate w > deviceBw then 0x13 else 0x14
      | some q => s.memoryTests (alloc ++ [(nextId s.video.allocs, s.mergeAlloc owner w q)])
  if memCode ≠ 0 then memCode
  else if kindReceives ty && others.any (fun c => (kindReceives (s.fcType c) && (s.fcType c = fcFWDIN) == (ty = fcFWDIN)) &&
      s.imgKey (s.imageOf c) = s.imgKey w) then 0x18
  else if imgGet w FC.W7_PAIRED = 1 && !kindForwards ty && imgGet w FC.W7_LINK < 262144 && imgGet w FC.W7_LINK / 16384 = fc / 16384 then 0x19
  else if imgGet w FC.W7_PAIRED = 1 && ty = fcFWDIN && pair.isSome && imgGet w FC.W7_LINK / 16384 = fc / 16384 then 0x19
  else if ty ≠ fcRXANC && s.portLoad (imgGet w FC.W0_PORT) (kindSends ty) fc + s.imgFlowRate w > s.portRate (imgGet w FC.W0_PORT) then 0x1A
  else if ty = fcFWDOUT && imgGet w FC.W7_LINK < 262144 &&
      1024 ≤ (others.filter (fun c => s.fcType c = fcFWDOUT && s.get FC.W7_LINK c = imgGet w FC.W7_LINK)).length then 0x1B
  else if (ty = fcRXA30 || ty = fcRXA31) && (!s.rxChannelsOk (imgBind w) (imgChannels w) || others.any (fun c =>
      (s.fcType c = fcRXA30 || s.fcType c = fcRXA31) && pair ≠ some c &&
      rangesMeet (imgBind w) (imgChannels w) (imgBind (s.imageOf c)) (imgChannels (s.imageOf c)))) then 0x1C
  else if (ty = fcTXA30 || ty = fcTXA31) && imgBind w + imgChannels w > 22528 then 0x1C
  else if ty = fcRXV && s.viTaken fc w then codeInResources
  else 0

/-- Whether an image needs a valid next-hop entry and has none (R144). -/
def State.nhBad (s : State) (w : List Nat) : Bool :=
  kindSends (imgGet w FC.W0_TYPE) && !isMulticast (s.imgDst w) && s.get NH.E_VALID (imgGet w FC.W6_NH) = 0

/-- The checks of an image from the form on (R45 steps 3 to 7). -/
def State.ctxCheck (s : State) (fc : Nat) (w : List Nat) : Nat :=
  let link := imgGet w FC.W7_LINK
  let eng := s.unitCode ⟨.flow, 0, 0⟩
  let bank := s.unitCode ⟨.flow, 0, 1 + fc / 16384⟩
  if (link ≠ noFc && 262144 ≤ link) || (imgGet w FC.W0_TYPE = fcFWDOUT && imgNext w ≠ noFc && 262144 ≤ imgNext w) then 0x27
  else if eng ≠ 0 then eng
  else if bank ≠ 0 then bank
  else if (imgGet w FC.W0_DPFX ≠ 0 && s.get FLOW.PREFIX_VALID 2 (imgGet w FC.W0_DPFX) = 0) ||
      (imgGet w FC.W0_SPFX ≠ 0 && s.get FLOW.PREFIX_VALID 2 (imgGet w FC.W0_SPFX) = 0) || s.nhBad w then 0x25
  else if !s.shapeOk fc w then codeInFormats
  else s.ctxResource fc w

/-! ## State changes -/

/-- Raises an event of a context, which EVT_FC names. -/
def State.fcEvent (s : State) (fc bit : Nat) : State := (s.set FLOW.EVT_FC_FC fc).raise .flow 0 bit

/-- The membership that a context holds (R140), if any. -/
def State.groupOf (s : State) (fc : Nat) : Option Group :=
  let w := s.imageOf fc
  let st := s.fcState fc
  if kindReceives (s.fcType fc) ∧ fcWAIT ≤ st ∧ st ≤ fcLOST ∧ isMulticast (s.imgDst w) then
    some { port := imgGet w FC.W0_PORT, v6 := (s.imgDst w).1, addr := (s.imgDst w).2,
           source := if imgGet w FC.W0_SSM = 1 then some (s.imgSrc w).2 else none }
  else none

/-- A state-change report due for a membership: a later change replaces what an earlier one still had to send. -/
def State.reportChange (s : State) (g : Group) (leave : Bool) : State :=
  { s with flow := { s.flow with reports := s.flow.reports.filter (fun r => r.group ≠ g) ++
      [{ group := g, leave := leave, due := true, repeats := 0 }] } }

/-- The memberships of a port, once each. -/
def State.memberships (s : State) (p : Nat) : List Group :=
  ((s.contexts.filterMap s.groupOf).filter (fun g => g.port = p)).eraseDups

/-- A change of one context with the leave and the join that it brings (R142, R152): a membership is reported when its
first context begins to use it and left when its last one ends. -/
def State.withGroup (s : State) (fc : Nat) (act : State → State) : State :=
  let t := act s
  let others := (s.contexts.filter (fun c => c ≠ fc)).filterMap s.groupOf
  let before := s.groupOf fc
  let after := t.groupOf fc
  if before = after then t
  else
    let t := match before with
      | some g => if others.contains g then t else t.reportChange g true
      | none => t
    match after with
    | some g => if others.contains g then t else t.reportChange g false
    | none => t

/-- The receive context states that show in a VI fed by IP (R116): PRESENT in RUN, DETECT, SEARCH in WAIT and LOST, OFF. -/
def viOfFc (st : Nat) : Nat :=
  match st with
  | 4 => viPRESENT | 3 => viDETECT | 2 => viSEARCH | 5 => viSEARCH | _ => viOFF

/-- The state of a VI fed by IP, from its RX_V context, or the better of its pair, and the descriptor (R116, R130). -/
def State.viIpSettle (s : State) (i : Nat) : State :=
  if 192 ≤ i ∨ s.laneSdi false i then s
  else
    let cs := s.contexts.filter (fun c => s.fcType c = fcRXV && imgBind (s.imageOf c) = i)
    let st := cs.foldl (fun n c => max n (viOfFc (s.fcState c))) viOFF
    let s := match cs.head? with
      | some c => s.takeDesc i { fmtOfWord (s.get FC.W9_RAW c) with mapping := 0 }
      | none => s
    (s.viEnter i st).set VIN.STAT_TRS_LOCK 0 i

/-- Puts a context in a state, with its counts restarted outside RUN and its VI brought up to date. -/
def State.setFcState (s : State) (fc st : Nat) : State :=
  let s := s.withGroup fc (fun t => t.set FC.W0_STATE st fc)
  let s := if st = fcDETECT ∨ st = fcWAIT then (s.set FC.HID_GOOD 0 fc).set FC.HID_MISM 0 fc else s
  if s.fcType fc = fcRXV then s.viIpSettle (imgBind (s.imageOf fc)) else s

/-- The number of contexts allocated, shown in FE_STAT. -/
def State.countContexts (s : State) : State := s.set FLOW.FE_STAT_CONTEXTS s.contexts.length

/-- An image applied to an allocated context. -/
def State.applyImage (s : State) (fc : Nat) (w : List Nat) : State :=
  let was := imgBind (s.imageOf fc)
  let s := { s with flow := { s.flow with images := NTable.erase s.flow.images fc } }
  let s := (s.withGroup fc (fun t => t.writeImage fc w)).settlePair fc
  let s := s.viIpSettle was
  if s.fcType fc = fcRXV then s.viIpSettle (imgBind w) else s

/-- The answer of a context request in CTX_RESP and the ledger's counters. -/
def State.ctxAnswer (s : State) (m c : Nat) (act : State → State) : State :=
  let r := s.answerCode c
  let s := ((r.2.set FLOW.CTX_RESP_CODE r.1).set FLOW.CTX_RESP_DONE 1).set FLOW.CTX_RESP_BUSY 0
  if r.1 = 0 then (act (s.noteDecision 0 0 m .flow 0)).countContexts else s.noteDecision r.1 0 m .flow 0

/-- A write of CTX_REQ with GO and an operation code: ignored while a request is being decided (Table 4.9). -/
def State.ctxRequest (s : State) (m : Nat) (op : Nat) (v : Nat) (check : State → Nat → Nat) (act : Nat → State → State) : State :=
  s.withWrite m .flow 0 0x080 v (fun t =>
    if bitOf v 31 && bitsOf v 20 3 = op && t.get FLOW.CTX_RESP_BUSY = 0 then
      let fc := bitsOf v 0 18
      let g := t.gate .flow 0
      t.ctxAnswer m (if g ≠ 0 then g else check t fc) (act fc)
    else t)

/-- ALLOC (R122, R123): the context named takes the image and is IDLE. A context that is not free is refused with 0x18. -/
def execCtxReqAlloc (m : Fin 7) (v : Word) (s : State) : Host.Outcome State Fault Refusal :=
  done (s.ctxRequest m 1 v.toNat
    (fun t fc => if t.fcType fc ≠ 0 then
        (let c := t.ctxCheck fc t.ctxImg
         if c = 0 ∨ 0x18 < c % 0x100 ∧ c % 0x100 < 0x20 ∨ c = codeInResources then 0x18 else c)
      else t.ctxCheck fc t.ctxImg)
    (fun fc t => (((t.writeImage fc t.ctxImg).set FC.W0_STATE fcIDLE fc).settlePair fc)))

/-- MODIFY (R152): at once outside RUN, at the next frame boundary or packet in RUN; the charges follow at once. -/
def execCtxReqModify (m : Fin 7) (v : Word) (s : State) : Host.Outcome State Fault Refusal :=
  done (s.ctxRequest m 2 v.toNat
    (fun t fc => if t.fcType fc = 0 then codeInFormats else t.ctxCheck fc t.ctxImg)
    (fun fc t => if t.fcState fc = fcRUN then
        { t with flow := { t.flow with images := NTable.put t.flow.images fc t.ctxImg } }
      else t.applyImage fc t.ctxImg))

/-- ACTIVATE (R130): a receive context waits, its join sent; a send context runs. -/
def execCtxReqActivate (m : Fin 7) (v : Word) (s : State) : Host.Outcome State Fault Refusal :=
  done (s.ctxRequest m 3 v.toNat
    (fun t fc =>
      let eng := t.unitCode ⟨.flow, 0, 0⟩
      let bank := t.unitCode ⟨.flow, 0, 1 + fc / 16384⟩
      if eng ≠ 0 then eng else if bank ≠ 0 then bank
      else if t.fcType fc = 0 then codeInFormats
      else if t.nhBad (t.imageOf fc) then 0x25 else 0)
    (fun fc t =>
      if t.fcState fc ≠ fcIDLE then t
      else if kindReceives (t.fcType fc) then (t.set FC.HID_SEEN 0 fc).setFcState fc fcWAIT
      else t.setFcState fc fcRUN))

/-- Whether a FWD_IN feeds an output (Table 4.6): by an output's LINK or a take committed to it. -/
def State.feeds (s : State) (fc : Nat) : Bool :=
  s.fcType fc = fcFWDIN && (s.contexts.any (fun c => s.fcType c = fcFWDOUT && s.get FC.W7_LINK c = fc) ||
    s.flow.takes.any (fun e => e.2.src = fc))

/-- A flow take of an output is cancelled, with FWD_RESP.PENDING as the takes that remain say. -/
def State.dropTake (s : State) (fc : Nat) : State :=
  let takes := NTable.erase s.flow.takes fc
  State.set { s with flow := { s.flow with takes := takes } } FLOW.FWD_RESP_PENDING (flag (takes ≠ []))

/-- DEACTIVATE (R130, R139): a receive context drains and is IDLE, its leave reported; a send context drains until the end of
its frame or packet; a pending take of an output is cancelled (Table 4.6). -/
def State.deactivate (s : State) (fc : Nat) : State :=
  if s.fcState fc < fcWAIT ∨ s.fcState fc = fcDRAIN then s
  else if kindReceives (s.fcType fc) then s.setFcState fc fcIDLE
  else (s.dropTake fc).setFcState fc fcDRAIN

/-- A DEACTIVATE request: refused with 0x55 for a FWD_IN that an output names (R147). -/
def execCtxReqDeactivate (m : Fin 7) (v : Word) (s : State) : Host.Outcome State Fault Refusal :=
  done (s.ctxRequest m 4 v.toNat
    (fun t fc => if t.feeds fc then 0x55 else if t.fcType fc = 0 then codeInFormats else 0)
    (fun fc t => t.deactivate fc))

/-- A context freed: every field at its reset value, its charges, its merge buffer and its membership released. -/
def State.freeContext (s : State) (fc : Nat) : State :=
  let ty := s.fcType fc
  let b := imgBind (s.imageOf fc)
  let s := (s.dropTake fc).withGroup fc (fun t => { t with
    regs := t.regs.drop (fun k => k.field.page = .fc && k.inst = fc)
    flow := { t.flow with images := NTable.erase t.flow.images fc, merge := NTable.erase t.flow.merge fc,
                          sent := NTable.erase t.flow.sent fc } })
  let s := s.settlePair fc
  if ty = fcRXV then s.viIpSettle b else s

/-- FREE (R123). -/
def execCtxReqFree (m : Fin 7) (v : Word) (s : State) : Host.Outcome State Fault Refusal :=
  done (s.ctxRequest m 5 v.toNat
    (fun t fc => if t.feeds fc then 0x55 else if t.fcType fc = 0 then codeInFormats else 0)
    (fun fc t => t.freeContext fc))

/-- A deactivated send context reaches the end of its frame or packet (R139). -/
def execSendDeactivateEnd (fc : Fin 262144) (s : State) : Host.Outcome State Fault Refusal :=
  if kindSends (s.fcType fc) ∧ s.fcState fc = fcDRAIN then done (s.setFcState fc fcIDLE) else done s

/-! ## Sending -/

/-- The address of a port as a source. -/
def State.portAddress (s : State) (p : Nat) (v6 : Bool) : Nat :=
  if v6 then ((s.get FLOW.PORT_ADDR_V6_0 1 p * 2 ^ 32 + s.get FLOW.PORT_ADDR_V6_1 1 p) * 2 ^ 32 + s.get FLOW.PORT_ADDR_V6_2 1 p) * 2 ^ 32
    + s.get FLOW.PORT_ADDR_V6_3 1 p
  else s.get FLOW.PORT_ADDR_V4 1 p

/-- The destination MAC: the multicast mapping, or the next-hop entry (Table 4.5, R144). -/
def State.destMac (s : State) (w : List Nat) : Nat :=
  let d := s.imgDst w
  if isMulticast d then (if d.1 then 0x333300000000 + d.2 % 2 ^ 32 else 0x01005E000000 + d.2 % 2 ^ 23)
  else s.get NH.E_MAC_LO (imgGet w FC.W6_NH) + s.get NH.E_MAC_HI (imgGet w FC.W6_NH) * 2 ^ 32

/-- Whether a port sends: its Ethernet port enabled and its link up. -/
def State.portSends (s : State) (p : Nat) : Bool :=
  s.portEnabled (p / 4) (p % 4) && s.get ETH.PORT_STAT_LINK_UP (p / 4) (p % 4) = 1

/-- A wrapping 64-bit Ethernet counter raised. -/
def State.ethCount (s : State) (f : Field) (p : Nat) (n : Nat) : State := s.set f (s.get f (p / 4) (p % 4) + n) (p / 4) (p % 4)

/-- A packet of a context leaves on its port, or is dropped at transmit. -/
def State.emit (s : State) (fc : Nat) (k : SentPacket) : State :=
  let s := (s.incr FC.W10_PKTS fc).set FC.HID_TXSEQ k.seq fc
  if s.portSends k.port then
    State.ethCount { s with flow := { s.flow with sent := NTable.put s.flow.sent fc k } } ETH.COUNT_TX_SENT k.port 1
  else s.ethCount ETH.COUNT_TX_DROP k.port 1

/-- The RTP timestamp of an instant in femtoseconds, by its clock (R145). -/
def rtpOf (clock fs : Nat) : Nat := fs * clock / fsPerSecond % 2 ^ 32

/-- The RTP clock of a terminated kind: 90 kHz, or the audio rate. -/
def rtpClock (w : List Nat) : Nat := if kindAudio (imgGet w FC.W0_TYPE) then (if bitOf (w.getD 8 0) 23 then 96000 else 48000) else 90000

/-- A pending MODIFY takes effect at a frame's first packet, or at any packet of an audio flow (R152). -/
def State.modifyDue (s : State) (fc : Nat) (start : Bool) : State :=
  match NTable.find s.flow.images fc with
  | none => s
  | some w => if start || kindAudio (s.fcType fc) || (kindForwards (s.fcType fc) && imgKind (s.imageOf fc) = 1) then s.applyImage fc w else s

/-- A send context sends its next packet (R137, R138): `start` marks the first of a frame, whose timestamp is the frame's
start. A TX_V or TX_ANC sends while its VO's generator runs. -/
def execTxPacketSend (fc : Fin 262144) (start : Bool) (bytes : Nat) (s : State) : Host.Outcome State Fault Refusal :=
  let ty := s.fcType fc
  let live := 5 ≤ ty && ty ≤ 8 && (s.fcState fc = fcRUN || s.fcState fc = fcDRAIN) && s.unit ⟨.flow, 0, 0⟩ = uRUN
    && s.unit ⟨.flow, 0, 1 + fc / 16384⟩ = uRUN && (kindAudio ty || 2 ≤ s.get VOUT.STAT_STATE (imgBind (s.imageOf fc)))
  if !live then done s
  else
    let s := s.modifyDue fc start
    let w := s.imageOf fc
    let s := if start || kindAudio ty then s.set FC.HID_TS (rtpOf (rtpClock w) s.clk.sysFs) fc else s
    let p := imgGet w FC.W0_PORT
    let d := s.imgDst w
    let k : SentPacket :=
      { port := p, mac := s.destMac w, srcMac := s.get ETH.MAC_LO_ADDR (p / 4) (p % 4) + s.get ETH.MAC_HI_ADDR (p / 4) (p % 4) * 2 ^ 32,
        vlan := if imgGet w FC.W0_VLAN_EN = 1 then some (imgGet w FC.W5_VLAN) else none, v6 := d.1, dst := d.2,
        src := s.portAddress p d.1, dscp := imgGet w FC.W5_DSCP, ttl := imgGet w FC.W6_TTL, dport := imgGet w FC.W3_DPORT,
        sport := imgGet w FC.W3_SPORT, zeroSum := !d.1, ssrc := imgGet w FC.W4_SSRC, pt := imgGet w FC.W5_PT,
        seq := (s.get FC.HID_TXSEQ fc + 1) % 2 ^ 32, ts := s.get FC.HID_TS fc, bytes := bytes }
    done (s.emit fc k)

/-- A forwarded packet as an output sends it (Table 4.5). -/
def State.rewrite (s : State) (fc : Nat) (d : Datagram) : SentPacket :=
  let w := s.imageOf fc
  let p := imgGet w FC.W0_PORT
  let a := s.imgDst w
  { port := p, mac := s.destMac w, srcMac := s.get ETH.MAC_LO_ADDR (p / 4) (p % 4) + s.get ETH.MAC_HI_ADDR (p / 4) (p % 4) * 2 ^ 32,
    vlan := if imgGet w FC.W0_VLAN_EN = 1 then some (imgGet w FC.W5_VLAN) else none, v6 := a.1, dst := a.2,
    src := if imgGet w FC.W6_KEEP_SRC = 1 then d.src else s.portAddress p a.1, dscp := imgGet w FC.W5_DSCP,
    ttl := if imgGet w FC.W6_TTL = 0 then d.ttl - 1 else imgGet w FC.W6_TTL, dport := imgGet w FC.W3_DPORT,
    sport := imgGet w FC.W3_SPORT, zeroSum := !a.1, ssrc := if imgGet w FC.W6_KEEP_SSRC = 1 then d.ssrc else imgGet w FC.W4_SSRC,
    pt := if imgGet w FC.W6_KEEP_PT = 1 then d.pt else imgGet w FC.W5_PT, seq := (s.get FC.HID_TXSEQ fc + 1) % 2 ^ 32, ts := d.ts,
    bytes := d.bytes }

/-- Whether one RTP timestamp is earlier than another, modulo 2^32 (R145). -/
def tsBefore (a b : Nat) : Bool := a ≠ b && (b + 2 ^ 32 - a) % 2 ^ 32 < 2 ^ 31

/-- Policing of a forward context over one frame of RATE (R143): the bits of the window, and whether this packet exceeds BW
by more than 5 %. The windows are the aligned frames of system time. (DEDUCED, assumption 20.) -/
def State.policed (s : State) (fc bytes : Nat) : Bool × State :=
  let w := s.imageOf fc
  let r := imgRate w
  let win := s.sysFrame r
  let used := if s.get FC.HID_WIN fc = win then s.get FC.HID_BITS fc else 0
  let above := (used + bytes * 8) * rate1001 r * 100 > bitsOf (w.getD 9 0) 0 16 * 10000000 * 1001 * 105
  let s := (s.set FC.HID_WIN win fc).set FC.HID_BITS (if above then used else used + bytes * 8) fc
  (above, if above then (s.bump FC.W11_LATE fc).fcEvent fc FLOW.EV_POLICE else s)

/-- An output sends a packet of its source. -/
def State.forwardOne (s : State) (out : Nat) (d : Datagram) : State :=
  if s.get FC.HID_AWAIT out = 1 && !(d.start && !tsBefore d.ts (s.get FC.HID_FROM out)) then s
  else
    let s := (s.set FC.HID_AWAIT 0 out).modifyDue out d.start
    let r := s.policed out d.bytes
    if r.1 then r.2 else r.2.emit out (r.2.rewrite out d)

/-- What an output does with a packet of a FWD_IN (R145): of its source, with a take pending only before Tsw; of a take's
new source, held from Tsw on. -/
def State.forwardTo (s : State) (src : Nat) (d : Datagram) (out : Nat) : State :=
  if s.fcType out ≠ fcFWDOUT || (s.fcState out ≠ fcRUN && s.fcState out ≠ fcDRAIN) || s.unit ⟨.flow, 0, 1 + out / 16384⟩ ≠ uRUN then s
  else
    match NTable.find s.flow.takes out with
    | none => if s.get FC.W7_LINK out = src then s.forwardOne out d else s
    | some t =>
      if t.src = src && !tsBefore d.ts t.ts then
        { s with flow := { s.flow with takes := NTable.put s.flow.takes out { t with packets := t.packets ++ [d] } } }
      else if s.get FC.W7_LINK out = src && tsBefore d.ts t.ts then s.forwardOne out d
      else s

/-! ## Reception -/

/-- The samples an audio packet brings to its channels (R133): while a channel ramps in after a gap, over 32 samples, its
samples are free values, for the spec gives no shape of the ramp. A pair carrying ST 337 is not faded. -/
def State.audioPacket (s : State) (fc : Nat) (d : Datagram) : State :=
  let b := imgBind (s.imageOf fc)
  let n := s.get FC.HID_RAMP fc
  let len := if bitOf (s.get FC.W8_RAW fc) 22 then 6 else 48
  let s := s.set FC.HID_RAMP (min 32 (n + len)) fc
  d.samples.foldl (fun t e =>
    if n + len < 32 && s.get ASTAT.SRC_NONPCM (b + e.1) = 0 then
      let r := t.fresh
      r.2.putSample (b + e.1) r.1
    else t.putSample (b + e.1) e.2) s

/-- The channels of an audio context fall silent at a gap (R133). -/
def State.audioGap (s : State) (fc : Nat) : State :=
  let w := s.imageOf fc
  (List.range (imgChannels w)).foldl (fun t k => t.putSample (imgBind w + k) 0) (s.set FC.HID_RAMP 0 fc)

/-- Essence of a packet delivered to a terminated context in RUN, or to the outputs of a FWD_IN (R131 to R134, R143). -/
def State.essence (s : State) (fc : Nat) (d : Datagram) : State :=
  let ty := s.fcType fc
  let st := s.fcState fc
  let b := imgBind (s.imageOf fc)
  if ty = fcRXV ∧ st = fcRUN then
    let s := if d.start then s.set FC.HID_TS d.ts fc else s
    d.lines.foldl (fun t l => (t.lineCheck b l.bad).set VIN.HID_TAG (cometTag b t.selfId (t.get VIN.HID_FRAME b) l.line l.crc 1) b) s
  else if (ty = fcRXA30 ∨ ty = fcRXA31) ∧ st = fcRUN then s.audioPacket fc d
  else if ty = fcRXANC ∧ st = fcRUN then
    let video := (s.contexts.filter (fun c => s.fcType c = fcRXV && imgBind (s.imageOf c) = b)).head?
    let late := match video with
      | some c => tsBefore d.ts (s.get FC.HID_TS c)
      | none => false
    if late then s.bump FC.W11_LATE fc else d.packets.foldl (fun t p => t.ancPacket b p) s
  else if ty = fcFWDIN ∧ (st = fcDETECT ∨ st = fcRUN) then
    if s.get FC.HID_AWAIT fc = 1 && !d.start then s
    else s.contexts.foldl (fun t out => t.forwardTo fc d out) (s.set FC.HID_AWAIT 0 fc)
  else s

/-- A receive context moves with a packet (Table 4.4). Kinds without a geometry of their own count each complete frame, or
each packet of audio and ANC, as matching. (DEDUCED, assumption 21.) -/
def State.arrive (s : State) (fc : Nat) (d : Datagram) : State :=
  let video := s.fcType fc = fcRXV || (s.fcType fc = fcFWDIN && imgKind (s.imageOf fc) = 0)
  let start := d.start || !video
  let frame := if video then d.frame else some true
  let good (x : Bool) : Bool := x || s.fcType fc ≠ fcRXV
  let s := if (s.fcState fc = fcWAIT ∨ s.fcState fc = fcLOST) ∧ start then s.setFcState fc fcDETECT else s
  if s.fcState fc ≠ fcDETECT then s
  else match frame with
    | none => s
    | some x =>
      if good x then
        (if s.get FC.HID_GOOD fc = 1 then s.setFcState fc fcRUN else s.set FC.HID_GOOD 1 fc)
      else
        let s := s.set FC.HID_GOOD 0 fc
        if s.get FC.HID_MISM fc = 1 then s else (s.set FC.HID_MISM 1 fc).fcEvent fc FLOW.EV_FMT_MISMATCH

/-- The sequence numbers of a context (Table 4.3): a gap counts in LOST. -/
def State.sequence (s : State) (fc : Nat) (d : Datagram) : State :=
  let last := s.get FC.HID_SEQ fc
  let step := (d.seq + 2 ^ 32 - last) % 2 ^ 32
  let gap := s.get FC.HID_SEEN fc = 1 && 1 < step && step < 2 ^ 31
  let s := if gap then s.bumpBy FC.W11_LOST (step - 1) fc else s
  let s := if gap && (s.fcType fc = fcRXA30 || s.fcType fc = fcRXA31) && (s.partner fc).isNone then s.audioGap fc else s
  (s.set FC.HID_SEEN 1 fc).set FC.HID_SEQ d.seq fc

/-- A leg of a pair takes a packet (R135, R136): the first copy goes to the merge buffer, a later one is dropped and counted;
a lost leg is back with its first packet while the other leg runs. -/
def State.legPacket (s : State) (fc o : Nat) (d : Datagram) : State :=
  let k := min fc o
  let s := if s.fcState fc = fcLOST ∧ s.fcState o ≠ fcLOST then (s.setFcState fc (s.fcState o)).fcEvent fc FLOW.EV_LEG_BACK
    else if s.fcState fc = fcLOST then (s.arrive fc d).fcEvent fc FLOW.EV_LEG_BACK
    else s.arrive fc d
  let buf := NTable.getD s.flow.merge k []
  let released := s.get FC.HID_MSEQ k
  let old := released ≠ 0 && (released - 1 = d.seq || tsBefore d.seq (released - 1))
  if old || buf.any (fun x => x.seq = d.seq) then s.bump FC.W11_LATE fc
  else { s with flow := { s.flow with merge := NTable.put s.flow.merge k (buf ++ [d]) } }

/-- A packet reaches a context (R128, R130, R143, R150): what the flow store read for it could not correct loses the packet,
and the context restarts its sequence tracking. -/
def State.deliver (s : State) (d : Datagram) (fc : Nat) : State :=
  let s := if d.corrected then s.bump FLOW.CNT_ECC_CORR else s
  if s.fcState fc < fcWAIT ∨ s.fcState fc = fcDRAIN ∨ s.unit ⟨.flow, 0, 1 + fc / 16384⟩ ≠ uRUN then s
  else if d.uncorrectable then ((s.bump FLOW.CNT_ECC_UNCORR).set FC.HID_SEEN 0 fc).fcEvent fc FLOW.EV_CTX_ECC
  else
    let s := (s.modifyDue fc d.start).incr FC.W10_PKTS fc
    let p := if s.fcType fc = fcFWDIN then s.policed fc d.bytes else (false, s)
    if p.1 then p.2
    else
      let s := p.2.sequence fc d
      match s.partner fc with
      | some o => s.legPacket fc o d
      | none => (s.arrive fc d).essence fc d

/-- Whether a datagram matches the key of a receive or FWD_IN context (R127, R128, Table 4.3). -/
def State.matches (s : State) (d : Datagram) (fc : Nat) : Bool :=
  let w := s.imageOf fc
  kindReceives (s.fcType fc) && imgGet w FC.W0_PORT = d.port && s.imgDst w = (d.v6, d.dst) && imgGet w FC.W3_DPORT = d.dport &&
  (imgGet w FC.W3_SPORT = 0 || imgGet w FC.W3_SPORT = d.sport) &&
  (imgGet w FC.W0_VLAN_EN = 0 || d.vlan = some (imgGet w FC.W5_VLAN)) &&
  (imgGet w FC.W0_SSM = 0 || s.imgSrc w = (d.v6, d.src))

/-- A UDP datagram is delivered to the contexts whose key it matches, at most a receive context and a FWD_IN (R128). -/
def execFlowDatagram (d : Datagram) (s : State) : Host.Outcome State Fault Refusal :=
  if s.unit ⟨.flow, 0, 0⟩ ≠ uRUN then done s
  else done ((s.contexts.filter (fun c => s.matches d c)).foldl (fun t c => t.deliver d c) s)

/-- A merged packet is released WINDOW after its first copy arrived (R135): the oldest of the pair's buffer. A forwarded
pair resumes from the first packet of a frame (R136). -/
def execMergeRelease (fc : Fin 262144) (s : State) : Host.Outcome State Fault Refusal :=
  let k := s.lead fc
  match s.partner fc, NTable.getD s.flow.merge k [] with
  | some o, d :: t =>
    let u := State.set { s with flow := { s.flow with merge := NTable.putD s.flow.merge k t [] } } FC.HID_MSEQ (d.seq + 1) k
    let a := if s.get FC.W7_LEG fc = 0 then fc.val else o
    let b := if s.get FC.W7_LEG fc = 0 then o else fc.val
    done (if u.fcState a = fcRUN ∨ u.fcState a = fcDETECT then u.essence a d else u.essence b d)
  | _, _ => done s

/-- No packet for the time of Table 4.4 (R130, R133): the context is LOST, its channels silent. -/
def execFlowLost (fc : Fin 262144) (s : State) : Host.Outcome State Fault Refusal :=
  if kindReceives (s.fcType fc) ∧ s.fcState fc = fcRUN then
    let s := (s.setFcState fc fcLOST).fcEvent fc FLOW.EV_FLOW_LOST
    done (if s.fcType fc = fcRXA30 ∨ s.fcType fc = fcRXA31 then s.audioGap fc else s)
  else done s

/-- A leg with no packet for 10 ms is LOST (R136); both LOST is PAIR_LOST, and a forwarded pair then waits for the first packet
of a frame. -/
def execLegLost (fc : Fin 262144) (s : State) : Host.Outcome State Fault Refusal :=
  match s.partner fc with
  | none => done s
  | some o =>
    if fcWAIT ≤ s.fcState fc ∧ s.fcState fc ≤ fcRUN then
      let s := (s.setFcState fc fcLOST).fcEvent fc FLOW.EV_LEG_LOST
      if s.fcState o = fcLOST then
        let s := ((s.fcEvent fc FLOW.EV_PAIR_LOST).set FC.HID_AWAIT 1 fc).set FC.HID_AWAIT 1 o
        done (if s.fcType fc = fcRXA30 ∨ s.fcType fc = fcRXA31 then (s.audioGap fc).audioGap o else s)
      else done s
    else done s

/-- A failing row of a flow-store bank is copied, with correction, to a spare row, and the copy is used (R150). -/
def execFlowRowRemap (bank : Fin 16) (row : Nat) (s : State) : Host.Outcome State Fault Refusal :=
  if s.flow.rows.contains (bank.val, row) then done s
  else done { s with flow := { s.flow with rows := s.flow.rows ++ [(bank.val, row)] } }

/-! ## Multicast membership -/

/-- The version of the reports on a port (R140, R141). -/
def State.reportVersion (s : State) (p : Nat) (v6 : Bool) : Nat :=
  let old := NTable.getD s.flow.oldQuerier p 0
  if v6 then (if bitOf old 1 then 1 else 2) else (if bitOf old 0 then 2 else 3)

/-- A report leaves on a port. -/
def State.sendReport (s : State) (p : Nat) (gs : List Group) (leave : Bool) : State :=
  let v := s.reportVersion p ((gs.head?.map Group.v6).getD false)
  State.ethCount { s with flow := { s.flow with lastReport := NTable.put s.flow.lastReport p { groups := gs, leave := leave, version := v } } }
    ETH.COUNT_TX_SENT p 1

/-- The first due state-change report of a port is sent, and its repeats begin (R142). -/
def execMembershipReport (p : Fin 96) (s : State) : Host.Outcome State Fault Refusal :=
  match s.flow.reports.find? (fun r => r.group.port = p.val && r.due) with
  | none => done s
  | some r =>
    let n := max 1 (s.get FLOW.FE_CTL_ROBUST) - 1
    let rest := s.flow.reports.filter (fun x => x ≠ r)
    let t := { s with flow := { s.flow with
      reports := if n = 0 then rest else rest ++ [{ r with due := false, repeats := n }] } }
    done (t.sendReport p [r.group] r.leave)

/-- A repeat of a state-change report of a port is sent at UNSOL_INT (R142). -/
def execReportRepeat (p : Fin 96) (s : State) : Host.Outcome State Fault Refusal :=
  match s.flow.reports.find? (fun r => r.group.port = p.val && !r.due) with
  | none => done s
  | some r =>
    let rest := s.flow.reports.filter (fun x => x ≠ r)
    let t := { s with flow := { s.flow with
      reports := if r.repeats ≤ 1 then rest else rest ++ [{ r with repeats := r.repeats - 1 }] } }
    done (t.sendReport p [r.group] r.leave)

/-- A query on a port is answered with its memberships (R142). -/
def execQueryResponse (p : Fin 96) (s : State) : Host.Outcome State Fault Refusal :=
  if s.flow.queries.contains p.val then
    let t := { s with flow := { s.flow with queries := s.flow.queries.filter (fun x => x ≠ p.val) } }
    if t.memberships p = [] then done t else done (t.sendReport p (t.memberships p) false)
  else done s

/-- A query is heard on a port; one of an older version makes the port fall back (R141). -/
def State.hearQuery (s : State) (p : Nat) (v6 old : Bool) : State :=
  let s := { s with flow := { s.flow with queries := s.flow.queries.filter (fun x => x ≠ p) ++ [p] } }
  let now := NTable.getD s.flow.oldQuerier p 0
  if old && !bitOf now (flag v6) then
    State.raise { s with flow := { s.flow with oldQuerier := NTable.put s.flow.oldQuerier p (setBit now (flag v6)) } } .flow 0 FLOW.EV_QUERIER_OLD
  else s

/-! ## Forwarding -/

/-- The first aligned frame start of a rate at or after an instant, as an RTP timestamp at 90 kHz or 48 kHz (R145). -/
def switchTs (rate kind fs : Nat) : Nat :=
  let n := ceilDiv (fs * rate1001 rate) (1001 * fsPerSecond)
  n * 1001 * (if kind = 1 then 48000 else 90000) / max 1 (rate1001 rate) % 2 ^ 32

/-- The checks of a flow take, from the unit state on. -/
def State.flowTakeCode (s : State) (out src : Nat) : Nat :=
  let eng := s.unitCode ⟨.flow, 0, 0⟩
  let b1 := s.unitCode ⟨.flow, 0, 1 + out / 16384⟩
  let b2 := s.unitCode ⟨.flow, 0, 1 + src / 16384⟩
  if eng ≠ 0 then eng else if b1 ≠ 0 then b1 else if b2 ≠ 0 then b2
  else if s.fcType out ≠ fcFWDOUT ∨ s.fcType src ≠ fcFWDIN then codeInFormats
  else if 1024 ≤ (s.contexts.filter (fun c => c ≠ out && s.fcType c = fcFWDOUT && s.get FC.W7_LINK c = src)).length then 0x1B
  else 0

/-- A flow take committed on an output: the last committed acts (Table 4.6). -/
def State.placeFlowTake (s : State) (out src : Nat) : State :=
  let w := s.imageOf out
  let ts := switchTs (imgRate w) (imgKind w) (s.clk.sysFs + 1000000000000)
  let t : FlowTake := { src := src, ts := ts, packets := [] }
  State.set { s with flow := { s.flow with takes := NTable.put s.flow.takes out t } } FLOW.FWD_RESP_PENDING 1

/-- FWD_RESP after a decision. -/
def State.flowAnswer (s : State) (m code index : Nat) : State :=
  let r := s.answerCode code
  ((((r.2.set FLOW.FWD_RESP_CODE r.1).set FLOW.FWD_RESP_INDEX index).set FLOW.FWD_RESP_DONE 1).noteDecision r.1 index m .flow 0)

/-- A write of FWD_TAKE_IN.GO without BATCH requests a flow take (R145). -/
def execFwdTake (m : Fin 7) (v : Word) (s : State) : Host.Outcome State Fault Refusal :=
  done (s.withWrite m .flow 0 0x08C v.toNat (fun t =>
    if bitOf v.toNat 31 && !bitOf v.toNat 30 then
      let out := t.get FLOW.FWD_TAKE_OUT_FC
      let src := bitsOf v.toNat 0 18
      let g := t.gate .flow 0
      let c := if g ≠ 0 then g else t.flowTakeCode out src
      let u := t.flowAnswer m c 0
      if c = 0 then u.placeFlowTake out src else u
    else t))

/-- A write of FWD_TAKE_IN.GO with BATCH holds the take, up to 512 (R146); a further one is refused with 0x12. -/
def execFwdTakeBatch (m : Fin 7) (v : Word) (s : State) : Host.Outcome State Fault Refusal :=
  done (s.withWrite m .flow 0 0x08C v.toNat (fun t =>
    if bitOf v.toNat 31 && bitOf v.toNat 30 then
      if t.flow.held.length < 512 then
        { t with flow := { t.flow with held := t.flow.held ++ [(t.get FLOW.FWD_TAKE_OUT_FC, bitsOf v.toNat 0 18)] } }
      else t.flowAnswer m 0x12 512
    else t))

/-- The first failing take of the held ones: its code and index, 0 where all are admitted. -/
def State.heldCode (s : State) (i : Nat) : List (Nat × Nat) → Nat × Nat
  | [] => (0, 0)
  | e :: t => if s.flowTakeCode e.1 e.2 ≠ 0 then (s.flowTakeCode e.1 e.2, i) else s.heldCode (i + 1) t

/-- A write of FWD_GO commits the held takes as one request (R146), all of them or none; the held takes are then gone, as a
salvo's are. (DEDUCED, assumption 12.) -/
def execFwdGo (m : Fin 7) (v : Word) (s : State) : Host.Outcome State Fault Refusal :=
  done (s.withWrite m .flow 0 0x090 v.toNat (fun t =>
    if bitOf v.toNat 0 then
      let g := t.gate .flow 0
      let c := if g ≠ 0 then (g, 0) else t.heldCode 0 t.flow.held
      let u := { t.flowAnswer m c.1 c.2 with flow := { t.flow with held := [] } }
      if c.1 = 0 then t.flow.held.foldl (fun w e => w.placeFlowTake e.1 e.2) u else u
    else t))

/-- The replication chain of a FWD_IN as the device keeps it after a take: its first output in LINK, each next in NEXT. -/
def State.relink (s : State) (src : Nat) : State :=
  if s.fcType src ≠ fcFWDIN then s
  else
    let outs := s.contexts.filter (fun c => s.fcType c = fcFWDOUT && s.get FC.W7_LINK c = src)
    let s := if (s.partner src).isSome then s else s.set FC.W7_LINK (outs.headD noFc) src
    (outs.zip (outs.drop 1 ++ [noFc])).foldl (fun t e => t.set FC.W8_RAW e.2 e.1) s

/-- The end of the old source at an output (R145, Table 4.6): the new source is linked, the packets held are sent back to
back; with none held, or the new source absent or LOST, the output waits for the first packet of a frame from Tsw on. -/
def State.switchFlow (s : State) (out : Nat) (t : FlowTake) : State :=
  let old := s.get FC.W7_LINK out
  let s := ((s.dropTake out).set FC.W7_LINK t.src out).relink old |>.relink t.src
  let dead := s.fcState t.src ≠ fcRUN && s.fcState t.src ≠ fcDETECT
  let s := if dead || t.packets = [] then (s.set FC.HID_AWAIT (flag (imgKind (s.imageOf out) ≠ 1)) out).set FC.HID_FROM t.ts out else s
  t.packets.foldl (fun u d => u.forwardOne out d) s

/-- At Tsw an output ends its old source and starts the new one (R145). -/
def execFlowTakeSwitch (fc : Fin 262144) (s : State) : Host.Outcome State Fault Refusal :=
  match NTable.find s.flow.takes fc with
  | none => done s
  | some t => done (s.switchFlow fc t)

/-- FWD_HOLD expires while packets of the new source are held: the old source is ended (R145). -/
def execHoldTrunc (fc : Fin 262144) (s : State) : Host.Outcome State Fault Refusal :=
  match NTable.find s.flow.takes fc with
  | none => done s
  | some t => if t.packets = [] then done s else done ((s.switchFlow fc t).fcEvent fc FLOW.EV_HOLD_TRUNC)

/-- Whether an active context sends to a next-hop entry (R144). -/
def State.nhUsed (s : State) (k : Nat) : Bool :=
  s.contexts.any (fun c => fcWAIT ≤ s.fcState c && kindSends (s.fcType c) && s.get FC.W6_NH c = k && !isMulticast (s.imgDst (s.imageOf c)))

/-- Whether a context uses an address prefix (R125). -/
def State.prefixUsed (s : State) (k : Nat) : Bool :=
  s.contexts.any (fun c => s.get FC.W0_DPFX c = k || s.get FC.W0_SPFX c = k)

/-- A write of the next-hop window (R144): one word of an entry or both. Clearing VALID of an entry in use is not applied. -/
def execNextHopWrite (m : Fin 7) (k : Fin 4096) (wide hi : Bool) (data : Nat) (s : State) : Host.Outcome State Fault Refusal :=
  if !s.busUp then done s
  else
    let a := Page.nh.base + 8 * k.val + (if hi && !wide then 4 else 0)
    let kind := s.busKind m a true (if wide then 8 else 4) data
    if kind ≠ 0 then done (s.busError m a true kind)
    else
      let lo := bitsOf data 0 32
      let up := if wide then bitsOf data 32 32 else bitsOf data 0 32
      if (wide || hi) && s.get NH.E_VALID k = 1 && !bitOf up 31 && s.nhUsed k then done (s.raise .flow 0 FLOW.EV_CFG_BLOCKED)
      else
        let s := if wide || !hi then s.set NH.E_MAC_LO lo k else s
        done (if wide || hi then (s.set NH.E_MAC_HI (bitsOf up 0 16) k).set NH.E_VALID (bitsOf up 31 1) k else s)

/-! ## Ethernet frames and the host packet path -/

/-- The size of a ring: a power of 2 from 64 to 4,096 (R148). -/
def ringSize (n : Nat) : Nat := if 64 ≤ n ∧ n ≤ 4096 then n else 64

/-- Writes a descriptor back with OWN clear and advances HEAD (R149). -/
def State.hostFinish (s : State) (tx : Bool) (q : Nat) (h : HostDone) : State :=
  let head := if tx then FLOW.HQ_TX_HEAD else FLOW.HQ_RX_HEAD
  let size := ringSize (s.get (if tx then FLOW.HQ_TX_SIZE else FLOW.HQ_RX_SIZE) 3 q)
  let s := { s with flow := { s.flow with hostDone := NTable.put s.flow.hostDone (q + (if tx then 16 else 0)) h } }
  (s.set head ((s.get head 3 q + 1) % size) 3 q).raiseIf h.int .flow 0 FLOW.EV_HQ_DONE

/-- A host-bound frame goes to a receive ring, or is dropped and counted (R148, R149). -/
def State.hostDeliver (s : State) (q p filter bytes : Nat) (d : HostDesc) : State :=
  if s.get FLOW.FE_CTL_HOST_EN = 1 ∧ s.get FLOW.HQ_RX_EN 3 q = 1 ∧ s.get BUSMATRIX.PCIE_STAT_LINK_UP = 1
      ∧ s.get FLOW.HQ_RX_HEAD 3 q ≠ s.get FLOW.HQ_RX_TAIL 3 q ∧ d.own then
    let len := bytes - 4
    s.hostFinish false q { index := s.get FLOW.HQ_RX_HEAD 3 q, status := flag (d.length < len), length := len, port := p, filter := filter, int := d.int }
  else (s.bump FLOW.CNT_HOST_DROP).raise .flow 0 FLOW.EV_HOST_DROP

/-- Whether a HOST_FILT entry matches a frame (Table 4.8). -/
def State.filterHits (s : State) (p : Nat) (f : EthFrame) (k : Nat) : Bool :=
  let port := s.get FLOW.HOST_FILT_PORT 4 k
  (port = 127 || port = p) && (match s.get FLOW.HOST_FILT_KIND 4 k, f.kind with
    | 1, .other t => t = s.get FLOW.HOST_FILT_VALUE 4 k
    | 1, .udp d => s.get FLOW.HOST_FILT_VALUE 4 k = (if d.v6 then 0x86DD else 0x0800)
    | 1, .ptp v6 _ => s.get FLOW.HOST_FILT_VALUE 4 k = (if v6 then 0x86DD else 0x0800)
    | 2, .udp d => d.dport = s.get FLOW.HOST_FILT_VALUE 4 k
    | 2, .ptp _ m => s.get FLOW.HOST_FILT_VALUE 4 k = (if m.kind = 1 then 320 else 319)
    | 3, _ => f.toPort
    | _, _ => false)

/-- A frame that no context takes: to the queue of the first HOST_FILT entry that matches, or dropped (R127). -/
def State.hostClassify (s : State) (p : Nat) (f : EthFrame) : State :=
  match (List.range 64).find? (fun k => s.filterHits p f k) with
  | some k => s.hostDeliver (s.get FLOW.HOST_FILT_QUEUE 4 k) p k f.bytes f.desc
  | none => s.bump FLOW.CNT_RX_NOMATCH

/-- The slots that read a PTP instance. -/
def State.ptpSlots (s : State) (i : Nat) : List Nat :=
  rcSlots.filter (fun k => s.rcKind k = 6 && s.get REFMGR.RC_CFG_SOURCE 0 k = i && s.get REFMGR.RC_CFG_EN 0 k = 1)

/-- A PTP message reaches an instance (R326, R341): Announce of the master chosen sets what it says, a changed grandmaster is
a loss of the candidate and GM_CHG; Sync and Delay_Resp update the servo's measures. -/
def State.ptpMessage (s : State) (i : Nat) (f : PtpMsg) : State :=
  if f.domain ≠ s.get REFMGR.PTP_CFG_DOMAIN 0 i then s
  else if f.kind = 1 then
    let s := s.bump REFMGR.ANN_RX_COUNT 0 i
    if !f.best then s
    else
      let had := s.get REFMGR.PTP_STAT_SLAVE 0 i = 1
      let chg := had && (s.get REFMGR.GM_ID_LO_ID 0 i ≠ f.gmLo % 2 ^ 32 || s.get REFMGR.GM_ID_HI_ID 0 i ≠ f.gmHi % 2 ^ 32)
      let was := s.get REFMGR.UTC_STAT_LEAP61 0 i + s.get REFMGR.UTC_STAT_LEAP59 0 i
      let s := (((s.set REFMGR.GM_ID_LO_ID f.gmLo 0 i).set REFMGR.GM_ID_HI_ID f.gmHi 0 i).set REFMGR.PTP_STAT_GM_CLASS f.gmClass 0 i).set
        REFMGR.PTP_STAT_STEPS f.steps 0 i
      let s := (((s.set REFMGR.PTP_STAT_SLAVE 1 0 i).set REFMGR.PTP_STAT_TWO_STEP (flag f.twoStep) 0 i).set REFMGR.PTP_STAT_SM_TLV
        (flag f.smTlv) 0 i)
      let s := (((s.set REFMGR.UTC_STAT_OFFSET f.utc 0 i).set REFMGR.UTC_STAT_VALID (flag f.utcValid) 0 i).set REFMGR.UTC_STAT_LEAP61
        (flag f.leap61) 0 i).set REFMGR.UTC_STAT_LEAP59 (flag f.leap59) 0 i
      let s := s.raiseIf (was = 0 && (f.leap61 || f.leap59) && (s.ptpSlots i).any (fun k => s.activeRc = some k)) .refmgr 0 REFMGR.EV_LEAP
      if chg then
        (s.ptpSlots i).foldl (fun t k => ((t.rcAbsent k).set REFMGR.EVT_SLOT_SLOT k).raise .refmgr 0 REFMGR.EV_GM_CHG) s |>.select
      else s
  else
    let s := if f.kind = 0 then s.bump REFMGR.SYNC_RX_COUNT 0 i else s
    let o := max (-2147483648) (min 2147483647 f.offset)
    (s.set REFMGR.OFFSET_NS (ofSigned 32 o) 0 i).set REFMGR.MPD_NS (min (2 ^ 32 - 1) f.delay) 0 i

/-- The classification of a good frame (R127). A datagram that a context matches goes to it with FLOW_DATAGRAM. -/
def State.classify (s : State) (p : Nat) (f : EthFrame) : State :=
  match f.kind with
  | .ptp v6 msg =>
    match ([0, 1, 2, 3].filter (fun i => s.get REFMGR.PTP_CFG_PORT 0 i = p && (s.get REFMGR.PTP_CFG_IPV6 0 i = 1) == v6 && s.ptpSlots i ≠ [])) with
    | [] => s.hostClassify p f
    | l => l.foldl (fun t i => t.ptpMessage i msg) s
  | .membership v6 query old =>
    let s := if query then s.hearQuery p v6 old else s
    if s.get FLOW.FE_CTL_HOST_IGMP = 1 then s.hostDeliver 0 p 127 f.bytes f.desc else s
  | .udp d => if s.contexts.any (fun c => s.matches d c) then s else s.hostClassify p f
  | .other _ => s.hostClassify p f

/-- A frame is received on an Ethernet port (R83, R127): the checks, the counters, the classification. -/
def execEthFrameReceived (q : Fin 24) (n : Fin 4) (f : EthFrame) (s : State) : Host.Outcome State Fault Refusal :=
  let p := 4 * q.val + n.val
  if !s.portEnabled q n || (s.get QUAD.QUAD_CFG_Q100 q = 1 && n.val ≠ 0) then done s
  else
    let s := s.ethCount ETH.COUNT_FEC_CORR p f.fecCorrected
    if f.fecUncorrectable then done ((s.ethCount ETH.COUNT_FEC_UNCORR p 1).raise .eth q (ETH.EV_UNCORR + n))
    else if !f.fcsOk then done (s.ethCount ETH.COUNT_FCS_ERR p 1)
    else if s.get ETH.PORT_CFG_MAX_FRAME q n < f.bytes then done (s.ethCount ETH.COUNT_OVERSIZE p 1)
    else done ((s.ethCount ETH.COUNT_RX_GOOD p 1).classify p f)

/-- A port's link changes (R82, R83, R142): faults and FEC lock as detected; LINK_UP reports all its memberships. -/
def execEthLinkChange (q : Fin 24) (n : Fin 4) (up localFault remoteFault fecLock lockLost : Bool) (s : State) :
    Host.Outcome State Fault Refusal :=
  let p := 4 * q.val + n.val
  if !s.portEnabled q n || (s.get QUAD.QUAD_CFG_Q100 q = 1 && n.val ≠ 0) then done s
  else
    let was := s.get ETH.PORT_STAT_LINK_UP q n
    let now := up && !localFault && !remoteFault
    let s := ((s.set ETH.PORT_STAT_LOCAL_FAULT (flag localFault) q n).set ETH.PORT_STAT_REMOTE_FAULT (flag remoteFault) q n).set
      ETH.PORT_STAT_FEC_LOCK (flag fecLock) q n
    let s := if lockLost then s.ethCount ETH.COUNT_LOCK_LOSS p 1 else s
    let s := s.set ETH.PORT_STAT_LINK_UP (flag now) q n
    if was = flag now then done s
    else
      let s := s.raise .eth q (ETH.EV_LINK_CHG + n)
      if now then done ((s.memberships p).foldl (fun t g => t.reportChange g false) s) else done s

/-- One transmit descriptor (R149): nothing is done with one whose OWN is clear. Answers whether the ring goes on. -/
def State.hostSend (s : State) (q : Nat) (d : HostDesc) : State :=
  let st := if d.length < 60 ∨ 9212 < d.length ∨ 96 ≤ d.port ∨ (s.get QUAD.QUAD_CFG_Q100 (d.port / 4) = 1 ∧ d.port % 4 ≠ 0) ∨ !s.laneEth (d.port / 4) (d.port % 4) then 3
    else if s.portSends d.port then 0 else 2
  let s := if st = 0 then s.ethCount ETH.COUNT_TX_SENT d.port 1 else if st = 2 then s.ethCount ETH.COUNT_TX_DROP d.port 1 else s
  s.hostFinish true q { index := s.get FLOW.HQ_TX_HEAD 3 q, status := st, length := d.length, port := d.port, filter := 0, int := d.int }

/-- The descriptors of a transmit ring from HEAD to TAIL, while OWN is set. -/
def State.hostRing (s : State) (q : Nat) : List HostDesc → State
  | [] => s
  | d :: t =>
    if s.get FLOW.HQ_TX_HEAD 3 q = s.get FLOW.HQ_TX_TAIL 3 q || !d.own then s else (s.hostSend q d).hostRing q t

/-- Software advances TAIL of a host queue (R149): the device sends what a transmit ring holds. -/
def execHqTailWrite (m : Fin 7) (q : Fin 16) (tx : Bool) (v : Word) (descs : List HostDesc) (s : State) :
    Host.Outcome State Fault Refusal :=
  done (s.withWrite m .flow 3 ((if tx then 0x240 else 0x040) + 0x20 * q.val + 0x10) v.toNat (fun t =>
    if tx && t.get FLOW.FE_CTL_HOST_EN = 1 && t.get FLOW.HQ_TX_EN 3 q = 1 && t.get BUSMATRIX.PCIE_STAT_LINK_UP = 1 then t.hostRing q descs
    else t))

end Sys2Proof.Machine
end

