-- ==== Sys2Proof/Machine/Cicada.lean ====
section
/-! DEFINITION. The Cicada audio engine: crosspoint requests, the processing of destination channels at a sample frame,
converters, mix buses, meters, detectors, tones and the two halves (R271 to R300). -/
namespace Sys2Proof.Machine

/-- Device's own scalars of Cicada: the stage of the known-answer tests of R298 (0 none, 1 the unselected half, 2 the other),
and a pair's sample frame. -/
def AUDIO.HID_KAT : Field := ⟨.audio, 0x1100, 0, 2, .const 0⟩

/-- Sample frames in a millisecond. -/
abbrev framesPerMs : Nat := 48

/-! ## Channels -/

/-- A channel with nothing in it. -/
def Chan.idle : Chan :=
  { fades := [], ramps := [], hist := [], oldDelay := none, waiting := none, last := 0, hold := 0, rampIn := 32, muted := false,
    preamble := false, out := 0 }

/-- A destination channel's own record. -/
def State.chan (s : State) (d : Nat) : Chan := NTable.getD s.audio.chans d Chan.idle
/-- The state with a channel's record set. -/
def State.setChan (s : State) (d : Nat) (c : Chan) : State :=
  { s with audio := { s.audio with chans := NTable.putD s.audio.chans d c Chan.idle } }

/-- Silence as a source reference; a source of member n is 32,768 x (n + 1) beside its number. -/
abbrev refSilence : Nat := 32768 * 15

/-- The sample of a source reference, as a 24-bit code; an unlisted one is silence. -/
def State.sampleOf (s : State) (r : Nat) : Nat := NTable.getD s.ess.samples r 0

/-- A 24-bit code from a number, saturated (R279). -/
def sat24 (z : Int) : Nat := ofSigned 24 (max (-8388608) (min 8388607 z))

/-- Reserved source channels (Table 9.1). -/
def reservedSource (c : Nat) : Bool := (24064 ≤ c && c < 24576) || 32768 ≤ c
/-- Reserved destination channels (Table 9.1). -/
def reservedDest (d : Nat) : Bool := (23040 ≤ d && d < 24576) || 32768 ≤ d

/-- The entry that a destination channel runs under: its own, or that of the even channel before it where that is a 96 kHz
pair (R271). -/
def State.entryOf (s : State) (d : Nat) : Nat := if d % 2 = 1 ∧ s.get XPT.W0_HIRATE (d - 1) = 1 then d - 1 else d

/-- The source reference a destination channel reads now (R278): silence without VALID; the resolved source with FOLLOW. -/
def State.refOf (s : State) (d : Nat) : Nat :=
  let e := s.entryOf d
  if s.get XPT.W0_VALID e = 0 then refSilence
  else if s.get XPT.W0_FOLLOW e = 1 then
    (if s.get XPT.HID_FROM e = 15 then refSilence else 32768 * s.get XPT.HID_FROM e + s.get XPT.W3_RSRC e + (d - e))
  else s.get XPT.W0_SRC e + (d - e)

/-- Register position of a converter: the page instance and the index. -/
def sruInst (k : Nat) : Nat := 2 + k / 128
def sruIdx (k : Nat) : Nat := k % 128

/-- Whether a source channel is ASYNC (R273): an asynchronous embedded group, or a port enabled and not SYNC. -/
def State.asyncSource (s : State) (c : Nat) : Bool :=
  if c < 6144 then s.laneSdi false (c / 32) && bitsOf (s.get VIN.AUD_RATE_RATE (c / 32)) (2 * (c % 32 / 4)) 2 = 3
  else if 22528 ≤ c && c < 23040 then
    s.get APORT.PORT_CFG_RX_EN ((c - 22528) / 32) = 1 && s.get APORT.PORT_STAT_SYNC ((c - 22528) / 32) = 0
  else false

/-- Whether a source channel runs at 96 kHz. -/
def State.hiSource (s : State) (c : Nat) : Bool :=
  if c < 6144 && s.laneSdi false (c / 32) then bitsOf (s.get VIN.AUD_RATE_RATE (c / 32)) (2 * (c % 32 / 4)) 2 = 2
  else if c < 22528 then s.contexts.any (fun f => s.fcType f = fcRXA30 &&
      bitOf (s.get FC.W8_RAW f) 23 && imgBind (s.imageOf f) ≤ c && c < imgBind (s.imageOf f) + imgChannels (s.imageOf f))
  else if 24576 ≤ c then s.get AUDIO.SRU_HIRATE (sruInst ((c - 24576) / 32)) (sruIdx ((c - 24576) / 32)) = 1
  else false

/-- Whether a destination is a sink of a converter in OUT mode (R276). -/
def State.sruSink (s : State) (d : Nat) : Bool :=
  (List.range 256).any (fun k => s.get AUDIO.SRU_MODE (sruInst k) (sruIdx k) = 2 && s.get AUDIO.SRU_FIRST (sruInst k) (sruIdx k) ≤ d &&
    d ≤ s.get AUDIO.SRU_FIRST (sruInst k) (sruIdx k) + s.get AUDIO.SRU_NCH (sruInst k) (sruIdx k))

/-- Whether a destination is a slot of an ASYNC port (R308). -/
def State.asyncDest (s : State) (d : Nat) : Bool :=
  22528 ≤ d && d < 23040 && s.get APORT.PORT_CFG_TX_EN ((d - 22528) / 32) = 1 && s.get APORT.PORT_STAT_SYNC ((d - 22528) / 32) = 0

/-! ## The long-delay pool -/

/-- Pool channels in use. -/
def State.poolUsed (s : State) : List Nat :=
  (s.regs.filter (fun e => e.1.field = XPT.W3_POOL)).map (·.2)

/-- The charge of a pool block (R287): 64 x 2 x 48,000 x 32 bit/s and 24 MiB. -/
def State.poolBlock (s : State) (b q : Nat) : Alloc :=
  { kind := .pool, owner := b, timing := 0, quad := q, bw := 196608000 * bwUnit, cap := 24, other := none,
    sets := s.layOut .pool q 1 0, moveTo := none, proved := 0 }

/-- Charges a block whose first channel is taken: the code, and the state. -/
def State.takeBlock (s : State) (b : Nat) : Nat × State :=
  if s.video.allocs.any (fun e => e.2.kind = .pool && e.2.owner = b) then (0, s)
  else match s.homeQuad s.video.allocs (196608000 * bwUnit) 24 [] with
    | none => (if totalBw s.video.allocs + 196608000 * bwUnit > deviceBw then 0x13 else 0x14, s)
    | some q =>
      let l := NTable.put s.video.allocs (nextId s.video.allocs) (s.poolBlock b q)
      let c := s.memoryTests l
      if c ≠ 0 then (c, s) else (0, { s with video := { s.video with allocs := l } })

/-- Releases the blocks without a channel and shows the pool's use. -/
def State.settlePool (s : State) : State :=
  let used := s.poolUsed
  let l := s.video.allocs.filter (fun e => e.2.kind ≠ .pool || used.any (fun c => c / 64 = e.2.owner))
  State.set { s with video := { s.video with allocs := l } } AUDIO.ENG_STAT_POOL_USED used.length

/-- Takes the lowest free pool channel for a destination (R287). -/
def State.takePool (s : State) (d : Nat) : Nat × State :=
  if s.get XPT.W3_POOL d ≠ 0x1FFF then (0, s)
  else match (List.range 4096).find? (fun c => !s.poolUsed.contains c) with
    | none => (0x1D, s)
    | some c =>
      let r := s.takeBlock (c / 64)
      if r.1 ≠ 0 then r else (0, r.2.set XPT.W3_POOL c d)

/-! ## Crosspoint requests -/

/-- The destinations of a request and the source each takes (R275): by one, or by two with HIRATE. (DEDUCED, assumption 23.) -/
def XpReq.targets (r : XpReq) : List (Nat × Nat) :=
  let st := if bitOf r.w0 19 then 2 else 1
  (List.range (r.count + 1)).map (fun k => (r.dst + st * k, bitsOf r.w0 0 15 + st * k))

/-- The checks of one destination (R276, R308): 0x28, then 0x1C. -/
def State.xpCode (s : State) (r : XpReq) (e : Nat × Nat) : Nat :=
  let follow := bitOf r.w0 16
  let named := bitOf r.w0 15 && !follow
  if (named && (s.asyncSource e.2 || s.hiSource e.2 ≠ bitOf r.w0 19)) || (bitOf r.w0 19 && e.1 % 2 = 1) || s.asyncDest e.1 then 0x28
  else if reservedDest e.1 || (named && reservedSource e.2) || s.sruSink e.1 || (follow && 6144 ≤ e.1) then 0x1C
  else 0

/-- The pool channels of a destination of a request: one, or two for a 96 kHz pair (R287). -/
def State.xpPool (s : State) (r : XpReq) (d : Nat) : Nat × State :=
  if bitsOf r.w2 0 17 ≤ 480 then (0, s)
  else
    let a := s.takePool d
    if a.1 ≠ 0 ∨ !bitOf r.w0 19 then a else a.2.takePool (d + 1)

/-- Decides the destinations of a request in turn. -/
def State.xpDecide (s : State) (r : XpReq) : List (Nat × Nat) → Nat × State
  | [] => (0, s)
  | e :: t =>
    if s.xpCode r e ≠ 0 then (s.xpCode r e, s)
    else
      let a := s.xpPool r e.1
      if a.1 ≠ 0 then a else a.2.xpDecide r t

/-- The first sample frame at least 125 us after the decision, or the instant named (R277). -/
def State.xpInstant (s : State) (r : XpReq) : Nat := if r.timed then r.instant else s.clk.sysFs + 125000000000

/-- The unit a request needs: a half of Cicada. -/
def State.audioCode (s : State) : Nat :=
  if s.unit ⟨.audio, 0, 0⟩ = uRUN ∨ s.unit ⟨.audio, 0, 1⟩ = uRUN then
    (if s.get (HDR.DRAIN .audio) 0 0 ≠ 0 ∧ s.get (HDR.DRAIN .audio) 0 1 ≠ 0 then 0x52 else 0)
  else s.unitCode ⟨.audio, 0, 0⟩

/-- The form of a request: a timed instant less than 2 ms ahead is 0x27 (R277). -/
def State.xpForm (s : State) (r : XpReq) : Nat := if r.timed ∧ r.instant < s.clk.sysFs + 2000000000000 then 0x27 else 0

/-- Decides one request from the form on. -/
def State.xpOne (s : State) (r : XpReq) : Nat × State :=
  if s.xpForm r ≠ 0 then (s.xpForm r, s)
  else if s.audioCode ≠ 0 then (s.audioCode, s)
  else
    let a := s.xpDecide r r.targets
    if a.1 ≠ 0 then a
    else (0, { a.2 with audio := { a.2.audio with pend := a.2.audio.pend ++ [{ r with instant := s.xpInstant r }] } })

/-- XP_RESP after a decision: a refusal changes nothing but the answer (R46). -/
def State.xpAnswer (s : State) (m code index : Nat) (admitted : State) : State :=
  let t := if code = 0 then admitted.settlePool else s
  let r := t.answerCode code
  (((r.2.set AUDIO.XP_RESP_CODE r.1).set AUDIO.XP_RESP_INDEX index).set AUDIO.XP_RESP_DONE 1).noteDecision r.1 index m .audio 0

/-- The request that XP_IMG, XP_AT and a written XP_REQ stand for. -/
def State.xpRead (s : State) (m v : Nat) : XpReq :=
  { master := m, dst := bitsOf v 0 15, count := bitsOf v 16 6, w0 := s.get AUDIO.XP_IMG_WORD 0 0, w1 := s.get AUDIO.XP_IMG_WORD 0 1,
    w2 := s.get AUDIO.XP_IMG_WORD 0 2, timed := bitOf v 25,
    instant := (s.get AUDIO.XP_AT_S_SECONDS * 1000000000 + s.get AUDIO.XP_AT_NS_NS) * 1000000 }

/-- A write of XP_REQ.GO without BATCH (R275). -/
def execXpReqGo (m : Fin 7) (v : Word) (s : State) : Host.Outcome State Fault Refusal :=
  done (s.withWrite m .audio 0 0x060 v.toNat (fun t =>
    if bitOf v.toNat 31 && !bitOf v.toNat 24 && t.get AUDIO.XP_RESP_BUSY = 0 then
      let g := t.gate .audio 0
      let a := if g ≠ 0 then (g, t) else t.xpOne (t.xpRead m v.toNat)
      t.xpAnswer m a.1 0 a.2
    else t))

/-- A write of XP_REQ.GO with BATCH holds the request, up to 4,096 of them (R275). -/
def execXpReqBatch (m : Fin 7) (v : Word) (s : State) : Host.Outcome State Fault Refusal :=
  done (s.withWrite m .audio 0 0x060 v.toNat (fun t =>
    if bitOf v.toNat 31 && bitOf v.toNat 24 && t.get AUDIO.XP_RESP_BUSY = 0 then
      if t.audio.held.length < 4096 then { t with audio := { t.audio with held := t.audio.held ++ [t.xpRead m v.toNat] } }
      else t.xpAnswer m codeInResources 0 t
    else t))

/-- Decides held requests in order: the code, the index of the first failing one, and the state with all of them pending. -/
def State.xpHeld (s : State) (i : Nat) : List XpReq → Nat × Nat × State
  | [] => (0, 0, s)
  | r :: t =>
    let a := s.xpOne r
    if a.1 ≠ 0 then (a.1, i, s) else a.2.xpHeld (i + 1) t

/-- A write of XP_GO.GO commits the held requests as one ledger request (R275); they are then gone. (DEDUCED, assumption 12.) -/
def execXpGo (m : Fin 7) (v : Word) (s : State) : Host.Outcome State Fault Refusal :=
  done (s.withWrite m .audio 0 0x064 v.toNat (fun t =>
    if bitOf v.toNat 0 then
      let g := t.gate .audio 0
      let a := if g ≠ 0 then (g, 0, t) else t.xpHeld 0 t.audio.held
      let u := t.xpAnswer m a.1 a.2.1 a.2.2
      { u with audio := { u.audio with held := [] } }
    else t))

/-- A write of XP_GO.ABORT discards the held requests (R275). -/
def execXpAbort (m : Fin 7) (v : Word) (s : State) : Host.Outcome State Fault Refusal :=
  done (s.withWrite m .audio 0 0x064 v.toNat (fun t =>
    if bitOf v.toNat 1 then { t with audio := { t.audio with held := [] } } else t))

/-- The held requests of a master are discarded, as its held takes are (R167, R275). -/
def State.discardXp (s : State) (m : Nat) : State :=
  { s with audio := { s.audio with held := s.audio.held.filter (fun r => r.master ≠ m) } }

/-! ## Gain, fades and their steps -/

/-- A gain code as it applies (Table 9.2): clamped at +24 dB; `none` is off. -/
def gainOf (code : Nat) : Option Int :=
  let z := signedOf 16 code
  if z < -12000 then none else some (min 2400 z)

/-- The target of a ramp as numbers. -/
def Ramp.key (r : Ramp) : List Nat := [r.code, flag r.mute, r.k, r.n]

/-- A sample under its ramps and the video gain of a fade-through-black in thousandths: exact at unity and at off, a stated
curve with unstated rounding elsewhere (R279, R280). -/
def gained (l : List Ramp) (ftb : Nat) (x : Int) : Int :=
  match l with
  | [r] =>
    if r.mute ∧ r.n ≤ r.k then 0
    else if r.n ≤ r.k ∧ gainOf r.code = none then 0
    else if r.n ≤ r.k ∧ gainOf r.code = some 0 ∧ ftb = 1000 then x
    else Config.gained (ftb :: r.key) x
  | [] => if ftb = 1000 then x else Config.gained [ftb] x
  | _ => Config.gained (ftb :: l.flatMap Ramp.key) x

/-- One more sample frame of a list of ramps: stages before a finished one drop out. -/
def stepRamps (l : List Ramp) : List Ramp :=
  match l.getLast? with
  | none => []
  | some r =>
    let r' := { r with k := min r.n (r.k + 1) }
    if r'.n ≤ r'.k then [r'] else (l.dropLast).map (fun x => { x with k := min x.n (x.k + 1) }) ++ [r']

/-- A source's sample as the matrix sees it: faded while it stops, ramped while it returns (R283). -/
def State.sourceNow (s : State) (r : Nat) : Nat :=
  let n := NTable.getD s.audio.stop r 0
  let x := s.sampleOf r
  if n = 0 then x
  else if n = 32 then 0
  else sat24 (Config.faded (if n < 32 then n else 64 - n) (signedOf 24 x))

/-- The fold of a channel's crossfades (R282): a source change during a crossfade takes its output as the old side. -/
def State.fadeSample (s : State) (l : List Fader) : Int :=
  match l with
  | [] => 0
  | f :: t => t.foldl (fun x g =>
      let y := signedOf 24 (s.sourceNow g.src)
      if g.n ≤ g.k then y else Config.crossfaded g.k g.n x y) (signedOf 24 (s.sourceNow f.src))

/-- One more sample frame of the crossfades. -/
def stepFades (l : List Fader) : List Fader :=
  let l' := l.map (fun f => { f with k := min f.n (f.k + 1) })
  match l'.getLast? with
  | none => []
  | some f => if f.n ≤ f.k then [f] else l'

/-- Whether a source reference carries ST 337. -/
def State.nonPcm (s : State) (r : Nat) : Bool := r < 32768 && s.get ASTAT.SRC_NONPCM r = 1

/-- A channel changes to a source over n sample frames from step k (R282); with ST 337 on either side there is no crossfade,
silence for its length, then the new source from its next preamble, or ramped in (R286). -/
def State.startFade (s : State) (c : Chan) (src k n : Nat) : Chan :=
  let old := (c.fades.getLast?.map Fader.src).getD refSilence
  if s.nonPcm old || s.nonPcm src then
    { c with fades := [⟨src, n, n⟩], hold := n - k, preamble := s.nonPcm src, rampIn := if s.nonPcm src then 32 else 0 }
  else if n ≤ k then { c with fades := [⟨src, n, n⟩] }
  else { c with fades := (if c.fades = [] then [⟨refSilence, 0, 0⟩] else c.fades) ++ [⟨src, k, n⟩] }

/-- A gain, mute or delay change begins on a channel (R280, R288). -/
def State.applyLevels (s : State) (d : Nat) (w0 w1 w2 : Nat) : State :=
  let c := s.chan d
  let e := s.entryOf d
  let code := bitsOf w1 0 16
  let mute := bitOf w0 18
  let n := bitsOf w0 21 8 * framesPerMs
  let was := (s.get XPT.W1_GAIN e, s.get XPT.W0_MUTE e)
  let base : List Ramp := if c.ramps = [] then [⟨was.1, was.2 = 1, 0, 0⟩] else c.ramps
  let target : List Ramp := if n = 0 then [⟨code, mute, 0, 0⟩] else base ++ [⟨code, mute, 0, n⟩]
  let same := match base.getLast? with | some r => r.code = code && r.mute = mute | none => false
  let c := if same then { c with ramps := base } else { c with ramps := target }
  let del := bitsOf w2 0 17
  let old := s.get XPT.W2_DELAY d
  let wait := 480 < del && old ≤ 480
  let c := if old ≠ del && !wait then { c with oldDelay := some (old, 0) } else c
  let s := if wait then { s with audio := { s.audio with poolWait := NTable.put s.audio.poolWait d del } }
    else { (s.set XPT.W2_DELAY del d).set XPT.W2_LONG (flag (480 < del)) d with
      audio := { s.audio with poolWait := NTable.erase s.audio.poolWait d } }
  s.setChan d { c with waiting := none }

/-- A FOLLOW channel joins the audio of the VO's source. -/
def State.followOne (s : State) (d : Nat) (q : Path) : State :=
  if s.get RTE.W0_AFV (d / 32) = 0 then s
  else if 192 ≤ q.src then s.set XPT.HID_FROM 15 d
  else (s.set XPT.W3_RSRC (32 * q.src + d % 32) d).set XPT.HID_FROM (if s.remote q.mem then q.mem + 1 else 0) d

/-- A pending request acts on one destination channel (R277): the entry, the crossfade, and the levels, which wait for a zero
crossing where ZC is set (R281). -/
def State.xpAct (s : State) (r : XpReq) (e : Nat × Nat) : State :=
  let d := e.1
  let pair := if bitOf r.w0 19 then [d, d + 1] else [d]
  let s := pair.foldl (fun t x => if bitOf r.w0 20 then t.setChan x { t.chan x with waiting := some (r.w0, r.w1, r.w2) }
      else t.applyLevels x r.w0 r.w1 r.w2) s
  let s := (((s.set XPT.W0_SRC e.2 d).set XPT.W0_VALID (bitsOf r.w0 15 1) d).set XPT.W0_FOLLOW (bitsOf r.w0 16 1) d).set
    XPT.W0_POLARITY (bitsOf r.w0 17 1) d
  let s := (((s.set XPT.W0_MUTE (bitsOf r.w0 18 1) d).set XPT.W0_HIRATE (bitsOf r.w0 19 1) d).set XPT.W0_ZC (bitsOf r.w0 20 1) d).set
    XPT.W0_RAMP (bitsOf r.w0 21 8) d
  let s := s.set XPT.W1_GAIN (bitsOf r.w1 0 16) d
  let s := if bitOf r.w0 16 then (match NTable.find s.video.active (d / 32) with
      | some q => s.followOne d q
      | none => s.set XPT.HID_FROM 15 d)
    else (s.set XPT.W3_RSRC e.2 d).set XPT.HID_FROM 0 d
  pair.foldl (fun t x =>
    let src := t.refOf x
    let c := t.chan x
    if (c.fades.getLast?.map Fader.src) = some src then t
    else t.setChan x (t.startFade c src 0 (bitsOf r.w0 21 8 * framesPerMs))) s

/-- The pending requests that are due act, all destinations of one on the same sample frame (R277). -/
def State.xpDue (s : State) : State :=
  let due := s.audio.pend.filter (fun r => r.instant ≤ s.clk.sysFs)
  let s := { s with audio := { s.audio with pend := s.audio.pend.filter (fun r => s.clk.sysFs < r.instant) } }
  due.foldl (fun t r => r.targets.foldl (fun u e => u.xpAct r e) t) s

/-! ## A sample frame -/

/-- The counter of a source that stopped or returned (R283): 1 to 32 it fades, from 33 on it ramps in, unlisted it runs. -/
def State.stopStep (s : State) (c : Nat) (running : Bool) : State :=
  let n := NTable.getD s.audio.stop c 0
  let put (t : State) (k : Nat) : State := { t with audio := { t.audio with stop := NTable.putD t.audio.stop c k 0 } }
  if running then (if n = 0 then s else if n ≤ 32 then put s 33 else if 64 ≤ n then put s 0 else put s (n + 1))
  else if n = 0 ∨ 32 < n then put s 1
  else if n < 32 then put s (n + 1)
  else s.putSample c 0

/-- The sources that stop or run as their VI does (R283), among those with a sample. -/
def State.sourcesStep (s : State) : State :=
  (s.ess.samples.filter (fun e => e.1 < 6144)).foldl (fun t e =>
    if t.laneSdi false (e.1 / 32) then t.stopStep e.1 (t.get VIN.STAT_STATE (e.1 / 32) = viPRESENT) else t) s

/-- Tones and mix buses put their samples on their source channels (R293, R296). -/
def State.toneStep (s : State) (k : Nat) : State :=
  let mode := s.get AUDIO.TONE_MODE 7 k
  if mode = 0 then { s.putSample (23552 + k) 0 with audio := { s.audio with tones := NTable.erase s.audio.tones k } }
  else
    let t := NTable.getD s.audio.tones k 0
    let x := sat24 (Config.tone mode (s.get AUDIO.TONE_FREQ 7 k) (s.get AUDIO.TONE_LEVEL 7 k) t)
    { s.putSample (23552 + k) x with audio := { s.audio with tones := NTable.put s.audio.tones k (t + 1) } }

/-- The tone generators set to sound or just turned off. -/
def State.toneList (s : State) : List Nat :=
  ((s.regs.filter (fun e => e.1.field = AUDIO.TONE_MODE && e.1.inst = 7)).map (fun e => e.1.idx) ++ s.audio.tones.map (·.1)).eraseDups

/-- Register position of a mix bus. -/
def busInst (k : Nat) : Nat := 4 + k / 256
def busIdx (k : Nat) : Nat := k % 256

/-- The output of a mix bus at a sample frame (R285, R293): products at 32 bits, the sum exact, the bus gain, rounding with
saturation. An input carrying ST 337 contributes 0. -/
def State.busSample (s : State) (k : Nat) : Nat :=
  let first := s.get AUDIO.MB_FIRST (busInst k) (busIdx k)
  let sum := (List.range (s.get AUDIO.MB_NIN (busInst k) (busIdx k))).foldl (fun (z : Int) j =>
    match NTable.find s.audio.mixIns (first + j) with
    | none => z
    | some i =>
      if s.nonPcm i.src then z
      else
        let x := signedOf 24 (s.sourceNow i.src)
        z + gained i.ramps 1000 (if i.polarity then -x else x)) 0
  sat24 (gained (NTable.getD s.audio.busRamps k [⟨s.get AUDIO.MB_GAIN (busInst k) (busIdx k), s.get AUDIO.MB_MUTE (busInst k) (busIdx k) = 1, 0, 0⟩]) 1000 sum)

/-- The mix buses with inputs. -/
def State.busList (s : State) : List Nat :=
  (s.regs.filter (fun e => e.1.field = AUDIO.MB_NIN)).map (fun e => (e.1.inst - 4) * 256 + e.1.idx)

/-- The bus outputs of this frame, which readers see one sample frame later (R293). -/
def State.busStep (s : State) : State :=
  let outs := s.busList.map (fun k => (k, s.busSample k))
  let s := outs.foldl (fun t e => t.putSample (23040 + e.1) e.2) s
  { s with audio := { s.audio with
    mixIns := s.audio.mixIns.map (fun e => (e.1, { e.2 with ramps := stepRamps e.2.ramps }))
    busRamps := s.audio.busRamps.map (fun e => (e.1, stepRamps e.2)) } }

/-- A commit of the mix input area applies (R292): every input of a bus takes the area's entry, its gain and mute ramped over
10 ms. -/
def State.mixApply (s : State) : State :=
  if !s.audio.mixDue then s
  else
    let ins := s.busList.flatMap (fun k => (List.range (s.get AUDIO.MB_NIN (busInst k) (busIdx k))).map
      (fun j => s.get AUDIO.MB_FIRST (busInst k) (busIdx k) + j))
    let s := { s with audio := { s.audio with mixDue := false } }
    ins.foldl (fun t j =>
      let code := t.get MIXIN.W1_GAIN j
      let mute := t.get MIXIN.W0_MUTE j == 1
      let ramps : List Ramp := match NTable.find t.audio.mixIns j with
        | none => [⟨code, mute, 0, 0⟩]
        | some i => if i.ramps.getLast?.map (fun r => (r.code, r.mute)) = some (code, mute) then i.ramps else i.ramps ++ [⟨code, mute, 0, 480⟩]
      let i : MixIn := { src := t.get MIXIN.W0_SRC j, polarity := t.get MIXIN.W0_POLARITY j = 1, ramps := ramps }
      { t with audio := { t.audio with mixIns := NTable.put t.audio.mixIns j i } }) s

/-- Converters at a sample frame (R290, R291): in LOCK the channels of an IN converter carry converted samples, which the
spec's filter does not fix to a number and are free values; an OUT converter delivers to its sinks. -/
def State.sruStep (s : State) (k : Nat) : State :=
  let i := sruInst k
  let x := sruIdx k
  let ins := s.get AUDIO.SRU_MODE i x = 1
  let st := s.get AUDIO.SRU_STATE i x
  (List.range (s.get AUDIO.SRU_NCH i x + 1)).foldl (fun t c =>
    let far := t.get AUDIO.SRU_FIRST i x + c
    let out := 24576 + 32 * k + c
    if ins then
      (if st = 2 then
        (if t.sourceNow far = 0 || t.nonPcm far then (t.putSample out 0).stopStep out true
         else
          let r := t.fresh
          (r.2.putSample out r.1).stopStep out true)
       else if st = 3 then t.stopStep out false else t.putSample out 0)
    else if st = 2 then
      (if (t.chan out).out = 0 then t.setChan far { t.chan far with out := 0 }
       else
        let r := t.fresh
        r.2.setChan far { t.chan far with out := r.1 % 2 ^ 24 })
    else t.setChan far { t.chan far with out := 0 }) s

/-- The converters allocated. -/
def State.sruList (s : State) : List Nat :=
  (s.regs.filter (fun e => e.1.field = AUDIO.SRU_MODE)).map (fun e => (e.1.inst - 2) * 128 + e.1.idx)

/-- Raises an event of a channel, which EVT_CH names. -/
def State.chEvent (s : State) (ch side bit : Nat) : State :=
  ((s.set AUDIO.EVT_CH_CH ch).set AUDIO.EVT_CH_SIDE side).raise .audio 0 bit

/-- An ST 337 preamble found in the look-ahead makes its pair NONPCM (R284). -/
def State.markNonPcm (s : State) (pair : Nat) : State :=
  if s.get ASTAT.SRC_NONPCM (2 * pair) = 1 then s
  else ((s.set ASTAT.SRC_NONPCM 1 (2 * pair)).set ASTAT.SRC_NONPCM 1 (2 * pair + 1)).chEvent (2 * pair) 0 AUDIO.EV_NONPCM_CHG

/-- Whether a sample lies below a level in dB under full scale (R295): |x| < 2^23 x 10^(-L/20), in exact numbers. -/
def belowLevel (l x : Nat) : Bool := (signedOf 24 x).natAbs ^ 20 * 10 ^ l < 2 ^ 460

/-- The detectors of a source channel (R295): OVL_SAMPLES samples at full scale in a row; silence ends with the first sample
above the level. -/
def State.detect (s : State) (c : Nat) : State :=
  let x := signedOf 24 (s.sampleOf c)
  let full := x = 8388607 || x = -8388608
  let n := if full then min 16 (NTable.getD s.audio.fullScale c 0 + 1) else 0
  let s := { s with audio := { s.audio with fullScale := NTable.putD s.audio.fullScale c n 0 } }
  let was := s.get ASTAT.SRC_OVERLOAD c
  let now := flag (full && max 1 (s.get AUDIO.DET_CFG_OVL_SAMPLES) ≤ n)
  let s : State := if was = now then s
    else
      let t := (s.set ASTAT.SRC_OVERLOAD now c).chEvent c 0 AUDIO.EV_OVL
      if now = 1 then t.bump AUDIO.CNT_OVERLOADS else t
  if s.get ASTAT.SRC_SILENT c = 1 ∧ !belowLevel (s.get AUDIO.DET_CFG_SIL_LEVEL) (s.sampleOf c) then
    (s.set ASTAT.SRC_SILENT 0 c).chEvent c 0 AUDIO.EV_SIL_CHG
  else s

/-- The source channels with a sample or a mark. -/
def State.detectList (s : State) : List Nat :=
  (s.ess.samples.map (·.1) ++ s.audio.fullScale.map (·.1) ++
    (s.regs.filter (fun e => e.1.field = ASTAT.SRC_OVERLOAD)).map (fun e => e.1.inst)).eraseDups.filter (· < 32768)

/-- Whether a destination channel passes ST 337 bit-exact (R285). -/
def State.passes (s : State) (d : Nat) (c : Chan) : Bool :=
  let e := s.entryOf d
  let r := s.refOf d
  s.get XPT.W1_GAIN e = 0 && s.get XPT.W0_POLARITY e = 0 && s.get XPT.W0_MUTE e = 0 && c.fades.length ≤ 1 &&
  (c.ramps.length ≤ 1) && s.gain (d / 32) = 1000 && !(23040 ≤ r && r < 23552) && !(24576 ≤ r && r < 32768)

/-- One destination channel at a sample frame: the stages of Table 9.3. -/
def State.runChan (s : State) (begins : List Nat) (preambles : List Nat) (lost : Bool) (d : Nat) : State :=
  let e := s.entryOf d
  let ref := s.refOf d
  let c := s.chan d
  let ax := s.get RTE.W0_AXFADE (d / 32) * framesPerMs
  let next := if d < 6144 && begins.contains (d / 32) && s.get XPT.W0_FOLLOW e = 1 then
      (match NTable.find s.video.pend (d / 32) with
        | some t => if bitOf t.w0 15 then t.path.map (fun p => if 192 ≤ p.src then refSilence
            else 32768 * (if s.remote p.mem then p.mem + 1 else 0) + 32 * p.src + d % 32) else none
        | none => none)
    else none
  let last := c.fades.getLast?.map Fader.src
  let c := match next with
    | some r => if last = some r then c else s.startFade c r 0 (bitsOf ((NTable.find s.video.pend (d / 32)).map PendingTake.w0 |>.getD 0) 25 5 * framesPerMs)
    | none => c
  let c := if c.fades.any (fun f => f.src = ref) then c
    else if c.fades = [] then { c with fades := [⟨ref, 0, 0⟩] } else s.startFade c ref (ax / 2) ax
  let pre := s.fadeSample (c.fades.map (fun f => f))
  let del := s.get XPT.W2_DELAY d
  let keep := max (max del ((c.oldDelay.map (·.1)).getD 0)) (NTable.getD s.audio.poolWait d 0)
  let hist := if keep = 0 then [] else ((sat24 pre) :: (if lost then [] else c.hist)).take (keep + 1)
  let at_ (n : Nat) : Int := if n = 0 then pre else signedOf 24 (hist.getD n 0)
  let x := match c.oldDelay with
    | some (o, k) => Config.crossfaded k 96 (at_ o) (at_ del)
    | none => at_ del
  let cross := x = 0 || (x < 0) ≠ (signedOf 24 c.last < 0)
  let s := s.setChan d { c with hist := hist, last := ofSigned 24 x }
  let s : State := match c.waiting with
    | some (w0, w1, w2) => if cross then s.applyLevels d w0 w1 w2 else s
    | none => s
  let c : Chan := s.chan d
  let np := s.nonPcm ref
  let shut := np && !s.passes d c
  let c : Chan := { c with preamble := c.preamble && !preambles.contains (ref / 2) }
  let y := gained (if c.ramps = [] then [⟨s.get XPT.W1_GAIN e, s.get XPT.W0_MUTE e = 1, 0, 0⟩] else c.ramps) (s.gain (d / 32))
    (if s.get XPT.W0_POLARITY e = 1 then -x else x)
  let out := if shut || 0 < c.hold || c.preamble then 0
    else if np then ofSigned 24 x
    else if c.rampIn < 32 || c.muted then sat24 (Config.faded (31 - (if c.muted then 0 else c.rampIn)) y)
    else sat24 y
  let s : State := if shut && !c.muted then s.bump AUDIO.CNT_NONPCM_MUTES else s
  let rampIn := if shut || 0 < c.hold then c.rampIn else if c.muted && !np then 1 else min 32 (c.rampIn + 1)
  let old := match c.oldDelay with | some (o, k) => if 95 ≤ k then none else some (o, k + 1) | none => none
  let s : State := if old.isNone && c.oldDelay.isSome && del ≤ 480 then s.set XPT.W3_POOL 0x1FFF d else s
  (s.set XPT.W3_NONPCM (flag np) d).setChan d
    { c with fades := stepFades c.fades, ramps := stepRamps c.ramps, oldDelay := old, hold := c.hold - 1, rampIn := rampIn,
             muted := shut, out := out }

/-- The destination channels that a sample frame has to run: those with a record, those whose entry was set, and the FOLLOW
channels of routed outputs whose source sounds. Every other one carries 0. -/
def State.liveChans (s : State) : List Nat :=
  let set := ((s.regs.filter (fun e => e.1.field.page = .xpt && e.1.field.off < 0x10)).map (fun e => e.1.inst))
  let follow := (s.video.active.filter (fun e => e.1 < 192)).flatMap (fun e =>
    ((List.range 32).map (fun c => 32 * e.1 + c)).filter (fun d => s.sampleOf (s.refOf d) ≠ 0))
  (s.audio.chans.map (·.1) ++ set ++ set.filterMap (fun d => if s.get XPT.W0_HIRATE d = 1 then some (d + 1) else none) ++ follow).eraseDups

/-- Whether a half of Cicada is in RUN. -/
def State.halfRun (s : State) (h : Nat) : Bool := s.unit ⟨.audio, 0, h⟩ = uRUN

/-- ENG_STAT as the halves stand; the selected half out of RUN gives way to the other (R297). -/
def State.settleHalves (s : State) : State :=
  let s := (s.set AUDIO.ENG_STAT_A_RUN (flag (s.halfRun 0))).set AUDIO.ENG_STAT_B_RUN (flag (s.halfRun 1))
  let sel := s.get AUDIO.ENG_STAT_SEL
  if !s.halfRun sel && s.halfRun (1 - sel) then
    ((s.set AUDIO.ENG_STAT_SEL (1 - sel)).bump AUDIO.CNT_HALF_SWAPS).raise .audio 0 AUDIO.EV_HALF_SWAP
  else s

/-- A signature mismatch with no error reported (R298): the unselected half is tested first. -/
def State.halfMismatch (s : State) : State :=
  if s.halfRun 0 && s.halfRun 1 then
    let o := 1 - s.get AUDIO.ENG_STAT_SEL
    (((s.raise .audio 0 AUDIO.EV_HALF_MISMATCH).setUnit ⟨.audio, 0, o⟩ uTEST).set AUDIO.HID_KAT 1).settleHalves
  else s

/-- The known-answer test of a half ends under R298: the half that passed is selected and the other tested; one that fails is
retired. Any other test of a half returns or retires it. -/
def State.halfTested (s : State) (h : Nat) (pass : Bool) : State :=
  let u : UnitId := ⟨.audio, 0, h⟩
  if pass then
    let s := s.setUnit u uRUN
    if s.get AUDIO.HID_KAT = 1 then
      let s := (s.set AUDIO.ENG_STAT_SEL h).setUnit ⟨.audio, 0, 1 - h⟩ uTEST
      (((s.set AUDIO.HID_KAT 2).bump AUDIO.CNT_HALF_SWAPS).raise .audio 0 AUDIO.EV_HALF_SWAP).settleHalves
    else (s.set AUDIO.HID_KAT 0).settleHalves
  else ((s.set AUDIO.HID_KAT 0).retire u 0 0).settleHalves

/-- Lost long-delay samples stop their channels and raise POOL_FAULT (R289). -/
def State.poolFault (s : State) (d : Nat) : State :=
  if s.get XPT.W3_POOL d = 0x1FFF then s else s.chEvent d 1 AUDIO.EV_POOL_FAULT

/-- A 48 kHz sample frame in Cicada (R271 to R300): due changes act, sources, converters, tones and buses give their samples,
every destination channel is processed, the detectors look, and the halves' signatures are compared. -/
def State.sampleFrame (s : State) (f : SampleFacts) : State :=
  let s := (f.preambles.foldl (fun t p => t.markNonPcm (p % 16384)) s).sourcesStep
  let s := (s.xpDue).mixApply
  let s := s.toneList.foldl (fun t k => t.toneStep k) s
  let s := s.sruList.foldl (fun t k => t.sruStep k) s
  let s := f.poolLost.foldl (fun t d => t.poolFault d) s
  let s := if s.halfRun 0 || s.halfRun 1 then
      s.liveChans.foldl (fun t d => t.runChan f.begins f.preambles (f.poolLost.contains d) d) s
    else { s with audio := { s.audio with chans := s.audio.chans.map (fun e => (e.1, { e.2 with out := 0 })) } }
  let s := s.busStep.settlePool
  let s := s.detectList.foldl (fun t c => t.detect c) s
  if f.mismatch then s.halfMismatch else s

/-- A change waiting for a zero crossing applies at ZC_TIMEOUT (R281). -/
def execZcTimeout (ch : Fin 32768) (s : State) : Host.Outcome State Fault Refusal :=
  match (s.chan ch).waiting with
  | none => done s
  | some (w0, w1, w2) => done (((s.applyLevels ch w0 w1 w2).bump AUDIO.CNT_ZC_TIMEOUTS).chEvent ch 1 AUDIO.EV_ZC_TIMEOUT)

/-- A pair without a preamble for 8,192 sample frames is PCM again (R284). -/
def execNonpcmEnd (pair : Fin 16384) (s : State) : Host.Outcome State Fault Refusal :=
  if s.get ASTAT.SRC_NONPCM (2 * pair.val) = 1 then
    done (((s.set ASTAT.SRC_NONPCM 0 (2 * pair.val)).set ASTAT.SRC_NONPCM 0 (2 * pair.val + 1)).chEvent (2 * pair.val) 0 AUDIO.EV_NONPCM_CHG)
  else done s

/-- A change to the long-delay pool acts once the pool holds the new delay of history (R288). -/
def execPoolDelayAct (ch : Fin 32768) (s : State) : Host.Outcome State Fault Refusal :=
  match NTable.find s.audio.poolWait ch with
  | none => done s
  | some n =>
    let s := { s with audio := { s.audio with poolWait := NTable.erase s.audio.poolWait ch } }
    let c := { s.chan ch with oldDelay := some (s.get XPT.W2_DELAY ch, 0) }
    done ((((s.set XPT.W2_DELAY n ch).set XPT.W2_LONG 1 ch)).setChan ch c)

/-! ## Converters -/

/-- The image of a converter request as a word of SRU_IMG. -/
structure SruImg where
  first : Nat
  nch : Nat
  mode : Nat
  far : Nat
  hi : Nat
  valid : Nat
  deriving DecidableEq, Repr

/-- SRU_IMG. -/
def State.sruImg (s : State) : SruImg :=
  { first := s.get AUDIO.SRU_IMG_FIRST 1, nch := s.get AUDIO.SRU_IMG_NCH 1, mode := s.get AUDIO.SRU_IMG_MODE 1,
    far := s.get AUDIO.SRU_IMG_FAR_RATE 1, hi := s.get AUDIO.SRU_IMG_HIRATE 1, valid := s.get AUDIO.SRU_IMG_VALID 1 }

/-- The rules of R290 on an image: 0x1C for channels it may not name, 0x1D above the 32 channels; a reserved mode or rate has no
stated code. -/
def SruImg.code (g : SruImg) : Nat :=
  let n := g.nch + 1
  if g.mode = 0 ∨ 2 < g.mode ∨ 4 < g.far then codeInFormats
  else if (g.mode = 1 ∧ 23040 < g.first + n) ∨ (g.mode = 2 ∧ (g.first < 22528 ∨ 23040 < g.first + n)) then 0x1C
  else if 32 < n * (if 2 ≤ g.far ∨ g.hi = 1 then 2 else 1) then 0x1D
  else 0

/-- A converter's registers set from an image. -/
def State.sruPut (s : State) (k : Nat) (g : SruImg) : State :=
  let i := sruInst k
  let x := sruIdx k
  ((((((s.set AUDIO.SRU_FIRST g.first i x).set AUDIO.SRU_NCH g.nch i x).set AUDIO.SRU_MODE g.mode i x).set AUDIO.SRU_FAR_RATE g.far i x).set
    AUDIO.SRU_HIRATE g.hi i x).set AUDIO.SRU_VALID g.valid i x)

/-- A converter changes state (Table 9.4), with SRU_CHG. -/
def State.sruEnter (s : State) (k st : Nat) : State :=
  if s.get AUDIO.SRU_STATE (sruInst k) (sruIdx k) = st then s
  else (s.set AUDIO.SRU_STATE st (sruInst k) (sruIdx k)).raise .audio 0 AUDIO.EV_SRU_CHG

/-- SRU_RESP after a decision. -/
def State.sruAnswer (s : State) (m code index : Nat) : State :=
  let r := s.answerCode code
  (((r.2.set AUDIO.SRU_RESP_CODE r.1 1).set AUDIO.SRU_RESP_INDEX index 1).set AUDIO.SRU_RESP_DONE 1 1).noteDecision r.1 0 m .audio 1

/-- A write of SRU_REQ with GO and an operation. -/
def State.sruRequest (s : State) (m op v : Nat) (decide : State → Nat × Nat × State) : State :=
  s.withWrite m .audio 1 0x044 v (fun t =>
    if bitOf v 31 && bitsOf v 8 2 = op && t.get AUDIO.SRU_RESP_BUSY 1 = 0 then
      let g := t.gate .audio 1
      let c := if g ≠ 0 then g else t.audioCode
      let r := if c ≠ 0 then (c, 0, t) else decide t
      (if r.1 = 0 then r.2.2 else t).sruAnswer m r.1 r.2.1
    else t)

/-- Whether a converter is allocated: its mode is set. -/
def State.sruUsed (s : State) (k : Nat) : Bool := s.get AUDIO.SRU_MODE (sruInst k) (sruIdx k) ≠ 0

/-- SRU ALLOC: the lowest free converter (R290). -/
def execSruAlloc (m : Fin 7) (v : Word) (s : State) : Host.Outcome State Fault Refusal :=
  done (s.sruRequest m 1 v.toNat (fun t =>
    match (List.range 256).find? (fun k => !t.sruUsed k) with
    | none => (if t.sruImg.code = codeInFormats then codeInFormats else 0x1D, 0, t)
    | some k => (t.sruImg.code, k, let u := t.sruPut k t.sruImg; if t.sruImg.valid = 1 then u.sruEnter k 1 else u)))

/-- SRU MODIFY: the settings change and the converter acquires again, or idles with VALID clear (R290, Table 9.4). -/
def execSruModify (m : Fin 7) (v : Word) (s : State) : Host.Outcome State Fault Refusal :=
  done (s.sruRequest m 2 v.toNat (fun t =>
    let k := bitsOf v.toNat 0 8
    (if !t.sruUsed k then codeInFormats else t.sruImg.code, k, (t.sruPut k t.sruImg).sruEnter k (if t.sruImg.valid = 1 then 1 else 0))))

/-- Whether a crosspoint or mix input reads a converter's output. -/
def State.sruRead (s : State) (k : Nat) : Bool :=
  let own (c : Nat) : Bool := 24576 + 32 * k ≤ c && c < 24576 + 32 * (k + 1)
  (s.regs.any (fun e => e.1.field = XPT.W0_SRC && own e.2 && s.get XPT.W0_VALID e.1.inst = 1 && s.get XPT.W0_FOLLOW e.1.inst = 0)) ||
  s.audio.mixIns.any (fun e => own e.2.src) || s.audio.pend.any (fun r => r.targets.any (fun e => own e.2))

/-- SRU FREE: refused with 0x55 while it is read (R290). -/
def execSruFree (m : Fin 7) (v : Word) (s : State) : Host.Outcome State Fault Refusal :=
  done (s.sruRequest m 3 v.toNat (fun t =>
    let k := bitsOf v.toNat 0 8
    (if t.sruRead k then 0x55 else if !t.sruUsed k then codeInFormats else 0, k,
     ((t.sruPut k { first := 0, nch := 0, mode := 0, far := 1, hi := 0, valid := 0 }).sruEnter k 0).set AUDIO.SRU_RATIO 0 (sruInst k) (sruIdx k))))

/-- A converter locks: its ratio error stayed below 1 ppm for 50 ms (R291). -/
def execSruLock (k : Fin 256) (ratio : BitVec 32) (s : State) : Host.Outcome State Fault Refusal :=
  if s.get AUDIO.SRU_STATE (sruInst k) (sruIdx k) = 1 then
    done ((s.sruEnter k 2).set AUDIO.SRU_RATIO ratio.toNat (sruInst k) (sruIdx k))
  else if s.get AUDIO.SRU_STATE (sruInst k) (sruIdx k) = 3 then done (s.sruEnter k 1)
  else done s

/-- A converter loses its far side (R291). -/
def execSruLost (k : Fin 256) (s : State) : Host.Outcome State Fault Refusal :=
  if s.get AUDIO.SRU_STATE (sruInst k) (sruIdx k) = 2 then done (s.sruEnter k 3) else done s

/-! ## Mix buses -/

/-- Whether n inputs from one on are free for a bus. -/
def State.runFree (s : State) (k first n : Nat) : Bool :=
  first + n ≤ 8192 && s.busList.all (fun b => b = k ||
    !rangesMeet first n (s.get AUDIO.MB_FIRST (busInst b) (busIdx b)) (s.get AUDIO.MB_NIN (busInst b) (busIdx b)))

/-- The lowest contiguous run of the pool for a bus: it starts at 0 or where another bus's run ends. -/
def State.mixRun (s : State) (k n : Nat) : Option Nat :=
  let ends := 0 :: s.busList.map (fun b => s.get AUDIO.MB_FIRST (busInst b) (busIdx b) + s.get AUDIO.MB_NIN (busInst b) (busIdx b))
  (ends.filter (fun f => s.runFree k f n)).foldl (fun m f => match m with | none => some f | some x => some (min x f)) none

/-- A write of MIX_REQ.GO sets the number of inputs of a bus (R292): a contiguous run, or 0x1D. -/
def execMixReq (m : Fin 7) (v : Word) (s : State) : Host.Outcome State Fault Refusal :=
  done (s.withWrite m .audio 4 0x040 v.toNat (fun t =>
    if bitOf v.toNat 31 && t.get AUDIO.MIX_RESP_BUSY 4 = 0 then
      let k := bitsOf v.toNat 0 9
      let n := bitsOf v.toNat 16 7
      let g := t.gate .audio 4
      let c := if g ≠ 0 then g else t.audioCode
      let run := if n = 0 then some 0 else t.mixRun k n
      let code := if c ≠ 0 then c else if 64 < n then codeInFormats else if run.isNone then 0x1D else 0
      let u := if code = 0 then (t.set AUDIO.MB_FIRST (run.getD 0) (busInst k) (busIdx k)).set AUDIO.MB_NIN n (busInst k) (busIdx k) else t
      let r := u.answerCode code
      ((r.2.set AUDIO.MIX_RESP_CODE r.1 4).set AUDIO.MIX_RESP_DONE 1 4).noteDecision r.1 0 m .audio 4
    else t))

/-- The check of the mix input area over the inputs in use (R272, R293). -/
def State.mixCode (s : State) : Nat :=
  let ins := s.busList.flatMap (fun k => (List.range (s.get AUDIO.MB_NIN (busInst k) (busIdx k))).map
    (fun j => s.get MIXIN.W0_SRC (s.get AUDIO.MB_FIRST (busInst k) (busIdx k) + j)))
  if ins.any (fun c => s.asyncSource c || s.hiSource c) then 0x28
  else if ins.any reservedSource then 0x1C
  else 0

/-- A write of MIX_CTL.COMMIT: the area applies at the next sample frame (R292), unless an input is refused (R293). -/
def execMixCommit (m : Fin 7) (v : Word) (s : State) : Host.Outcome State Fault Refusal :=
  done (s.withWrite m .audio 4 0x048 v.toNat (fun t =>
    if bitOf v.toNat 0 then
      let g := t.gate .audio 4
      let code := if g ≠ 0 then g else if t.audioCode ≠ 0 then t.audioCode else t.mixCode
      let u := if code = 0 then { t with audio := { t.audio with mixDue := true } } else t
      ((u.set AUDIO.MIX_RESP_CODE code 4).set AUDIO.MIX_RESP_DONE 1 4).noteDecision code 0 m .audio 4
    else t))

/-- A commit of an AUDIO page changed a bus's gain or mute: it ramps over 10 ms (R292). -/
def State.busCommitted (old s : State) : State :=
  (List.range 512).foldl (fun t k =>
    let was := (old.get AUDIO.MB_GAIN (busInst k) (busIdx k), old.get AUDIO.MB_MUTE (busInst k) (busIdx k) == 1)
    let now := (t.get AUDIO.MB_GAIN (busInst k) (busIdx k), t.get AUDIO.MB_MUTE (busInst k) (busIdx k) == 1)
    if was = now then t
    else
      let l := NTable.getD t.audio.busRamps k [⟨was.1, was.2, 0, 0⟩] ++ [⟨now.1, now.2, 0, 480⟩]
      { t with audio := { t.audio with busRamps := NTable.put t.audio.busRamps k l } }) s

/-! ## Meters, detectors and halves -/

/-- An enabled loudness meter reports, every 100 ms (R294). -/
def execMeterReport (k : Fin 64) (f : MeterFacts) (s : State) : Host.Outcome State Fault Refusal :=
  if s.get AUDIO.LM_EN 6 k = 1 then
    done ((((((s.set AUDIO.LM_MOMENTARY f.momentary 6 k).set AUDIO.LM_SHORT f.short 6 k).set AUDIO.LM_INTEGRATED f.integrated 6 k).set
      AUDIO.LM_RANGE f.range 6 k).set AUDIO.LM_TRUE_PEAK f.truePeak 6 k).set AUDIO.LM_SECONDS f.seconds 6 k)
  else done s

/-- A write of LM.RESET_INT restarts integrated loudness, range and true peak (R294). -/
def execMeterReset (m : Fin 7) (k : Fin 64) (v : Word) (s : State) : Host.Outcome State Fault Refusal :=
  done (s.withWrite m .audio 6 (0x408 + 0x20 * k.val) v.toNat (fun t =>
    if bitOf v.toNat 0 then
      (((t.set AUDIO.LM_INTEGRATED 0x8000 6 k).set AUDIO.LM_RANGE 0 6 k).set AUDIO.LM_TRUE_PEAK 0x8000 6 k).set AUDIO.LM_SECONDS 0 6 k
    else t))

/-- A source channel stays below SIL_LEVEL for SIL_TIME (R295): SILENT, and no longer overloaded. -/
def execSilenceDetect (ch : Fin 32768) (s : State) : Host.Outcome State Fault Refusal :=
  if s.get ASTAT.SRC_SILENT ch = 1 then done s
  else
    let t := (s.set ASTAT.SRC_SILENT 1 ch).chEvent ch 0 AUDIO.EV_SIL_CHG
    if t.get ASTAT.SRC_OVERLOAD ch = 1 then done ((t.set ASTAT.SRC_OVERLOAD 0 ch).chEvent ch 0 AUDIO.EV_OVL) else done t

/-- A half of Cicada reports an error or stalls (R297): it is isolated and self-tested; the other is selected from the same
sample frame. -/
def State.halfFails (s : State) (h : Nat) : State :=
  let u : UnitId := ⟨.audio, 0, h⟩
  if s.unit u ≠ uRUN then s else (((s.isolateUnit u 6 0).retireIfLimit u).settleHalves)

/-- An error or stall in a half (R297). -/
def execHalfSwap (half : Bool) (s : State) : Host.Outcome State Fault Refusal := done (s.halfFails (flag half))

/-! ## Totals -/

/-- The destination channels that the ledger charges: those whose crosspoint names a source of its own. The spec gives the totals no
further meaning, and a channel that follows the video makes no request. (DESIGN CHOICE, assumption 42.) -/
def State.chargedDests (s : State) : List Nat :=
  (((s.regs.filter (fun e => e.1.field = XPT.W0_VALID || e.1.field = XPT.W0_FOLLOW || e.1.field = XPT.W0_SRC)).map (fun e => e.1.inst)).eraseDups).filter
    (fun d => s.get XPT.W0_VALID d = 1 && s.get XPT.W0_FOLLOW d = 0)

/-- The source channels that those read. -/
def State.chargedSources (s : State) : List Nat := (s.chargedDests.map (fun d => s.get XPT.W0_SRC d)).eraseDups

/-- Converters allocated. -/
def State.srusUsed (s : State) : Nat := ((List.range 256).filter s.sruUsed).length

/-- Mix-bus pool inputs assigned. -/
def State.mixInputs (s : State) : Nat := (List.range 512).foldl (fun n k => n + s.get AUDIO.MB_NIN (busInst k) (busIdx k)) 0

end Sys2Proof.Machine
end

