-- ==== Sys2Proof/Machine/Ports.lean ====
section
/-! DEFINITION. The serial audio ports: their frames and stream states, clocks and class, slot masks, TRIM, alignment groups
and AMCLK outputs (R301 to R321), and the sample frame of the whole device (R271). -/
namespace Sys2Proof.Machine

/-- Device's own scalars of a port, by direction: clean frames counted in HOLD; samples since RAMP, FADE or STOP was entered;
whether the direction is starting (R313); the channels that wait for a zero crossing; the slots that wait for a preamble;
the mask applied; by slot of both directions the gain steps of its own ramp, 0 to 32; the confirmation of SYNC_DECL; the
last sample of each channel. -/
def APORT.HID_CLEAN : Field := ⟨.aport, 0x1100, 0, 5, .const 0⟩
def APORT.HID_STEP : Field := ⟨.aport, 0x1108, 0, 9, .const 0⟩
def APORT.HID_STARTING : Field := ⟨.aport, 0x1110, 0, 1, .const 0⟩
def APORT.HID_WAIT : Field := ⟨.aport, 0x1118, 0, 32, .const 0⟩
def APORT.HID_PREAMBLE : Field := ⟨.aport, 0x1120, 0, 32, .const 0⟩
def APORT.HID_MASK : Field := ⟨.aport, 0x1128, 0, 32, .const 0⟩
def APORT.HID_NEWMASK : Field := ⟨.aport, 0x1130, 0, 1, .const 0⟩
def APORT.HID_SLOT : Field := ⟨.aport, 0x1138, 0, 6, .const 0⟩
def APORT.HID_SYNC : Field := ⟨.aport, 0x113C, 0, 1, .const 0⟩
def APORT.HID_LASTX : Field := ⟨.aport, 0x1140, 0, 24, .const 0⟩
/-- Device's own mark that a trigger of a group was taken and its start frame is to come. -/
def APORT.HID_TRIGGERED : Field := ⟨.aport, 0x1144, 0, 1, .const 0⟩

/-- Stream states (Table 10.6, PORT_STAT). -/
abbrev apOFF : Nat := 0
abbrev apARMED : Nat := 1
abbrev apHOLD : Nat := 2
abbrev apRAMP : Nat := 3
abbrev apRUN : Nat := 4
abbrev apFADE : Nat := 5
abbrev apSTOP : Nat := 6

/-- A register field by direction. -/
def byDir (rx tx : Field) (d : Bool) : Field := if d then tx else rx
/-- The state field of a direction. -/
def portState : Bool → Field := byDir APORT.PORT_STAT_RX_STATE APORT.PORT_STAT_TX_STATE
/-- The fill field of a direction. -/
def portFill : Bool → Field := byDir APORT.PORT_STAT_RX_FILL APORT.PORT_STAT_TX_FILL

/-- The state of a direction. -/
def State.ap (s : State) (p : Nat) (tx : Bool) : Nat := s.get (portState tx) p

/-- Whether a RATE carries channel pairs in its slots (R302). -/
def ratePairs (r : Nat) : Bool := 2 ≤ r
/-- The slots of a port: two in I2S and AES3. -/
def State.portSlots (s : State) (p : Nat) : Nat := if s.get APORT.PORT_CFG_MODE p = 2 then s.get APORT.PORT_CFG_SLOTS p + 1 else 2
/-- The slot of a channel of the port. -/
def State.slotOf (s : State) (p c : Nat) : Nat := if ratePairs (s.get APORT.PORT_CFG_RATE p) then c / 2 else c
/-- The channels a port carries in a direction. -/
def State.portChannels (s : State) (p : Nat) : Nat := s.portSlots p * (if ratePairs (s.get APORT.PORT_CFG_RATE p) then 2 else 1)
/-- The sample rate of a RATE code in hertz. -/
def rateHz (r : Nat) : Nat := [44100, 48000, 88200, 96000, 192000].getD r 48000
/-- Bits of a slot. -/
def slotBits (w : Nat) : Nat := [16, 24, 32].getD w 32

/-! ## Configuration -/

/-- The bit clock of R304 and R306 in hertz. -/
def State.bitClock (s : State) (p : Nat) : Nat :=
  if s.get APORT.PORT_CFG_MODE p = 3 then 128 * rateHz (s.get APORT.PORT_CFG_RATE p)
  else rateHz (s.get APORT.PORT_CFG_RATE p) * s.portSlots p * slotBits (s.get APORT.PORT_CFG_WIDTH p)

/-- The frequency of a synthesiser output times 2^28 times its divider, as 38.88 MHz x (N + FRAC/2^28) (R344). -/
def State.vco28 (s : State) (k : Nat) : Nat := 38880000 * (s.get SYNTH.SYN_N_N k * 2 ^ 28 + s.get SYNTH.SYN_FRAC_FRAC k)

/-- Whether a clock derived from a synthesiser output equals a frequency, to the residual of R345. (DEDUCED, assumption 24.) -/
def State.clockIs (s : State) (k j div hz : Nat) : Bool :=
  let want := hz * max 1 (s.get SYNTH.OUT_CFG_DIV k j) * div * 2 ^ 28
  let have_ := s.vco28 k
  (if want ≤ have_ then have_ - want else want - have_) * 100000000000 ≤ want

/-- Whether a port's transmit side derives its clock from a synthesiser: a master, or AES3 (R305, R306). -/
def State.portMaster (s : State) (p : Nat) : Bool := s.get APORT.PORT_CFG_ROLE p = 1 || s.get APORT.PORT_CFG_MODE p = 3

/-- The class of a port (Table 10.2): 1 SYNC. A port whose directions differ is ASYNC. -/
def State.portClass (s : State) (p : Nat) : Nat :=
  let r := s.get APORT.PORT_CFG_RATE p
  let even := r = 1 || r = 3
  let confirmed := s.get APORT.PORT_CFG_SYNC_DECL p = 1 && s.get APORT.HID_SYNC p = 1
  if s.get APORT.PORT_CFG_MODE p = 3 then flag (even && confirmed)
  else if s.get APORT.PORT_CFG_ROLE p = 1 then flag even
  else flag (even && confirmed)

/-- The fields whose change needs both directions OFF (R304). -/
def State.portFixed (s : State) (p : Nat) : List Nat :=
  [APORT.PORT_CFG_MODE, APORT.PORT_CFG_ROLE, APORT.PORT_CFG_RATE, APORT.PORT_CFG_SLOTS, APORT.PORT_CFG_WIDTH, APORT.PORT_CFG_SYNC_DECL,
   APORT.PORT_CFG_GROUP, APORT.CLK_CFG_OUT, APORT.CLK_CFG_SYN, APORT.CLK_CFG_BCLK_DIV].map (fun f => s.get f p)

/-- The limits of a port's own settings (R302, R304 to R306). A port whose MODE is OFF has none. -/
def State.portLimits (s : State) (p : Nat) : Bool :=
  let r := s.get APORT.PORT_CFG_RATE p
  let k := 10 + s.get APORT.CLK_CFG_SYN p
  s.get APORT.PORT_CFG_MODE p = 0 ||
  (r ≤ 4 && s.get APORT.PORT_CFG_WIDTH p < 3 && s.bitClock p ≤ 49152000 && (!ratePairs r || s.portSlots p ≤ 16) &&
   (!s.portMaster p || ((s.get APORT.CLK_CFG_SYN p = 0) == (r = 1 || r = 3 || r = 4) && s.get APORT.CLK_CFG_OUT p < 6 &&
     s.clockIs k (s.get APORT.CLK_CFG_OUT p) (max 1 (s.get APORT.CLK_CFG_BCLK_DIV p)) (s.bitClock p))))

/-- The group rules of R317 that the device can see: one RATE and class, and one clock among masters. -/
def State.groupOk (s : State) (p : Nat) : Bool :=
  let g := s.get APORT.PORT_CFG_GROUP p
  g = 0 || (g ≤ 8 && (List.range 16).all (fun q => q = p || s.get APORT.PORT_CFG_GROUP q ≠ g ||
    (s.get APORT.PORT_CFG_RATE q = s.get APORT.PORT_CFG_RATE p && s.portClass q = s.portClass p &&
     (s.get APORT.PORT_CFG_ROLE q = 0 || s.get APORT.PORT_CFG_ROLE p = 0 ||
      (s.get APORT.CLK_CFG_OUT q = s.get APORT.CLK_CFG_OUT p && s.get APORT.CLK_CFG_SYN q = s.get APORT.CLK_CFG_SYN p &&
       s.get APORT.CLK_CFG_BCLK_DIV q = s.get APORT.CLK_CFG_BCLK_DIV p)))))

/-- An AMCLK setting within R310: at most 49.152 MHz, an output that exists. -/
def State.amclkOk (s : State) (n : Nat) : Bool :=
  let k := 10 + s.get APORT.AMCLK_CFG_SYN 0 n
  let j := s.get APORT.AMCLK_CFG_OUT 0 n
  let d := if s.get APORT.AMCLK_CFG_DIV 0 n = 0 then 64 else s.get APORT.AMCLK_CFG_DIV 0 n
  s.get APORT.AMCLK_CFG_EN 0 n = 0 ||
  (j < 6 && s.vco28 k * 100000000000 ≤ 49152000 * max 1 (s.get SYNTH.OUT_CFG_DIV k j) * d * 2 ^ 28 * 100000000001)

/-- Whether a commit of an APORT page may take `s` to `t` (R304, R310). -/
def portCommitOk (s t : State) (p : Nat) : Bool :=
  t.portLimits p && t.groupOk p && (s.portFixed p = t.portFixed p || (s.ap p false = apOFF && s.ap p true = apOFF)) &&
  (p ≠ 0 || [0, 1, 2, 3].all t.amclkOk)

/-! ## Stream states -/

/-- The frames of a FIFO. -/
def State.fifo (s : State) (p : Nat) (tx : Bool) : List (List Nat) := NTable.getD s.ports.fifo (2 * p + flag tx) []
/-- The state with a FIFO set, and its fill shown. -/
def State.setFifo (s : State) (p : Nat) (tx : Bool) (l : List (List Nat)) : State :=
  State.set { s with ports := { s.ports with fifo := NTable.putD s.ports.fifo (2 * p + flag tx) l [] } } (portFill tx) l.length p

/-- Enters a state of Table 10.3, its counts restarted. -/
def State.apEnter (s : State) (p : Nat) (tx : Bool) (st : Nat) : State :=
  (((s.set (portState tx) st p).set APORT.HID_STEP 0 p (flag tx)).set APORT.HID_CLEAN 0 p (flag tx))

/-- Whether the group of a port is RUNNING. -/
def State.groupRuns (s : State) (p : Nat) : Bool :=
  let g := s.get APORT.PORT_CFG_GROUP p
  g ≠ 0 && s.get APORT.GRP_CTL_RUNNING 0 (g - 1) = 1

/-- A direction leaves OFF (Table 10.3, R319): ARMED in a group not running, else HOLD; it is starting. -/
def State.apStart (s : State) (p : Nat) (tx : Bool) : State :=
  let s := (s.set APORT.HID_STARTING 1 p (flag tx)).setFifo p tx (List.replicate 8 [])
  s.apEnter p tx (if s.get APORT.PORT_CFG_GROUP p ≠ 0 && !s.groupRuns p then apARMED else apHOLD)

/-- The channels of a direction's active slots. -/
def State.activeChannels (s : State) (p : Nat) (tx : Bool) : List Nat :=
  (List.range (s.portChannels p)).filter (fun c => bitOf (s.get (byDir APORT.RX_ACTIVE_MASK APORT.TX_ACTIVE_MASK tx) p) (s.slotOf p c))

/-- A mask of the channels of a list. -/
def maskOf (l : List Nat) : Nat := l.foldl (fun n c => setBit n c) 0

/-- A direction begins to stop (Table 10.3): each channel waits for its zero crossing, unless a fade or ramp runs already. -/
def State.apStop (s : State) (p : Nat) (tx : Bool) : State :=
  let st := s.ap p tx
  if st = apOFF ∨ st = apSTOP then s
  else
    let wait := if st = apRUN then maskOf (s.activeChannels p tx) else 0
    (s.apEnter p tx apSTOP).set APORT.HID_WAIT wait p (flag tx)

/-- Shows a port's class. -/
def State.showClass (s : State) (p : Nat) : State := s.set APORT.PORT_STAT_SYNC (s.portClass p) p

/-- A direction after a commit: enabled out of OFF it starts, disabled it stops. -/
def State.apCommitted (s : State) (p : Nat) (tx : Bool) : State :=
  let en := s.get (byDir APORT.PORT_CFG_RX_EN APORT.PORT_CFG_TX_EN tx) p = 1 && s.get APORT.PORT_CFG_MODE p ≠ 0
  if en then (if s.ap p tx = apOFF then s.apStart p tx else s) else s.apStop p tx

/-- A port after a commit of its page that applied. -/
def State.portCommitted (s : State) (p : Nat) : State :=
  let s := ((s.showClass p).apCommitted p false).apCommitted p true
  let s := if s.get APORT.PORT_CFG_ROLE p = 1 && s.get APORT.PORT_CFG_MODE p ≠ 0 then s.set APORT.PORT_STAT_CLK_OK 1 p else s
  if p = 0 ∧ s.domUp 19 then [0, 1, 2, 3].foldl (fun t n => t.amclkFollow n) s else s

/-- A port stops at once: disabled, isolated or reset (R315): both directions OFF, the FIFOs empty, the channels silent. -/
def State.portDown (s : State) (p : Nat) : State :=
  let s := ((s.apEnter p false apOFF).apEnter p true apOFF).setFifo p false []
  let s := ((s.setFifo p true []).set APORT.TX_ACTIVE_MASK 0 p).set APORT.RX_ACTIVE_MASK 0 p
  let s := (List.range 64).foldl (fun (t : State) k => t.set APORT.HID_SLOT 0 p k) s
  let s := (List.range 32).foldl (fun (t : State) c => t.putSample (22528 + 32 * p + c) 0) s
  { s with ports := { s.ports with dout := NTable.erase s.ports.dout p, last := NTable.erase (NTable.erase s.ports.last (2 * p)) (2 * p + 1) } }

/-! ## Gains -/

/-- The gain step of a slot's own ramp. -/
def State.slotGain (s : State) (p : Nat) (tx : Bool) (slot : Nat) : Nat := s.get APORT.HID_SLOT p (32 * flag tx + slot)

/-- A sample under the stream's state, its slot's own ramp and TRIM: exact at unity, silent at 0 (R311, R314, R316). -/
def streamGain (st step slot : Nat) (trim : List Ramp) (x : Int) : Int :=
  let whole := st = apRUN || (st = apRAMP && 256 ≤ step)
  if slot = 0 ∨ st = apOFF ∨ st = apARMED ∨ st = apHOLD ∨ ((st = apFADE ∨ st = apSTOP) ∧ 64 ≤ step) then 0
  else if whole ∧ slot = 32 then gained trim 1000 x
  else Config.gained (st :: step :: slot :: trim.flatMap Ramp.key) x

/-- A channel of a direction at a frame: its zero crossing ends its wait (R313). -/
def State.zeroCross (s : State) (p : Nat) (tx : Bool) (c x : Nat) : State :=
  let i := 32 * flag tx + c
  let last := s.get APORT.HID_LASTX p i
  let s := s.set APORT.HID_LASTX x p i
  if x = 0 || (signedOf 24 x < 0) != (signedOf 24 last < 0) then s.set APORT.HID_WAIT (clrBit (s.get APORT.HID_WAIT p (flag tx)) c) p (flag tx)
  else s

/-- The ramps of TRIM on a transmit channel: a change waits for a zero crossing and ramps over 64 samples (R314). -/
def State.trimStep (s : State) (p c x : Nat) : State :=
  let k := 64 * p + c
  let z := signedOf 16 (s.get APORT.TRIM_GAIN p)
  let code := ofSigned 16 (max (-6000) (min 1200 z))
  let l := NTable.getD s.ports.trim k [⟨0, false, 0, 0⟩]
  let at_ := (l.getLast?.map Ramp.code).getD 0
  let last := s.get APORT.HID_LASTX p (32 + c)
  let cross := x = 0 || (signedOf 24 x < 0) != (signedOf 24 last < 0)
  let l := if at_ ≠ code && cross then l ++ [⟨code, false, 0, 64⟩] else stepRamps l
  { s with ports := { s.ports with trim := NTable.putD s.ports.trim k l [⟨0, false, 0, 0⟩] } }

/-- A frame start applies a mask written since (R316): MASK_DONE; every slot's own ramp takes one step, and ACTIVE clears when a
removed slot's fade ends. -/
def State.maskStep (s : State) (p : Nat) (tx : Bool) : State :=
  let d := flag tx
  let s := if s.get APORT.HID_NEWMASK p d = 1 then
      (((s.set APORT.HID_MASK (s.get (byDir APORT.RX_MASK_MASK APORT.TX_MASK_MASK tx) p) p d).set APORT.HID_NEWMASK 0 p d).raise .aport p APORT.EV_MASK_DONE)
    else s
  let mask := s.get APORT.HID_MASK p d
  (List.range 32).foldl (fun (t : State) k =>
    let g := t.slotGain p tx k
    let on := bitOf mask k && k < t.portSlots p
    let g' := if on then min 32 (g + 1) else g - 1
    let act := byDir APORT.RX_ACTIVE_MASK APORT.TX_ACTIVE_MASK tx
    (t.set APORT.HID_SLOT g' p (32 * d + k)).set act (putBit (t.get act p) k (on || g' ≠ 0)) p) s

/-- Whether a channel of a port carries ST 337: its source channel on receive, its entry on transmit. -/
def State.portNonPcm (s : State) (p : Nat) (tx : Bool) (c : Nat) : Bool :=
  if tx then s.get XPT.W3_NONPCM (22528 + 32 * p + c) = 1 else s.get ASTAT.SRC_NONPCM (22528 + 32 * p + c) = 1

/-- A sample of a channel as it passes the stream: ST 337 is not faded; it is silent from the first frame that is not clean
until a preamble after RAMP began (Table 10.3). -/
def State.portSample (s : State) (p : Nat) (tx : Bool) (c x : Nat) : Nat :=
  let st := s.ap p tx
  let wait := bitOf (s.get APORT.HID_WAIT p (flag tx)) c
  let slot := s.slotGain p tx (s.slotOf p c)
  let trim := if tx then NTable.getD s.ports.trim (64 * p + c) [⟨0, false, 0, 0⟩] else [⟨0, false, 0, 0⟩]
  if s.portNonPcm p tx c then
    (if (st = apRUN || st = apRAMP) && !bitOf (s.get APORT.HID_PREAMBLE p (flag tx)) c && slot = 32 then x else 0)
  else if wait && st = apSTOP then sat24 (gained trim 1000 (signedOf 24 x))
  else if wait && st = apRAMP then 0
  else sat24 (streamGain st (s.get APORT.HID_STEP p (flag tx)) slot trim (signedOf 24 x))

/-- Rounding of a 24-bit sample to the width of a slot (R303): to nearest and saturated at 16 bits. -/
def slotRound (w x : Nat) : Nat :=
  if w = 0 then ofSigned 24 (min 8388352 ((signedOf 24 x + 128).fdiv 256 * 256)) else x

/-! ## Frames -/

/-- A frame that is not clean (Table 10.3, R311): counted; in RAMP or RUN the direction fades, its event raised; in HOLD the
count of clean frames restarts. -/
def State.notClean (s : State) (p : Nat) (tx : Bool) (cnt : Field) (ev : Nat) : State :=
  let s := s.bump cnt p
  let st := s.ap p tx
  if st = apRAMP ∨ st = apRUN then
    let np := maskOf ((List.range 32).filter (fun c => s.portNonPcm p tx c))
    ((s.apEnter p tx apFADE).set APORT.HID_PREAMBLE np p (flag tx)).raise .aport p ev
  else s.set APORT.HID_CLEAN 0 p (flag tx)

/-- A clean frame counts in HOLD; the samples of a ramp or fade advance. -/
def State.cleanFrame (s : State) (p : Nat) (tx : Bool) : State :=
  if s.ap p tx = apHOLD then s.set APORT.HID_CLEAN (min 16 (s.get APORT.HID_CLEAN p (flag tx) + 1)) p (flag tx) else s

/-- One sample period of a ramp, fade or stop. -/
def State.stepFrame (s : State) (p : Nat) (tx : Bool) : State :=
  let st := s.ap p tx
  if (st = apRAMP || st = apFADE || st = apSTOP) then s.set APORT.HID_STEP (min 511 (s.get APORT.HID_STEP p (flag tx) + 1)) p (flag tx) else s

/-- Whether a port's FIFOs are served at the matrix's sample frames: 48 and 96 kHz ports that are masters or declare SYNC;
every other port is served by its converter at its own rate. (DEDUCED, assumption 25.) -/
def State.matrixServed (s : State) (p : Nat) : Bool :=
  let r := s.get APORT.PORT_CFG_RATE p
  (r = 1 || r = 3) && (s.get APORT.PORT_CFG_ROLE p = 1 || s.get APORT.PORT_CFG_SYNC_DECL p = 1)

/-- Cicada takes the oldest received frame of a port (R302, R303): its samples are the source channels'. -/
def State.portRead (s : State) (p : Nat) : State :=
  match s.fifo p false with
  | [] => s
  | fr :: rest =>
    (List.range (s.portChannels p)).foldl (fun (t : State) c => t.putSample (22528 + 32 * p + c) (fr.getD c 0)) (s.setFifo p false rest)

/-- Cicada gives a port a frame of its destination channels. -/
def State.portWrite (s : State) (p : Nat) : State :=
  let l := s.fifo p true
  if 16 ≤ l.length then s
  else s.setFifo p true (l ++ [(List.range (s.portChannels p)).map (fun c => (s.chan (22528 + 32 * p + c)).out)])

/-- A received frame (R303, R307, R311). -/
def State.rxFrame (s : State) (p : Nat) (f : PortFrame) : State :=
  let s := s.maskStep p false
  let s := s.set APORT.HID_PREAMBLE (f.preambles.foldl (fun n k => clrBit (clrBit n (2 * k)) (2 * k + 1)) (s.get APORT.HID_PREAMBLE p 0)) p 0
  let full := 16 ≤ (s.fifo p false).length
  let good := !f.framing && f.clock && !full
  let s := if good then s.cleanFrame p false
    else if f.framing then s.notClean p false APORT.CNT_FRAMING_ERRS APORT.EV_FRAMING
    else if full then s.notClean p false APORT.CNT_OVERRUNS APORT.EV_OVERRUN
    else s
  let src := if good then f.samples else NTable.getD s.ports.last (2 * p) []
  let s := if good then { s with ports := { s.ports with last := NTable.put s.ports.last (2 * p) f.samples } } else s
  let s := (List.range (s.portChannels p)).foldl (fun (t : State) c => t.zeroCross p false c (src.getD c 0)) s
  let fr := (List.range (s.portChannels p)).map (fun c => s.portSample p false c (src.getD c 0))
  let s := if full then s else s.setFifo p false (s.fifo p false ++ [fr])
  let s := s.stepFrame p false
  if s.matrixServed p || (s.fifo p false).length ≤ 8 then s else s.portRead p

/-- A frame due on transmit (R303, R311): an empty FIFO is an underrun. -/
def State.txFrame (s : State) (p : Nat) (f : PortFrame) : State :=
  let s := s.maskStep p true
  let l := s.fifo p true
  let good := f.clock && l ≠ []
  let s := if good then s.cleanFrame p true
    else if l = [] then s.notClean p true APORT.CNT_UNDERRUNS APORT.EV_UNDERRUN
    else s
  let src := match l with | [] => NTable.getD s.ports.last (2 * p + 1) [] | x :: _ => x
  let s := s.setFifo p true (l.drop 1)
  let s := { s with ports := { s.ports with last := NTable.put s.ports.last (2 * p + 1) src } }
  let s := (List.range (s.portChannels p)).foldl (fun (t : State) c => (t.trimStep p c (src.getD c 0)).zeroCross p true c (src.getD c 0)) s
  let w := if s.get APORT.PORT_CFG_MODE p = 3 then 1 else s.get APORT.PORT_CFG_WIDTH p
  let fr := (List.range (s.portChannels p)).map (fun c => slotRound w (s.portSample p true c (src.getD c 0)))
  let s := State.stepFrame { s with ports := { s.ports with dout := NTable.put s.ports.dout p fr } } p true
  if s.matrixServed p || 8 ≤ (s.fifo p true).length then s else s.portWrite p

/-- CLK_OK returns with the first frame that has both clocks and correct framing (R307). -/
def State.clockBack (s : State) (p : Nat) (f : PortFrame) : State :=
  let s := match f.offset with
    | some z => (s.set APORT.FS_MEAS_OFFSET (ofSigned 24 z) p).set APORT.FS_MEAS_VALID 1 p
    | none => s
  if f.clock && !f.framing && s.get APORT.PORT_STAT_CLK_OK p = 0 then (s.set APORT.PORT_STAT_CLK_OK 1 p).raise .aport p APORT.EV_CLK_BACK
  else s

/-- A frame of a port arrives or is due (R307, R311, R316). -/
def execPortFrame (p : Fin 16) (tx : Bool) (f : PortFrame) (s : State) : Host.Outcome State Fault Refusal :=
  if s.ap p tx = apOFF ∨ s.unit ⟨.aport, p, 0⟩ ≠ uRUN then done s
  else if tx then done (((if s.get APORT.PORT_CFG_MODE p = 3 then s else s.clockBack p f)).txFrame p f)
  else done ((s.clockBack p f).rxFrame p f)

/-- 64 samples after FADE was entered: HOLD (Table 10.3). -/
def execPortFadeEnd (p : Fin 16) (tx : Bool) (s : State) : Host.Outcome State Fault Refusal :=
  if s.ap p tx = apFADE then done ((s.apEnter p tx apHOLD).set APORT.HID_STARTING 0 p (flag tx)) else done s

/-- 16 clean frames in HOLD (R312, R313): the FIFO brought to 8, LAST_REALIGN, REJOIN, RAMP; a starting direction's channels wait
for their zero crossings. -/
def execPortRejoin (p : Fin 16) (tx : Bool) (s : State) : Host.Outcome State Fault Refusal :=
  if s.ap p tx = apHOLD ∧ s.get APORT.HID_CLEAN p (flag tx) = 16 then
    let l := s.fifo p tx
    let n : Int := (l.length : Int) - 8
    let l' := if 8 ≤ l.length then l.drop (l.length - 8) else List.replicate (8 - l.length) [] ++ l
    let s := (s.setFifo p tx l').set (byDir APORT.LAST_REALIGN_RX APORT.LAST_REALIGN_TX tx) (ofSigned 8 n) p
    let start := s.get APORT.HID_STARTING p (flag tx) = 1
    let s := (s.apEnter p tx apRAMP).set APORT.HID_WAIT (if start then maskOf (s.activeChannels p tx) else 0) p (flag tx)
    done ((s.set APORT.HID_STARTING 0 p (flag tx)).raise .aport p APORT.EV_REJOIN)
  else done s

/-- Every active slot has finished its ramp: RUN (Table 10.3). -/
def execPortRampEnd (p : Fin 16) (tx : Bool) (s : State) : Host.Outcome State Fault Refusal :=
  if s.ap p tx = apRAMP then done ((s.apEnter p tx apRUN).set APORT.HID_WAIT 0 p (flag tx)) else done s

/-- A group stays RUNNING until every member is OFF (R318). -/
def State.groupSettle (s : State) : State :=
  (List.range 8).foldl (fun (t : State) g =>
    if t.get APORT.GRP_CTL_RUNNING 0 g = 1 ∧ (List.range 16).all (fun p => t.get APORT.PORT_CFG_GROUP p ≠ g + 1 ||
        (t.ap p false = apOFF && t.ap p true = apOFF)) then t.set APORT.GRP_CTL_RUNNING 0 0 g else t) s

/-- Every active slot of a stopping direction is silent: OFF; an enable committed meanwhile acts now (Table 10.5). -/
def execPortStopDone (p : Fin 16) (tx : Bool) (s : State) : Host.Outcome State Fault Refusal :=
  if s.ap p tx = apSTOP then
    let s := (s.apEnter p tx apOFF).setFifo p tx []
    let s := if tx then { s with ports := { s.ports with dout := NTable.erase s.ports.dout p } }
      else (List.range 32).foldl (fun (t : State) c => t.putSample (22528 + 32 * p + c) 0) s
    done ((s.groupSettle).apCommitted p tx)
  else done s

/-- Loss of clock (R307): CLK_OK clears, CLK_LOST; both directions of a slave fade. -/
def execPortClkLost (p : Fin 16) (s : State) : Host.Outcome State Fault Refusal :=
  if s.get APORT.PORT_STAT_CLK_OK p = 0 then done s
  else
    let s := (((s.set APORT.PORT_STAT_CLK_OK 0 p).set APORT.FS_MEAS_VALID 0 p).bump APORT.CNT_CLK_LOSSES p).raise .aport p APORT.EV_CLK_LOST
    let fade (t : State) (tx : Bool) : State :=
      if t.ap p tx = apRAMP ∨ t.ap p tx = apRUN then t.apEnter p tx apFADE else t.set APORT.HID_CLEAN 0 p (flag tx)
    done (if s.get APORT.PORT_CFG_MODE p = 3 then fade s false else fade (fade s false) true)

/-- A starting or stopping channel reaches ZC_CFG.TIMEOUT (R313). -/
def execPortZcTimeout (p : Fin 16) (tx : Bool) (c : Fin 32) (s : State) : Host.Outcome State Fault Refusal :=
  if bitOf (s.get APORT.HID_WAIT p (flag tx)) c then
    done (((s.set APORT.HID_WAIT (clrBit (s.get APORT.HID_WAIT p (flag tx)) c) p (flag tx)).bump APORT.CNT_ZC_TIMEOUTS p).raise
      .aport p APORT.EV_ZC_TIMEOUT)
  else done s

/-- A confirmation of SYNC_DECL given or withdrawn (R309): SYNC_CHG. -/
def State.syncDecl (s : State) (p : Nat) (on : Bool) : State :=
  if s.get APORT.PORT_CFG_SYNC_DECL p = 0 ∨ s.get APORT.HID_SYNC p = flag on then s
  else ((s.set APORT.HID_SYNC (flag on) p).showClass p).raise .aport p APORT.EV_SYNC_CHG

/-- FS_MEAS within 0.1 ppm for 2 s (R309). -/
def execSyncConfirm (p : Fin 16) (s : State) : Host.Outcome State Fault Refusal := done (s.syncDecl p true)
/-- FS_MEAS beyond 1 ppm for 1 s (R309). -/
def execSyncWithdraw (p : Fin 16) (s : State) : Host.Outcome State Fault Refusal := done (s.syncDecl p false)

/-! ## Alignment groups -/

/-- A write of GRP_CTL.ARM (R318). -/
def execGrpArm (m : Fin 7) (g : Fin 8) (v : Word) (s : State) : Host.Outcome State Fault Refusal :=
  done (s.withWrite m .aport 0 (0x200 + 4 * g.val) v.toNat (fun t => if bitOf v.toNat 16 then t.set APORT.GRP_CTL_ARMED 1 0 g else t))

/-- A write of GRP_CTL.DISARM (R318). -/
def execGrpDisarm (m : Fin 7) (g : Fin 8) (v : Word) (s : State) : Host.Outcome State Fault Refusal :=
  done (s.withWrite m .aport 0 (0x200 + 4 * g.val) v.toNat (fun t => if bitOf v.toNat 17 then t.set APORT.GRP_CTL_ARMED 0 0 g else t))

/-- A trigger reaches a group (R318): it starts an armed one at its start frame, and is ignored by one not armed or running. -/
def State.trigger (s : State) (g : Nat) : State :=
  if s.get APORT.GRP_CTL_ARMED 0 g = 1 ∧ s.get APORT.GRP_CTL_RUNNING 0 g = 0 then
    (s.set APORT.HID_TRIGGERED 1 0 g).raise .aport 0 APORT.EV_TRIGGER
  else s.raise .aport 0 APORT.EV_TRIG_IGNORED

/-- A write of GRP_CTL.GO triggers a group that selects the register (R318). -/
def execGrpGo (m : Fin 7) (g : Fin 8) (v : Word) (s : State) : Host.Outcome State Fault Refusal :=
  done (s.withWrite m .aport 0 (0x200 + 4 * g.val) v.toNat (fun t =>
    if bitOf v.toNat 18 && t.get APORT.GRP_CTL_TRIG 0 g = 0 then t.trigger g else t))

/-- A rising edge on APSTART, or on a GPIO set as an input, triggers every group that selects it (R318). -/
def execApstartEdge (gpio : Option (Fin 32)) (s : State) : Host.Outcome State Fault Refusal :=
  let sel (g : Nat) : Bool := match gpio with
    | none => s.get APORT.GRP_CTL_TRIG 0 g = 1
    | some k => s.get APORT.GRP_CTL_TRIG 0 g = 2 && s.get APORT.GRP_CTL_GPIO 0 g = k.val && !bitOf (s.get GPIO.DIR_OUT_EN) k.val
  done (((List.range 8).filter sel).foldl (fun t g => t.trigger g) s)

/-- The start frame of a group (R318): the index reads 0, ARMED clears, RUNNING sets, ARMED members enter HOLD. -/
def execGroupStartFrame (g : Fin 8) (s : State) : Host.Outcome State Fault Refusal :=
  if s.get APORT.HID_TRIGGERED 0 g = 1 ∧ s.get APORT.GRP_CTL_ARMED 0 g = 1 then
    let s := (((s.set APORT.HID_TRIGGERED 0 0 g).set APORT.GRP_IDX_INDEX 0 0 g).set APORT.GRP_CTL_ARMED 0 0 g).set APORT.GRP_CTL_RUNNING 1 0 g
    done ((List.range 16).foldl (fun t p =>
      if t.get APORT.PORT_CFG_GROUP p = g + 1 then
        [false, true].foldl (fun (u : State) tx => if u.ap p tx = apARMED then u.apEnter p tx apHOLD else u) t
      else t) s)
  else done (s.set APORT.HID_TRIGGERED 0 0 g)

/-! ## The sample frame -/

/-- The index of running groups and of their members (R319). -/
def State.groupIndex (s : State) : State :=
  let s := (List.range 8).foldl (fun (t : State) g => if t.get APORT.GRP_CTL_RUNNING 0 g = 1 then t.incr APORT.GRP_IDX_INDEX 0 g else t) s
  (List.range 16).foldl (fun (t : State) p =>
    let live (tx : Bool) : Bool := t.ap p tx = apHOLD || t.ap p tx = apRAMP || t.ap p tx = apRUN
    if t.groupRuns p && (live false || live true) then t.set APORT.GROUP_IDX_INDEX (t.get APORT.GRP_IDX_INDEX 0 (t.get APORT.PORT_CFG_GROUP p - 1)) p
    else t) s

/-- The ports whose directions Cicada serves at a sample frame, once at 48 kHz and twice at 96 kHz. -/
def State.portsStep (s : State) (tx : Bool) : State :=
  ((List.range 16).filter (fun p => s.ap p tx ≠ apOFF && s.ap p tx ≠ apARMED && s.matrixServed p)).foldl (fun t p =>
    let step (u : State) : State := if tx then u.portWrite p else u.portRead p
    if t.get APORT.PORT_CFG_RATE p = 3 then step (step t) else step t) s

/-- A 48 kHz sample frame of the device (R271): received port samples enter the matrix, Cicada processes, the ports take their
destination channels. -/
def execSampleFrame (f : SampleFacts) (s : State) : Host.Outcome State Fault Refusal :=
  if !s.domUp 18 then done s
  else done ((((s.portsStep false).sampleFrame f).portsStep true).groupIndex)

end Sys2Proof.Machine
end

