-- ==== Sys2Proof/Machine/Mesh.lean ====
section
/-! DEFINITION. Evoyn links and formations: link states, elections and membership, the loss of links and members, pairing,
parts of formation requests, leaving, and remote access (R362 to R386). -/
namespace Sys2Proof.Machine

/-- Device's own marks of a link: its key's parent was invalidated and the rekey is to come (R376); the group of a DOWN link
waits for the SECOND link's rekey (R384); EN was cleared and the link drains (Table 13.1). -/
def MESH.HID_STALE : Field := ⟨.mesh, 0x1104, 0, 1, .const 0⟩
def MESH.HID_WAIT : Field := ⟨.mesh, 0x1108, 0, 1, .const 0⟩
def MESH.HID_OFFREQ : Field := ⟨.mesh, 0x110C, 0, 1, .const 0⟩
/-- Device's own marks: the leave instant was sent; a remote access runs; the configuration changed since CONFLICT. -/
def MESHCTL.HID_SENT : Field := ⟨.meshctl, 0x1114, 0, 1, .const 0⟩
def MESHCTL.HID_RA : Field := ⟨.meshctl, 0x1118, 0, 1, .const 0⟩
def MESHCTL.HID_RECONF : Field := ⟨.meshctl, 0x111C, 0, 1, .const 0⟩

/-- Link states (Table 13.1). -/
abbrev lkOFF : Nat := 0
abbrev lkDETECT : Nat := 1
abbrev lkTRAIN : Nat := 2
abbrev lkAUTH : Nat := 3
abbrev lkUP : Nat := 4
abbrev lkDOWN : Nat := 5

/-- Member states (Table 13.2). -/
abbrev msALONE : Nat := 0
abbrev msELECT : Nat := 1
abbrev msMEMBER : Nat := 2
abbrev msLEAVING : Nat := 3
abbrev msCONFLICT : Nat := 4
abbrev msTAMPER : Nat := 5

/-- The eight links. -/
abbrev linkList : List Nat := List.range 8

/-- The state of a link. -/
def State.link (s : State) (n : Nat) : Nat := s.get MESH.LINK_STAT_STATE n
/-- The state of the member. -/
def State.member (s : State) : Nat := s.get MESHCTL.STAT_STATE
/-- The state of a link set. -/
def State.setLink (s : State) (n v : Nat) : State := s.set MESH.LINK_STAT_STATE v n
/-- Whether any link is UP. -/
def State.anyUp (s : State) : Bool := linkList.any (fun n => s.link n = lkUP)
/-- The member at the far end of a link, if it is MEMBER. -/
def State.linkPeer (s : State) (n : Nat) : Option Nat :=
  if s.link n = lkUP ∧ s.get MESH.LINK_STAT_PEER_VALID n = 1 then some (s.get MESH.LINK_STAT_PEER n) else none

/-- The link of a role to a member. -/
def State.roleLink (s : State) (role mem : Nat) : Option Nat :=
  linkList.find? (fun n => s.linkPeer n = some mem && s.get MESH.LINK_CFG_ROLE n = role)

/-- PEER[m] shows the GROUP and SECOND links to each member (R367). -/
def State.showPeers (s : State) : State :=
  (List.range 8).foldl (fun t m =>
    let g := t.roleLink 0 m
    let d := t.roleLink 1 m
    (((t.set MESHCTL.PEER_LINK (g.getD 0) 0 m).set MESHCTL.PEER_LINK_VALID (flag g.isSome) 0 m).set
      MESHCTL.PEER_SECOND (d.getD 0) 0 m).set MESHCTL.PEER_SECOND_VALID (flag d.isSome) 0 m) s

/-! ## Paths and channels -/

/-- P2 outputs that are left with one copy of their source show it (R372). -/
def State.noteDegraded (s old : State) : State :=
  s.video.active.foldl (fun t e =>
    match NTable.find old.video.active e.1 with
    | none => t
    | some p => if e.1 < 192 ∧ p.p2 ∧ 2 ≤ p.links.length ∧ e.2.links.length < 2 then t.set REPAIR.PROT_CFG_P2_DEGRADED 1 0 e.1 else t) s

/-- The paths lose the links a test names: their charges are released, their route entries kept (R372, R379). -/
def State.dropLinks (s : State) (lost : Path → Nat → Bool) : State :=
  (s.mapPaths (fun p => { p with links := p.links.filter (fun n => !lost p n) })).noteDegraded s |>.recount

/-- The first formation send channel of the group a link carries. -/
def State.fsBase (s : State) (n : Nat) : Nat := 228 + 32 * s.get MESH.LINK_CFG_GROUP n

/-- The audio channels of a source of this member that cross with it (R370). -/
def State.audioChannels (s : State) (slot mem : Nat) : Nat :=
  if s.remote mem then s.get MESHCTL.HID_PEERAUD 0 (mem * 512 + slot)
  else if isPG slot then 0
  else if s.laneSdi false slot then 4 * ((List.range 8).filter (fun k => bitOf (s.get VIN.AUD_CFG_GROUPS slot) k)).length
  else ((s.contexts.filter (fun c => (s.fcType c = fcRXA30 || s.fcType c = fcRXA31) && imgBind (s.imageOf c) / 32 = slot)).map
    (fun c => imgChannels (s.imageOf c))).foldl (· + ·) 0

/-- The sources sent on a link, once each, with their charges (R368, R370). -/
def State.sentSources (s : State) (n : Nat) : List (Nat × Nat) :=
  dedupe (((List.range 32).filter (fun k => s.get MESH.CHMAP_VALID n k = 1)).map (fun k =>
    let slot := s.get MESH.CHMAP_SRC n k
    let mem := s.get MESH.CHMAP_MEMBER n k
    let f := s.sourceFmt slot mem 0
    let lead := if f.slots = 4 ∧ slot < 192 then slot / 4 * 4 else slot
    (srcKey lead mem 0, f.linkCharge (s.audioChannels lead mem))))

/-- LOAD of a link: the charge sent, and the channels in use. -/
def State.showLoad (s : State) (n : Nat) : State :=
  (s.set MESH.LOAD_CHARGED (tenths (chargeSum (s.sentSources n))) n).set MESH.LOAD_CHANNELS
    ((List.range 32).filter (fun k => s.get MESH.CHMAP_VALID n k = 1)).length n

/-- One send channel of a link freed; its fabric destination with it, once no link carries the channel. -/
def State.freeChannel (s : State) (n k : Nat) : State :=
  let s := (((s.set MESH.CHMAP_VALID 0 n k).set MESH.CHMAP_SRC 0 n k).set MESH.CHMAP_MEMBER 0 n k).set MESH.CHMAP_PLANE_B 0 n k
  let d := s.fsBase n + k
  if linkList.any (fun j => s.fsBase j = s.fsBase n && s.get MESH.CHMAP_VALID j k = 1) then s
  else State.showW1 (State.set { s with video := { s.video with active := NTable.erase s.video.active d } } RTE.W0_VALID 0 d) d none 0xF

/-- Every send channel of a link freed (R379). -/
def State.freeChannels (s : State) (n : Nat) : State :=
  State.release (((List.range 32).foldl (fun t k => if t.get MESH.CHMAP_VALID n k = 1 then t.freeChannel n k else t) s).showLoad n)

/-- The send channels of a link move to another (R372): the copies already there become the only ones. -/
def State.moveChannels (s : State) (n j : Nat) : State :=
  let s := (List.range 32).foldl (fun t k =>
    if t.get MESH.CHMAP_VALID n k = 0 then t
    else
      let t := (((t.set MESH.CHMAP_VALID 1 j k).set MESH.CHMAP_SRC (t.get MESH.CHMAP_SRC n k) j k).set MESH.CHMAP_MEMBER
        (t.get MESH.CHMAP_MEMBER n k) j k).set MESH.CHMAP_PLANE_B 0 j k
      (((t.set MESH.CHMAP_VALID 0 n k).set MESH.CHMAP_SRC 0 n k).set MESH.CHMAP_MEMBER 0 n k).set MESH.CHMAP_PLANE_B 0 n k) s
  (s.showLoad n).showLoad j

/-! ## Time and numbers -/

/-- Whether a path of UP links to a member exists (R374). -/
def State.reachable (s : State) (mem : Nat) : Bool := linkList.any (fun n => s.linkPeer n = some mem) || (s.relays mem) ≠ []

/-- The formation-time candidates that a test names become ABSENT (R374). -/
def State.timeLost (s : State) (lost : Nat → Bool) : State :=
  let t := rcSlots.foldl (fun (u : State) k =>
    if u.rcKind k = 8 ∧ lost (u.get REFMGR.RC_CFG_SOURCE 0 k) ∧ u.rc k ≠ rcDISABLED ∧ u.rc k ≠ rcABSENT then u.rcAbsent k else u) s
  if t = s then s else t.select

/-- The formation-time candidates without a way to their member become ABSENT (R374). -/
def State.timeCheck (s : State) : State := s.timeLost (fun m => !s.reachable m)

/-- Two member numbers exchanged. -/
def swapNum (a b x : Nat) : Nat := if x = a then b else if x = b then a else x

/-- A source key with two member numbers exchanged; an engine's own output has no member's number. -/
def swapKey (a b key : Nat) : Nat :=
  let slot := key % 2048 / 4
  if 192 ≤ slot ∧ slot < 228 then key else swapNum a b (key / 2048) * 2048 + key % 2048

/-- This member's number changes: its own sources keep their place under the new one. (DEDUCED, assumption 26.) -/
def State.renumberMember (s : State) (c : Nat) : State :=
  let a := s.selfId
  if a = c then s
  else
    let s : State := s.mapPaths (fun p => { p with mem := swapNum a c p.mem })
    let s : State := { s with video := { s.video with
      streams := s.video.streams.map (fun e => (e.1, { e.2 with mem := swapNum a c e.2.mem }))
      allocs := s.video.allocs.map (fun e => (e.1, if e.2.kind = .sync then { e.2 with owner := swapKey a c e.2.owner } else e.2))
      planes := s.video.planes.foldl (fun t e => NTable.put t (swapKey a c e.1) e.2) [] } }
    let s := s.video.active.foldl (fun (t : State) e =>
      if t.get RTE.W0_VALID e.1 = 1 then t.set RTE.W0_MEMBER (swapNum a c (t.get RTE.W0_MEMBER e.1)) e.1 else t) s
    s.set MESHCTL.STAT_SELF_ID c

/-- A member without an UP link is ALONE (R365): it routes its own sources, and its own number is 0 again. -/
def State.aloneCheck (s : State) : State :=
  if s.member = msMEMBER ∧ !s.anyUp then
    let s := ((s.set MESHCTL.STAT_STATE msALONE).set MESHCTL.STAT_ID_VALID 0).set MESHCTL.STAT_MEMBERS
      (clrBit (s.get MESHCTL.STAT_MEMBERS) s.selfId)
    s.renumberMember 0
  else s

/-! ## The loss of a link -/

/-- The group of a DOWN link moves to the SECOND link (R372). -/
def State.groupMove (s : State) (n j : Nat) : State :=
  let s := (s.mapPaths (fun p => if p.links.contains n then { p with links := j :: p.links.filter (fun k => k ≠ n && k ≠ j) } else p)).noteDegraded s
  ((s.set MESH.HID_WAIT 0 n).moveChannels n j).recount

/-- A DOWN link's paths and channels without a link to move to: the crossings are requested again at each boundary. -/
def State.groupDrop (s : State) (n : Nat) : State :=
  ((s.set MESH.HID_WAIT 0 n).dropLinks (fun _ k => k = n)).freeChannels n

/-- What R372 does once a link is DOWN, in its order; the group waits for a rekey of its SECOND link (R384). -/
def State.linkActions (s : State) (n : Nat) : State :=
  let peer := s.get MESH.LINK_STAT_PEER n
  match (if s.get MESH.LINK_CFG_ROLE n = 0 then s.roleLink 1 peer else none) with
  | some j => if s.get MESH.HID_STALE j = 1 then s.set MESH.HID_WAIT 1 n else s.groupMove n j
  | none => s.groupDrop n

/-- The GROUP links to a peer that wait for a SECOND link. -/
def State.waiting (s : State) (peer : Nat) : List Nat :=
  linkList.filter (fun n => s.get MESH.HID_WAIT n = 1 && s.get MESH.LINK_STAT_PEER n = peer)

/-- SLOT_STAT of a key slot: its state (0 EMPTY, 1 LIVE, 2 STALE), parent, engines, life-cycle mask and AUTO. -/
def State.showSlot (s : State) (k st parent engines lc auto : Nat) : State :=
  ((((s.set KEYS.SLOT_STAT_STATE st 0 k).set KEYS.SLOT_STAT_PARENT parent 0 k).set KEYS.SLOT_STAT_ENGINES engines 0 k).set
    KEYS.SLOT_STAT_LCMASK lc 0 k).set KEYS.SLOT_STAT_AUTO auto 0 k

/-- The slot of a link's session key is LIVE (Table 18.3). Its parent, the formation secret, has no number of its own and shows
as the branch that wraps it. (DEDUCED, assumption 38.) -/
def State.sessionKey (s : State) (n : Nat) : State := s.showSlot n 1 0x40 1 6 1

/-- An UP link leaves UP (Table 13.1): the state it takes, UP_CHG, and what R372 does. -/
def State.loseLink (s : State) (n st : Nat) : State :=
  let peer := s.get MESH.LINK_STAT_PEER n
  let s := s.showSlot n 0 0 0 0 0
  let s := ((((s.setLink n st).set MESH.LINK_STAT_PEER_VALID 0 n).set MESH.HID_SEES 0 n).set MESH.HID_STALE 0 n).raise .mesh n MESH.EV_UP_CHG
  let s := (s.showPeers).linkActions n
  let s := (s.waiting peer).foldl (fun (t : State) k => if (t.roleLink 1 peer).isNone then t.groupDrop k else t) s
  s.timeCheck.aloneCheck

/-- A link goes DOWN, or with `st` another state: an UP link with what its loss brings. -/
def State.linkInto (s : State) (n st : Nat) : State := if s.link n = lkUP then s.loseLink n st else s.setLink n st

/-! ## Link events -/

/-- Far-end termination and signal on all 8 lanes: DETECT to TRAIN. -/
def execLinkDetect (n : Fin 8) (s : State) : Host.Outcome State Fault Refusal :=
  if s.link n = lkDETECT then done ((s.setLink n lkTRAIN).bump MESH.CNT_TRAININGS n) else done s

/-- TRAIN to AUTH, with the polarities, lane order and skew corrected (R363). -/
def execLinkTrained (n : Fin 8) (inv : BitVec 8) (rev : Bool) (skew : BitVec 7) (s : State) : Host.Outcome State Fault Refusal :=
  if s.link n = lkTRAIN then
    done ((((s.setLink n lkAUTH).set MESH.LINK_STAT_LANE_INV inv.toNat n).set MESH.LINK_STAT_REVERSED (flag rev) n).set
      MESH.LINK_STAT_SKEW skew.toNat n)
  else done s

/-- 50 ms in TRAIN without lock. -/
def execTrainTimeout (n : Fin 8) (s : State) : Host.Outcome State Fault Refusal :=
  if s.link n = lkTRAIN then done ((s.setLink n lkDETECT).raise .mesh n MESH.EV_TRAIN_FAIL) else done s

/-- The election begins on a link UP (R365): from ALONE, or from CONFLICT once the strap or the configuration changed and a link
retrained. -/
def State.enterElect (s : State) : State :=
  if s.get MESHCTL.CFG_FORM_EN = 1 ∧ (s.member = msALONE ∨ (s.member = msCONFLICT ∧ s.get MESHCTL.HID_RECONF = 1)) then
    ((s.set MESHCTL.STAT_STATE msELECT).set MESHCTL.HID_RECONF 0).bump MESHCTL.CNT_ELECTIONS
  else s

/-- A link comes UP. -/
def State.linkUp (s : State) (n peer : Nat) : State :=
  let s := ((s.setLink n lkUP).set MESH.PEER_ID_LO_ID (bitsOf peer 0 32) n).set MESH.PEER_ID_HI_ID (bitsOf peer 32 32) n
  (((s.sessionKey n).set MESH.HID_STALE 0 n).raise .mesh n MESH.EV_UP_CHG).enterElect

/-- Session keys are agreed, or authentication fails (Table 13.1). A device without a
formation secret, or with its key store sealed, stops at AUTH (R381, R492). -/
def execLinkAuth (n : Fin 8) (ok : Bool) (peer : BitVec 64) (s : State) : Host.Outcome State Fault Refusal :=
  if s.link n ≠ lkAUTH ∨ s.get MESHCTL.STAT_PAIRED = 0 ∨ s.get KEYS.LC_STAT_SEALED = 1 then done s
  else if ok then done (s.linkUp n peer.toNat)
  else done ((s.setLink n lkDOWN).raise .mesh n MESH.EV_AUTH_FAIL)

/-- Lane loss, 16 uncorrectable codewords in 1 ms, or no frame for 10 us (Table 13.1, R372). -/
def execLinkDown (n : Fin 8) (s : State) : Host.Outcome State Fault Refusal :=
  if s.link n = lkUP then done (s.loseLink n lkDOWN) else done s

/-- 2 ms without a new key after its parent was invalidated (R376). -/
def execKeyStaleTimeout (n : Fin 8) (s : State) : Host.Outcome State Fault Refusal :=
  if s.link n = lkUP ∧ s.get MESH.HID_STALE n = 1 then done ((s.raise .mesh n MESH.EV_KEY_DROP).loseLink n lkDOWN) else done s

/-- 100 ms in DOWN. -/
def execLinkRetry (n : Fin 8) (s : State) : Host.Outcome State Fault Refusal :=
  if s.link n = lkDOWN then done (s.setLink n lkDETECT) else done s

/-- New session keys (R375, R376); a group that waited for them moves to the link (R384). -/
def execLinkRekey (n : Fin 8) (s : State) : Host.Outcome State Fault Refusal :=
  if s.link n = lkUP then
    let t := (((s.sessionKey n).set MESH.HID_STALE 0 n).bump MESH.CNT_REKEYS n).raise .mesh n MESH.EV_REKEY
    done ((t.waiting (t.get MESH.LINK_STAT_PEER n)).foldl (fun u k => if k = n.val then u else u.groupMove k n) t)
  else done s

/-- An FEC codeword arrives (R362): corrected and counted, or dropped and counted with FEC_UNCORR; the lines it carried show
at the outputs as missing. -/
def execLinkCodewordReceived (n : Fin 8) (corrected uncorr crcBad : Bool) (s : State) : Host.Outcome State Fault Refusal :=
  if s.link n ≠ lkUP then done s
  else
    let t := if corrected then s.bump MESH.CNT_FEC_CORR n else s
    let t := if uncorr then t.bump MESH.CNT_FEC_UNCORR n else t
    let t := if crcBad then t.bump MESH.CNT_CRC_DROPS n else t
    done (t.raiseIf (uncorr || crcBad) .mesh n MESH.EV_FEC_UNCORR)

/-! ## Membership -/

/-- A member joins: it is present, its ID no longer vacant, and MEMBER_JOIN. -/
def State.memberJoin (s : State) (m : Nat) : State :=
  let s := (s.set MESHCTL.STAT_MEMBERS (setBit (s.get MESHCTL.STAT_MEMBERS) m)).set MESHCTL.HID_VACANT
    (clrBit (s.get MESHCTL.HID_VACANT) m)
  (s.bump MESHCTL.CNT_JOINS).raise .meshctl 0 MESHCTL.EV_MEMBER_JOIN

/-- The IDs in use as the links show them. -/
def State.idsInUse (s : State) : Nat :=
  linkList.foldl (fun v n =>
    if s.link n ≠ lkUP then v
    else (v ||| s.get MESH.HID_SEES n) ||| (match s.linkPeer n with | some m => 2 ^ m | none => 0)) 0

/-- The ID this device claims (R366, R382): the strapped one, or the lowest neither in use nor held vacant, or the lowest not in
use; 8 for none. -/
def State.claim (s : State) : Nat :=
  let used := s.idsInUse
  if s.get MESHCTL.CFG_USE_STRAP = 1 then s.get MESHCTL.STAT_STRAP
  else match (List.range 8).find? (fun m => !bitOf used m && !bitOf (s.get MESHCTL.HID_VACANT) m) with
    | some m => m
    | none => ((List.range 8).find? (fun m => !bitOf used m)).getD 8

/-- The ID is refused (R366). -/
def State.enterConflict (s : State) : State :=
  (s.set MESHCTL.STAT_STATE msCONFLICT).raise .meshctl 0 MESHCTL.EV_ID_CONFLICT

/-- Whether this device loses a contest for the ID it claims with the sender of a view (R366). -/
def State.losesTo (s : State) (n : Nat) (f : MemberView) : Bool :=
  let strap := s.get MESHCTL.CFG_USE_STRAP = 1
  !f.member && f.sender = s.claim &&
  (if strap == f.strapped then
     decide (s.get MESH.PEER_ID_LO_ID n + 2 ^ 32 * s.get MESH.PEER_ID_HI_ID n < Config.deviceId.toNat)
   else f.strapped)

/-- An ID is agreed: MEMBER (R366). -/
def State.becomeMember (s : State) (c : Nat) : State :=
  let s := ((s.renumberMember c).set MESHCTL.STAT_STATE msMEMBER).set MESHCTL.STAT_ID_VALID 1
  (s.set MESHCTL.STAT_MEMBERS (s.idsInUse % 256)).memberJoin c

/-- The election as a view arrives (R366): a strapped claim that a MEMBER holds or that loses is refused, an unstrapped one
claims again; at its end the ID is agreed. -/
def State.elect (s : State) (n : Nat) (f : MemberView) : State :=
  let c := s.claim
  let strap := s.get MESHCTL.CFG_USE_STRAP = 1
  if c = 8 ∨ (strap ∧ bitOf s.idsInUse c) then s.enterConflict
  else if s.losesTo n f then (if strap then s.enterConflict else s)
  else if f.ends then s.becomeMember c else s

/-- The sources a member offers, noted for admission (R183, R370). -/
def State.noteSources (s : State) (m : Nat) (l : List (Nat × Nat × Nat × Bool)) : State :=
  l.foldl (fun t e =>
    let k := m * 512 + e.1 % 512
    ((t.set MESHCTL.HID_PEERFMT e.2.1 0 k).set MESHCTL.HID_PEERAUD e.2.2.1 0 k).set MESHCTL.HID_PEERPRES (flag e.2.2.2) 0 k) s

/-- The members newly seen join. -/
def State.joinSeen (s : State) (seen : Nat) : State :=
  (List.range 8).foldl (fun (t : State) m =>
    if bitOf seen m && !bitOf (t.get MESHCTL.STAT_MEMBERS) m && m ≠ t.selfId then t.memberJoin m else t) s

/-- A member's view arrives on a link (R366). -/
def State.view (s : State) (n : Nat) (f : MemberView) : State :=
  let m := f.sender % 8
  let s := s.set MESH.HID_SEES f.sees n
  let s := if f.member then (((s.set MESH.LINK_STAT_PEER m n).set MESH.LINK_STAT_PEER_VALID 1 n).set MESHCTL.HID_LEAVING f.leaving).noteSources m f.sources
           else s.set MESH.LINK_STAT_PEER_VALID 0 n
  let s := s.showPeers
  if s.member = msELECT then s.elect n f
  else if s.member = msMEMBER ∨ s.member = msLEAVING then s.joinSeen s.idsInUse
  else s

/-- A member's view of the formation (R366); a device outside a formation takes no part. -/
def execMemberView (n : Fin 8) (f : MemberView) (s : State) : Host.Outcome State Fault Refusal :=
  if s.link n = lkUP ∧ s.get MESHCTL.CFG_FORM_EN = 1 then done (s.view n f) else done s

/-- What the loss of a member does (R379): its charges, channels and relays are released, its ID held vacant, and the
destinations of its sources behave as if those had stopped. -/
def State.memberLost (s : State) (m : Nat) : State :=
  let s := ((s.set MESHCTL.STAT_MEMBERS (clrBit (s.get MESHCTL.STAT_MEMBERS) m)).set MESHCTL.HID_LEAVING
    (clrBit (s.get MESHCTL.HID_LEAVING) m)).set MESHCTL.HID_VACANT
      (putBit (s.get MESHCTL.HID_VACANT) m (s.get MESHCTL.CFG_REJOIN_HOLD ≠ 0))
  let s := (s.bump MESHCTL.CNT_LOSSES).raise .meshctl 0 MESHCTL.EV_MEMBER_LOST
  let toIt (t : State) (n : Nat) : Bool := t.get MESH.LINK_STAT_PEER n = m
  let s := s.dropLinks (fun p n => p.mem = m || toIt s n)
  let s := (linkList.filter (toIt s)).foldl (fun t n => t.freeChannels n) s
  let s := linkList.foldl (fun t n => if toIt t n then t.set MESH.LINK_STAT_PEER_VALID 0 n else t) s
  let s := (List.range 8).foldl (fun t x =>
    if t.get MESHCTL.PEER_RELAY_VALID 0 x = 1 ∧ (t.get MESHCTL.PEER_RELAY 0 x = m ∨ x = m) then
      (t.set MESHCTL.PEER_RELAY_VALID 0 0 x).raise .meshctl 0 MESHCTL.EV_RELAY_CHG
    else t) s
  s.showPeers.timeLost (fun x => x = m)

/-- Whether a member is seen: directly, or by a member seen directly (R379). -/
def State.seen (s : State) (m : Nat) : Bool :=
  linkList.any (fun n => s.linkPeer n = some m || ((s.linkPeer n).isSome && bitOf (s.get MESH.HID_SEES n) m))

/-- A peer unseen for 100 us (R379). -/
def execMemberLost (mem : Fin 8) (s : State) : Host.Outcome State Fault Refusal :=
  if bitOf (s.get MESHCTL.STAT_MEMBERS) mem ∧ mem.val ≠ s.selfId ∧ !s.seen mem then done (s.memberLost mem) else done s

/-- REJOIN_HOLD minutes after a member was lost or left (R382). -/
def execRejoinHoldExpire (mem : Fin 8) (s : State) : Host.Outcome State Fault Refusal :=
  done (s.set MESHCTL.HID_VACANT (clrBit (s.get MESHCTL.HID_VACANT) mem))

/-- A time exchange on a link (R373, R374): the link's delay, and whether the member named can still serve as time source. -/
def execTimeMessage (n mem : Fin 8) (delay : BitVec 20) (usable : Bool) (s : State) : Host.Outcome State Fault Refusal :=
  if s.link n ≠ lkUP then done s
  else
    let t := s.set MESH.DELAY_NS delay.toNat n
    done (if usable then t else t.timeLost (fun m => m = mem.val))

/-! ## Pairing -/

/-- The code with which PAIR.GO ends at once, 0 where pairing starts (Table 13.3): outside a formation's reach 0x75. A device
that holds no formation secret has none to pass on. (DEDUCED, assumption 27.) -/
def State.pairCode (s : State) : Nat :=
  if s.member = msTAMPER ∨ s.member = msCONFLICT ∨ s.get MESHCTL.STAT_PAIRED = 0 then 0x75 else 0

/-- Pairing ends with a code and DONE. -/
def State.pairEnd (s : State) (code : Nat) : State :=
  (((s.set MESHCTL.PAIR_CODE code).set MESHCTL.PAIR_DONE 1).set MESHCTL.PAIR_BUSY 0).raise .meshctl 0 MESHCTL.EV_PAIR_DONE

/-- A write of PAIR with GO (R375): with BUSY set GO is ignored; the link named must be in DETECT or DOWN, or held in AUTH. -/
def execPairGo (m : Fin 7) (v : Word) (s : State) : Host.Outcome State Fault Refusal :=
  done (s.withWrite m .meshctl 0 0x080 v.toNat (fun t =>
    if !bitOf v.toNat 8 || t.get MESHCTL.PAIR_BUSY = 1 then t
    else if t.pairCode ≠ 0 then t.pairEnd t.pairCode
    else
      let st := t.link (t.get MESHCTL.PAIR_LINK)
      if st = lkDETECT ∨ st = lkDOWN then
        ((t.set MESHCTL.PAIR_BUSY 1).set MESHCTL.PAIR_DONE 0).set MESHCTL.PAIR_CODE 0
      else t.pairEnd 0x73))

/-- Pairing ends (R375, R384). On the device being paired its key store confirms only without a secret, in FIELD or SERVICE and
outside tamper-hold, and the secret passes to it. -/
def execPairDone (n : Fin 8) (code : Nat) (check : BitVec 24) (joining : Bool) (s : State) : Host.Outcome State Fault Refusal :=
  if joining then
    let lc := s.get KEYS.LC_STAT_STATE
    if s.link n ≠ lkOFF ∧ s.link n ≠ lkUP then
      let t := s.set MESHCTL.PAIR_CHECK_CODE check.toNat
      if code = 0 ∧ s.get MESHCTL.STAT_PAIRED = 0 ∧ (lc = 1 ∨ lc = 2) ∧ s.get KEYS.LC_STAT_TAMPER_HOLD = 0 then
        done ((t.set MESHCTL.STAT_PAIRED 1).raise .meshctl 0 MESHCTL.EV_PAIR_DONE)
      else done (t.raise .meshctl 0 MESHCTL.EV_PAIR_DONE)
    else done s
  else if s.get MESHCTL.PAIR_BUSY = 1 ∧ s.get MESHCTL.PAIR_LINK = n.val then
    done ((s.set MESHCTL.PAIR_CHECK_CODE check.toNat).pairEnd code)
  else done s

/-! ## Parts of formation requests -/

/-- The link that carries a copy to a member: the GROUP link, or for a plane B copy the SECOND link, else the relay's (R369,
R371). -/
def State.sendLink (s : State) (asker : Nat) (planeB : Bool) : Option Nat := s.linkTo asker planeB

/-- The slots of a source: four for a four-slot one. -/
def State.sentSlots (s : State) (slot mem : Nat) : List Nat :=
  let n := (s.sourceFmt slot mem 0).slots
  if n = 4 ∧ slot < 192 then [slot, slot + 1, slot + 2, slot + 3] else [slot]

/-- Whether a link already carries a source toward a member: it crosses once (R368). -/
def State.carried (s : State) (n slot mem : Nat) (planeB : Bool) : Bool :=
  (List.range 32).any (fun k => s.get MESH.CHMAP_VALID n k = 1 && s.get MESH.CHMAP_SRC n k = slot && s.get MESH.CHMAP_MEMBER n k = mem
    && s.get MESH.CHMAP_PLANE_B n k = flag planeB)

/-- One slot of a source put on a free channel of a link, with its formation send channel as a destination of the fabric. -/
def State.putChannel (s : State) (n slot mem : Nat) (planeB : Bool) : State :=
  match (List.range 32).find? (fun k => s.get MESH.CHMAP_VALID n k = 0) with
  | none => s
  | some k =>
    let s := (((s.set MESH.CHMAP_VALID 1 n k).set MESH.CHMAP_SRC slot n k).set MESH.CHMAP_MEMBER mem n k).set MESH.CHMAP_PLANE_B (flag planeB) n k
    let d := s.fsBase n + k
    let f := s.sourceFmt slot mem 0
    let p : Path := { src := slot, mem := mem, w0 := 2 ^ 31 + slot + 512 * mem + (if planeB then 2 ^ 17 else 0), kind := 3,
                      plane := if planeB then 2 else s.choosePlane (srcKey slot mem 0), store := none, store2 := none, stream := none,
                      stream2 := none, srcFmt := f, dstFmt := f, links := [], twin := planeB }
    let s := (((s.set RTE.W0_SRC slot d).set RTE.W0_MEMBER mem d).set RTE.W0_VALID 1 d).set RTE.W1_PLANE p.plane d
    { s with video := { s.video with active := NTable.put s.video.active d p } }

/-- A member's part that sends a source: the checks of R45 from the formation step on, and the state with the channels taken. -/
def State.sourcePart (s : State) (asker slot mem : Nat) (planeB : Bool) : Nat × State :=
  let c4 := s.formationCode asker
  let cm := s.formationCode mem
  let cu := if slot < 192 && !s.remote mem then s.portCode false slot else 0
  if !sourceNamed slot then (0x27, s)
  else if c4 ≠ 0 then (c4, s)
  else if cm ≠ 0 then (cm, s)
  else if cu ≠ 0 then (cu, s)
  else if slot < 192 && !s.remote mem && s.viGanged slot then (0x20, s)
  else match s.sendLink asker planeB with
    | none => (if planeB then 0x32 else 0x73, s)
    | some n =>
      if s.carried n slot mem planeB then (0, s)
      else
        let l := s.sentSlots slot mem
        let used := ((List.range 32).filter (fun k => s.get MESH.CHMAP_VALID n k = 1)).length
        if 32 < used + l.length then (0x17, s)
        else
          let t := l.foldl (fun u x => u.putChannel n x mem planeB) s
          if linkBw < chargeSum (t.sentSources n) then (0x17, s)
          else if fabricTests t.video.paths ≠ 0 then (fabricTests t.video.paths, s)
          else (0, (t.showLoad n).release)

/-- A source sent to a member no more. -/
def State.releasePart (s : State) (asker slot mem : Nat) (planeB : Bool) : State :=
  match s.sendLink asker planeB with
  | none => s
  | some n =>
    let l := s.sentSlots slot mem
    State.release (((List.range 32).foldl (fun (t : State) k =>
      if t.get MESH.CHMAP_VALID n k = 1 ∧ l.contains (t.get MESH.CHMAP_SRC n k) ∧ t.get MESH.CHMAP_MEMBER n k = mem
        ∧ t.get MESH.CHMAP_PLANE_B n k = flag planeB then t.freeChannel n k else t) s).showLoad n)

/-- The master of formation requests (Table 19.2). -/
abbrev masterFormation : Nat := 3

/-- A destination part: decided as a take of this member; of a timed salvo it waits for the commit instant (R377, R378). -/
def State.destPart (s : State) (asker dst w0 : Nat) (f : TakeFacts) (timed : Option (Nat × Nat)) : Nat × State :=
  if s.formationCode asker ≠ 0 then (s.formationCode asker, s)
  else
    let r := s.decideTake dst w0 localMember (s.takeFrame dst f.pastCut) f
    if r.1 ≠ 0 then (r.1, s)
    else match timed with
      | none => (0, (((r.2.markPending dst).bump ROUTE.CNT_TAKES).release))
      | some at_ =>
        let takes := ((NTable.find r.2.video.pend dst).map (fun p => (dst, { p with origin := asker }))).toList
        let z : TimedSalvo := { master := masterFormation, seconds := at_.1, ns := at_.2, takes := takes }
        let v := { r.2.video with pend := s.video.pend, timed := s.video.timed ++ [z] }
        (0, (State.release { r.2 with video := v }).set ROUTE.RESP_WAITING 1 masterFormation)

/-- A part of a formation request reaches this member, whose ledger decides it (R377): the control plane and the freeze first;
it takes effect where every part of the request was admitted, and is discarded otherwise (R46). -/
def execFormationPart (f : FormPart) (s : State) : Host.Outcome State Fault Refusal :=
  let c0 := s.gate .route 0
  let r : Nat × State := if c0 ≠ 0 then (c0, s) else match f.kind with
    | .source slot mem b => s.sourcePart f.asker slot mem b
    | .release slot mem b => (0, s.releasePart f.asker slot mem b)
    | .dest dst w0 g => s.destPart f.asker dst w0 g f.timed
  if r.1 ≠ 0 then done ((s.bump ROUTE.CNT_REFUSALS).noteRefusal r.1 0 masterFormation .route 0)
  else if f.all then done (r.2.noteDecision 0 0 masterFormation .route 0) else done s

/-! ## Leaving -/

/-- A write of LEAVE with GO (R380): a request of the member to leave. -/
def execLeaveGo (m : Fin 7) (v : Word) (s : State) : Host.Outcome State Fault Refusal :=
  done (s.withWrite m .meshctl 0 0x088 v.toNat (fun t =>
    if !bitOf v.toNat 0 then t
    else
      let c0 := t.gate .meshctl 0
      let c := if c0 ≠ 0 then c0 else if t.member = msMEMBER then 0 else 0x75
      if c ≠ 0 then t.noteRefusal c 0 m .meshctl 0
      else ((t.set MESHCTL.STAT_STATE msLEAVING).set MESHCTL.LEAVE_DONE 0).noteDecision 0 0 m .meshctl 0))

/-- A write of LEAVE with FORCE: the leave instant is sent at once (R380). -/
def execLeaveForce (m : Fin 7) (v : Word) (s : State) : Host.Outcome State Fault Refusal :=
  done (s.withWrite m .meshctl 0 0x088 v.toNat (fun t =>
    if bitOf v.toNat 1 ∧ (t.member = msMEMBER ∨ t.member = msLEAVING) then
      ((t.set MESHCTL.STAT_STATE msLEAVING).set MESHCTL.LEAVE_DONE 0).set MESHCTL.HID_SENT 1
    else t))

/-- Whether a channel to or from this member is in use. -/
def State.channelsInUse (s : State) : Bool :=
  linkList.any (fun n => s.get MESH.LOAD_CHANNELS n ≠ 0) || s.video.paths.any (fun p => p.links ≠ [])

/-- The leave instant is sent 10 ms ahead once the member is drained, or at DRAIN_TIMEOUT (R380). -/
def execLeaveInstantSend (timedOut : Bool) (s : State) : Host.Outcome State Fault Refusal :=
  if s.member = msLEAVING ∧ s.get MESHCTL.HID_SENT = 0 ∧ (timedOut ∨ !s.channelsInUse) then done (s.set MESHCTL.HID_SENT 1) else done s

/-- This member has left (R380): its links turn OFF, and it is ALONE. -/
def State.left (s : State) : State :=
  let s := linkList.foldl (fun (t : State) n => t.linkInto n lkOFF) s
  let s := s.dropLinks (fun _ _ => true)
  let s := linkList.foldl (fun (t : State) n => t.freeChannels n) s
  let s := (((s.set MESHCTL.STAT_STATE msALONE).set MESHCTL.STAT_ID_VALID 0).set MESHCTL.STAT_MEMBERS 0).set MESHCTL.HID_SENT 0
  ((s.renumberMember 0).set MESHCTL.LEAVE_DONE 1).raise .meshctl 0 MESHCTL.EV_LEAVE_DONE

/-- The leave instant (R380): of this member after the commit instants of the formation salvos already admitted (R384), or of a
peer, which counts as lost with no detection delay. -/
def execLeaveInstant (mem : Fin 8) (s : State) : Host.Outcome State Fault Refusal :=
  if mem.val = s.selfId then
    (if s.member = msLEAVING ∧ s.get MESHCTL.HID_SENT = 1 ∧ s.video.timed = [] then done s.left else done s)
  else if bitOf (s.get MESHCTL.STAT_MEMBERS) mem then done (s.memberLost mem)
  else done s

/-! ## Remote access -/

/-- A remote access ends with a code and DONE. -/
def State.raEnd (s : State) (code : Nat) : State :=
  ((s.set MESHCTL.RA_CTL_CODE code).set MESHCTL.RA_CTL_DONE 1).set MESHCTL.HID_RA 0

/-- The code with which a remote access ends at once (R383): the member is absent, or no way to it is UP. -/
def State.raCode (s : State) (mem : Nat) : Nat :=
  if !bitOf (s.get MESHCTL.STAT_MEMBERS) mem then 0x70 else if (s.linkTo mem false).isNone then 0x73 else 0

/-- A write of RA_CTL with GO (R383). -/
def execRaGo (m : Fin 7) (v : Word) (s : State) : Host.Outcome State Fault Refusal :=
  done (s.withWrite m .meshctl 0 0x098 v.toNat (fun t =>
    if !bitOf v.toNat 8 then t
    else
      let c := t.raCode (t.get MESHCTL.RA_CTL_MEMBER)
      if c ≠ 0 then t.raEnd c else ((t.set MESHCTL.HID_RA 1).set MESHCTL.RA_CTL_DONE 0).set MESHCTL.RA_CTL_CODE 0))

/-- The remote access completes (R383): a read's word arrives, or a code. -/
def execRaComplete (code : Nat) (v : Word) (s : State) : Host.Outcome State Fault Refusal :=
  if s.get MESHCTL.HID_RA = 0 then done s
  else
    let t := if code = 0 ∧ s.get MESHCTL.RA_CTL_WRITE = 0 then s.set MESHCTL.RA_DATA_DATA v.toNat else s
    done (t.raEnd code)

/-! ## Configuration -/

/-- Whether a commit of a MESH page may apply (R367): no two GROUP links on one group, no SECOND link to a peer without a GROUP
link, no two SECOND links to a peer. Peers are those known by their identity. -/
def meshCommitOk (t : State) : Bool :=
  let role (r : Nat) : List Nat := linkList.filter (fun n => t.get MESH.LINK_CFG_EN n = 1 && t.get MESH.LINK_CFG_ROLE n = r)
  let known (n : Nat) : Bool := t.get MESH.PEER_ID_LO_ID n ≠ 0 || t.get MESH.PEER_ID_HI_ID n ≠ 0
  let same (a b : Nat) : Bool := t.get MESH.PEER_ID_LO_ID a = t.get MESH.PEER_ID_LO_ID b && t.get MESH.PEER_ID_HI_ID a = t.get MESH.PEER_ID_HI_ID b
  let groups := (role 0).map (fun n => t.get MESH.LINK_CFG_GROUP n)
  linkList.all (fun g => (groups.filter (fun x => x = g)).length ≤ 1) &&
  (role 1).all (fun n => !known n || ((role 0).any (same n) && ((role 1).filter (same n)).length ≤ 1))

/-- What a commit of a MESH page starts (Table 13.1): EN set leads from OFF to DETECT where the domain is up and the device is
neither in tamper-hold nor RETIRED; EN clear to OFF, after the drain of an UP link. -/
def State.meshCommitted (s : State) (n : Nat) : State :=
  let s := s.showPeers
  if s.get MESH.LINK_CFG_EN n = 1 then
    let s := s.set MESH.HID_OFFREQ 0 n
    if s.link n = lkOFF ∧ s.domUp (Page.mesh.domain n) ∧ s.member ≠ msTAMPER ∧ s.get KEYS.LC_STAT_STATE ≠ 3 ∧
      s.unit ⟨.mesh, n, 0⟩ = uRUN then s.setLink n lkDETECT else s
  else if s.link n = lkUP then s.set MESH.HID_OFFREQ 1 n
  else s.setLink n lkOFF

/-- The drain of a link whose EN was cleared ends, complete or timed out: OFF. -/
def State.meshDrained (s : State) (n : Nat) : State :=
  if s.get MESH.HID_OFFREQ n = 1 then (s.set MESH.HID_OFFREQ 0 n).linkInto n lkOFF else s

/-- What a commit of the MESHCTL page starts: a changed configuration lets a device in CONFLICT elect again; FORM_EN set with a
link UP begins an election. -/
def State.meshctlCommitted (s : State) : State :=
  let s := if s.member = msCONFLICT then s.set MESHCTL.HID_RECONF 1 else s
  if s.member = msALONE ∧ s.anyUp then s.enterElect else s

end Sys2Proof.Machine
end

