-- ==== Sys2Proof/Machine/Repair.lean ====
section
/-! DEFINITION. Repair units of every kind: the loss and the return of a fabric plane (R400, R401), what it brings when a unit
leaves service and when it comes back, drains (R30 to R34), unit resets and self-tests (R391, R392, R420), and the requests
that restore protection (R404). -/
namespace Sys2Proof.Machine

/-- Device's own mark of a unit in its start-up self-test after a release (R429). -/
def HDR.START (p : Page) : Field := ⟨p, 0x1000, 5, 1, .const 0⟩
/-- Device's own mark that the 60 s below T3 have not passed (R453). -/
def THERMAL.HID_T3WAIT : Field := ⟨.thermal, 0x1100, 0, 1, .const 0⟩

/-! ## Twins and planes -/

/-- A path without its half on a plane (0 the plane A half): the other half carries it alone. -/
def Path.dropHalf (pl : Nat) (p : Path) : Path :=
  if !p.twin || p.plane ≠ 2 then p
  else { p with store := (if pl = 0 then p.store2 else p.store), store2 := none,
                stream := (if pl = 0 then p.stream2 else p.stream), stream2 := none, twin := false, plane := 1 - pl }

/-- The twin halves on a plane are lost (R400): every output that had one runs on the other half. -/
def State.dropTwins (s : State) (pl : Nat) : State :=
  let lost := s.video.active.filter (fun e => e.2.twin && e.2.plane = 2)
  let s := s.mapPaths (Path.dropHalf pl)
  lost.foldl (fun (t : State) e => (((t.set REPAIR.PROT_CFG_TWIN_UP 0 0 e.1).set VOUT.HID_TWIN 0 e.1).set VOUT.HID_SHED 0 e.1).set
    RTE.W1_PLANE (1 - pl) e.1) s

/-- The migration step of a plane's P0 sources (R413): one entry, for the first output whose path they carried, which loses one
frame (R399). -/
def State.logCarry (s : State) (pl : Nat) : State :=
  match s.video.active.find? (fun e => e.1 < 192 && !e.2.protected && e.2.plane = pl) with
  | some e => s.logStep ⟨.fabric, pl, 0⟩ stMIGRATE 0 0 0 e.1 1
  | none => if s.carriedOn pl = [] then s else s.logStep ⟨.fabric, pl, 0⟩ stMIGRATE

/-- The loss of a fabric plane (R400): PLANE_LOST, the survivor takes every P0 source of it, and the twin halves on it are lost. -/
def State.planeOut (s : State) (pl : Nat) : State :=
  if s.get (planeOutField pl) = 1 then s
  else
    let s := (s.set (planeOutField pl) 1).raise .repair 0 REPAIR.EV_PLANE_LOST
    let s := ((s.selAway ⟨.fabric, pl, 0⟩ (fun _ half => half = pl)).dropTwins pl).set FABRIC.HID_MOVE 0
    let s := if s.planeUp (1 - pl) then
        ((s.logCarry pl).carryOn ((s.carriedOn pl).map (·.1)) (1 - pl)).raise .fabric (1 - pl) FABRIC.EV_CARRY_ALL
      else s
    s.release

/-- Whether a path's twin half is lost or shed and not under rebuilding. -/
def State.lacksTwin (s : State) (o : Nat) (p : Path) : Bool :=
  p.protected && !p.twin && p.kind < 3 && s.get VOUT.HID_TWIN o = 0

/-- The profile of a path: that of its stream, else its destination's. -/
def State.pathProfile (s : State) (o : Nat) (p : Path) : Nat :=
  match p.stream.bind (NTable.find s.video.streams) with
  | some x => x.profile
  | none => s.get CE.PROF_MAP_PROFILE 0 o

/-- A rebuilt path whose remaining half stood on plane B keeps it there. -/
def Path.swapHalves (p : Path) : Path := { p with store := p.store2, store2 := p.store, stream := p.stream2, stream2 := p.stream }

/-- The request for the lost twin half of an output (R39, R401, R404): refused with its code, or the half built beside the one that
runs, to be proved under R398. -/
def State.requestTwin (s : State) (o : Nat) (p : Path) : State :=
  let b := s.buildHalves { dst := o, w0 := p.w0, facts := { lead := 9, traces := false }, isFallback := false } p.srcFmt p.dstFmt p.kind
    (s.pathProfile o p)
  let full : Path := { b.2.1 with w0 := p.w0, links := p.links, plane := 2, twin := true }
  let q := if p.plane = 1 then full.swapHalves else full
  let t := b.2.2.setActive o q
  let c := s.pathTests t q false b.1
  let code := if s.controlCode ≠ 0 then s.controlCode else if c = 0x32 then 0 else if c = 0 then b.1 else c
  if code ≠ 0 then s.noteDecision code 0 masterDevice .route 0
  else
    let t := ((t.set VOUT.HID_TWIN 1 o).set RTE.W1_PLANE 2 o).showQuads o q
    (t.noteDecision 0 0 masterDevice .route 0).release

/-- The request for a shed second copy of a P2 output whose twin stands (R404), with the peers' answer. -/
def State.requestCopy (s : State) (o : Nat) (p : Path) (reply : Nat) : State :=
  let links := (s.linkTo p.mem true).toList.filter (fun n => !p.links.contains n)
  let code := if s.controlCode ≠ 0 then s.controlCode else if s.formationCode p.mem ≠ 0 then s.formationCode p.mem
    else if links = [] ∨ links.any (fun n => !s.linkTakes n p) then 0x17 else reply
  let s := s.noteDecision code 0 masterDevice .route 0
  if code ≠ 0 then s
  else
    let s := (s.setActive o { p with links := p.links ++ links }).showRelay p.mem links
    let s := ((s.set REPAIR.PROT_CFG_P2_DEGRADED 0 0 o).set REPAIR.PROT_CFG_SHED 0 0 o).set REPAIR.STAT_SHED_COUNT
      (s.get REPAIR.STAT_SHED_COUNT - 1)
    ((s.raise .repair 0 REPAIR.EV_RESTORED).logStep ⟨.vout, o, 0⟩ stRESTORE 0 0 0 o).recount

/-- Whether an output waits for the restoring of its protection. -/
def State.restorable (s : State) (o : Nat) (p : Path) : Bool :=
  o < 192 && (s.lacksTwin o p || (p.twin && p.p2 && s.remote p.mem && p.links.length = 1 && s.get REPAIR.PROT_CFG_SHED 0 o = 1))

/-- The outputs to restore, highest PRIO first and the lowest slot among equals. -/
def State.restoreOrder (s : State) : List Nat :=
  let l := (s.video.active.filter (fun e => s.restorable e.1 e.2)).map (·.1)
  [3, 2, 1, 0].flatMap (fun pr => l.filter (fun o => s.get REPAIR.PROT_CFG_PRIO 0 o = pr))

/-- How many twin halves are being proved. -/
def State.provingTwins (s : State) : Nat := (s.regs.filter (fun e => e.1.field = VOUT.HID_TWIN)).length

/-- One restoring request. -/
def State.restoreOne (s : State) (f : List (Nat × Nat)) (o : Nat) : State :=
  match NTable.find s.video.active o with
  | none => s
  | some p =>
    if s.lacksTwin o p then (if s.provingTwins < 16 then s.requestTwin o p else s)
    else s.requestCopy o p (NTable.getD f o 0)

/-- Requests every item to restore in its order, up to 16 proofs at a time (R401, R404). -/
def State.restoreAll (s : State) (f : List (Nat × Nat)) : State := s.restoreOrder.foldl (fun t o => t.restoreOne f o) s

/-- Whether restoring requests are made: a supervisor runs, no shedding stage, and 60 s have passed below T3 (R404, R453). -/
def State.mayRestore (s : State) : Bool := s.policy && s.get THERMAL.STAT_STAGE < 3 && s.get THERMAL.HID_T3WAIT = 0

/-- A plane back in RUN (R401): its mark is cleared, lost twins are requested, and P0 sources move back one at a time. Where the other
plane is out, it carries the P0 sources that none carried. -/
def State.planeBack (s : State) (pl : Nat) : State :=
  let s := s.set (planeOutField pl) 0
  let s := if s.planeUp (1 - pl) then s else s.carryOn ((s.carriedOn (1 - pl)).map (·.1)) pl
  (if s.mayRestore then s.restoreAll [] else s).planeMoves

/-- Once per second a running supervisor requests each shed item again (R404). -/
def execRestoreRequest (f : List (Nat × Nat)) (s : State) : Host.Outcome State Fault Refusal :=
  done (if s.mayRestore then (s.restoreAll f).planeMoves else s)

/-! ## Units out of service -/

/-- The Ethernet ports of a quad lose their links. -/
def State.ethDown (s : State) (q : Nat) : State :=
  [0, 1, 2, 3].foldl (fun (t : State) n =>
    if t.get ETH.PORT_STAT_LINK_UP q n = 1 then (t.set ETH.PORT_STAT_LINK_UP 0 q n).raise .eth q (ETH.EV_LINK_CHG + n) else t) s

/-- A VO whose generator runs leaves service and waits for it to return (R267). -/
def State.voWait (s : State) (o : Nat) : State :=
  if s.tgRuns o then (s.stopGenerator o tgWAIT).set VOUT.HID_INSERVICE 1 o else s

/-- The VIs and VOs of a quad without its port engine: no signal is found, and the pads idle. -/
def State.portEngineLost (s : State) (q : Nat) : State :=
  [0, 1, 2, 3].foldl (fun t n =>
    let i := 4 * q + n
    let t := if t.laneSdi false i ∧ (t.get VIN.STAT_STATE i = viDETECT ∨ t.get VIN.STAT_STATE i = viPRESENT) then t.viEnter i viSEARCH else t
    if t.laneSdi true i then t.voWait i else t) (s.ethDown q)

/-- Every candidate of the reference manager is lost with it. -/
def State.refmgrLost (s : State) : State :=
  (rcSlots.filter (fun k => s.rc k ≠ rcDISABLED && s.rc k ≠ rcABSENT && s.rcKind k ≠ 9)).foldl (fun t k => t.rcAbsent k) s

/-- A synthesiser or a half out of service (R353 to R357). -/
def State.synthLost (s : State) (k b : Nat) : State :=
  if k < 12 then ((s.setSyn k 0 syFAILED).raise .synth k SYNTH.EV_FAILED).moveConsumers k
  else
    let s := s.setSyn k b syFAILED
    if s.get SYNTH.SYN_STAT_SEL k ≠ b then s
    else if s.synState k (1 - b) = syLOCKED then s.swapHalf k
    else s.pairLost k

/-- What it brings that a unit has left service. -/
def State.unitLost (s : State) (u : UnitId) : State :=
  match u.page with
  | .quad => if u.sub = 10 then s.portEngineLost u.inst else s
  | .vin => s.viEnter u.inst viOFF
  | .vout => s.voWait u.inst
  | .eth => s.ethDown u.inst
  | .ce => ((s.selAway u (Path.halfEngine u.inst)).fallBack u.inst).release
  | .memch => (((s.selAway u (s.halfOnChannel u.inst)).loseStills u.inst).replanInto u.inst).runPlan u.inst (s.runChannels (u.inst / 8)).length
  | .fabric => s.planeOut u.inst
  | .audio => s.settleHalves
  | .aport => if u.sub = 0 then s.portDown u.inst else s
  | .mesh => s.linkInto u.inst lkDOWN
  | .refmgr => s.refmgrLost
  | .synth => s.synthLost u.inst u.sub
  | _ => s

/-- The event of a unit's group for a stall under R20. Groups without an event of that kind show it in the step log.
(DEDUCED, assumption 33.) -/
def State.stallEvent (s : State) (u : UnitId) : State :=
  match u.page with
  | .fabric => (s.bump FABRIC.CNT_STALLS u.inst).raise .fabric u.inst FABRIC.EV_STALL
  | .flow => if u.sub = 0 then s else s.raise .flow 0 FLOW.EV_BANK_STALL
  | .memch => (s.set MEMCH.CH_STAT_HEALTH chDEAD u.inst).raise .memch u.inst MEMCH.EV_DEAD
  | _ => s

/-- A unit at fault (R20, R26, R391): a lane slice by substitution, any other isolated with what its loss brings, and retired at
its limit. -/
def State.faultUnit (s : State) (u : UnitId) (det cause : Nat) : State :=
  if u ∉ u.page.units u.inst ∨ s.unit u = uRETIRED ∨ s.unit u = uISOLATED ∨ s.unit u = uOFF then s
  else if u.page = .quad ∧ u.sub < 10 then
    let tx : Bool := 5 ≤ u.sub
    match s.laneOf tx u.inst (u.sub % 5) with
    | some n => s.hardFault tx u.inst n det
    | none => ((s.stopSelftest tx u.inst (u.sub % 5)).isolateUnit u det cause).retireIfLimit u
  else if u.page = .ce then s.engineFault u.inst cause
  else (((s.isolateUnit u det cause).unitLost u).noteReserve).retireIfLimit u

/-! ## Units back in service -/

/-- Whether a slice serves no lane by the pad map, and its direction has no other spare. -/
def State.sliceSpare (s : State) (tx : Bool) (q sl : Nat) : Bool :=
  ([0, 1, 2, 3].filter (fun n => s.sliceOf tx q n = sl)) = []

/-- A slice in service: the spare of its direction, idle under a lane without a mode, else at work for its lane. -/
def State.startSlice (s : State) (u : UnitId) : State :=
  let tx : Bool := 5 ≤ u.sub
  let q := u.inst
  let sl := u.sub % 5
  let empty := [0, 1, 2, 3].filter (fun n => s.sliceOf tx q n = 7)
  if !s.sliceSpare tx q sl then
    (if [0, 1, 2, 3].any (fun n => s.sliceOf tx q n = sl && s.get (laneMode tx) q n = 0 && s.get QUAD.QUAD_CFG_Q100 q = 0)
     then s.setUnit u uOFF else s.setUnit u uRUN)
  else match empty with
    | [] => s.setUnit u uSPARE
    | n :: _ => ((s.set (padMap tx) (mapWith (s.get (padMap tx) q) n sl) q).set (slLane tx) n q sl).setUnit u uRUN

/-- Whether an engine is its cluster's spare at a start: the highest that is not retired (R218). -/
def State.clusterSpare (s : State) (ce : Nat) : Bool :=
  !(List.range 36).any (fun e => clusterOf e = clusterOf ce && ((ce < e && s.unit (ceUnit e) ≠ uRETIRED) || s.unit (ceUnit e) = uSPARE))

/-- What it brings that a unit is in service. -/
def State.unitFound (s : State) (u : UnitId) : State :=
  match u.page with
  | .quad => if u.sub = 10 then ((s.quadCommitted u.inst).viSettleQuad u.inst).ethCommitted u.inst else s
  | .vin => if u.inst < 96 then (s.viSettleQuad (u.inst / 4)).viIpSettle u.inst else s.viIpSettle u.inst
  | .vout => if s.get VOUT.CFG_EN u.inst = 1 ∧ !s.tgRuns u.inst then (s.set VOUT.TIM_STAT_STATE tgWAIT u.inst).set VOUT.STAT_STATE 1 u.inst else s
  | .eth => s.ethCommitted u.inst
  | .ce => (s.resumeStreams false).recount
  | .memch => s.noteReserve.recount
  | .fabric => s.planeBack u.inst
  | .audio => s.settleHalves
  | .aport => s.portCommitted u.inst
  | .mesh => s.meshCommitted u.inst
  | .synth => if s.synState u.inst u.sub = syOFF then s.startBand u.inst u.sub else s
  | _ => s

/-- A unit enters RUN, or SPARE where it is the spare of its kind. -/
def State.startUnit (s : State) (u : UnitId) : State :=
  if u.page = .quad ∧ u.sub < 10 then s.startSlice u
  else if u.page = .ce ∧ s.clusterSpare u.inst then ((s.setUnit u uSPARE).resumeStreams false).recount
  else (s.setUnit u uRUN).unitFound u

/-- A page is enabled: its units out of service come back to RUN or SPARE. (DEDUCED, assumption 34.) -/
def State.enablePage (s : State) (p : Page) (i : Nat) : State :=
  (p.ctrlUnits i).foldl (fun t u => if t.unit u = uOFF ∨ t.unit u = uISOLATED then t.startUnit u else t) (s.set (HDR.HELD_ENABLE p) 0 i)

/-! ## Drains -/

/-- A write of PAGE_CTRL.ISOLATE_REQ (R30). -/
def execIsolateReq (m : Fin 7) (p : Page) (i : Nat) (s : State) : Host.Outcome State Fault Refusal :=
  done (s.withCtrl m p i (fun t => t.drainPage 2 p i))

/-- A write that clears PAGE_CTRL.ENABLE (R30). -/
def execPageEnableClear (m : Fin 7) (p : Page) (i : Nat) (s : State) : Host.Outcome State Fault Refusal :=
  done (s.withCtrl m p i (fun t => ((t.set (HDR.ENABLE p) 0 i).set (HDR.HELD_ENABLE p) 0 i).drainPage 1 p i))

/-- A write that sets PAGE_CTRL.ENABLE: held while the block drains (R33). -/
def execPageEnableSet (m : Fin 7) (p : Page) (i : Nat) (s : State) : Host.Outcome State Fault Refusal :=
  done (s.withCtrl m p i (fun t =>
    let t := t.set (HDR.ENABLE p) 1 i
    if t.draining p i then t.set (HDR.HELD_ENABLE p) 1 i else t.enablePage p i))

/-- A drain ends: OFF, or ISOLATED, where `forced` always ISOLATED; a held enable then acts (R30, R31, R33). -/
def State.drainEnd (s : State) (u : UnitId) (forced : Bool) : State :=
  let k := s.get (HDR.DRAIN u.page) u.inst u.sub
  if k = 0 then (if u.page = .mesh then s.meshDrained u.inst else s)
  else
    let s := s.set (HDR.DRAIN u.page) 0 u.inst u.sub
    let s := if k = 1 ∧ !forced then s.setUnit u uOFF else s.isolateUnit u (if forced then 8 else 0) (flag forced)
    let s := if u.page = .ce ∧ forced then (((s.selAway u (Path.halfEngine u.inst)).loseEngine u.inst).noteNoSpare u.inst).release else s.unitLost u
    let s := if u.page = .mesh ∧ s.unit u = uOFF then s.linkInto u.inst lkOFF else s
    let s := if u.page = .vout ∧ s.unit u = uOFF then s.stopGenerator u.inst tgOFF else s
    let s := s.retireIfLimit u
    if s.get (HDR.HELD_ENABLE u.page) u.inst = 1 ∧ !s.draining u.page u.inst then s.enablePage u.page u.inst else s

/-! ## Resets and self-tests of units -/

/-- Whether a unit is one of the repair units of Table 1.5. -/
def UnitId.repairs (u : UnitId) : Bool :=
  u ∈ u.page.units u.inst && (match u.page with
    | .quad | .ce | .memch | .fabric | .flow | .audio | .aport | .mesh | .synth | .refmgr => true
    | _ => false)

/-- The saturating counter of resets by CAUSE (R437). -/
def State.countReset (s : State) (cause : Nat) : State := s.bump RESET.RST_COUNT_COUNT 0 (cause - 1)

/-- A reset of one repair unit through its wrapper (R420): into its self-test, with what its loss brings. -/
def State.resetUnit (s : State) (u : UnitId) : State :=
  let s := (s.countReset 11).logStep u stRESET_UNIT
  let was := s.unit u
  let s := (s.set (HDR.DRAIN u.page) 0 u.inst u.sub).setUnit u uTEST
  if was = uRUN ∨ was = uSPARE then s.unitLost u else s

/-- Whether a unit's reset takes place: a unit in service or isolated, of a domain out of reset (Table 15.6). -/
def State.mayReset (s : State) (u : UnitId) : Bool :=
  u.repairs && s.domUp (u.page.domain u.inst) && s.unit u ≠ uRETIRED && s.unit u ≠ uOFF && s.unit u ≠ uTEST

/-- A master's write of PAGE_CTRL.RESET_REQ, or a repair step on an isolated unit (R391, R420). -/
def execUnitReset (req : Option (Fin 7)) (u : UnitId) (s : State) : Host.Outcome State Fault Refusal :=
  match req with
  | some m => done (s.withCtrl m u.page u.inst (fun t => if t.mayReset u then t.resetUnit u else t))
  | none => done (if s.mayReset u ∧ s.unit u = uISOLATED then s.resetUnit u else s)

/-- Whether a unit is of a kind with spares: lane slices and engines. -/
def UnitId.spared (u : UnitId) : Bool := (u.page = .quad && u.sub < 10) || u.page = .ce

/-- A unit has failed its self-test: retired by the active supervisor, or by its start-up (R391, R392, R429). -/
def State.testFailed (s : State) (u : UnitId) (start : Bool) : State :=
  let s := (s.raiseIf (u.page = .aport) .aport u.inst APORT.EV_SELFTEST_FAIL).logStep u stSELFTEST 1
  if !(start || s.policy) then s.setUnit u uISOLATED
  else match u.page with
    | .ce => ((((s.raise .ce u.inst CE.EV_SELFTEST_FAIL).retire u 9).noteNoSpare u.inst).retrySoft).recount
    | .synth => (((s.retire u).setSyn u.inst u.sub syRETIRED).raise .synth u.inst SYNTH.EV_FAILED).clocksFollow u.inst
    | .memch => (s.retire u).noteReserve
    | .audio => ((s.set AUDIO.HID_KAT 0).retire u).settleHalves
    | _ => s.retire u

/-- A unit has passed its self-test in service (R391): back by the active supervisor; without one SPARE where its kind has
spares, else ISOLATED (Table 14.9). -/
def State.testPassed (s : State) (u : UnitId) : State :=
  if u.page = .ce then s.engineTested u.inst true
  else if u.page = .memch ∧ s.policy then s.channelTested u.inst 0
  else if u.page = .synth ∧ s.policy then (if s.synState u.inst u.sub = syRETIRED then s else (s.synthTested u.inst u.sub true).startBand u.inst u.sub)
  else if u.page = .audio ∧ s.policy then s.halfTested u.sub true
  else
    let s := s.logStep u stSELFTEST
    if s.policy ∨ u.spared then (s.logStep u stRETURN).startUnit u else s.setUnit u uISOLATED

/-- A unit's self-test ends (R391, R429): at a start in RUN, SPARE or retired; in service back or retired. -/
def execUnitSelftestEnd (u : UnitId) (pass : Bool) (s : State) : Host.Outcome State Fault Refusal :=
  if s.unit u ≠ uTEST ∨ !u.repairs then done s
  else
    let start : Bool := s.get (HDR.START u.page) u.inst u.sub = 1
    let t := s.set (HDR.START u.page) 0 u.inst u.sub
    if !pass then done (t.testFailed u start)
    else if start then done (t.startUnit u)
    else done (t.testPassed u)

end Sys2Proof.Machine
end

