-- ==== Sys2Proof/Machine/Supervisor.lean ====
section
/-! DEFINITION. The supervisors and Charon: heartbeats, the journal, failover and switchover (R406 to R409), flywheel and its
restart attempts (R410, R411), the stall of an island (R20), and the availability counters' clearing (R418). -/
namespace Sys2Proof.Machine

/-- Device's own marks: the supervisor that takes over (1 Phobos, 2 Deimos), that the take-over is a switchover, that three
attempts failed, and the supervisor that rebuilds the ledger (1 Phobos, 2 Deimos). -/
def SUPERVISOR.HID_TAKE : Field := ⟨.supervisor, 0x1104, 0, 2, .const 0⟩
def SUPERVISOR.HID_SWITCH : Field := ⟨.supervisor, 0x1108, 0, 1, .const 0⟩
def SUPERVISOR.HID_HOLD : Field := ⟨.supervisor, 0x110C, 0, 1, .const 0⟩
def SUPERVISOR.HID_REBUILDER : Field := ⟨.supervisor, 0x1110, 0, 2, .const 0⟩

/-- States of a supervisor (SUPERVISOR.STAT). -/
abbrev suOFF : Nat := 0
abbrev suBOOT : Nat := 1
abbrev suSYNC : Nat := 2
abbrev suSTANDBY : Nat := 3
abbrev suACTIVE : Nat := 4
abbrev suFAILED : Nat := 5
abbrev suRETIRED : Nat := 6

/-- The state field of a supervisor: 0 Phobos, 1 Deimos. -/
def supField (k : Nat) : Field := if k = 0 then SUPERVISOR.STAT_PHOBOS else SUPERVISOR.STAT_DEIMOS
/-- A supervisor's state. -/
def State.sup (s : State) (k : Nat) : Nat := s.get (supField k)
/-- The state with a supervisor's state set. -/
def State.setSup (s : State) (k v : Nat) : State := s.set (supField k) v
/-- The bus master that a supervisor is (Table 19.2). -/
def supMaster (k : Nat) : Nat := k + 1

/-- SUPERVISOR.STAT.MODE for the state at hand (Table 14.12). SINGLE shows while a supervisor is RETIRED. (DEDUCED,
assumption 36.) -/
def State.modeNow (s : State) : Nat :=
  if s.get SUPERVISOR.HID_REBUILDER ≠ 0 then 5
  else if s.get SUPERVISOR.HID_HOLD = 1 then 4
  else if s.flywheel then 3
  else if s.get SUPERVISOR.HID_TAKE ≠ 0 then 2
  else if s.sup 0 = suRETIRED ∨ s.sup 1 = suRETIRED then 1
  else 0

/-- The state with MODE as it now is. -/
def State.showMode (s : State) : State := s.set SUPERVISOR.STAT_MODE s.modeNow

/-- LAST_CAUSE of a supervisor. -/
def State.noteCause (s : State) (k cause : Nat) : State := (s.set SUPERVISOR.LAST_CAUSE_CAUSE cause).set SUPERVISOR.LAST_CAUSE_WHO k

/-- The isolation of a supervisor: stamped for R392 and logged. -/
def State.isolateSup (s : State) (k cause : Nat) : State :=
  let l := s.recentIsolations (supUnit k) ++ [s.clk.uptime]
  let s := { s with repair := { s.repair with isolations := NTable.put s.repair.isolations (supUnit k).key l } }
  s.logStep (supUnit k) stISOLATE 0 10 cause

/-- No STANDBY supervisor is in step. -/
def State.noStandby (s : State) : State := (s.set SUPERVISOR.JOURNAL_LAG 0).set SUPERVISOR.JOURNAL_IN_SYNC 0

/-- A supervisor is FAILED, unless it is retired. -/
def State.supDown (s : State) (k : Nat) : State := if s.sup k = suRETIRED then s else s.setSup k suFAILED

/-- FW_VER with no image running (R529). -/
def State.noImage (s : State) : State := ((s.set GLOBAL.FW_VER_PATCH 0).set GLOBAL.FW_VER_MINOR 0).set GLOBAL.FW_VER_MAJOR 0

/-- Flywheel is entered (R410): the configuration is frozen, and the first of up to three attempts follows 1 s later (R411). -/
def State.enterFlywheel (s : State) : State :=
  if s.flywheel then s
  else
    let s := s.noImage
    let s := ((s.supDown 0).supDown 1).noStandby
    let s := (((s.set SUPERVISOR.HID_FLY 1).set SUPERVISOR.HID_TAKE 0).set SUPERVISOR.HID_SWITCH 0).set SUPERVISOR.HID_HOLD 0
    let s := ((s.set SUPERVISOR.HID_REBUILDER 0).set LEDGER.STAT_REBUILDING 0).set LEDGER.STAT_SERVING 0
    let s := ((s.set SUPERVISOR.STAT_ACTIVE 3).set SUPERVISOR.STAT_ATTEMPT 0).set SUPERVISOR.STAT_BACKOFF 1
    let s := (s.bump SUPERVISOR.CNT_FLYWHEELS).raise .supervisor 0 SUPERVISOR.EV_FLYWHEEL_IN
    (s.logStep (supUnit 2) stFLYWHEEL_IN 0 10).showMode

/-- The role passes to the other supervisor: requests are refused with 0x60 until it is ACTIVE, and the takes that the old one
holds are discarded (R407, R408). -/
def State.handOver (s : State) (k : Nat) : State :=
  let s := (((s.set SUPERVISOR.HID_TAKE (2 - k)).set SUPERVISOR.STAT_ACTIVE 3).set LEDGER.STAT_SERVING 0)
  ((s.discardHeld (supMaster k)).discardXp (supMaster k)).showMode

/-- Seconds before the attempt that follows `k` of them (R411). -/
def backoffAfter (k : Nat) : Nat := match k with | 0 => 1 | 1 => 10 | _ => 100

/-- Charon resets a supervisor and gives it 500 ms. -/
def State.tryBoot (s : State) (k : Nat) : State := ((s.setSup k suBOOT).bump SUPERVISOR.CNT_RESTARTS).logStep (supUnit k) stRESET_UNIT

/-- An attempt has failed: the next follows its backoff, and after three the flywheel is held (R411). -/
def State.attemptFailed (s : State) : State :=
  let s := s.raise .supervisor 0 SUPERVISOR.EV_RESTART_FAIL
  if 3 ≤ s.get SUPERVISOR.STAT_ATTEMPT then
    ((s.set SUPERVISOR.HID_HOLD 1).raise .supervisor 0 SUPERVISOR.EV_FLYWHEEL_HOLD).showMode
  else (s.set SUPERVISOR.STAT_BACKOFF (backoffAfter (s.get SUPERVISOR.STAT_ATTEMPT))).showMode

/-- A supervisor that Charon starts has failed: after Phobos Deimos is tried, and the attempt then fails (R411). -/
def State.attemptNext (s : State) (k : Nat) : State :=
  let t := ((s.setSup k suFAILED).set SUPERVISOR.HID_REBUILDER 0).set LEDGER.STAT_REBUILDING 0
  if k = 0 ∧ t.sup 1 ≠ suRETIRED ∧ t.domUp 24 then (t.tryBoot 1).showMode else t.attemptFailed

/-- The supervisor that takes over in a switchover has failed: the other one stays ACTIVE (R409, R410). -/
def State.switchBack (s : State) (k : Nat) : State :=
  (((s.set SUPERVISOR.HID_TAKE 0).set SUPERVISOR.HID_SWITCH 0).set SUPERVISOR.STAT_ACTIVE (1 - k)).noStandby.set LEDGER.STAT_SERVING 1 |>.showMode

/-- A supervisor has failed, with the cause of LAST_CAUSE (R407, R410). One that fails during a switchover makes it a failover, or ends
it. -/
def State.supFail (s : State) (k cause : Nat) : State :=
  let st := s.sup k
  if st = suOFF ∨ st = suFAILED ∨ st = suRETIRED then s
  else
    let s := if cause = 1 then s.bump SUPERVISOR.CNT_HB_MISSES else s
    let s := ((s.noteCause k cause).isolateSup k cause).setSup k suFAILED
    if s.flywheel then (if st = suBOOT ∨ st = suSYNC then s.attemptNext k else s)
    else if s.get SUPERVISOR.HID_SWITCH = 1 then (if st = suACTIVE then s.set SUPERVISOR.HID_SWITCH 0 else s.switchBack k)
    else if st = suSTANDBY ∧ s.get SUPERVISOR.HID_TAKE = 0 then s.noStandby
    else if st = suACTIVE ∧ s.get SUPERVISOR.HID_TAKE = 0 ∧ s.get SUPERVISOR.JOURNAL_IN_SYNC = 1 then s.handOver k
    else if s.get SUPERVISOR.STAT_ACTIVE = 3 then s.enterFlywheel
    else if st = suACTIVE then s.enterFlywheel
    else s

/-- A heartbeat of a supervisor that runs (R407). -/
def execHeartbeat (who : Fin 2) (s : State) : Host.Outcome State Fault Refusal :=
  if suBOOT ≤ s.sup who ∧ s.sup who ≤ suACTIVE then
    done (s.incr (if who = 0 then SUPERVISOR.HB_PHOBOS_HB else SUPERVISOR.HB_DEIMOS_HB))
  else done s

/-- A supervisor is declared failed: 1 no heartbeat, 2 a stall, 3 a memory error, 4 a fatal self-report (R407). -/
def execHeartbeatMiss (who : Fin 2) (cause : Fin 16) (s : State) : Host.Outcome State Fault Refusal :=
  if 1 ≤ cause.val ∧ cause.val ≤ 4 then done (s.supFail who cause) else done s

/-- A supervisor in STANDBY with IN_SYNC. -/
def State.standbyReady (s : State) (k : Nat) : State :=
  ((s.setSup k suSTANDBY).noStandby.set SUPERVISOR.JOURNAL_IN_SYNC 1).raise .supervisor 0 SUPERVISOR.EV_STANDBY_READY

/-- The supervisor that takes over is ACTIVE and accepts requests; after a switchover the other is STANDBY (R407, R409). -/
def execFailoverActive (s : State) : Host.Outcome State Fault Refusal :=
  if s.get SUPERVISOR.HID_TAKE = 0 then done s
  else
    let k := s.get SUPERVISOR.HID_TAKE - 1
    let sw : Bool := s.get SUPERVISOR.HID_SWITCH = 1
    let t := (((s.setSup k suACTIVE).set SUPERVISOR.STAT_ACTIVE k).noStandby.set SUPERVISOR.HID_TAKE 0).set SUPERVISOR.HID_SWITCH 0
    let t := if sw then t.standbyReady (1 - k) else t
    let t := (t.bump SUPERVISOR.CNT_FAILOVERS).raise .supervisor 0 SUPERVISOR.EV_FAILOVER
    done ((t.logStep (supUnit (1 - k)) stFAILOVER 0 10 (t.get SUPERVISOR.LAST_CAUSE_CAUSE)).set LEDGER.STAT_SERVING 1).showMode

/-- The supervisor that is not ACTIVE and is being brought up: failed, or in BOOT or SYNC. -/
def State.restoring (s : State) : Option Nat :=
  [0, 1].find? (fun k => s.get SUPERVISOR.STAT_ACTIVE = 1 - k && (s.sup k = suFAILED || s.sup k = suBOOT || s.sup k = suSYNC))

/-- A supervisor is retired (R392, R409, R413). -/
def State.retireSup (s : State) (k : Nat) : State :=
  let s := (((s.setSup k suRETIRED).retireEntry (supUnit k)).bump REPAIR.CNT_RETIREMENTS).raise .repair 0 REPAIR.EV_RETIRED
  ((s.logStep (supUnit k) stRETIRE 0 10).raise .supervisor 0 SUPERVISOR.EV_SUP_RETIRED).showMode

/-- The failed supervisor, or the one under test, has been reset, self-tested, loaded and synchronised: STANDBY, or RETIRED
where it fails or has been isolated too often (R407, R409, R392). -/
def execStandbyRestore (pass : Bool) (s : State) : Host.Outcome State Fault Refusal :=
  match s.restoring with
  | none => done s
  | some k =>
    if !s.domUp (23 + k) then done s
    else
      let t := if s.sup k = suFAILED then (s.bump SUPERVISOR.CNT_RESTARTS).logStep (supUnit k) stRESET_UNIT else s
      let t := t.logStep (supUnit k) stSELFTEST (flag !pass)
      if !pass then done ((t.noteCause k 6).retireSup k)
      else if s.retireLimit ≤ (s.recentIsolations (supUnit k)).length then done (t.retireSup k)
      else done ((t.logStep (supUnit k) stRETURN).standbyReady k).showMode

/-- The STANDBY supervisor applies one journal entry (R406). -/
def execJournalApply (s : State) : Host.Outcome State Fault Refusal :=
  if s.sup 0 = suSTANDBY ∨ s.sup 1 = suSTANDBY then
    let t := s.set SUPERVISOR.JOURNAL_LAG (s.get SUPERVISOR.JOURNAL_LAG - 1)
    done (t.set SUPERVISOR.JOURNAL_IN_SYNC (flag (t.get SUPERVISOR.JOURNAL_LAG ≤ 64)))
  else done s

/-- Exchanges the roles, or raises JOURNAL_ERR without IN_SYNC (R409). -/
def State.switchover (s : State) : State :=
  let k := s.get SUPERVISOR.STAT_ACTIVE
  if s.get SUPERVISOR.JOURNAL_IN_SYNC = 1 ∧ k < 2 then ((s.noteCause k 5).set SUPERVISOR.HID_SWITCH 1).handOver k
  else s.raise .supervisor 0 SUPERVISOR.EV_JOURNAL_ERR

/-- A write of SUPERVISOR.CTL with SWITCHOVER set (R409). -/
def execSwitchover (m : Fin 7) (s : State) : Host.Outcome State Fault Refusal :=
  done (s.withCheck m .supervisor 0 0x04C 1 (fun t => t.switchover))

/-- A supervisor is being started by Charon. -/
def State.attempting (s : State) : Option Nat := [0, 1].find? (fun k => s.sup k = suBOOT || s.sup k = suSYNC)

/-- After its backoff Charon begins an attempt with the first supervisor that is not retired (R411). -/
def execRestartAttempt (s : State) : Host.Outcome State Fault Refusal :=
  if !s.flywheel ∨ s.get SUPERVISOR.HID_HOLD = 1 ∨ s.attempting.isSome then done s
  else
    let t := (s.set SUPERVISOR.STAT_ATTEMPT (min 3 (s.get SUPERVISOR.STAT_ATTEMPT + 1))).set SUPERVISOR.STAT_BACKOFF 0
    match [0, 1].find? (fun k => t.sup k ≠ suRETIRED && t.domUp (23 + k)) with
    | some k => done (t.tryBoot k).showMode
    | none => done t.attemptFailed

/-- A supervisor has not started in 500 ms: after Phobos Deimos is tried, and the attempt then fails (R411). -/
def execRestartAttemptFail (s : State) : Host.Outcome State Fault Refusal :=
  match s.attempting with
  | none => done s
  | some k =>
    if !s.flywheel then done s
    else done (s.attemptNext k)

/-- A new series of three attempts (R411). -/
def State.newSeries (s : State) : State :=
  if s.flywheel then
    ((((s.set SUPERVISOR.HID_HOLD 0).set SUPERVISOR.HID_BOOTFAIL 0).set SUPERVISOR.STAT_ATTEMPT 0).set SUPERVISOR.STAT_BACKOFF 1).showMode
  else s

/-- A write of SUPERVISOR.CTL with RETRY set (R411). -/
def execSupRetry (m : Fin 7) (s : State) : Host.Outcome State Fault Refusal :=
  done (s.withCheck m .supervisor 0 0x04C 2 (fun t => t.newSeries))

/-- The STANDBY supervisor leaves its role for a self-test, which STANDBY_RESTORE ends (R419). -/
def State.retestStandby (s : State) : State :=
  match [0, 1].find? (fun k => s.sup k = suSTANDBY) with
  | some k => (s.setSup k suBOOT).noStandby
  | none => s

/-- A write of SUPERVISOR.CTL with RETEST_STANDBY set (R419). -/
def execRetestStandby (m : Fin 7) (s : State) : Host.Outcome State Fault Refusal :=
  done (s.withCheck m .supervisor 0 0x04C 4 (fun t => if t.get SUPERVISOR.HID_TAKE = 0 then t.retestStandby else t))

/-- An island is silent for 64 us: a supervisor fails, any other unit is stalled and isolated (R20, R26, R407). -/
def execChannelStall (u : UnitId) (s : State) : Host.Outcome State Fault Refusal :=
  if u = supUnit 0 then done (s.supFail 0 2)
  else if u = supUnit 1 then done (s.supFail 1 2)
  else if u ∈ u.page.units u.inst ∧ (s.unit u = uRUN ∨ s.unit u = uSPARE) then done ((s.stallEvent u).faultUnit u 8 0)
  else done s

/-- The availability counters of an output at 0. -/
def State.availClear (s : State) (o : Nat) : State :=
  ((s.set REPAIR.FRAMES_COUNT 0 0 o).set REPAIR.DEFECTIVE_COUNT 0 0 o).set REPAIR.LATE_COUNT 0 0 o

/-- A write of AVAIL_CLR with GO set clears the counters of the output it names (R418). -/
def execAvailClrGo (m : Fin 7) (v : Word) (s : State) : Host.Outcome State Fault Refusal :=
  done (s.withWrite m .repair 0 0x07C v.toNat (fun t =>
    if bitOf v.toNat 31 ∧ bitsOf v.toNat 0 8 < 192 then t.availClear (bitsOf v.toNat 0 8) else t))

/-- A write of AVAIL_CLR with ALL set clears the counters of every output (R418). -/
def execAvailClrAll (m : Fin 7) (v : Word) (s : State) : Host.Outcome State Fault Refusal :=
  done (s.withWrite m .repair 0 0x07C v.toNat (fun t =>
    if bitOf v.toNat 30 then (List.range 192).foldl (fun u o => u.availClear o) t else t))

end Sys2Proof.Machine
end

