-- ==== Sys2Proof/Machine/Hooks.lean ====
section
/-! DEFINITION. What a commit of a page's RWS fields does: the check of each chapter, the values made active, the CFG_BLOCKED of
a commit that is not applied (R511), and what the new values start. The switching of domains stands with the domains. -/
namespace Sys2Proof.Machine

/-- The active values with a table of values set. -/
def State.applyTable (s : State) (l : RTable) : State := { s with regs := l.foldl (fun r e => r.set e.1 e.2) s.regs }

/-- The part of a page that is checked and applied on its own: a profile of CE[0], FS_CFG or FS_FALLBACK of one output, LOCK_WIN
apart from the pattern generators, and for every other page the whole page. -/
def commitPart (k : RegKey) : Nat :=
  match k.field.page with
  | .ce => k.idx
  | .syncmgr => 2 * k.idx + flag (0x404 ≤ k.field.off)
  | .fabric => flag (0x80 ≤ k.field.off)
  | _ => 0

/-- The parts that a table of values touches, each once. -/
def commitParts : RTable → List Nat
  | [] => []
  | e :: t => if (commitParts t).contains (commitPart e.1) then commitParts t else commitPart e.1 :: commitParts t

/-- A profile's fields are in range, and the ones a stream depends on do not change under it (R232). -/
def profileOk (s t : State) (g : Nat) : Bool :=
  let same (f : Field) : Bool := s.get f 0 g = t.get f 0 g
  t.get CE.PROF0_QREQ 0 g ≠ 3 && t.get CE.PROF0_QMIN 0 g ≠ 3 && t.get CE.PROF0_DEINT 0 g ≠ 3 && t.get CE.PROF0_ASPECT 0 g ≠ 3 &&
  t.get CE.PROF0_LUT 0 g < 9 &&
  ((same CE.PROF0_QREQ && same CE.PROF0_QMIN && same CE.PROF0_DEINT && same CE.PROF0_VALID) ||
    s.video.streams.all (fun x => x.2.profile ≠ g))

/-- The line period of an output in steps of 0.842 ns (R258). -/
def lineSteps (f : Fmt) : Nat := framePeriod f.rate * 1188 / (1000000000 * max 1 (totalLines f.raster))

/-- Whether a picture is one that R129 carries on an IP flow. -/
def ipCarries (f : Fmt) (o : Nat) : Bool :=
  f.raster < 6 && f.scan < 3 && f.sampling < 3 && f.color < 3 && f.transfer < 3 && (f.raster ≠ 5 || o % 4 = 0)

/-- Whether the format of a VO is one its mapping lists, and its gang stands (R113, R87, R118). -/
def voFormatOk (t : State) (o : Nat) : Bool :=
  let f := t.voFmt o
  if t.laneSdi true o then
    let m := t.get VOUT.CFG_MAPPING o
    mapCarries m f && (t.get VOUT.CFG_EN o = 0 || (gangStart m (o % 4) && (mapLinks m = 1 || t.gangUniform true (o / 4) (gangLanes m (o % 4)))))
  else ipCarries f o

/-- Whether the offsets of a VO are in range (R258). -/
def voOffsetsOk (t : State) (o : Nat) : Bool :=
  t.get VOUT.V_OFFSET_LINES o < max 1 (totalLines (t.get VOUT.FMT_RASTER o)) && t.get VOUT.H_OFFSET_STEPS o < max 1 (lineSteps (t.voFmt o))

/-- Whether every enabled gang of a quad is of one class and family (R87). -/
def quadGangsOk (t : State) (q : Nat) : Bool :=
  [0, 1, 2, 3].all (fun n =>
    viCommitOk t (4 * q + n) && (t.get VOUT.CFG_EN (4 * q + n) = 0 || !t.laneSdi true (4 * q + n) ||
      (let m := t.get VOUT.CFG_MAPPING (4 * q + n)
       mapLinks m = 1 || t.gangUniform true q (gangLanes m n))))

/-- Whether a commit that takes `s` to `t` is applied, by page and part. -/
def commitOk (s t : State) (p : Page) (i g : Nat) : Bool :=
  match p with
  | .reset => 256 ≤ t.get RESET.GAP_CYCLES && t.get RESET.GAP_CYCLES ≤ 65536
  | .quad => quadBlocked s t i = [] && quadGangsOk t i
  | .vin => viCommitOk t i
  | .vout => voFormatOk t i && voOffsetsOk t i
  | .ce => profileOk s t g
  | .fabric => g ≠ 0 || (t.get FABRIC.LOCK_WIN_LO ≤ t.get FABRIC.LOCK_WIN_HI && t.get FABRIC.LOCK_WIN_HI ≤ 8 &&
      1 ≤ t.get FABRIC.LOCK_WIN_RELOCK && t.get FABRIC.LOCK_WIN_RELOCK ≤ 60)
  | .syncmgr => g % 2 = 1 || (1 ≤ t.get SYNCMGR.FS_CFG_MARGIN 0 (g / 2) && t.get SYNCMGR.FS_CFG_MARGIN 0 (g / 2) ≤ 4 &&
      t.get SYNCMGR.FS_CFG_POLICY 0 (g / 2) ≠ 3)
  | .refmgr => refCommitOk s t
  | .aport => portCommitOk s t i
  | .mesh => meshCommitOk t
  | _ => true

/-- The pad lanes of a mask, from a list. -/
def laneMask (l : List Nat) : Nat := l.foldl (fun n k => setBit n k) 0

/-- The CFG_BLOCKED of a commit that is not applied. -/
def State.commitBlocked (s t : State) (p : Page) (i : Nat) : State :=
  match p with
  | .reset => s.raise .reset 0 RESET.EV_CFG_BLOCKED
  | .power => s.raise .power 0 POWER.EV_CFG_BLOCKED
  | .quad =>
    let l := quadBlocked s t i
    s.blockLanes i (laneMask (if l = [] then [0, 1, 2, 3] else l))
  | .vin => s.blockLanes (i / 4) (laneMask ((gangLanes (t.get VIN.CFG_MAPPING i) (i % 4)).filter (fun n => n < 4)))
  | .vout =>
    let s := if t.laneSdi true i ∧ !voFormatOk t i then
        s.blockLanes (i / 4) (laneMask ((gangLanes (t.get VOUT.CFG_MAPPING i) (i % 4)).filter (fun n => n < 4)))
      else s
    s.raise .vout i VOUT.EV_CFG_BLOCKED
  | .ce => s.raise .ce 0 CE.EV_PROF_BLOCKED
  | .fabric => s.raise .fabric 0 FABRIC.EV_CFG_BLOCKED
  | .syncmgr => s.raise .syncmgr 0 SYNCMGR.EV_CFG_BLOCKED
  | .refmgr => s.raise .refmgr 0 REFMGR.EV_CFG_BLOCKED
  | .aport => s.raise .aport i APORT.EV_CFG_BLOCKED
  | .mesh => s.raise .mesh i MESH.EV_CFG_BLOCKED
  | _ => s

/-- Device's own mark of the backup copy of GAP (R425); unlisted: none. -/
def RESET.HID_GAPCOPY : Field := ⟨.reset, 0x1100, 0, 17, .const 0⟩

/-- The offset of an output in femtoseconds (R256). -/
def State.voOffset (s : State) (o : Nat) : Int :=
  ((s.get VOUT.V_OFFSET_LINES o * framePeriod (s.get VOUT.FMT_RATE o) / max 1 (totalLines (s.get VOUT.FMT_RASTER o))
    + s.get VOUT.H_OFFSET_STEPS o * 1000000000 / 1188 : Nat) : Int)

/-- The facts of one output among those given by output. -/
def factsOf (f : List (Nat × TakeFacts)) (o : Nat) : LockFacts := (NTable.getD f o noFacts).lock

/-- A VO after a commit of its page: enabled, disabled, restarted (R573), or moved to its new offsets (R258). -/
def State.voCommitted (s old : State) (o : Nat) (f : List (Nat × TakeFacts)) : State :=
  let s := (s.set VOUT.FMT_VALID 1 o).voSettleQuad (o / 4)
  if s.get VOUT.CFG_EN o = 0 then (if old.get VOUT.CFG_EN o = 1 then s.stopGenerator o tgOFF else s)
  else if old.get VOUT.CFG_EN o = 0 then
    let s := ((s.set VOUT.TIM_STAT_STATE tgWAIT o).set VOUT.STAT_STATE 1 o).set VOUT.HID_INSERVICE (s.get RESET.SEQ_STAT_LOADED) o
    if s.get RESET.SEQ_STAT_LOADED = 1 then s.retryPath o (factsOf f o) else s
  else if [VOUT.FMT_RASTER, VOUT.FMT_RATE, VOUT.FMT_SCAN].any (fun x => old.get x o ≠ s.get x o) then s.voWait o
  else if old.voOffset o ≠ s.voOffset o then s.stepPhase o (s.voOffset o - old.voOffset o)
  else s

/-- The fallback of an output is requested: at the commit that first makes VALID and POLICY FALLBACK hold, and at each later one
of FS_FALLBACK while they do (R202). -/
def State.fsCommitted (s old : State) (g m : Nat) (f : List (Nat × TakeFacts)) : State :=
  let o := g / 2
  let on (x : State) : Bool := x.get SYNCMGR.FS_FALLBACK_VALID 0 o = 1 && x.get SYNCMGR.FS_CFG_POLICY 0 o = 2
  if on s && (g % 2 = 1 || !on old) then s.requestFallback m o (factsOf f o) else s

/-- The allocation of a pattern generator's still. -/
def State.stillOf (s : State) (k : Nat) : Option (Nat × Alloc) := s.video.allocs.find? (fun e => e.2.kind = AllocKind.still && e.2.owner = k)

/-- The state without the still of a generator. -/
def State.freeStill (s : State) (k : Nat) : State :=
  { s with video := { s.video with allocs := s.video.allocs.filter (fun e => !(e.2.kind = AllocKind.still && e.2.owner = k)) } }

/-- A still is charged one frame of capacity and half the synchroniser bandwidth of its format while its generator shows it (R185,
Table 6.4). Where the memory tests leave no room it has no window. (DESIGN CHOICE, assumption 37.) -/
def State.settleStill (s : State) (k : Nat) : State :=
  let f := s.pgFmt k
  let bw := f.syncBw / 2
  if s.get FABRIC.PATGEN_CTL_PATTERN 0 k ≠ 5 then s.freeStill k
  else if (s.stillOf k).any (fun e => e.2.bw = bw && e.2.cap = f.bufferMiB) then s
  else
    let s := s.freeStill k
    match s.homeQuad s.video.allocs bw f.bufferMiB [] with
    | none => s
    | some q =>
      let n := nextId s.video.allocs
      let a : Alloc := { kind := .still, owner := k, timing := 0, quad := q, bw := bw, cap := f.bufferMiB, other := none,
                         sets := s.layOut .still q 1 n, moveTo := none, proved := 0 }
      let l := NTable.put s.video.allocs n a
      if s.memoryTests l = 0 then { s with video := { s.video with allocs := l } } else s

/-- The stills of every pattern generator. -/
def State.settleStills (s : State) : State := ((List.range 16).foldl (fun t k => t.settleStill k) s).recount

/-- What the new values of a page start. -/
def State.committed (s old : State) (p : Page) (i g m : Nat) (f : List (Nat × TakeFacts)) : State :=
  match p with
  | .reset => (s.set RESET.HID_GAPCOPY (s.get RESET.GAP_CYCLES)).set RESET.BKP_STAT_GAP_COPY_OK 1
  | .quad =>
    let s := (((s.quadCommitted i).viSettleQuad i).voSettleQuad i).ethCommitted i
    let s := [0, 1, 2, 3].foldl (fun t n => (t.viIpSettle (4 * i + n)).laneFollow (t.laneClock i n).1 i n) s
    s
  | .vin => if i < 96 then (s.viSettleQuad (i / 4)).viIpSettle i else s.viIpSettle i
  | .vout => s.voCommitted old i f
  | .fabric => if g = 1 then s.settleStills else s
  | .syncmgr => s.fsCommitted old g m f
  | .refmgr => s.refCommitted
  | .synth => s.clocksFollow i
  | .synthctl => s.syncOutFollow
  | .audio => State.busCommitted old s
  | .aport => s.portCommitted i
  | .mesh => s.meshCommitted i
  | .meshctl => s.meshctlCommitted
  | .eth => s.ethCommitted i
  | _ => s

/-- The shadow without the values that have become active. -/
def dropShadow (sh vals : RTable) : RTable := sh.filter (fun e => !(vals.any (fun x => x.1 = e.1 && x.2 = e.2)))

/-- One part of a commit is applied, or blocked with the shadow left as written (R511). -/
def State.commitPartOf (s : State) (p : Page) (i m : Nat) (vals : RTable) (f : List (Nat × TakeFacts)) (g : Nat) : State :=
  let part := vals.filter (fun e => commitPart e.1 = g)
  let news := part.filter (fun e => s.regs.get e.1 ≠ e.2)
  let t := s.applyTable news
  if news = [] then { s with shadow := dropShadow s.shadow part }
  else if !commitOk s t p i g then s.commitBlocked t p i
  else { t with shadow := dropShadow t.shadow part }.committed s p i g m f

/-- A commit's values reach the active configuration, part by part. -/
def State.commitValues (s : State) (p : Page) (i m : Nat) (vals : RTable) (f : List (Nat × TakeFacts)) : State :=
  (commitParts vals).foldl (fun t g => t.commitPartOf p i m vals f g) s

end Sys2Proof.Machine
end

