-- ==== Sys2Proof/Machine/Domains.lean ====
section
/-! DEFINITION. Power domains: what each holds, what its reset or loss does (R34, R212, R341, R420, R423, R513), its release and
self-tests (R428, R429), the loader's part for it (R430), the switching of domains by DOM_REQ (R439), and the drains that end
in it. -/
namespace Sys2Proof.Machine

/-- Device's own marks of the reset controller: the domains pulsed, switched off by request, waiting, switching on, and released (bit n - 1
PDn, bit 25 AON); a CONTROL reset's self-test of PD25 due, with its failures; the loader (0 not begun, 1 at work, 2 done); and, in BKP, that the next start
follows a BACKUP reset. -/
def RESET.HID_PULSE : Field := ⟨.reset, 0x1108, 0, 22, .const 0⟩
def RESET.HID_OFFREQ : Field := ⟨.reset, 0x110C, 0, 26, .const 0⟩
def RESET.HID_WAIT : Field := ⟨.reset, 0x1110, 0, 26, .const 0⟩
def RESET.HID_PON : Field := ⟨.reset, 0x1114, 0, 26, .const 0⟩
def RESET.HID_REL : Field := ⟨.reset, 0x1118, 0, 26, .const 0⟩
def RESET.HID_CTLTEST : Field := ⟨.reset, 0x111C, 0, 1, .const 0⟩
def RESET.HID_CTLFAILS : Field := ⟨.reset, 0x1120, 0, 2, .const 0⟩
def RESET.HID_LOADER : Field := ⟨.reset, 0x1124, 0, 2, .const 0⟩
def RESET.HID_BKPNEW : Field := ⟨.reset, 0x1128, 0, 1, .const 1⟩
/-- Device's own mark of a domain that drains to be switched off: by DOM_REQ or at T4. -/
def RESET.HID_DRAINOFF : Field := ⟨.reset, 0x112C, 0, 26, .const 0⟩
/-- Device's own marks of the domains whose page fields, and whose tables, the loader has written since their reset. -/
def RESET.HID_FIELDS : Field := ⟨.reset, 0x1130, 0, 26, .const 0⟩
def RESET.HID_TABLES : Field := ⟨.reset, 0x1134, 0, 26, .const 0⟩

/-- A bit of one of the reset controller's masks. -/
def State.resetBit (s : State) (f : Field) (k : Nat) : Bool := bitOf (s.get f) k
/-- One bit of one of them set to a value. -/
def State.putReset (s : State) (f : Field) (k : Nat) (b : Bool) : State := s.set f (putBit (s.get f) k b)

/-- Whether a reset source reaches a domain (Table 15.1). -/
def sourceReaches (src d : Nat) : Bool :=
  if src = srcCONTROL ∨ src = srcPD25 then 23 ≤ d && d ≤ 25
  else if src = srcSTBY ∨ src = srcSHUT then d ≤ 25
  else true

/-- Whether an asserted source holds a domain (R423, R426), or standby entry has switched it off (R440). -/
def State.held (s : State) (d : Nat) : Bool :=
  (List.range 6).any (fun k => s.resetBit RESET.HID_SRC k && sourceReaches k d) ||
  (s.get POWER.STBY_BUSY = 1 && d ≤ 25 && !s.domPowered d) ||
  (d ≤ 22 && (bitOf (s.get RESET.DOM_HOLD_MASK) (d - 1) || s.resetBit RESET.HID_PULSE (d - 1)))

/-- Whether a domain is released: out of reset. -/
def State.released (s : State) (d : Nat) : Bool := s.resetBit RESET.HID_REL (d - 1)

/-- The steps of the release order (Table 15.2), from 1. -/
def releaseSteps : List (List Nat) :=
  [[26], [22], [25], [23], [24], [13, 14, 15, 16], [7, 8], [1, 2, 3, 4, 5, 6], [17], [9, 10, 11, 12], [18], [19], [20, 21]]

/-- DOM_STAT.HELD, and SEQ_STAT, as the controller now stands. A domain switched off by request is neither held nor waiting. -/
def State.showHeld (s : State) : State :=
  let m := (List.range 25).foldl (fun n k => putBit n k (!s.released (k + 1) && !s.resetBit RESET.HID_OFFREQ k)) 0
  let s := s.set RESET.DOM_STAT_HELD m
  let next := ((List.range 13).find? (fun k => (releaseSteps.getD k []).any (fun d => s.resetBit RESET.HID_WAIT (d - 1)))).map (· + 1)
  (s.set RESET.SEQ_STAT_NEXT (next.getD 0)).set RESET.SEQ_STAT_BUSY (flag next.isSome)

/-- Every domain that nothing holds and that is neither out of reset nor switched off joins the waiting set (R426). -/
def State.settleWait (s : State) : State :=
  ((List.range 26).foldl (fun (t : State) k =>
    t.putReset RESET.HID_WAIT k (!t.held (k + 1) && !t.released (k + 1) && !t.resetBit RESET.HID_PON k && !t.resetBit RESET.HID_OFFREQ k)) s).showHeld

/-- The pages of a domain, with the window tables' owners among them. -/
def domainPages (d : Nat) : List (Page × Nat) :=
  (Page.directory.flatMap (fun p => ((List.range p.instances).filter (fun i => p.domain i = d)).map (fun i => (p, i))))

/-- The repair units and the other units that the pages of a domain show, each once. -/
def domainUnits (d : Nat) : List UnitId :=
  (domainPages d).flatMap (fun e => if (e.1 = .flow ∨ e.1 = .audio) ∧ e.2 ≠ 0 then [] else e.1.units e.2)

/-! ## A domain going into reset -/

/-- The fields of PD25's pages that hold the state of hardware outside it, of the store, or of a fuse: they are kept across a
CONTROL reset (R18, R436, R513). (DEDUCED, assumption 30.) -/
def keptInPd25 (f : Field) : Bool :=
  match f.page with
  | .global => f = GLOBAL.SCRATCH_DATA
  | .syncmgr => true
  | .meshctl => true
  | .repair => f.off ≥ 0x400 || f = REPAIR.LOG_HEAD_NEXT || f = REPAIR.LOG_HEAD_SEQ || f.off = 0x044
  | .nvm => f = NVM.CFG_PROTECT
  | .keys => f.off = 0x040 || f.off = 0x044 || f.off = 0x048 || f.off = 0x0B0 || f.off = 0x0B4 || f.off ≥ 0x1000
  | _ => false

/-- Whether a reset of domain `d` returns a field to its reset value: block registers and the device's own scalars of its pages,
and the lock. The header, served from PD25, the window tables' own entries apart, keeps its values (R509, R513). -/
def resetField (d : Nat) (e : RegKey × Nat) : Bool :=
  let k := e.1
  k.field.page.domain k.inst = d && k.field.page ≠ Page.rte &&
  (0x028 ≤ k.field.off || k.field.page.code ≥ 0x80 || k.field = HDR.LOCK_OPEN k.field.page) &&
  !(d = 25 && keptInPd25 k.field) &&
  !((k.field = QUAD.RXSL_STAT_STATE || k.field = QUAD.TXSL_STAT_STATE) && e.2 = slRETIRED) &&
  k.field ≠ RESET.DOM_HOLD_MASK && k.field ≠ REFMGR.HID_LOST

/-- The units of a domain in reset show OFF, retired ones RETIRED (assumption 31). -/
def State.unitsOff (s : State) (d : Nat) : State :=
  (domainUnits d).foldl (fun (t : State) u =>
    let t := (t.set (HDR.DRAIN u.page) 0 u.inst u.sub).set (HDR.START u.page) 0 u.inst u.sub
    if t.unit u = uRETIRED then t else t.setUnit u uOFF) s

/-- Both fabric domains are off: the route table is lost, and every path with it (R180, R527). -/
def State.loseRoutes (s : State) : State :=
  if s.domPowered 7 || s.domPowered 8 then s
  else
    let s := { s with video := { s.video with active := [], pend := [], fallback := [], fallbackOld := [], fades := [], timed := [] } }
    { s with regs := s.regs.drop (fun k => k.field.page = Page.rte) }.release

/-- A supervisor loses its domain. -/
def State.supOff (s : State) (k : Nat) : State :=
  let s := (if s.sup k = suRETIRED then s else s.setSup k suOFF).noStandby
  let s := ((s.set SUPERVISOR.HID_TAKE 0).set SUPERVISOR.HID_SWITCH 0).set SUPERVISOR.HID_REBUILDER 0
  if s.get SUPERVISOR.STAT_ACTIVE = k then (s.set SUPERVISOR.STAT_ACTIVE 3).set LEDGER.STAT_SERVING 0 else s

/-- What the loss of a domain brings to the rest of the device, before its registers go. -/
def State.domainLost (s : State) (d : Nat) : State :=
  if d ≤ 6 then
    ((List.range 4).map (fun k => 4 * (d - 1) + k)).foldl (fun t q =>
      [0, 1, 2, 3].foldl (fun u n => (u.viEnter (4 * q + n) viOFF).voWait (4 * q + n)) (t.ethDown q)) s
  else match d with
    | 7 => s.planeOut 0
    | 8 => s.planeOut 1
    | 9 | 10 | 11 | 12 =>
      ((List.range 36).filter (fun c => c / 9 = d - 9)).foldl (fun t c => ((t.selAway (ceUnit c) (Path.halfEngine c)).fallBack c)) s
    | 13 | 14 | 15 | 16 =>
      let s := s.set SYNCMGR.QUAD_STAT_STATE quadDEGRADED 0 (d - 13)
      ((List.range 8).map (fun k => 8 * (d - 13) + k)).foldl (fun t c => t.selAway ⟨.memch, c, 0⟩ (t.halfOnChannel c)) s
    | 17 =>
      let s := ((List.range 96).map (· + 96)).foldl (fun t i => (t.viEnter i viOFF).voWait i) s
      let s : State := { s with flow := { merge := [], images := [], held := [], takes := [], reports := [], queries := [],
                                          oldQuerier := [], lastReport := [], sent := [], rows := [], hostDone := [] } }
      { s with video := { s.video with allocs := s.video.allocs.filter (fun e => e.2.kind ≠ AllocKind.merge) } }
    | 18 =>
      let s : State := { s with audio := { held := [], pend := [], chans := [], stop := [], fullScale := [], mixIns := [], busRamps := [],
                                           mixDue := false, tones := [], poolWait := [] } }
      { s with video := { s.video with allocs := s.video.allocs.filter (fun e => e.2.kind ≠ AllocKind.pool) } }
    | 19 => (List.range 16).foldl (fun t p => t.portDown p) s
    | 20 => (List.range 4).foldl (fun t n => if t.link n = lkOFF then t else t.linkInto n lkDOWN) s
    | 21 => ((List.range 4).map (· + 4)).foldl (fun t n => if t.link n = lkOFF then t else t.linkInto n lkDOWN) s
    | 22 => s.refmgrLost
    | 23 => s.supOff 0
    | 24 => s.supOff 1
    | _ => s

/-- What a loss of the PCIe link does to the endpoint (R501): configuration space at its reset values, every vector masked with its
pending bit kept, the held takes of the PCIe master discarded, host packet queues stopped. -/
def State.endpointReset (s : State) : State :=
  let s := (s.discardHeld 6).discardXp 6
  let s := (s.set BUSMATRIX.PCIE_STAT_MSIX_EN 0).set BUSMATRIX.PCIE_STAT_FN_MASK 0
  let s : State := { s with evt := { s.evt with msixTable := s.evt.msixTable.filter (fun e => e.1 % 4 ≠ 3) } }
  (List.range 16).foldl (fun (t : State) q => (t.set FLOW.HQ_RX_EN 0 3 q).set FLOW.HQ_TX_EN 0 3 q) s

/-- The PCIe link goes down (R498, R501). -/
def State.pcieDown (s : State) : State :=
  if s.get BUSMATRIX.PCIE_STAT_LINK_UP = 0 then s.endpointReset
  else
    let s := ((s.set BUSMATRIX.PCIE_STAT_LINK_UP 0).set BUSMATRIX.PCIE_STAT_SPEED 0).set BUSMATRIX.PCIE_STAT_WIDTH 0
    ((s.bump BUSMATRIX.CNT_LINK_DOWNS).raise .busmatrix 0 BUSMATRIX.EV_LINK_DOWN).endpointReset

/-- What a reset of PD25 does to the console (R544, R550): the command and the test end without a reply, the fields a test changed
are restored, and a session ends, which in SERVICE asks for FIELD (R482). -/
def State.consoleLost (s : State) : State :=
  let s := match s.console.test with
    | some t =>
      let u := t.saved.foldl (fun (u : State) (e : RegKey × Nat) => u.set e.1.field e.2 e.1.inst e.1.idx) s
      if t.kind = 1 then u.testSlices (t.arg / 4) (t.arg % 4) else u
    | none => s
  let s := s.raiseIf s.console.session .service 0 SERVICE.EV_SESSION_END
  let s := if s.console.session ∧ s.get KEYS.LC_STAT_STATE = 2 then s.set KEYS.HID_LCREQ 2 else s
  { s with console := { started := false, data := [], code := noReply, text := 0, challenge := none, session := false, ending := 0,
                        fails := s.console.fails, badTags := 0, held := none, buffer := [], test := none, waits := 0, lines := [],
                        slow := false } }

/-- What PD25 holds beside its pages is lost with it (R436, R495, R513): staging, the commit in progress, held takes of the PCIe
master, the console's session, working keys. -/
def State.controlLost (s : State) : State :=
  let s := s.pcieDown
  let failed (b : Bool) (r : Option NvmRecord) : Option NvmRecord := if b then r.map (fun x => { x with check := 1 }) else r
  let writing := s.nvm.writing.isSome
  let toA : Bool := s.get NVM.STAT_VALID ≠ 1
  let s := { s with nvm := { s.nvm with staged := [], after := [], writing := none, rewrites := [],
                                        bankA := failed (writing && toA) s.nvm.bankA, bankB := failed (writing && !toA) s.nvm.bankB } }
  let s := { s with keys := { s.keys with keys := [], labels := [] } }
  let s := linkList.foldl (fun (t : State) n => if t.link n = lkUP then t.set MESH.HID_STALE 1 n else t) s
  let s := s.consoleLost
  { s with evt := { s.evt with msixTable := [], msixHoldoff := 0 } }

/-- A domain goes into reset, without a drain (R34, R427). -/
def State.dropDomain (s : State) (d : Nat) : State :=
  let was := s.released d || s.resetBit RESET.HID_PON (d - 1)
  let s := ((s.putReset RESET.HID_REL (d - 1) false).putReset RESET.HID_PON (d - 1) false).putReset RESET.HID_WAIT (d - 1) false
  let s := ((s.putReset RESET.HID_DRAINOFF (d - 1) false).putReset RESET.HID_FIELDS (d - 1) false).showHeld
  let s := s.putReset RESET.HID_TABLES (d - 1) false
  if !was then s
  else
    let s := (s.unitsOff d).domainLost d
    let s := if d = 25 then (s.controlLost).set RESET.HID_LOADER 0 else s
    let s := { s with regs := s.regs.filter (fun e => !resetField d e) }
    let s := if d = 25 then
        { s with shadow := s.shadow.filter (fun e => e.1.field.page.domain e.1.inst ≠ 25),
                 commits := s.commits.filter (fun c => c.page.domain c.inst ≠ 25) }
      else s
    (s.showMode.recount).noteSeen

/-- A domain is switched off. -/
def State.powerOff (s : State) (d : Nat) : State :=
  if !s.domPowered d then s
  else
    let s := s.dropDomain d
    let s := s.set POWER.DOM_STAT_POWERED (clrBit (s.get POWER.DOM_STAT_POWERED) (d - 1))
    let s := if d = 7 ∨ d = 8 then s.loseRoutes else s
    let s := if (9 ≤ d ∧ d ≤ 12) ∧ !(s.domPowered 9 || s.domPowered 10 || s.domPowered 11 || s.domPowered 12) then
        { s with buf := { s.buf with conv := [] } } else s
    (s.raise .power 0 POWER.EV_DOM_CHG).showHeld

/-! ## DOM_REQ -/

/-- Whether the ledger holds a charge on a domain's units, or the domain carries an enabled port or link (R439). -/
def State.domainCharged (s : State) (d : Nat) : Bool :=
  let paths := s.video.active ++ s.video.fallback ++ s.video.fallbackOld ++ s.video.pend.filterMap (fun e => e.2.path.map (fun p => (e.1, p)))
  let ports (lo n : Nat) : Bool := paths.any (fun e => (lo ≤ e.1 && e.1 < lo + n) || (lo ≤ e.2.src && e.2.src < lo + n))
  if d ≤ 6 then ports (16 * (d - 1)) 16 ||
    ((List.range 4).map (fun k => 4 * (d - 1) + k)).any (fun q => [0, 1, 2, 3].any (fun n => s.portEnabled q n))
  else if d = 7 ∨ d = 8 then paths.any (fun e => e.2.plane = 2 || e.2.plane = d - 7)
  else if d ≤ 12 then s.video.streams.any (fun e => (e.1 / 4) / 9 = d - 9)
  else if d ≤ 16 then s.video.allocs.any (fun e => e.2.quad = d - 13 || e.2.moveTo = some (d - 13))
  else if d = 17 then s.contexts ≠ [] || ports 96 96
  else if d = 18 then s.chargedDests ≠ [] || s.srusUsed ≠ 0 || s.get AUDIO.ENG_STAT_POOL_USED ≠ 0 || s.mixInputs ≠ 0
  else if d = 19 then (List.range 16).any (fun p => s.get APORT.PORT_CFG_RX_EN p = 1 || s.get APORT.PORT_CFG_TX_EN p = 1)
  else (List.range 8).any (fun n => n / 4 = d - 20 && s.get MESH.LINK_CFG_EN n = 1)

/-- Whether any unit of a domain drains. -/
def State.domainDrains (s : State) (d : Nat) : Bool := (domainUnits d).any (fun u => s.get (HDR.DRAIN u.page) u.inst u.sub ≠ 0)

/-- A domain that drains to be switched off is switched off once nothing of it drains. -/
def State.settleOff (s : State) (d : Nat) : State :=
  if s.resetBit RESET.HID_DRAINOFF (d - 1) ∧ !s.domainDrains d then s.powerOff d else s

/-- A domain is to be switched off: at once where a reset holds it, else after its drain (R439, R443). -/
def State.switchOff (s : State) (d : Nat) : State :=
  let s := s.putReset RESET.HID_OFFREQ (d - 1) true
  if !s.released d then (s.powerOff d).settleWait
  else
    let s := s.putReset RESET.HID_DRAINOFF (d - 1) true
    ((domainUnits d).foldl (fun t u => t.startDrain 2 u) s).settleOff d

/-- A domain is to be on again: it joins the waiting set (R439). -/
def State.switchOn (s : State) (d : Nat) : State :=
  ((s.putReset RESET.HID_OFFREQ (d - 1) false).putReset RESET.HID_DRAINOFF (d - 1) false).settleWait

/-- DOM_REQ after a commit (R439): each domain cleared is switched off, or kept on with CFG_BLOCKED where it is in use. -/
def State.domReqCommitted (s : State) (old new : Nat) : State :=
  (List.range 21).foldl (fun (t : State) k =>
    let d := k + 1
    if bitOf old k && !bitOf new k then
      (if t.released d ∧ t.domainCharged d then
        (t.set POWER.DOM_REQ_ON (setBit (t.get POWER.DOM_REQ_ON) k)).raise .power 0 POWER.EV_CFG_BLOCKED
       else t.switchOff d)
    else if !bitOf old k && bitOf new k then t.switchOn d
    else t) s

/-! ## The loader -/

/-- The record in the bank in use. -/
def State.recordInUse (s : State) : Option NvmRecord :=
  match s.get NVM.STAT_VALID with
  | 1 => s.nvm.bankA
  | 2 => s.nvm.bankB
  | _ => none

/-- Whether a field of a record is a page field; the tables follow at tLOAD. -/
def pageField (f : Field) : Bool := f.page.code < 0x80

/-- The loader writes one page's fields and commits them; it makes no ledger request (R430). -/
def State.loadPage (s : State) (p : Page) (i : Nat) (vals : RTable) : State :=
  let news := vals.filter (fun e => e.1.field.page = p && e.1.inst = i && s.regs.get e.1 ≠ e.2)
  let t := s.applyTable news
  if news = [] ∨ p = .syncmgr then t
  else if p = .power then t.domReqCommitted (s.get POWER.DOM_REQ_ON) (t.get POWER.DOM_REQ_ON)
  else t.committed s p i (flag (p = .fabric)) masterDevice []

/-- The loader writes the page fields of a released domain. -/
def State.loadFields (s : State) (d : Nat) : State :=
  let s := s.putReset RESET.HID_FIELDS (d - 1) true
  match s.recordInUse with
  | none => s
  | some r => ((domainPages d).foldl (fun t e => t.loadPage e.1 e.2 (r.body.filter (fun x => pageField x.1.field))) s).noteSeen

/-- Whether the loader writes a table entry with a domain: the route entries with the first plane after both were lost. -/
def State.loadsWith (s : State) (d : Nat) (k : RegKey) : Bool :=
  !pageField k.field &&
  (if k.field.page = .rte then (d = 7 || d = 8) && !s.resetBit RESET.HID_TABLES 6 && !s.resetBit RESET.HID_TABLES 7
   else k.field.page.domain k.inst = d)

/-- The tables that the loader writes with a domain: route entries, contexts and next hops, crosspoints and mix inputs. Restored
contexts resume as they were: a receiver waits, a sender sends. -/
def State.loadTables (s : State) (d : Nat) : State :=
  let body := ((s.recordInUse.map NvmRecord.body).getD []).filter (fun e => s.loadsWith d e.1)
  let s : State := if (d = 7 ∨ d = 8) ∧ !s.resetBit RESET.HID_TABLES 6 ∧ !s.resetBit RESET.HID_TABLES 7 ∧ s.recordInUse.isSome then
      { s with regs := s.regs.drop (fun k => k.field.page = Page.rte && k.field.off = 0) } else s
  let s := (s.applyTable body).putReset RESET.HID_TABLES (d - 1) true
  let s := if d = 17 then
      let s : State := { s with regs := s.regs.map (fun (e : RegKey × Nat) =>
        if e.1.field = FC.W0_STATE && !kindReceives (s.fcType e.1.inst) && e.2 = fcWAIT then (e.1, fcRUN) else e) }
      (List.range 192).foldl (fun t i => t.viIpSettle i) s.countContexts
    else s
  s.noteSeen

/-- Whether the loader is off (Table 15.3). -/
def State.loaderOff (s : State) : Bool := s.get RESET.BOOT_STAT_BOOTMODE = 5

/-! ## Release -/

/-- PADMAP as the repair ledger makes it (R74): a lane whose own slice is retired takes the spare of its direction, or none. -/
def State.loadPadMap (s : State) (q : Nat) (tx : Bool) : State :=
  let gone (sl : Nat) : Bool := s.mapped ⟨.quad, q, if tx then 5 + sl else sl⟩
  let lost := [0, 1, 2, 3].filter gone
  let home (n : Nat) : Nat := if !gone n then n else if lost.head? = some n && !gone 4 then 4 else 7
  s.set (padMap tx) ([0, 1, 2, 3].foldl (fun m n => mapWith m n (home n)) (s.get (padMap tx) q)) q

/-- A unit of a released domain: RETIRED by the map, into its start-up self-test, or at work where it has none (R429). -/
def State.beginUnit (s : State) (u : UnitId) : State :=
  if s.mapped u ∨ s.unit u = uRETIRED then s.setUnit u uRETIRED
  else if u.repairs then (s.setUnit u uTEST).set (HDR.START u.page) 1 u.inst u.sub
  else if s.get (HDR.ENABLE u.page) u.inst = 1 then (s.setUnit u uRUN).unitFound u
  else s

/-- A domain's reset deasserts: its units begin, and the loader's part follows where it has begun (R428 to R430). -/
def State.startDomain (s : State) (d : Nat) : State :=
  let s := ((s.putReset RESET.HID_REL (d - 1) true).putReset RESET.HID_PON (d - 1) false).showHeld
  let s := if d ≤ 6 then ((List.range 4).map (fun k => 4 * (d - 1) + k)).foldl (fun t q => (t.loadPadMap q false).loadPadMap q true) s else s
  let s := (domainUnits d).foldl (fun t u => t.beginUnit u) s
  let s := if d = 23 ∧ s.sup 0 = suOFF then s.setSup 0 suBOOT
    else if d = 24 ∧ s.sup 1 = suOFF then s.setSup 1 suBOOT else s
  let s := if d ≠ 25 ∧ s.domUp 25 ∧ s.get RESET.HID_LOADER ≠ 0 ∧ !s.loaderOff then s.loadFields d else s
  let s := if d ≠ 25 ∧ s.domUp 25 ∧ s.get RESET.HID_LOADER = 2 ∧ !s.loaderOff then s.loadTables d else s
  (s.showMode.recount).noteSeen

/-! ## The end of a drain -/

/-- A drain that ends may be the last of a domain being switched off. -/
def State.drainDone (s : State) (u : UnitId) (forced : Bool) : State := (s.drainEnd u forced).settleOff (u.page.domain u.inst)

/-- The work in flight of a draining unit completes within its bound (R30). -/
def execDrainComplete (u : UnitId) (s : State) : Host.Outcome State Fault Refusal :=
  if u ∈ u.page.units u.inst then done (s.drainDone u false) else done s

/-- The bound of Table 1.6 passes: the wrapper ends the rest with errors, and the unit is ISOLATED (R31). -/
def execDrainTimeout (u : UnitId) (s : State) : Host.Outcome State Fault Refusal :=
  if u ∈ u.page.units u.inst then done (s.drainDone u true) else done s

end Sys2Proof.Machine
end

