-- ==== Sys2Proof/Machine/Commits.lean ====
section
/-! DEFINITION. Shadows and commits (R510 to R513): the COMMIT of a page, its commit point, commit groups, DISCARD, the commits of
FS_CFG, FS_FALLBACK and DOM_REQ, and the end of the ledger rebuild, which applies what flywheel held (R412, R574). -/
namespace Sys2Proof.Machine

/-- The shadow of a page that differs from its active values, as a COMMIT captures it. -/
def State.captured (s : State) (p : Page) (i : Nat) : RTable :=
  s.shadow.filter (fun e => e.1.field.page = p && e.1.inst = i && s.regs.get e.1 ≠ e.2)

/-- Whether a page is one of the data path, whose commits wait in flywheel (R410, R513): every page with RWS fields but RESET,
POWER and GPIO. (DEDUCED, assumption 35.) -/
def Page.dataPath : Page → Bool
  | .reset | .power | .gpio => false
  | _ => true

/-- Whether a commit may be applied: its domain is out of reset, a unit of its page serves or is OFF, and no flywheel holds it
(R513, R522). -/
def State.commitReady (s : State) (p : Page) (i : Nat) : Bool :=
  s.domUp (p.domain i) &&
  !((p.units i).all (fun u => s.unit u = uISOLATED || s.unit u = uTEST || s.unit u = uRETIRED)) &&
  !(s.flywheel && p.dataPath)

/-- Whether the chapter of a page gives a commit point later than the COMMIT: a frame boundary of a running VO, or the frame start
of a pattern generator. -/
def State.waitsPoint (s : State) (p : Page) (i : Nat) (vals : RTable) : Bool :=
  (p = .vout && s.tgRuns i) || (p = .fabric && vals.any (fun e => commitPart e.1 = 1))

/-- The commits of a page that wait; a page has at most one. -/
def State.pendingOf (s : State) (p : Page) (i : Nat) : Option PendingCommit := s.commits.find? (fun c => c.page = p && c.inst = i)

/-- The commits that wait without those of a page. -/
def State.dropPending (s : State) (p : Page) (i : Nat) : State := { s with commits := s.commits.filter (fun c => !(c.page = p && c.inst = i)) }

/-- DOM_REQ committed: the domains are switched, and the shadow of one that is blocked stays as written (R439, R511). -/
def State.switchDomains (old s : State) (vals : RTable) : State :=
  let was := old.get POWER.DOM_REQ_ON
  let now := s.get POWER.DOM_REQ_ON
  let t := s.domReqCommitted was now
  if t.get POWER.DOM_REQ_ON = now then t
  else { t with shadow := vals.foldl (fun sh e => sh.put e.1 e.2) t.shadow }

/-- A commit is applied at its commit point, or blocked (R510, R511). -/
def State.applyCommit (s : State) (c : PendingCommit) (f : List (Nat × TakeFacts)) : State :=
  let t := (s.dropPending c.page c.inst).commitValues c.page c.inst c.master c.values f
  if c.page = .power then State.switchDomains s t c.values else t

/-- A commit that waits for nothing is applied; any other stays pending. -/
def State.tryCommit (s : State) (c : PendingCommit) (f : List (Nat × TakeFacts)) : State :=
  if c.group = 0 ∧ s.commitReady c.page c.inst ∧ !s.waitsPoint c.page c.inst c.values then s.applyCommit c f else s

/-- A COMMIT of a page (R510, R511): its shadow becomes pending, for its group or for its commit point; a second one replaces the
values and keeps the commit point. -/
def State.submitCommit (s : State) (m : Nat) (p : Page) (i : Nat) (f : List (Nat × TakeFacts)) : State :=
  let vals := s.captured p i
  let plain : State := { s with shadow := s.shadow.filter (fun e => !(e.1.field.page = p && e.1.inst = i) || vals.any (fun x => x.1 = e.1)) }
  match s.pendingOf p i with
  | some c =>
    let again := s.shadow.filter (fun e => e.1.field.page = p && e.1.inst = i)
    { s with commits := s.commits.map (fun x => if x = c then { x with master := m, values := again } else x) }
  | none =>
    if vals = [] then plain
    else
      let g := if s.get (HDR.COMMIT_MODE p) i = 1 then s.get (HDR.GROUP p) i else 0
      let c : PendingCommit := { page := p, inst := i, master := m, group := g, values := vals }
      State.tryCommit { plain with commits := plain.commits ++ [c] } c f

/-- A write of PAGE_CTRL with COMMIT set (R510). -/
def execPageCommit (m : Fin 7) (p : Page) (i : Nat) (f : List (Nat × TakeFacts)) (s : State) : Host.Outcome State Fault Refusal :=
  done (s.withCtrl m p i (fun t => t.submitCommit m p i f))

/-- A commit of FS_FALLBACK of output `o` (R202): the commit of its page. -/
def execFsFallbackCommit (m : Fin 7) (o : Fin 192) (f : TakeFacts) (s : State) : Host.Outcome State Fault Refusal :=
  done (s.withCtrl m .syncmgr 0 (fun t => t.submitCommit m .syncmgr 0 [(o.val, f)]))

/-- A commit of FS_CFG of output `o` (R202): the commit of its page. -/
def execFsCfgCommit (m : Fin 7) (o : Fin 192) (f : TakeFacts) (s : State) : Host.Outcome State Fault Refusal :=
  done (s.withCtrl m .syncmgr 0 (fun t => t.submitCommit m .syncmgr 0 [(o.val, f)]))

/-- A commit point of a page is reached: a commit that waits for it is applied, unless its domain, its units or flywheel hold it
(R510, R513, R522). -/
def execCommitPoint (p : Page) (i : Nat) (f : List (Nat × TakeFacts)) (s : State) : Host.Outcome State Fault Refusal :=
  match s.pendingOf p i with
  | none => done s
  | some c => if c.group = 0 ∧ s.commitReady p i then done (s.applyCommit c f) else done s

/-- Releases the commits of the groups named by a mask, at one instant (R512). -/
def State.releaseGroups (s : State) (g : Nat) (f : List (Nat × TakeFacts)) : State :=
  let go (c : PendingCommit) : Bool := c.group ≠ 0 && bitOf g c.group
  let freed := (s.commits.filter go).map (fun c => { c with group := 0 })
  let s := { s with commits := s.commits.map (fun c => if go c then { c with group := 0 } else c) }
  freed.foldl (fun t c => t.tryCommit c f) s

/-- A write of BUSMATRIX.GROUP_COMMIT with GO bits set (R512). -/
def execGroupCommitGo (m : Fin 7) (v : Word) (f : List (Nat × TakeFacts)) (s : State) : Host.Outcome State Fault Refusal :=
  done (s.withCheck m .busmatrix 0 0x060 v.toNat (fun t => t.releaseGroups (bitsOf v.toNat 1 15 * 2) f))

/-- The active values are copied into a page's shadow. What a pending commit will change keeps the value copied. -/
def State.discardShadow (s : State) (p : Page) (i : Nat) : State :=
  let mine (k : RegKey) : Bool := k.field.page = p && k.inst = i
  let rest := s.shadow.filter (fun e => !mine e.1)
  let copied : RTable := match s.pendingOf p i with
    | none => []
    | some c => c.values.map (fun e => (e.1, s.regs.get e.1))
  { s with shadow := copied.foldl (fun sh e => sh.put e.1 e.2) rest }

/-- A write of SHADOW_CTL with DISCARD set; its other fields take the values written (R509). -/
def execShadowDiscard (m : Fin 7) (p : Page) (i : Nat) (v : Word) (s : State) : Host.Outcome State Fault Refusal :=
  if p.instances ≤ i ∨ Page.code p ≥ 0x80 then done s
  else done (s.withCheck m p i 0x020 v.toNat (fun t =>
    let t := (t.set (HDR.READ_ACTIVE p) (bitsOf v.toNat 0 1) i).set (HDR.GROUP p) (bitsOf v.toNat 8 4) i
    if bitOf v.toNat 1 then t.discardShadow p i else t))

/-- A write of POWER.DOM_REQ (R439): into the shadow, and with COMMIT_MODE AUTO committed at once. -/
def execDomReqWrite (m : Fin 7) (v : Word) (s : State) : Host.Outcome State Fault Refusal :=
  done (s.withWrite m .power 0 0x040 v.toNat (fun t =>
    if t.get (HDR.COMMIT_MODE .power) = 2 then t.submitCommit m .power 0 [] else t))

/-! ## The rebuild -/

/-- The route entries whose paths the rebuild takes, in destination slot order (R574). -/
def State.rebuildRoutes (s : State) (f : List (Nat × LockFacts)) : State :=
  (List.range 512).foldl (fun t o =>
    if (o < 192 ∧ t.get VOUT.CFG_EN o = 1) ∨ isTap o then t.retryPath o (NTable.getD f o noFacts.lock) else t) s

/-- The commits that flywheel held are applied in the order written (R412). -/
def State.applyHeld (s : State) : State := s.commits.foldl (fun t c => t.tryCommit c []) s

/-- The interrupts that flywheel held are given to the ACTIVE supervisor (R520). -/
def State.giveHeld (s : State) : State :=
  let irq := s.evt.supHeld.foldl (fun q e => NTable.put q e.1 (NTable.getD q e.1 0 + e.2)) s.evt.supIrq
  { s with evt := { s.evt with supIrq := irq, supHeld := [] } }

/-- The ledger rebuild ends (R412): the rebuilding supervisor is ACTIVE and serves, the paths of the tables are taken, the queued
repair entries are written, held commits apply, and flywheel ends. `f` gives the leads of the paths taken. -/
def execLedgerRebuildEnd (f : List (Nat × LockFacts)) (s : State) : Host.Outcome State Fault Refusal :=
  if s.get LEDGER.STAT_REBUILDING = 0 ∨ s.get SUPERVISOR.HID_REBUILDER = 0 then done s
  else
    let k := s.get SUPERVISOR.HID_REBUILDER - 1
    let fly := s.flywheel
    let t := ((s.setSup k suACTIVE).set SUPERVISOR.STAT_ACTIVE k).set SUPERVISOR.HID_REBUILDER 0
    let t := ((t.set LEDGER.STAT_REBUILDING 0).set LEDGER.STAT_SERVING 1).set SUPERVISOR.HID_FLY 0
    let t := (((t.set SUPERVISOR.HID_HOLD 0).set SUPERVISOR.HID_BOOTFAIL 0).set SUPERVISOR.STAT_ATTEMPT 0).set SUPERVISOR.STAT_BACKOFF 0
    let t := ((((t.rebuildRoutes f).settleStills.recount).bump LEDGER.CNT_REBUILDS).raise .ledger 0 LEDGER.EV_REBUILT).flushQueue
    let t := t.applyHeld
    let t := if fly then (t.raise .supervisor 0 SUPERVISOR.EV_FLYWHEEL_OUT).logStep (supUnit 2) stFLYWHEEL_OUT 0 10 else t
    done t.showMode.giveHeld

end Sys2Proof.Machine
end

