-- ==== Sys2Proof/Machine/Nvm.lean ====
section
/-! DEFINITION. The non-volatile store: its words (R463, R464, R467), records and the choice of bank (R468, R469, R470), STORE and
the commit (R472 to R476), block protection and raw access (R477, R478), the scan of the array (R465), and counter copies. -/
namespace Sys2Proof.Machine

/-- Device's own marks: that the STORE in progress, and the queued one, were written with SNAPSHOT; that a scan waits for the commit
to end; and that the next commit goes to B with SEQ of A + 2 (Table 17.3). -/
def NVM.HID_SNAP : Field := ⟨.nvm, 0x1100, 0, 1, .const 0⟩
def NVM.HID_QSNAP : Field := ⟨.nvm, 0x1104, 0, 1, .const 0⟩
def NVM.HID_SCAN : Field := ⟨.nvm, 0x1108, 0, 1, .const 0⟩
def NVM.HID_TIE : Field := ⟨.nvm, 0x110C, 0, 1, .const 0⟩

/-- States of the store controller (NVM.STAT). -/
abbrev nvIDLE : Nat := 0
abbrev nvWAIT : Nat := 1
abbrev nvMERGE : Nat := 2
abbrev nvWRITE : Nat := 3
abbrev nvTEST : Nat := 4

/-- Results of a STORE (NVM.STAT). -/
abbrev rsDONE : Nat := 1
abbrev rsTEMP : Nat := 2
abbrev rsFAIL : Nat := 3
abbrev rsPROTECTED : Nat := 4
abbrev rsSEALED : Nat := 5
abbrev rsABORTED : Nat := 6

/-- TCTL in 0.1 degrees C. -/
def State.tctl (s : State) : Int := signedOf 16 (s.get THERMAL.STAT_TCTL)

/-- Whether writes of the array are permitted (R474). -/
def State.writesPermitted (s : State) : Bool := -400 ≤ s.tctl && s.tctl ≤ 1050

/-! ## Records -/

/-- The boot measurement M of the MEAS registers, the first the most significant (R489). -/
def State.measNow (s : State) : Nat := (List.range 12).foldl (fun n k => n * 2 ^ 32 + s.get KEYS.MEAS_M 0 k) 0

/-- The number of the `seal` branch key's root, life-cycle state and measurement (Table 18.2): distinct keys have distinct numbers. -/
def sealNumber (root state meas : Nat) : Nat := (root * 4 + state) * 2 ^ 384 + meas

/-- The number of the record authenticator's key for a measurement, with a root. -/
def State.sealFor (s : State) (meas : Nat) : Option Nat := s.keys.root.map (fun r => sealNumber r (s.get KEYS.LC_STAT_STATE) meas)

/-- The key in force. -/
def State.sealKey (s : State) : Option Nat := s.sealFor s.measNow

/-- Whether the key store cannot authenticate: sealed, or without a root (R470, R483, R492). -/
def State.sealedStore (s : State) : Bool :=
  s.get KEYS.LC_STAT_SEALED = 1 || s.get KEYS.LC_STAT_TAMPER_HOLD = 1 || s.keys.root.isNone || s.get KEYS.LC_STAT_STATE = 3

/-- Whether a record's authenticator verifies, under the key in force or that of the measurement of the last start (R470, R490). -/
def State.authentic (s : State) (r : NvmRecord) : Bool :=
  s.sealKey = some r.sealNo || (s.keys.meas.bind (fun m => s.sealFor m)) = some r.sealNo

/-- The outcome of a bank's check (R469, NVM.BANK_STAT). -/
def State.bankOutcome (s : State) (r : Option NvmRecord) : Nat :=
  match r with
  | none => 1
  | some r => if r.check ≠ 0 then r.check else if !s.sealedStore && !s.authentic r then 4 else 0

/-- Whether sequence number `a` is later than `b` (R469). -/
def laterSeq (a b : Nat) : Bool :=
  let d := (a + 2 ^ 32 - b) % 2 ^ 32
  1 ≤ d && d < 2 ^ 31

/-- Whether two sequence numbers count as equal. -/
def equalSeq (a b : Nat) : Bool := !laterSeq a b && !laterSeq b a

/-- The bank used of two valid ones, 1 A or 2 B, and whether SEQ_TIE is raised (Table 17.3). -/
def chooseValid (a b : NvmRecord) : Nat × Bool :=
  if laterSeq a.seq b.seq then (1, false)
  else if laterSeq b.seq a.seq then (2, false)
  else if a.body = b.body then (1, false)
  else if b.stamp < a.stamp then (1, false)
  else if a.stamp < b.stamp then (2, false)
  else (1, true)

/-- The fields that show the record in use. -/
def State.showRecord (s : State) : State :=
  match s.recordInUse with
  | none => (((s.set NVM.SEQ 0).set NVM.STAMP_LO_STAMP 0).set NVM.STAMP_HI_STAMP 0).set NVM.LENGTH 0
  | some r => (((s.set NVM.SEQ r.seq).set NVM.STAMP_LO_STAMP (bitsOf r.stamp 0 32)).set NVM.STAMP_HI_STAMP (bitsOf r.stamp 32 16)).set
      NVM.LENGTH r.length

/-- The bank in use is chosen at load (R469, R470, Table 17.3). -/
def State.chooseBank (s : State) : State :=
  let a := s.bankOutcome s.nvm.bankA
  let b := s.bankOutcome s.nvm.bankB
  let (v, tie) : Nat × Bool :=
    match a, b, s.nvm.bankA, s.nvm.bankB with
    | 0, 0, some x, some y => chooseValid x y
    | 0, _, _, _ => (1, false)
    | _, 0, _, _ => (2, false)
    | _, _, _, _ => (0, false)
  let s := ((s.set NVM.BANK_STAT_A_CHECK a).set NVM.BANK_STAT_B_CHECK b).set NVM.STAT_VALID v
  let s := (s.set NVM.A_SEQ_SEQ ((s.nvm.bankA.map NvmRecord.seq).getD 0)).set NVM.B_SEQ_SEQ ((s.nvm.bankB.map NvmRecord.seq).getD 0)
  let s := (s.set NVM.HID_TIE (flag tie)).set NVM.STAT_AUTH_UNVERIFIED (flag (v ≠ 0 && s.sealedStore))
  (((s.raiseIf (a ≠ 0 || b ≠ 0) .nvm 0 NVM.EV_BANK_REJECTED).raiseIf (a = 4 || b = 4) .nvm 0 NVM.EV_AUTH_FAIL).raiseIf tie
    .nvm 0 NVM.EV_SEQ_TIE).showRecord

/-- The bank that a commit writes: the one not in use, or A where neither is (R468). -/
def State.targetB (s : State) : Bool := s.get NVM.STAT_VALID = 1

/-- The state with a bank's record set, and its outcome shown. -/
def State.putBank (s : State) (toB : Bool) (r : Option NvmRecord) (check : Nat) : State :=
  if toB then State.set { s with nvm := { s.nvm with bankB := r } } NVM.BANK_STAT_B_CHECK check
  else State.set { s with nvm := { s.nvm with bankA := r } } NVM.BANK_STAT_A_CHECK check

/-- The record of the target bank no longer passes its check. -/
def State.spoilTarget (s : State) : State :=
  let r := if s.targetB then s.nvm.bankB else s.nvm.bankA
  s.putBank s.targetB (r.map (fun x => { x with check := 1 })) 1

/-- A record committed to the target bank, which becomes the bank in use (R468). -/
def State.commitRecord (s : State) (r : NvmRecord) : State :=
  let toB := s.targetB
  (((s.putBank toB (some r) 0).set NVM.STAT_VALID (if toB then 2 else 1)).set NVM.HID_TIE 0).showRecord

/-- The record in use written again under a key, with SEQ + 1 (R470, R483, R490, R493). -/
def State.reseal (s : State) (key : Option Nat) : State :=
  match s.recordInUse, key with
  | some r, some k => s.commitRecord { r with seq := (r.seq + 1) % 2 ^ 32, stamp := s.clk.uptime, sealNo := k, check := 0 }
  | _, _ => s

/-! ## STORE -/

/-- A field table as a list of numbers, to be digested. -/
def bodyNumbers (t : RTable) : List Nat := t.flatMap (fun e => e.1.code ++ [e.2])

/-- LENGTH of a body: the device alone knows its layout, within 1 to 196,600 (R467). -/
def bodyLength (t : RTable) : Nat := 1 + Config.digest (bodyNumbers t) % 196600

/-- A STORE ends with a result other than DONE: STORE_FAIL, staging kept (R472). -/
def State.storeFails (s : State) (result : Nat) : State := (s.set NVM.STAT_RESULT result).raise .nvm 0 NVM.EV_STORE_FAIL

/-- The SEQ of the next commit (R469): after the one in use, A + 2 after a tie; with no record in use a free value, which the spec
does not state. -/
def State.nextSeq (s : State) : Nat × State :=
  match s.recordInUse with
  | some r => ((r.seq + (if s.get NVM.HID_TIE = 1 then 2 else 1)) % 2 ^ 32, s)
  | none => let f := s.fresh; (f.1 % 2 ^ 32, f.2)

/-- Staging after the merged entries are taken out. -/
def State.newStart (s : State) : State := State.showStage { s with nvm := { s.nvm with after := [] } }

/-- A STORE enters MERGE at tST, and its body is fixed (R472). -/
def State.startMerge (s : State) : State :=
  let snap : Bool := s.recordInUse.isNone || s.get NVM.STAT_STAGE_OVF = 1 || s.get NVM.HID_SNAP = 1
  let body : RTable := if snap then s.recordView
    else s.nvm.staged.foldl (fun t e => t.set e.1 e.2) ((s.recordInUse.map NvmRecord.body).getD [])
  let n := s.nextSeq
  let r : NvmRecord := { seq := n.1, length := bodyLength body, stamp := 0, snapshot := snap, body := body, check := 0,
                         sealNo := (s.sealKey).getD 0 }
  let t := n.2
  let t : State := { t with nvm := { t.nvm with writing := some r } }
  ((t.set NVM.STAT_STATE nvMERGE).set NVM.PROGRESS_WORDS 0).newStart

/-- A STORE begins (R470, R472, R474, R477): refused, waiting for the temperature, or in MERGE. -/
def State.beginStore (s : State) (snap : Bool) : State :=
  let s := s.set NVM.HID_SNAP (flag snap)
  if s.sealedStore then s.storeFails rsSEALED
  else if 2 ≤ s.get NVM.CFG_PROTECT then s.storeFails rsPROTECTED
  else if !s.writesPermitted then
    ((s.set NVM.STAT_STATE nvWAIT).bump NVM.CNT_TEMP_WAITS).raise .nvm 0 NVM.EV_TEMP_WAIT
  else s.startMerge

/-- A commit or scan ends: a queued STORE begins with its own tST, else a scan that waited (R473, R479). -/
def State.storeEnds (s : State) : State :=
  let s := ({ s with nvm := { s.nvm with writing := none } }.set NVM.STAT_STATE nvIDLE)
  if s.get NVM.STAT_QUEUED = 1 then
    ((s.set NVM.STAT_QUEUED 0).set NVM.HID_QSNAP 0).beginStore (s.get NVM.HID_QSNAP = 1)
  else if s.get NVM.HID_SCAN = 1 then (s.set NVM.HID_SCAN 0).set NVM.STAT_STATE nvTEST
  else s

/-- A STORE is asked for (R472, R473): it begins, joins the one that waits or merges, or is queued behind a commit or a scan. -/
def State.askStore (s : State) (snap : Bool) : State :=
  match s.get NVM.STAT_STATE with
  | 0 => s.beginStore snap
  | 1 | 2 => s
  | _ => if s.get NVM.STAT_QUEUED = 1 then s else (s.set NVM.STAT_QUEUED 1).set NVM.HID_QSNAP (flag snap)

/-- A write of NVM.CTL with STORE set (R472). -/
def execNvmStore (m : Fin 7) (s : State) : Host.Outcome State Fault Refusal :=
  done (s.withCheck m .nvm 0 0x044 1 (fun t => t.askStore false))

/-- A write of NVM.CTL with SNAPSHOT set: it qualifies a STORE written with it (R472). -/
def execNvmSnapshot (m : Fin 7) (v : Word) (s : State) : Host.Outcome State Fault Refusal :=
  done (s.withCheck m .nvm 0 0x044 v.toNat (fun t => if bitOf v.toNat 2 ∧ bitOf v.toNat 0 then t.askStore true else t))

/-- A write of NVM.CTL with ABORT set (R473): no effect on a commit in WRITE. -/
def execNvmAbort (m : Fin 7) (s : State) : Host.Outcome State Fault Refusal :=
  done (s.withCheck m .nvm 0 0x044 2 (fun t =>
    if t.get NVM.STAT_STATE = nvWAIT then
      (((t.set NVM.STAT_QUEUED 0).set NVM.HID_QSNAP 0).storeFails rsABORTED).storeEnds
    else if t.get NVM.STAT_QUEUED = 1 then ((t.set NVM.STAT_QUEUED 0).set NVM.HID_QSNAP 0).storeFails rsABORTED
    else t))

/-- A write of NVM.CTL with DISCARD set (R473). -/
def execNvmDiscard (m : Fin 7) (s : State) : Host.Outcome State Fault Refusal :=
  done (s.withCheck m .nvm 0 0x044 8 (fun t =>
    if t.get NVM.STAT_STATE = nvIDLE then State.showStage { t with nvm := { t.nvm with staged := [], after := [] } } else t))

/-- A write of NVM.CTL with SELFTEST set (R465): the scan starts, or waits for the commit to end (R479). -/
def execNvmSelftest (m : Fin 7) (s : State) : Host.Outcome State Fault Refusal :=
  done (s.withCheck m .nvm 0 0x044 16 (fun t =>
    if t.get NVM.STAT_STATE = nvIDLE then t.set NVM.STAT_STATE nvTEST
    else if t.get NVM.STAT_STATE = nvTEST then t
    else t.set NVM.HID_SCAN 1))

/-- TCTL has been back in the window for 1 s: below 103, or above -38 degrees C (R474). A STORE that could not be
made any more is refused. -/
def execTempWindowOpen (s : State) : Host.Outcome State Fault Refusal :=
  if s.get NVM.STAT_STATE ≠ nvWAIT ∨ 1030 ≤ s.tctl ∨ s.tctl ≤ -380 then done s
  else
    let t := (s.set NVM.STAT_STATE nvIDLE).beginStore (s.get NVM.HID_SNAP = 1)
    done (if t.get NVM.STAT_STATE = nvIDLE then t.storeEnds else t)

/-- TCTL has left the range: a commit in progress is abandoned with RESULT TEMP, and the STORE waits again (R474). -/
def State.storeTooHot (s : State) : State :=
  let st := s.get NVM.STAT_STATE
  if s.writesPermitted || (st ≠ nvMERGE && st ≠ nvWRITE) then s
  else
    let t : State := { s with nvm := { s.nvm with writing := none } }
    let t := (t.set NVM.STAT_STATE nvWAIT).newStart
    if st = nvWRITE then t.storeFails rsTEMP else t

/-- The first word of a bank: 0 for A, 0x18_0000 / 8 for B. -/
def bankBase (toB : Bool) : Nat := if toB then 196608 else 0

/-- The word that step `j` of a commit writes: H0, the body, H1 to H7, H0 (R468). -/
def commitWord (toB : Bool) (len j : Nat) : Nat :=
  bankBase toB + (if j = 0 then 0 else if j ≤ len then 7 + j else if j ≤ len + 7 then j - len else 0)

/-- One word of the commit is written and verified, or fails three attempts (R468, R476). Its first word ends MERGE. -/
def execNvmWordWrite (ok : Bool) (s : State) : Host.Outcome State Fault Refusal :=
  match s.nvm.writing with
  | none => done s
  | some r =>
    let j := s.get NVM.PROGRESS_WORDS
    let t := if s.get NVM.STAT_STATE = nvMERGE then
        ({ s with nvm := { s.nvm with writing := some { r with stamp := s.clk.uptime } } }.set NVM.STAT_STATE nvWRITE).spoilTarget
      else s
    if t.get NVM.STAT_STATE ≠ nvWRITE then done s
    else if ok then
      (if j < r.length + 8 then done (t.set NVM.PROGRESS_WORDS (j + 1)) else done s)
    else
      let t := ((t.bump NVM.CNT_WRITE_FAILS).set NVM.ERR_ADDR_WORD (commitWord t.targetB r.length j)).set NVM.ERR_ADDR_KIND 1
      done (t.storeFails rsFAIL).storeEnds

/-- The final H0 is verified (R468, R472): the record is valid and in use, the merged entries leave staging, and a queued STORE
begins. -/
def execCommitWriteDone (s : State) : Host.Outcome State Fault Refusal :=
  match s.nvm.writing with
  | none => done s
  | some r =>
    if s.get NVM.STAT_STATE ≠ nvWRITE ∨ s.get NVM.PROGRESS_WORDS ≠ r.length + 8 then done s
    else
      let t := (s.set NVM.PROGRESS_WORDS (r.length + 9)).commitRecord r
      let t := ({ t with nvm := { t.nvm with staged := t.nvm.after, after := [] } }).showStage
      let t := if r.snapshot then t.set NVM.STAT_STAGE_OVF 0 else t
      done (((t.bump NVM.CNT_STORES).set NVM.STAT_RESULT rsDONE).raise .nvm 0 NVM.EV_STORE_DONE).storeEnds

/-! ## Words -/

/-- The first words of the regions of Table 17.1. -/
abbrev wLOG : Nat := 393216
abbrev wLEDGER : Nat := 458752
abbrev wKEYS : Nat := 475136
abbrev wCAL : Nat := 483328
abbrev wEND : Nat := 524288

/-- The header words H0 to H7 of a record (Table 17.2). AUTH and CRC are digests (assumption 5). -/
def NvmRecord.header (r : NvmRecord) : List Nat :=
  let h0 := if r.check = 1 then 0 else 0x4E564352 + 2 ^ 32
  let h1 := r.seq + r.length * 2 ^ 32
  let h2 := r.stamp + flag r.snapshot * 2 ^ 48
  let auth := Config.digest ([r.sealNo, 0x4E564352 + 2 ^ 32, h1, h2] ++ bodyNumbers r.body)
  let a (k : Nat) : Nat := bitsOf auth (64 * k) 64
  let crc := Config.digest ([h1, h2, auth] ++ bodyNumbers r.body) % 2 ^ 32
  [h0, h1, h2, a 0, a 1, a 2, a 3, crc]

/-- A word of a bank: its header, its body as the device lays it out (assumption 5), and 0 past it. -/
def bankWord (r : Option NvmRecord) (k : Nat) : Nat :=
  match r with
  | none => 0
  | some r => if k < 8 then r.header.getD k 0
    else if k < r.length + 8 then Config.digest (k :: bodyNumbers r.body) % 2 ^ 64 else 0

/-- The CRC-32C of an entry's first words. -/
def entryCrc (w : List Nat) : Nat := Config.digest w % 2 ^ 32

/-- The four 64-bit words of an event-log entry (Table 19.8). -/
def LogEntry.words (e : LogEntry) : List Nat :=
  let w0 := bitsOf e.stamp 0 48 + bitsOf e.seq 0 12 * 2 ^ 48 + bitsOf e.kind 0 4 * 2 ^ 60
  let w1 := if e.kind = 2 then bitsOf e.tail 0 64
    else (if e.kind < 2 then bitsOf e.source 0 11 else 0) + bitsOf e.count 0 16 * 2 ^ 16 + bitsOf e.stat 0 32 * 2 ^ 32
  let w2 := if e.kind = 2 then bitsOf e.tail 64 64 else bitsOf e.tail 0 48
  [w0, w1, w2, entryCrc [w0, w1, w2, 0] * 2 ^ 32]

/-- The four 64-bit words of a step-log entry (Table 14.8). -/
def StepEntry.words (e : StepEntry) : List Nat :=
  let w0 := bitsOf e.stamp 0 48 + bitsOf e.seq 0 16 * 2 ^ 48
  let w1 := bitsOf e.unit 0 32 + bitsOf e.sub 0 8 * 2 ^ 32 + bitsOf e.step 0 4 * 2 ^ 40 + bitsOf e.outcome 0 4 * 2 ^ 44 +
    bitsOf e.detector 0 8 * 2 ^ 48 + bitsOf e.cause 0 8 * 2 ^ 56
  let w2 := bitsOf e.slot 0 9 + bitsOf e.frames 0 16 * 2 ^ 16 + bitsOf e.detail 0 32 * 2 ^ 32
  [w0, w1, w2, entryCrc [w0, w1, w2, 0] * 2 ^ 32]

/-- A word of the array, as the decoder gives it (R463); what nothing has written reads 0 (assumption 13). The retirement map stands
behind the step log, an entry as its two words of RET_DATA. -/
def State.arrayWord (s : State) (w : Nat) : Nat :=
  if w < 196608 then bankWord s.nvm.bankA w
  else if w < wLOG then bankWord s.nvm.bankB (w - 196608)
  else if w < wLEDGER then (((NTable.find s.evt.logRing ((w - wLOG) / 4)).map LogEntry.words).getD []).getD ((w - wLOG) % 4) 0
  else if w < wLEDGER + 4 * stepLogSize then
    (((NTable.find s.repair.log ((w - wLEDGER) / 4)).map StepEntry.words).getD []).getD ((w - wLEDGER) % 4) 0
  else if w < wKEYS then
    (match s.repair.retireMap[w - wLEDGER - 4 * stepLogSize]? with
     | some e => bitsOf e.1 0 32 + bitsOf e.2.1 0 8 * 2 ^ 32 + bitsOf e.2.2 8 24 * 2 ^ 40
     | none => 0)
  else NTable.getD s.nvm.words w 0

/-! ## The decoder -/

/-- A corrected word is counted, and waits to be rewritten (R465). -/
def State.wordCorrected (s : State) (w : Nat) : State :=
  State.bump { s with nvm := { s.nvm with rewrites := s.nvm.rewrites ++ [w] } } NVM.CNT_CORRECTED

/-- An uncorrectable word is counted, recorded and raised (R465). -/
def State.noteUncorrectable (s : State) (w : Nat) : State :=
  (((s.bump NVM.CNT_UNCORRECTABLE).set NVM.ERR_ADDR_WORD w).set NVM.ERR_ADDR_KIND 0).raise .nvm 0 NVM.EV_UNCORR

/-- A record with an uncorrectable word. -/
def spoiled (r : Option NvmRecord) : Option NvmRecord := r.map (fun x => if x.check = 1 then x else { x with check := 2 })

/-- An uncorrectable word found by a scan, by its region (R465): a record fails its check, an entry is skipped, a calibration item
takes its reset value; the key region has its second copy. -/
def State.wordBad (s : State) (w : Nat) : State :=
  let s := s.noteUncorrectable w
  if w < wLOG then
    let toB : Bool := 196608 ≤ w
    let r := if toB then s.nvm.bankB else s.nvm.bankA
    (match r with
     | none => s
     | some x => if w - bankBase toB < x.length + 8 then
         (s.putBank toB (spoiled r) (if x.check = 1 then 1 else 2)).raise .nvm 0 NVM.EV_BANK_REJECTED
       else s)
  else if w < wLEDGER then { s with evt := { s.evt with logRing := NTable.erase s.evt.logRing ((w - wLOG) / 4) } }
  else if w < wLEDGER + 4 * stepLogSize then { s with repair := { s.repair with log := NTable.erase s.repair.log ((w - wLEDGER) / 4) } }
  else if w < wKEYS then
    { s with repair := { s.repair with retireMap := s.repair.retireMap.eraseIdx (w - wLEDGER - 4 * stepLogSize) } }
  else if w < wCAL then s
  else { s with nvm := { s.nvm with words := NTable.erase s.nvm.words w } }

/-- What a read of every word through the decoder finds (R465). -/
def State.scanned (s : State) (corrected bad : List Nat) : State :=
  (bad.filter (fun w => w < wEND)).foldl (fun t w => t.wordBad w) ((corrected.filter (fun w => w < wEND)).foldl (fun t w => t.wordCorrected w) s)

/-- A scan of the array ends (R465). -/
def execArrayScanEnd (corrected bad : List Nat) (s : State) : Host.Outcome State Fault Refusal :=
  if s.get NVM.STAT_STATE = nvTEST then
    done ((s.scanned corrected bad).raise .nvm 0 NVM.EV_SELFTEST_DONE).storeEnds
  else done s

/-! ## Raw access -/

/-- A raw access ends with DONE and a code. -/
def State.rawEnd (s : State) (err : Nat) : State := (s.set NVM.RAW_CTL_DONE 1).set NVM.RAW_CTL_ERR err

/-- Whether a word lies in the key region. -/
def keyWord (w : Nat) : Bool := wKEYS ≤ w && w < wCAL

/-- The data of a raw read. -/
def State.rawData (s : State) (n : Nat) : State := (s.set NVM.RAW_LO_DATA (bitsOf n 0 32)).set NVM.RAW_HI_DATA (bitsOf n 32 32)

/-- The word at RAW_ADDR through the decoder, which finds it clean (0), corrects it (1) or cannot (2) (R478). What an uncorrectable
word reads as is a free value. -/
def State.rawRead (s : State) (err : Nat) : State :=
  let w := s.get NVM.RAW_ADDR_WORD
  if keyWord w then s.rawEnd 3
  else if err = 0 then (s.rawData (s.arrayWord w)).rawEnd 0
  else if err = 1 then ((s.rawData (s.arrayWord w)).wordCorrected w).rawEnd 1
  else
    let f := s.fresh
    ((f.2.rawData f.1).noteUncorrectable w).rawEnd 2

/-- A write of NVM.RAW_CTL with READ set (R478). -/
def execRawRead (m : Fin 7) (err : Fin 3) (s : State) : Host.Outcome State Fault Refusal :=
  done (s.withCheck m .nvm 0 0x080 1 (fun t => t.rawRead err))

/-- Whether a raw write is accepted (R477, R478): in SERVICE, in calibration, outside the guarded range, while writes are
permitted. Every guarded range holds the calibration region. -/
def State.rawWritable (s : State) : Bool :=
  s.get KEYS.LC_STAT_STATE = 2 && wCAL ≤ s.get NVM.RAW_ADDR_WORD && s.get NVM.CFG_PROTECT = 0 && s.writesPermitted

/-- A write of NVM.RAW_CTL with WRITE set (R478). -/
def execRawWrite (m : Fin 7) (s : State) : Host.Outcome State Fault Refusal :=
  done (s.withCheck m .nvm 0 0x080 2 (fun t =>
    if t.rawWritable then
      let n := t.get NVM.RAW_LO_DATA + t.get NVM.RAW_HI_DATA * 2 ^ 32
      State.rawEnd { t with nvm := { t.nvm with words := NTable.putD t.nvm.words (t.get NVM.RAW_ADDR_WORD) n 0 } } 0
    else t.rawEnd 3))

/-! ## The device's own writes -/

/-- The counters that are copied: resets, repair and availability (R463). -/
def counterCopied (f : Field) : Bool :=
  f = RESET.RST_COUNT_COUNT || f = REPAIR.CNT_LADDER_STEPS || f = REPAIR.CNT_RETIREMENTS || f = REPAIR.CNT_SHEDS ||
  f = REPAIR.CNT_LINE_SWAPS || f = REPAIR.CNT_TWIN_MISMATCH || f = REPAIR.FRAMES_COUNT || f = REPAIR.DEFECTIVE_COUNT || f = REPAIR.LATE_COUNT

/-- Every COUNTER_PERIOD minutes the counters are copied to the store, where writes are permitted (R463, R474). -/
def execCounterCopy (s : State) : Host.Outcome State Fault Refusal :=
  if s.domUp 25 ∧ s.writesPermitted then
    done { s with nvm := { s.nvm with counters := s.regs.filter (fun e => counterCopied e.1.field) } }
  else done s

/-- A corrected word is rewritten in the background once writes are permitted (R465). -/
def execCorrectedRewrite (s : State) : Host.Outcome State Fault Refusal :=
  if s.domUp 25 ∧ s.writesPermitted then done { s with nvm := { s.nvm with rewrites := s.nvm.rewrites.drop 1 } } else done s

/-! ## Configuration of the store -/

/-- A write of NVM.CFG (R477): PROTECT is raised in FIELD and SERVICE, lowered only in SERVICE; a write that breaks this is not
applied. -/
def State.nvmCfgWrite (s : State) (v : Nat) : State :=
  let was := s.get NVM.CFG_PROTECT
  let now := bitsOf v 0 2
  let lc := s.get KEYS.LC_STAT_STATE
  if (was < now ∧ lc ≠ 1 ∧ lc ≠ 2) ∨ (now < was ∧ lc ≠ 2) then s.raise .nvm 0 NVM.EV_CFG_BLOCKED
  else (s.set NVM.CFG_PROTECT now).set NVM.CFG_COUNTER_PERIOD (bitsOf v 8 8)

end Sys2Proof.Machine
end

