-- ==== Sys2Proof/Machine/Keys.lean ====
section
/-! DEFINITION. The key store: branches and slots (R485 to R487), the life cycle (R482, R483), firmware images (R488 to R490, R431),
and tamper (R491 to R495). -/
namespace Sys2Proof.Machine

/-- Device's own marks: the uptime at entry of SERVICE, and the version of the image chosen. -/
def KEYS.HID_ENTRY : Field := ⟨.keys, 0x1104, 0, 48, .const 0⟩
def KEYS.HID_VER : Field := ⟨.keys, 0x1108, 0, 24, .const 0⟩

/-- Life-cycle states (KEYS.LC_STAT). -/
abbrev lcBLANK : Nat := 0
abbrev lcFIELD : Nat := 1
abbrev lcSERVICE : Nat := 2
abbrev lcRETIRED : Nat := 3

/-- States of a slot (KEYS.SLOT_STAT). -/
abbrev skEMPTY : Nat := 0
abbrev skLIVE : Nat := 1
abbrev skSTALE : Nat := 2

/-- The life-cycle state. -/
def State.lc (s : State) : Nat := s.get KEYS.LC_STAT_STATE
/-- The state of a slot. -/
def State.slot (s : State) (k : Nat) : Nat := s.get KEYS.SLOT_STAT_STATE 0 k

/-- The state with a key held, under a slot or a branch (64 up). -/
def State.putKey (s : State) (k v : Nat) : State := { s with keys := { s.keys with keys := NTable.put s.keys.keys k v } }
/-- The state with a key zeroised. -/
def State.dropKey (s : State) (k : Nat) : State :=
  { s with keys := { s.keys with keys := NTable.erase s.keys.keys k, labels := NTable.erase s.keys.labels k } }

/-- Whether a parent is LIVE: a slot that is, or a branch that the key store holds. -/
def State.parentLive (s : State) (p : Nat) : Bool := if p < 64 then s.slot p = skLIVE else (NTable.find s.keys.keys p).isSome || s.sealedStore

/-- Levels below a branch at which a slot stands (R486). -/
def State.slotDepth (s : State) : Nat → Nat → Nat
  | 0, _ => 0
  | n + 1, p => if 64 ≤ p then 0 else 1 + s.slotDepth n (s.get KEYS.SLOT_STAT_PARENT 0 p)

/-- The key that R485 derives: a digest of parent, label and state (assumption 5). -/
def State.derived (s : State) (parent label : Nat) : Nat := Config.digest [NTable.getD s.keys.keys parent 0, label, s.lc]

/-- One slot becomes STALE (R487): a link's session key is kept for its rekey. -/
def State.staleSlot (s : State) (k : Nat) : State :=
  let s := (s.set KEYS.SLOT_STAT_STATE skSTALE 0 k).raise .keys 0 KEYS.EV_STALE
  if k < 8 ∧ s.link k = lkUP then s.set MESH.HID_STALE 1 k else s

/-- Every LIVE slot below the parents named becomes STALE, level by level (R487). -/
def State.staleBelow (s : State) : Nat → List Nat → State
  | 0, _ => s
  | n + 1, parents =>
    let hit := (List.range 64).filter (fun k => s.slot k = skLIVE && parents.contains (s.get KEYS.SLOT_STAT_PARENT 0 k))
    if hit = [] then s else (hit.foldl (fun (t : State) k => t.staleSlot k) s).staleBelow n hit

/-- A STALE slot with AUTO is derived again from a LIVE parent; the links rekey by themselves (R376, R487). -/
def State.rederiveSlot (s : State) (k : Nat) : State :=
  let p := s.get KEYS.SLOT_STAT_PARENT 0 k
  if s.slot k = skSTALE ∧ s.get KEYS.SLOT_STAT_AUTO 0 k = 1 ∧ s.parentLive p ∧ !s.sealedStore ∧ bitOf (s.get KEYS.SLOT_STAT_LCMASK 0 k) s.lc then
    (s.putKey k (s.derived p (NTable.getD s.keys.labels k k))).set KEYS.SLOT_STAT_STATE skLIVE 0 k
  else s

/-- Every AUTO slot whose parent is LIVE is derived again, level by level. -/
def State.rederive (s : State) : State :=
  (List.range 4).foldl (fun t _ => ((List.range 56).map (· + 8)).foldl (fun u k => u.rederiveSlot k) t) s

/-- The public key of the attestation seed (R485): a function of it (assumption 5). -/
def State.showAttest (s : State) : State :=
  let seed := NTable.getD s.keys.keys 67 0
  (List.range 24).foldl (fun t k => t.set KEYS.ATTEST_PUB_KEY (Config.digest [seed, k]) 0 k) s

/-- The branches are derived from the root (Table 18.2), and the device's AUTO slots below them (Table 18.3). -/
def State.deriveBranches (s : State) : State :=
  match (if s.sealedStore then none else s.keys.root) with
  | none => s
  | some r =>
    let branch (k : Nat) : Nat := Config.digest ([r, k, s.lc] ++ (if k = 65 ∨ k = 67 then [s.measNow] else []))
    let t := [64, 65, 66, 67, 68].foldl (fun (t : State) k => t.putKey k (branch k)) s
    let t := t.staleBelow 5 [64, 65, 66, 67, 68]
    let t := ((t.showSlot 8 skSTALE 0x41 2 6 1).showSlot 9 skSTALE 0x44 8 6 1).showSlot 11 skSTALE 0x43 16 6 1
    t.rederive.showAttest

/-- Every slot is zeroised (R483, R492). -/
def State.zeroise (s : State) : State :=
  let s : State := { s with keys := { s.keys with keys := [], labels := [] } }
  (List.range 64).foldl (fun t k => t.showSlot k skEMPTY 0 0 0 0) s

/-- A root secret is drawn from the TRNG (R481): a free value. -/
def State.drawRoot (s : State) : State :=
  let f := s.fresh
  State.set { f.2 with keys := { f.2.keys with root := some f.1 } } KEYS.LC_STAT_ROOT_VALID 1

/-- The life-cycle state moves (R482). -/
def State.setLc (s : State) (v : Nat) : State :=
  ((s.set KEYS.LC_STAT_STATE v).bump KEYS.CNT_LC_CHANGES).raise .keys 0 KEYS.EV_LC_CHG

/-! ## Life-cycle changes -/

/-- A change of state is asked for. -/
def State.askLc (s : State) (dest : Nat) : State := s.set KEYS.HID_LCREQ (dest + 1)

/-- Whether the change asked for may run: no commit in WRITE, the temperature window but for RETIRED, and no pairing at work (R483,
Table 18.5). -/
def State.lcReady (s : State) (dest : Nat) : Bool :=
  s.domUp 25 && s.get NVM.STAT_STATE ≠ nvWRITE &&
  (dest = lcRETIRED || (s.writesPermitted && s.get MESHCTL.PAIR_BUSY = 0))

/-- A record in use is sealed again under the key of the state and measurement in force, where its old seal verified (R483). -/
def State.resealNow (s : State) (verified : Bool) : State := if verified ∧ !s.sealedStore then s.reseal s.sealKey else s

/-- Whether the record in use verifies under the key in force. -/
def State.recordVerifies (s : State) : Bool := (s.recordInUse.map (fun r => s.authentic r)).getD false

/-- Entry of RETIRED (R483): both root copies, the formation secret and the rest of the key region are zeroised, and links stay OFF. -/
def State.retireDevice (s : State) : State :=
  let s := (s.setLc lcRETIRED).zeroise
  let s : State := { s with keys := { s.keys with root := none, meas := none, rewrite := false } }
  let s := ((s.set KEYS.LC_STAT_ROOT_VALID 0).set MESHCTL.STAT_PAIRED 0).set KEYS.LC_STAT_SERVICE_LEFT 0
  linkList.foldl (fun (t : State) n => t.linkInto n lkOFF) s

/-- The change runs (R483): the record is sealed again, the new state recorded, every working key derived afresh. An AUTH SIG that
waits for it has the change to SERVICE follow (R542). -/
def State.changeLc (s : State) (dest : Nat) : State :=
  let s := s.set KEYS.HID_LCREQ 0
  if dest = lcRETIRED then s.retireDevice
  else
    let ok := s.recordVerifies
    let s := ((s.setLc dest).set KEYS.LC_STAT_SERVICE_LEFT (if dest = lcSERVICE then 480 else 0)).set KEYS.HID_ENTRY s.clk.uptime
    let s := s.showSlot 10 skEMPTY 0 0 0 0
    let s := (s.resealNow ok).deriveBranches
    if dest = lcFIELD ∧ s.console.waits = 1 then s.askLc lcSERVICE else s

/-- A life-cycle change that was asked for completes (R483). -/
def execLcChange (s : State) : Host.Outcome State Fault Refusal :=
  let req := s.get KEYS.HID_LCREQ
  if req = 0 ∨ !s.lcReady (req - 1) then done s
  else
    let t := s.changeLc (req - 1)
    done (if t.lc = lcSERVICE then
        let k := t.derived 66 10
        (t.putKey 10 k).showSlot 10 skLIVE 0x42 4 4 0
      else t)

/-- A STALE link session key is zeroised at 2 ms; at its rekey the new key has taken its place (R487). -/
def execStaleKeyZeroise (n : Fin 8) (s : State) : Host.Outcome State Fault Refusal :=
  if s.slot n = skSTALE then done ((s.dropKey n).showSlot n skEMPTY 0 0 0 0) else done s

/-- 8 hours in SERVICE ask for FIELD, and end the console's session (R482, R544). -/
def execServiceTimeout (s : State) : Host.Outcome State Fault Refusal :=
  if s.lc = lcSERVICE then
    let t := s.set KEYS.LC_STAT_SERVICE_LEFT 0
    done (if t.console.session then { t with console := { t.console with ending := ceLIMIT } } else t.askLc lcFIELD)
  else done s

/-- A write of KEYS.CTL with SERVICE_EXIT and its key (R482). -/
def execServiceExit (m : Fin 7) (v : Word) (s : State) : Host.Outcome State Fault Refusal :=
  done (s.withCheck m .keys 0 0x0B8 v.toNat (fun t =>
    if bitsOf v.toNat 16 16 = lockKey ∧ bitOf v.toNat 1 ∧ t.lc = lcSERVICE then t.askLc lcFIELD else t))

/-- A write of KEYS.CTL with SVN_COMMIT and its key: MIN_SVN rises to the running SVN (R489). -/
def execSvnCommit (m : Fin 7) (v : Word) (s : State) : Host.Outcome State Fault Refusal :=
  done (s.withCheck m .keys 0 0x0B8 v.toNat (fun t =>
    if bitsOf v.toNat 16 16 = lockKey ∧ bitOf v.toNat 0 ∧ t.get KEYS.IMAGE_STAT_SLOT ≠ 0 then
      t.set KEYS.MIN_SVN_SVN (max (t.get KEYS.MIN_SVN_SVN) (t.get KEYS.IMAGE_STAT_SVN))
    else t))

/-! ## Requests -/

/-- A request is decided. -/
def State.keyAnswer (s : State) (code : Nat) : State :=
  (((s.set KEYS.RESP_CODE code).set KEYS.RESP_DONE 1).set KEYS.RESP_BUSY 0).raise .keys 0 KEYS.EV_REQ_DONE

/-- The code of a DERIVE request (R486, R516). Where several causes hold, in the order of R486. (DESIGN CHOICE, assumption 39.) -/
def State.deriveCode (s : State) (slot : Nat) : Nat :=
  let p := s.get KEYS.REQ_IMG_PARENT
  if !bitOf (s.get KEYS.REQ_IMG_LCMASK) s.lc then 0x41
  else if 69 ≤ p ∨ !s.parentLive p then 0x42
  else if 4 ≤ s.slotDepth 5 p then 0x43
  else if slot < 16 then 0x44
  else if s.sealedStore then 0x45
  else 0

/-- The label of a request: the first LABEL_LEN bytes of the LABEL registers, with its length. -/
def State.keyLabel (s : State) : Nat :=
  let n := min 32 (s.get KEYS.REQ_IMG_LABEL_LEN)
  let l := (List.range 8).foldl (fun a k => a + s.get KEYS.LABEL 0 k * 2 ^ (32 * k)) 0
  n * 2 ^ 256 + l % 2 ^ (8 * n)

/-- A slot is derived: its key, its attributes, and everything below it STALE or derived again. -/
def State.deriveSlot (s : State) (slot : Nat) : State :=
  let p := s.get KEYS.REQ_IMG_PARENT
  let label := s.keyLabel
  let s := s.putKey slot (s.derived p label)
  let s : State := { s with keys := { s.keys with labels := NTable.put s.keys.labels slot label } }
  let s := s.showSlot slot skLIVE p (s.get KEYS.REQ_IMG_ENGINES) (s.get KEYS.REQ_IMG_LCMASK) (s.get KEYS.REQ_IMG_AUTO)
  ((s.staleBelow 5 [slot]).rederive).bump KEYS.CNT_DERIVES

/-- A write of KEYS.REQ with GO and OP DERIVE (R486). -/
def execKeysDerive (m : Fin 7) (v : Word) (s : State) : Host.Outcome State Fault Refusal :=
  done (s.withWrite m .keys 0 0x04C v.toNat (fun t =>
    if !bitOf v.toNat 31 ∨ bitsOf v.toNat 8 2 ≠ 1 ∨ t.get KEYS.RESP_BUSY = 1 then t
    else
      let slot := bitsOf v.toNat 0 6
      let p := t.get KEYS.REQ_IMG_PARENT
      let code := t.deriveCode slot
      if code = 0 then (t.deriveSlot slot).keyAnswer 0
      else
        let t := if code = 0x42 ∧ p < 64 ∧ t.slot p = skSTALE then t.bump KEYS.CNT_STALE_REFUSALS else t
        t.keyAnswer code))

/-- A write of KEYS.REQ with GO and OP DESTROY (R486, R487). -/
def execKeysDestroy (m : Fin 7) (v : Word) (s : State) : Host.Outcome State Fault Refusal :=
  done (s.withWrite m .keys 0 0x04C v.toNat (fun t =>
    if !bitOf v.toNat 31 ∨ bitsOf v.toNat 8 2 ≠ 2 ∨ t.get KEYS.RESP_BUSY = 1 then t
    else
      let slot := bitsOf v.toNat 0 6
      if slot < 16 then t.keyAnswer 0x44
      else if t.sealedStore then t.keyAnswer 0x45
      else (((t.dropKey slot).showSlot slot skEMPTY 0 0 0 0).staleBelow 5 [slot]).keyAnswer 0))

/-! ## Tamper -/

/-- Tamper-hold is in force from now on (R492): every slot is zeroised, the key store sealed, a life-cycle change dropped, and
links lose their keys and go DOWN. -/
def State.tamperHold (s : State) : State :=
  let s := s.zeroise.set KEYS.HID_LCREQ 0
  let s := (s.set KEYS.LC_STAT_SEALED 1).set KEYS.LC_STAT_TAMPER_HOLD 1
  linkList.foldl (fun (t : State) n => if t.link n = lkUP then t.loseLink n lkDOWN else t) s

/-- The root is destroyed with both copies (Table 18.4). -/
def State.loseRoot (s : State) : State :=
  (State.set { s with keys := { s.keys with root := none } } KEYS.LC_STAT_ROOT_VALID 0).set KEYS.TAMPER_STAT_ROOT_LOST 1

/-- The device in tamper-hold from the start (Table 13.2): its links are held OFF. -/
def State.tamperStart (s : State) : State :=
  let s := s.tamperHold.set MESHCTL.STAT_STATE msTAMPER
  linkList.foldl (fun (t : State) n => t.setLink n lkOFF) s

/-- A tamper alarm from an enabled source, 1 pin, 2 voltage, 3 clock (R491, R492, Table 18.4). While PD25 is not out of reset it is
latched, and acted on at the start. -/
def execTamperAlarm (source : Fin 4) (inKeyOp : Bool) (s : State) : Host.Outcome State Fault Refusal :=
  let on : Bool := match source.val with
    | 1 => s.get KEYS.TAMPER_CFG_PIN_EN = 1
    | 2 => s.get KEYS.TAMPER_CFG_VGLITCH_EN = 1
    | 3 => s.get KEYS.TAMPER_CFG_CGLITCH_EN = 1
    | _ => false
  if !on then done s
  else
    let t := (s.set RESET.BKP_STAT_TAMPER_LATCHED 1).set KEYS.TAMPER_STAT_SOURCE source
    let t := (t.bump KEYS.CNT_TAMPERS).raise .keys 0 KEYS.EV_TAMPER
    if !t.domUp 25 then done t
    else
      let t := t.set KEYS.TAMPER_STAT_IN_KEY_OP (flag inKeyOp)
      let t := if inKeyOp ∧ t.get KEYS.TAMPER_CFG_STRICT = 1 then t.loseRoot else t
      done (if t.get RESET.HID_LOADER = 0 then t.tamperStart else t.tamperHold)

/-- A BLANK device with a root becomes FIELD (R481, R482). -/
def State.firstField (s : State) : State := if s.lc = lcBLANK then s.setLc lcFIELD else s

/-- Tamper-hold ends (R493): the latch clears, the key store unseals, the record is verified, or with a root drawn afresh written
under its key, and links may train. -/
def State.tamperEnds (s : State) : State :=
  let s := (s.set RESET.BKP_STAT_TAMPER_LATCHED 0).set KEYS.TAMPER_STAT_SOURCE 0
  let s := ((s.set KEYS.TAMPER_STAT_IN_KEY_OP 0).set KEYS.TAMPER_STAT_ROOT_LOST 0).set KEYS.LC_STAT_TAMPER_HOLD 0
  let s := s.set KEYS.LC_STAT_SEALED 0
  let s := if s.lc = lcRETIRED then s
    else if s.keys.root.isNone then
      let t := ((s.drawRoot.firstField).set MESHCTL.STAT_PAIRED 0).deriveBranches
      (t.reseal t.sealKey).set NVM.STAT_AUTH_UNVERIFIED 0
    else
      let t := s.deriveBranches
      if t.recordInUse.isNone ∨ t.recordVerifies then t.set NVM.STAT_AUTH_UNVERIFIED 0 else t.raise .nvm 0 NVM.EV_AUTH_FAIL
  let s := if s.member = msTAMPER then s.set MESHCTL.STAT_STATE msALONE else s
  linkList.foldl (fun (t : State) n => if t.get MESH.LINK_CFG_EN n = 1 then t.meshCommitted n else t) s

/-- A key-region word is uncorrectable (R465, R494): the other copy serves, or with both copies of the root lost tamper-hold begins. -/
def execKeyRegionFail (word : Nat) (both : Bool) (s : State) : Host.Outcome State Fault Refusal :=
  if !s.domUp 25 ∨ !keyWord word then done s
  else
    let t := s.noteUncorrectable word
    if !both then done t
    else
      let t := (t.set RESET.BKP_STAT_TAMPER_LATCHED 1).set KEYS.TAMPER_STAT_SOURCE 4
      let t := t.loseRoot
      done (if t.get RESET.HID_LOADER = 0 then t.tamperStart else t.tamperHold)

/-- A write of KEYS.TAMPER_CFG (R491): applied in SERVICE only. -/
def State.tamperCfgWrite (s : State) (v : Nat) : State :=
  if s.lc ≠ lcSERVICE then s.raise .keys 0 KEYS.EV_CFG_BLOCKED
  else ((((s.set KEYS.TAMPER_CFG_PIN_EN (bitsOf v 0 1)).set KEYS.TAMPER_CFG_VGLITCH_EN (bitsOf v 1 1)).set KEYS.TAMPER_CFG_CGLITCH_EN
    (bitsOf v 2 1)).set KEYS.TAMPER_CFG_STRICT (bitsOf v 4 1)).set KEYS.TAMPER_CFG_CONFIRM_GPIO (bitsOf v 8 5)

/-! ## Firmware images and the start -/

/-- The manifest in a QSPI slot, 0 A, 1 B. -/
def manifestOf (f : BootFacts) (b : Nat) : Option Manifest := if b = 0 then f.manA else f.manB

/-- The manifest marked bad of a slot. -/
def State.badMark (s : State) (b : Nat) : Option Nat := if b = 0 then s.keys.badA else s.keys.badB

/-- The state with a slot's bad mark set or cleared (R489). -/
def State.setBad (s : State) (b : Nat) (h : Option Nat) : State :=
  if b = 0 then State.set { s with keys := { s.keys with badA := h } } KEYS.IMAGE_STAT_A_BAD (flag h.isSome)
  else State.set { s with keys := { s.keys with badB := h } } KEYS.IMAGE_STAT_B_BAD (flag h.isSome)

/-- The mark of a slot clears when its manifest has changed (R489). -/
def State.clearBad (s : State) (f : BootFacts) (b : Nat) : State :=
  if (s.badMark b).isSome ∧ (manifestOf f b).map Manifest.hash ≠ s.badMark b then s.setBad b none else s

/-- Whether a slot's manifest passes (R488, R489). -/
def State.slotPasses (s : State) (f : BootFacts) (b : Nat) : Bool :=
  match manifestOf f b with
  | none => false
  | some m => m.belinane && (m.maker || s.get KEYS.IMAGE_STAT_MAKER_SET = 0) && s.get KEYS.MIN_SVN_SVN ≤ m.svn && s.badMark b ≠ some m.hash

/-- The slots tried, in order (Table 15.3). -/
def bootOrder (mode : Nat) : List Nat := match mode with | 1 => [1, 0] | 2 => [0] | 3 => [1] | _ => [0, 1]

/-- No image can be run (R431): both supervisors are FAILED, and the data path runs the loaded configuration under FLYWHEEL_HOLD. -/
def State.bootFails (s : State) : State :=
  let s := (((s.noImage.supDown 0).supDown 1).noStandby).set SUPERVISOR.STAT_ACTIVE 3
  let s := (((s.set SUPERVISOR.HID_FLY 1).set SUPERVISOR.HID_HOLD 1).set SUPERVISOR.HID_REBUILDER 0).set LEDGER.STAT_REBUILDING 0
  let s := s.set SUPERVISOR.HID_BOOTFAIL 1
  (s.raise .reset 0 RESET.EV_BOOT_FAIL).showMode

/-- The image chosen: its slot, version, security version and measurement (R489). -/
def State.takeImage (s : State) (b : Nat) (m : Manifest) : State :=
  let s := ((s.set KEYS.IMAGE_STAT_SLOT (b + 1)).set RESET.BOOT_STAT_IMAGE (b + 1)).set KEYS.IMAGE_STAT_SVN m.svn
  (List.range 12).foldl (fun (t : State) k => t.set KEYS.MEAS_M (bitsOf m.hash (32 * (11 - k)) 32) 0 k) (s.set KEYS.HID_VER m.version)

/-- A first start draws the root before the first use of a key, and the device becomes FIELD (R432, R481). -/
def State.firstStart (s : State) : State :=
  if s.lc = lcBLANK ∧ s.keys.root.isNone ∧ s.get KEYS.LC_STAT_TAMPER_HOLD = 0 then (s.drawRoot.firstField).set RESET.BOOT_STAT_FIRST_START 1
  else s.set RESET.BOOT_STAT_FIRST_START 0

/-- The measurement against that of the last start (R490): a record under the old one waits to be written again. -/
def State.noteMeasurement (s : State) : State :=
  if s.sealedStore ∨ s.get KEYS.IMAGE_STAT_SLOT = 0 ∨ s.keys.meas = some s.measNow then s
  else
    let s := s.raiseIf s.keys.meas.isSome .keys 0 KEYS.EV_MEAS_CHG
    if s.recordInUse.isSome then { s with keys := { s.keys with rewrite := true } }
    else { s with keys := { s.keys with meas := some s.measNow } }

/-- The loader begins (R430): every domain already released gets its page fields. -/
def State.beginLoader (s : State) : State :=
  let s := s.set RESET.HID_LOADER 1
  if s.loaderOff then s
  else ((List.range 25).filter (fun k => s.released (k + 1) && !s.resetBit RESET.HID_FIELDS k)).foldl (fun t k => t.loadFields (k + 1)) s

/-- A COLD or BACKUP reset starts every sensor in OK but those that the retirement map shows (R459). -/
def State.sensorsRetired (s : State) : State :=
  if s.get RESET.LAST_CAUSE_CAUSE ≠ 1 then s
  else ((List.range 32).filter (fun k => s.mapped ⟨.thermal, 0, k⟩)).foldl (fun (t : State) k =>
    (t.set THERMAL.THS_STATE 2 0 k).set THERMAL.FAILED_MASK (setBit (t.get THERMAL.FAILED_MASK) k)) s

/-- Within 15 ms of PD25's release (R430 to R432, R465, R489, R490): the array is read, the first permitted image is measured, the key
store unseals, the bank is chosen, and the loader begins. -/
def execBootCheck (f : BootFacts) (s : State) : Host.Outcome State Fault Refusal :=
  if !s.domUp 25 ∨ s.get RESET.HID_LOADER ≠ 0 then done s
  else
    let t := ((s.scanned f.corrected f.bad).set RESET.HID_CTLTEST 0).sensorsRetired
    let t := if f.keyLost then
        ((t.set RESET.BKP_STAT_TAMPER_LATCHED 1).set KEYS.TAMPER_STAT_SOURCE 4).loseRoot
      else t
    let t := if t.get RESET.BKP_STAT_TAMPER_LATCHED = 1 then t.tamperStart
      else (t.set KEYS.LC_STAT_SEALED 0).set KEYS.LC_STAT_TAMPER_HOLD 0
    let t := t.firstStart
    let t := (t.clearBad f 0).clearBad f 1
    let pick := (bootOrder (t.get RESET.BOOT_STAT_BOOTMODE)).find? (fun b => t.slotPasses f b)
    let t := match pick, pick.bind (manifestOf f) with
      | some b, some m => t.takeImage b m
      | _, _ => ((t.set KEYS.IMAGE_STAT_SLOT 0).set RESET.BOOT_STAT_IMAGE 0).bootFails
    let t := if t.sealedStore then t else t.deriveBranches
    let t := t.chooseBank.noteMeasurement
    done (t.set RESET.SEQ_STAT_BANK (t.get NVM.STAT_VALID)).beginLoader

/-- The supervisor that reads its image. -/
def State.booting (s : State) : Option Nat := [0, 1].find? (fun k => s.sup k = suBOOT)

/-- A section of the image is hashed as it is read (R489): a mismatch ends the start and marks the slot bad; the last one lets the
supervisor go on, to rebuild the ledger where none is ACTIVE (R412, R431). Under the service hold of Table 15.3 nothing is read. -/
def execImageSectionHash (ok last : Bool) (s : State) : Host.Outcome State Fault Refusal :=
  let slot := s.get KEYS.IMAGE_STAT_SLOT
  match s.booting with
  | none => done s
  | some k =>
    if slot = 0 ∨ s.get RESET.BOOT_STAT_BOOTMODE = 4 ∨ !s.domUp 25 then done s
    else if !ok then
      let t := s.setBad (slot - 1) (some s.measNow)
      done (if t.get SUPERVISOR.STAT_ACTIVE = 3 then t.bootFails else ((t.setSup k suFAILED).raise .reset 0 RESET.EV_BOOT_FAIL).showMode)
    else if !last then done s
    else
      let v := s.get KEYS.HID_VER
      let t := ((s.set GLOBAL.FW_VER_PATCH (bitsOf v 0 8)).set GLOBAL.FW_VER_MINOR (bitsOf v 8 8)).set GLOBAL.FW_VER_MAJOR (bitsOf v 16 8)
      let t := t.setSup k suSYNC
      done (if t.get SUPERVISOR.STAT_ACTIVE = 3 ∧ t.get SUPERVISOR.HID_REBUILDER = 0 then
          ((t.set SUPERVISOR.HID_REBUILDER (k + 1)).set LEDGER.STAT_REBUILDING 1).showMode
        else t)

/-- The record that verified under the old measurement is written again under the new key, once writes are permitted (R490). -/
def execMeasRewrite (s : State) : Host.Outcome State Fault Refusal :=
  if !s.keys.rewrite ∨ !s.domUp 25 ∨ !s.writesPermitted ∨ s.sealedStore ∨ nvMERGE ≤ s.get NVM.STAT_STATE then done s
  else
    let t := s.resealNow s.recordVerifies
    done { t with keys := { t.keys with rewrite := false, meas := some t.measNow } }

end Sys2Proof.Machine
end

