-- ==== Sys2Proof/Machine/Power.lean ====
section
/-! DEFINITION. Resets and power: the sources of Table 15.1 and what each reaches (R420 to R423), the release order (R424 to R428),
the loader's end (R430), CONTROL retries (R421, R436), the backup domain (R437, R438), and standby and wake (R440, R441). -/
namespace Sys2Proof.Machine

/-- Device's own marks: the CAUSE of a reset that waits for a store word (R422; 0 none), and that the COLD reset asserted has yet to
be counted. -/
def RESET.HID_DEFER : Field := ⟨.reset, 0x1138, 0, 4, .const 0⟩
def RESET.HID_UNCOUNTED : Field := ⟨.reset, 0x113C, 0, 1, .const 1⟩
/-- Device's own marks: a wake during standby entry as WAKE_CAUSE will read (0 none), and the links whose EN was committed at the
entry (R441). -/
def POWER.HID_WAKE : Field := ⟨.power, 0x1100, 0, 19, .const 0⟩
def POWER.HID_LINKEN : Field := ⟨.power, 0x1104, 0, 8, .const 0⟩

/-! ## Causes -/

/-- A reset is counted under its CAUSE; one of CONTROL reach or wider is the last cause, with its uptime stamp (R437). -/
def State.noteReset (s : State) (cause : Nat) : State :=
  let s := s.countReset cause
  if cause ≤ 8 then
    ((s.set RESET.LAST_CAUSE_CAUSE cause).set RESET.CAUSE_STAMP_LO_STAMP (bitsOf s.clk.uptime 0 32)).set RESET.CAUSE_STAMP_HI_STAMP
      (bitsOf s.clk.uptime 32 16)
  else s

/-! ## DEVICE, COLD and BACKUP -/

/-- Domains in the reverse of the release order. -/
def domainsReversed : List Nat := releaseSteps.flatten.reverse.filter (fun d => d ≤ 25)

/-- The fields that a DEVICE reset does not reach (Table 15.1), with the state of hardware that has no reset: fuses, the key region,
rails, pins, the store's pointers, and the route entries, which no reset clears (R180). -/
def keptAtDevice (f : Field) : Bool :=
  match f.page with
  | .reset => 0x028 ≤ f.off && f ≠ RESET.SEQ_STAT_LOADED && f ≠ RESET.SEQ_STAT_EMPTY && f ≠ RESET.SEQ_STAT_BANK &&
      f ≠ RESET.HID_OFFREQ && f ≠ RESET.HID_DRAINOFF && f ≠ RESET.HID_CTLTEST && f ≠ RESET.HID_CTLFAILS && f ≠ RESET.HID_DEFER
  | .thermal => 0x028 ≤ f.off
  | .power => f = POWER.DOM_STAT_POWERED || f = POWER.RAIL_STAT_GOOD || f = POWER.RAIL_STAT_IO_A_3V3 || f = POWER.RAIL_STAT_IO_B_3V3
  | .nvm => f = NVM.CFG_PROTECT
  | .keys => keptInPd25 f && f.off < 0x1000
  | .gpio => f = GPIO.IN_LEVEL
  | .refmgr => f = REFMGR.HID_LOST
  | .repair => f = REPAIR.LOG_HEAD_NEXT || f = REPAIR.LOG_HEAD_SEQ
  | .rte => f.off = 0
  | _ => false

/-- The event core after a DEVICE reset: every register at its reset value and the queue empty; the log in the store stays. -/
def clearEvents (e : EventState) : EventState :=
  { stat := [], mask := [], route := [], level := 0, summary := 0, risings := [], msixTable := [], msixPending := 0,
    msixHoldoff := 0, msixSent := [], supIrq := [], supHeld := [], logQueue := [], logRing := e.logRing, logHead := e.logHead,
    logSeq := e.logSeq, logLost := 0, cntEntries := 0, cntLost := 0, cntRepeats := 0 }

/-- System time from the real-time counter (R322). -/
def State.timeFromRtc (s : State) : State :=
  { s with clk := { s.clk with sysFs := s.clk.rtcSeconds * fsPerSecond + s.clk.rtcSub * 30517578125 } }

/-- SERVICE does not outlast a DEVICE, COLD or BACKUP reset (R482): the record is sealed again for FIELD (R483). (DESIGN CHOICE,
assumption 40.) -/
def State.leaveService (s : State) : State :=
  if s.lc ≠ lcSERVICE then s
  else
    let ok := s.recordVerifies
    ((s.setLc lcFIELD).set KEYS.LC_STAT_SERVICE_LEFT 0).resealNow ok

/-- What a DEVICE reset clears beyond what its domains hold. -/
def State.clearDevice (s : State) : State :=
  let none5 : VideoState := { active := [], pend := [], fallback := [], fallbackOld := [], fades := [], held := [], timed := [], allocs := [],
                              streams := [], planes := [] }
  { s with
    regs := s.regs.filter (fun e => keptAtDevice e.1.field)
    shadow := s.shadow.filter (fun e => e.1.field.page = Page.reset)
    commits := s.commits.filter (fun c => c.page = Page.reset)
    evt := clearEvents s.evt
    video := none5
    ess := { ancFill := [], ancRead := [], samples := [] }
    buf := { conv := [], sram := [], bar2 := [] }
    ports := { fifo := [], last := [], dout := [], trim := [] }
    repair := { s.repair with queue := [], lost := 0, mismatches := [], vecFaults := [], corrections := [] } }

/-- A source that reaches everything but the backup domain is asserted (R420, R427): every domain goes into reset without a drain,
with AON. -/
def State.allReset (s : State) : State :=
  let s := s.leaveService
  let s := domainsReversed.foldl (fun t d => t.dropDomain d) s
  let s := (s.putReset RESET.HID_REL 25 false).putReset RESET.HID_WAIT 25 false
  let s := s.clearDevice
  let s := ((s.putReset RESET.HID_SRC srcSHUT false).putReset RESET.HID_SRC srcCONTROL false).putReset RESET.HID_SRC srcPD25 false
  let s := (s.putReset RESET.HID_SRC srcSTBY false).set RESET.HID_PULSE 0
  s.timeFromRtc.showHeld.noteSeen

/-- A DEVICE reset is asserted under a CAUSE. -/
def State.deviceReset (s : State) (cause : Nat) : State := (s.noteReset cause).allReset

/-- The fields of the backup domain that the RESET page shows (R437). -/
def backupField (f : Field) : Bool :=
  f = RESET.RST_COUNT_COUNT || f = RESET.LAST_CAUSE_CAUSE || f = RESET.CAUSE_STAMP_LO_STAMP || f = RESET.CAUSE_STAMP_HI_STAMP ||
  f = RESET.SHUT_REC_DATA || f.off = 0x080 || f = RESET.HID_GAPCOPY || f = RESET.HID_BKPNEW || f = RESET.HID_SRC || f = RESET.HID_UNCOUNTED

/-- A COLD reset (Table 15.1): as a DEVICE reset, with the reset controller, DOM_HOLD, the thermal controller, every domain's power
and the route entries. -/
def State.coldReset (s : State) : State :=
  let s := s.allReset.putReset RESET.HID_SRC srcCOLD true
  let s : State := { s with
    regs := s.regs.filter (fun e =>
      (e.1.field.page = Page.reset && backupField e.1.field) || (e.1.field.page = Page.power && e.1.field ≠ POWER.DOM_STAT_POWERED) ||
      e.1.field.page = Page.nvm || e.1.field.page = Page.keys || e.1.field.page = Page.gpio || e.1.field.page = Page.repair)
    shadow := []
    commits := []
    repair := { s.repair with remaps := [] }
    thermal := { tctl := [], sums := [], lastTick := 0, restarts := [] } }
  s.showHeld.noteSeen

/-- BOOTMODE and MEMBER_ID are sampled (R431). -/
def State.sampleStraps (s : State) (mode : BitVec 4) (member : BitVec 3) : State :=
  ((s.set RESET.BOOT_STAT_BOOTMODE mode.toNat).set RESET.BOOT_STAT_STRAP member.toNat).set MESHCTL.STAT_STRAP member.toNat

/-- tR (R424, R437): nothing holds AON any more, and the waiting set is made. A start after a BACKUP reset says so. -/
def State.startUp (s : State) : State :=
  if s.held 26 || s.released 26 then s.settleWait
  else
    let new : Bool := s.get RESET.HID_BKPNEW = 1
    let s := ((s.set RESET.BKP_STAT_LOST_AT_START (flag new)).set RESET.HID_BKPNEW 0).raiseIf new .reset 0 RESET.EV_BKP_LOST
    s.settleWait

/-- A DEVICE source of the device's own: asserted, and deasserted within the command. (DESIGN CHOICE, assumption 41.) -/
def State.deviceCycle (s : State) (cause : Nat) (mode : BitVec 4) (member : BitVec 3) : State :=
  ((s.deviceReset cause).sampleStraps mode member).startUp

/-- RESET_N asserts, which also ends a standby, a thermal shutdown and its lockout (R422, R441, R459). -/
def State.resetNAssert (s : State) : State :=
  ((s.deviceReset 2).putReset RESET.HID_SRC srcRESETN true).set THERMAL.RESTART_LOCKOUT 0

/-! ## CONTROL -/

/-- A CONTROL reset is asserted (R436): PD23 to PD25 are held. In flywheel it starts a new series of attempts (R411). -/
def State.controlReset (s : State) (cause : Nat) : State :=
  let s := (s.noteReset cause).putReset RESET.HID_SRC srcCONTROL true
  let s := [24, 23, 25].foldl (fun t d => t.dropDomain d) s
  (s.newSeries.showHeld).showMode

/-- Whether a store word is being written. -/
def State.storeWriting (s : State) : Bool := s.get NVM.STAT_STATE = nvWRITE

/-- A reset of a CAUSE that reaches PD25 takes effect: DEVICE sources from 2 to 6, CONTROL 7 (Table 15.1). -/
def State.resetActs (s : State) (cause : Nat) (mode : BitVec 4) (member : BitVec 3) : State :=
  if cause = 2 then s.resetNAssert
  else if cause = 7 then (s.set RESET.HID_CTLFAILS 0).controlReset 7
  else s.deviceCycle cause mode member

/-- A reset that reaches PD25 is asked for: at once, or once the word being written has ended (R422). -/
def State.askReset (s : State) (cause : Nat) (mode : BitVec 4) (member : BitVec 3) : State :=
  if s.storeWriting then s.set RESET.HID_DEFER cause else s.resetActs cause mode member

/-! ## Commands -/

/-- RESET_N low at 5 consecutive samples (R422). -/
def execResetNAssert (s : State) : Host.Outcome State Fault Refusal :=
  if s.resetBit RESET.HID_SRC srcRESETN then done s else done (s.askReset 2 0 0)

/-- The reset that waited for a store word takes effect, and HELD_NVM is raised (R422). -/
def State.heldNvm (s : State) (mode : BitVec 4) (member : BitVec 3) : State :=
  let cause := s.get RESET.HID_DEFER
  if cause = 0 then s
  else (((s.set RESET.HID_DEFER 0).resetActs cause mode member)).raise .reset 0 RESET.EV_HELD_NVM

/-- 1 us after the rising edge of RESET_N (R422, R431). -/
def execResetNRelease (mode : BitVec 4) (member : BitVec 3) (s : State) : Host.Outcome State Fault Refusal :=
  let t := if s.get RESET.HID_DEFER = 2 then s.heldNvm mode member else s
  if t.resetBit RESET.HID_SRC srcRESETN then
    done ((t.putReset RESET.HID_SRC srcRESETN false).sampleStraps mode member).startUp
  else done t

/-- The word pulse that a reset waited for ends (R422). -/
def execHeldNvm (mode : BitVec 4) (member : BitVec 3) (s : State) : Host.Outcome State Fault Refusal := done (s.heldNvm mode member)

/-- A rail below its power-good threshold (R420): COLD. It does not wait for a store word. -/
def execRailPowerFail (rail : Fin 10) (s : State) : Host.Outcome State Fault Refusal :=
  let t := s.set POWER.RAIL_STAT_GOOD (clrBit (s.get POWER.RAIL_STAT_GOOD) rail)
  if t.resetBit RESET.HID_SRC srcCOLD then done t else done (t.noteReset 1).coldReset

/-- A rail leaves its limits without falling below power-good (R445). -/
def execRailFault (_rail : Fin 10) (s : State) : Host.Outcome State Fault Refusal := done (s.raise .power 0 POWER.EV_RAIL_FAULT)

/-- Loss of VBAT and of every supply: BACKUP (R420, R437). The next power-up is a COLD reset, counted then. -/
def execSupplyLoss (s : State) : Host.Outcome State Fault Refusal :=
  let t := s.coldReset
  let t : State := { t with
    regs := t.regs.filter (fun e => e.1.field.page ≠ Page.reset && e.1.field ≠ POWER.RAIL_STAT_GOOD && e.1.field ≠ KEYS.TAMPER_STAT_SOURCE)
    clk := { uptime := 0, rtcSeconds := 0, rtcSub := 0, sysFs := 0 } }
  done (t.set KEYS.LC_STAT_TAMPER_HOLD 0).showHeld

/-- The power-good filter ends, with the levels of the two IO banks as detected: COLD is deasserted (R431, R433, R445). -/
def execPowerGoodFilterEnd (io3a io3b : Bool) (mode : BitVec 4) (member : BitVec 3) (s : State) : Host.Outcome State Fault Refusal :=
  if !s.resetBit RESET.HID_SRC srcCOLD then done s
  else
    let t := if s.get RESET.HID_UNCOUNTED = 1 then s.noteReset 1 else s
    let t := (t.set RESET.HID_UNCOUNTED 0).set POWER.RAIL_STAT_GOOD 0x3FF
    let t := (t.set POWER.RAIL_STAT_IO_A_3V3 (flag io3a)).set POWER.RAIL_STAT_IO_B_3V3 (flag io3b)
    done ((t.putReset RESET.HID_SRC srcCOLD false).sampleStraps mode member).startUp

/-- A write of RESET.CTL with DEVICE and its key (R420). -/
def execResetDevice (m : Fin 7) (v : Word) (mode : BitVec 4) (member : BitVec 3) (s : State) : Host.Outcome State Fault Refusal :=
  done (s.withCheck m .reset 0 0x048 v.toNat (fun t =>
    if bitOf v.toNat 0 ∧ bitsOf v.toNat 16 16 = lockKey then t.askReset 5 mode member else t))

/-- A write of RESET.CTL with CONTROL and its key (R420, R436). -/
def execResetControl (m : Fin 7) (v : Word) (s : State) : Host.Outcome State Fault Refusal :=
  done (s.withCheck m .reset 0 0x048 v.toNat (fun t =>
    if bitOf v.toNat 1 ∧ bitsOf v.toNat 16 16 = lockKey then t.askReset 7 0 0 else t))

/-- PD25 fails its self-test at the end of a CONTROL reset (R421): Charon repeats the reset twice; the third failure raises PD25_FAIL
and escalates, or leaves PD25 held with the device in flywheel. -/
def execControlRetry (mode : BitVec 4) (member : BitVec 3) (s : State) : Host.Outcome State Fault Refusal :=
  if s.get RESET.HID_CTLTEST = 0 ∨ !s.domUp 25 then done s
  else
    let n := s.get RESET.HID_CTLFAILS + 1
    let t := (s.set RESET.HID_CTLTEST 0).set RESET.HID_CTLFAILS n
    if n < 3 then done (t.controlReset 8)
    else
      let t := t.raise .reset 0 RESET.EV_PD25_FAIL
      if t.get RESET.CFG_ESCALATE_EN = 1 then done (t.deviceCycle 4 mode member)
      else
        let t := t.putReset RESET.HID_SRC srcPD25 true
        done ([24, 23, 25].foldl (fun u d => u.dropDomain d) t).enterFlywheel.showHeld

/-- Domains newly held by DOM_HOLD or DOM_PULSE are reset, one after the other. -/
def State.resetDomains (s : State) (mask : Nat) : State :=
  (domainsReversed.filter (fun d => d ≤ 22 && bitOf mask (d - 1))).foldl (fun t d => t.dropDomain d) s

/-- A write of RESET.DOM_HOLD (R423): the domains named are held; those freed join the waiting set. -/
def execDomHoldWrite (m : Fin 7) (v : Word) (s : State) : Host.Outcome State Fault Refusal :=
  done (s.withWrite m .reset 0 0x04C v.toNat (fun t =>
    let news := maskOff (bitsOf v.toNat 0 22) (s.get RESET.DOM_HOLD_MASK)
    let t := if news = 0 then t else (t.countReset 9).resetDomains news
    t.settleWait))

/-- The CAUSE of a domain pulse: 0xA where the ACTIVE supervisor writes it, else 0x9 (Table 15.1). -/
def State.pulseCause (s : State) (m : Nat) : Nat := if s.get SUPERVISOR.STAT_ACTIVE < 2 ∧ m = supMaster (s.get SUPERVISOR.STAT_ACTIVE) then 10 else 9

/-- The repair ladder's step on each domain that the ACTIVE supervisor resets: its first unit, and the domain as DETAIL (R393). -/
def State.logDomains (s : State) (mask : Nat) : State :=
  ((List.range 22).filter (fun k => bitOf mask k)).foldl (fun t k =>
    t.logStep ((domainUnits (k + 1)).headD (supUnit 2)) stRESET_DOMAIN 0 0 0 noSlot 0 (k + 1)) s

/-- A write of RESET.DOM_PULSE (R423). -/
def execDomPulse (m : Fin 7) (v : Word) (s : State) : Host.Outcome State Fault Refusal :=
  done (s.withCheck m .reset 0 0x050 v.toNat (fun t =>
    let mask := bitsOf v.toNat 0 22
    if mask = 0 then t
    else
      let c := t.pulseCause m
      let t := (t.countReset c).set RESET.HID_PULSE (t.get RESET.HID_PULSE ||| mask)
      let t := if c = 10 then t.logDomains mask else t
      (t.resetDomains mask).settleWait))

/-- 1,024 cycles after their start the pulses named end: bits 21 to 0 those of DOM_PULSE, bit 31 that of a CONTROL reset (R423, R426,
R436). -/
def execDomPulseEnd (v : Word) (s : State) : Host.Outcome State Fault Refusal :=
  let t := s.set RESET.HID_PULSE (maskOff (s.get RESET.HID_PULSE) (bitsOf v.toNat 0 22))
  let t := if bitOf v.toNat 31 ∧ t.resetBit RESET.HID_SRC srcCONTROL then
      (t.putReset RESET.HID_SRC srcCONTROL false).set RESET.HID_CTLTEST 1
    else t
  done t.settleWait

/-- One domain at its release instant: switched on where it is off, with its reset deasserted 16 us later (R428). -/
def State.releaseDomain (s : State) (d : Nat) : State :=
  let s := s.putReset RESET.HID_WAIT (d - 1) false
  if d = 26 ∨ s.domPowered d then s.startDomain d
  else
    ((s.set POWER.DOM_STAT_POWERED (setBit (s.get POWER.DOM_STAT_POWERED) (d - 1))).putReset RESET.HID_PON (d - 1) true).raise
      .power 0 POWER.EV_DOM_CHG

/-- The earliest step that has a waiting domain is released (R426); the last one ends the sequence. -/
def execReleaseStep (s : State) : Host.Outcome State Fault Refusal :=
  let waits (l : List Nat) : List Nat := l.filter (fun d => s.resetBit RESET.HID_WAIT (d - 1))
  match releaseSteps.find? (fun l => waits l ≠ []) with
  | none => done s
  | some l =>
    let t := ((waits l).foldl (fun t d => t.releaseDomain d) s).showHeld
    done (t.raiseIf (t.get RESET.HID_WAIT = 0) .reset 0 RESET.EV_SEQ_DONE)

/-- 16 us after it was switched on, a domain's reset deasserts (R428). -/
def execDomainResetDeassert (d : Fin 25) (s : State) : Host.Outcome State Fault Refusal :=
  if s.resetBit RESET.HID_PON d then done (s.startDomain (d + 1)) else done s

/-- The loader has finished (R430): the tables of every released domain, and LOADED; without a valid bank EMPTY and CFG_EMPTY. -/
def execLoaderDone (s : State) : Host.Outcome State Fault Refusal :=
  if s.get RESET.HID_LOADER ≠ 1 then done s
  else
    let t := s.set RESET.HID_LOADER 2
    let empty : Bool := t.get NVM.STAT_VALID = 0 && !t.loaderOff
    let t := if t.loaderOff then t
      else ((List.range 25).filter (fun k => t.released (k + 1) && !t.resetBit RESET.HID_TABLES k)).foldl (fun u k => u.loadTables (k + 1)) t
    let t := (t.set RESET.SEQ_STAT_LOADED 1).set RESET.SEQ_STAT_EMPTY (flag empty)
    done (t.raiseIf empty .reset 0 RESET.EV_CFG_EMPTY).noteSeen

/-- The shutdown record is copied to the store once writes are permitted (R438). -/
def execShutRecCopy (s : State) : Host.Outcome State Fault Refusal :=
  if s.get RESET.BKP_STAT_SHUT_REC = 1 ∧ s.domUp 25 ∧ s.writesPermitted then
    let rec8 := s.regs.filter (fun e => e.1.field = RESET.SHUT_REC_DATA)
    let kept := s.nvm.counters.filter (fun e => e.1.field ≠ RESET.SHUT_REC_DATA)
    let t : State := { s with nvm := { s.nvm with counters := rec8.foldl (fun l e => l.put e.1 e.2) kept } }
    done ((t.set RESET.BKP_STAT_SHUT_REC 0).raise .reset 0 RESET.EV_SHUT_REC)
  else done s

/-- XTAL32 is absent, or back (R438). -/
def execXtal32Fail (absent : Bool) (s : State) : Host.Outcome State Fault Refusal := done (s.set RESET.BKP_STAT_XTAL32_FAIL (flag absent))

/-- VBAT falls below 1.8 V, or rises above it (R444). -/
def execVbatLow (low : Bool) (s : State) : Host.Outcome State Fault Refusal := done (s.set RESET.BKP_STAT_VBAT_LOW (flag low))

/-! ## Standby -/

/-- The links whose EN is committed, as a mask. -/
def State.linksEnabled (s : State) : Nat := linkList.foldl (fun n k => putBit n k (s.get MESH.LINK_CFG_EN k = 1)) 0

/-- A write of POWER.STBY with ENTER and its key (R440): a MEMBER begins to leave, and every VO stops at its next frame boundary. -/
def execStbyEnter (m : Fin 7) (v : Word) (s : State) : Host.Outcome State Fault Refusal :=
  done (s.withWrite m .power 0 0x04C v.toNat (fun t =>
    if !bitOf v.toNat 0 ∨ bitsOf v.toNat 16 16 ≠ lockKey ∨ t.get POWER.STBY_BUSY = 1 then t
    else
      let t := ((t.set POWER.STBY_BUSY 1).set POWER.HID_WAKE 0).set POWER.HID_LINKEN t.linksEnabled
      if t.member = msMEMBER then (t.set MESHCTL.STAT_STATE msLEAVING).set MESHCTL.LEAVE_DONE 0 else t))

/-- Whether standby entry may switch domains off: the commit has completed, the device has left, and no VO runs (R440). -/
def State.stbyReady (s : State) : Bool :=
  s.get POWER.STBY_BUSY = 1 && s.get NVM.STAT_STATE ≠ nvMERGE && s.get NVM.STAT_STATE ≠ nvWRITE &&
  s.member ≠ msMEMBER && s.member ≠ msLEAVING && (List.range 192).all (fun o => !s.tgRuns o)

/-- A wake with its WAKE_CAUSE word: a DEVICE reset under CAUSE 0x6 (R441). -/
def State.wake (s : State) (word : Nat) (mode : BitVec 4) (member : BitVec 3) : State :=
  let s := s.deviceCycle 6 mode member
  ((s.set POWER.WAKE_CAUSE_SOURCE (bitsOf word 0 2)).set POWER.WAKE_CAUSE_GPIO (bitsOf word 8 5)).set POWER.WAKE_CAUSE_LINK (bitsOf word 16 3)

/-- One step per GAP: the last step of the release order with a powered domain is switched off; after PD22 standby is reached, and
a wake that came meanwhile acts (R440, R443). -/
def execStandbyDomainOff (mode : BitVec 4) (member : BitVec 3) (s : State) : Host.Outcome State Fault Refusal :=
  if !s.stbyReady then done s
  else
    let powered (l : List Nat) : List Nat := l.filter (fun d => d ≤ 25 && s.domPowered d)
    let t := match releaseSteps.reverse.find? (fun l => powered l ≠ []) with
      | none => s
      | some l => (powered l).foldl (fun t d => t.powerOff d) s
    if (List.range 25).any (fun k => t.domPowered (k + 1)) then done t
    else
      let t := ((t.putReset RESET.HID_SRC srcSTBY true).set POWER.STBY_BUSY 0).showHeld
      let w := t.get POWER.HID_WAKE
      done (if w = 0 then t else t.wake w mode member)

/-- A wake event (R441, R443): it acts in standby, and waits for the end of an entry. -/
def State.wakeEvent (s : State) (word : Nat) (mode : BitVec 4) (member : BitVec 3) : State :=
  if s.resetBit RESET.HID_SRC srcSTBY then s.wake word mode member
  else if s.get POWER.STBY_BUSY = 1 ∧ s.get POWER.HID_WAKE = 0 then s.set POWER.HID_WAKE word
  else s

/-- A rising edge on WAKE, high for 1 us (R441). -/
def execWakeEdge (mode : BitVec 4) (member : BitVec 3) (s : State) : Host.Outcome State Fault Refusal :=
  if s.get POWER.STBY_WAKE_PIN_EN = 1 then done (s.wakeEvent 1 mode member) else done s

/-- A rising edge on a GPIO named in WAKE_GPIO (R441). -/
def execWakeGpio (g : Fin 32) (mode : BitVec 4) (member : BitVec 3) (s : State) : Host.Outcome State Fault Refusal :=
  if bitOf (s.get POWER.WAKE_GPIO_MASK) g then done (s.wakeEvent (2 + 256 * g) mode member) else done s

/-- A signal for 10 us on lane 0 of an enabled link (R441). -/
def execLinkWake (n : Fin 8) (mode : BitVec 4) (member : BitVec 3) (s : State) : Host.Outcome State Fault Refusal :=
  if s.get POWER.STBY_LINK_WAKE_EN = 1 ∧ bitOf (s.get POWER.HID_LINKEN) n then done (s.wakeEvent (3 + 65536 * n) mode member) else done s

end Sys2Proof.Machine
end

