-- ==== Sys2Proof/Machine/Thermal.lean ====
section
/-! DEFINITION. The thermal controller: sensors and the controlling temperature (R446 to R449), the throttle ladder (R450 to R456),
shutdown and restart (R457 to R459). -/
namespace Sys2Proof.Machine

/-- Device's own marks, by sensor: consecutive deviating samples (R447), and a self-test that software asked for (R448). -/
def THERMAL.HID_DEV : Field := ⟨.thermal, 0x1108, 0, 2, .const 0⟩
def THERMAL.HID_TESTING : Field := ⟨.thermal, 0x110C, 0, 1, .const 0⟩
/-- Device's own marks: consecutive samples above 2 degrees C a second (R452), and the plane switched off at T4 (1 A, 2 B). -/
def THERMAL.HID_RISING : Field := ⟨.thermal, 0x1110, 0, 9, .const 0⟩
def THERMAL.HID_PLANEOFF : Field := ⟨.thermal, 0x1114, 0, 2, .const 0⟩

/-- States of a sensor (THERMAL.THS). -/
abbrev thOK : Nat := 0
abbrev thSUSPECT : Nat := 1
abbrev thFAILED : Nat := 2

/-- The sensors next to a sensor in its row and its column, four rows of eight (R447). -/
def sensorNeighbours (k : Nat) : List Nat :=
  (if k % 8 = 0 then [] else [k - 1]) ++ (if k % 8 = 7 then [] else [k + 1]) ++ (if k < 8 then [] else [k - 8]) ++
  (if 24 ≤ k then [] else [k + 8])

/-- The greatest of a list of temperatures, if there is one. -/
def hottest (l : List Int) : Option Int :=
  match l with
  | [] => none
  | x :: t => some (t.foldl max x)

/-- A sensor's state. -/
def State.sensor (s : State) (k : Nat) : Nat := s.get THERMAL.THS_STATE 0 k
/-- A sensor's learned offset in 0.1 degrees C. -/
def State.offset (s : State) (k : Nat) : Int := signedOf 16 (s.get THERMAL.THS_OFFSET 0 k)

/-- The reading of a sensor and the model's prediction for it. -/
def sensorReading (f : SensorFacts) (k : Nat) : Int := f.readings.getD k 0
def sensorModel (f : SensorFacts) (k : Nat) : Int := f.models.getD k 0

/-- The greatest reading of a sensor's neighbours in OK. -/
def State.okNeighbours (s : State) (f : SensorFacts) (k : Nat) : Option Int :=
  hottest (((sensorNeighbours k).filter (fun j => s.sensor j = thOK)).map (sensorReading f))

/-- A sensor's estimate (R448): its neighbours in OK, else the model, and a guard of 3 degrees C. -/
def State.estimate (s : State) (f : SensorFacts) (k : Nat) : Int :=
  match s.okNeighbours f k with
  | some t => t + s.offset k + 30
  | none => sensorModel f k + 30

/-- The value in use of a sensor, and whether it is an estimate (R446). -/
def State.inUse (s : State) (f : SensorFacts) (k : Nat) : Int × Bool :=
  let e := s.estimate f k
  match s.sensor k with
  | 0 => (sensorReading f k, false)
  | 1 => if sensorReading f k < e then (e, true) else (sensorReading f k, false)
  | _ => (e, true)

/-- Whether two temperatures differ by more than 8 degrees C. -/
def farApart (a b : Int) : Bool := 80 < a - b || 80 < b - a

/-- Whether a reading deviates from both predictions of R447. -/
def State.deviates (s : State) (f : SensorFacts) (k : Nat) : Bool :=
  farApart (sensorReading f k) (sensorModel f k) &&
  (match hottest ((sensorNeighbours k).map (sensorReading f)) with
   | some t => farApart (sensorReading f k) (t + s.offset k)
   | none => true)

/-- A sensor's state shown, with the masks of FAILED and SUSPECT sensors. -/
def State.setSensor (s : State) (k v : Nat) : State :=
  let s := s.set THERMAL.THS_STATE v 0 k
  let s := s.set THERMAL.FAILED_MASK (putBit (s.get THERMAL.FAILED_MASK) k (v = thFAILED))
  s.set THERMAL.SUSPECT_MASK_MASK (putBit (s.get THERMAL.SUSPECT_MASK_MASK) k (v = thSUSPECT))

/-- One sensor at a sample: its model prediction, the deviation count of a sensor in OK, SUSPECT at the third (R447). -/
def State.watchSensor (s : State) (f : SensorFacts) (k : Nat) : State :=
  let s := s.set THERMAL.THS_MODEL (ofSigned 16 (sensorModel f k)) 0 k
  if s.sensor k ≠ thOK then s
  else if !s.deviates f k then s.set THERMAL.HID_DEV 0 0 k
  else if s.get THERMAL.HID_DEV 0 k < 2 then s.set THERMAL.HID_DEV (s.get THERMAL.HID_DEV 0 k + 1) 0 k
  else ((s.set THERMAL.HID_DEV 0 0 k).setSensor k thSUSPECT).raise .thermal 0 THERMAL.EV_SUSPECT

/-- A sensor's value in use shown, and its deviation from its neighbours added to this second's sums while it is in OK. -/
def State.showSensor (s : State) (f : SensorFacts) (k : Nat) : State :=
  let v := s.inUse f k
  let s := (s.set THERMAL.THS_TEMP (ofSigned 16 v.1) 0 k).set THERMAL.THS_ESTIMATE (flag v.2) 0 k
  match s.sensor k, s.okNeighbours f k with
  | 0, some t =>
    let l := NTable.getD s.thermal.sums k [(0, 0)]
    let h := l.headD (0, 0)
    { s with thermal := { s.thermal with sums := NTable.put s.thermal.sums k ((h.1 + (sensorReading f k - t), h.2 + 1) :: l.drop 1) } }
  | _, _ => s

/-- The sensor with the greatest value in use, the first among equals. -/
def hotSensor (v : Nat → Int) : Nat := (List.range 32).foldl (fun b k => if v b < v k then k else b) 0

/-- The rate of rise over the last 100 ms in 0.01 degrees C a second (R452); 0 until 100 ms have been sampled. -/
def riseRate (now : Int) (past : List Int) : Int :=
  match past[99]? with
  | some t => max (-32768) (min 32767 ((now - t) * 100))
  | none => 0

/-! ## The ladder -/

/-- The threshold of a stage in 0.1 degrees C (Table 16.1). -/
def stageThreshold : Nat → Int
  | 1 => 1000 | 2 => 1030 | 3 => 1060 | 4 => 1090 | 5 => 1120 | _ => 1180

/-- T4 is entered (R454): SEL leaves the plane, its twin halves are shed, its P0 sources move one at a time. Nothing further
happens where a plane is already out of service. -/
def State.emptyPlane (s : State) : State :=
  let pl := if s.get THERMAL.CFG_T4_PLANE = 1 then 0 else 1
  if !(s.planeUp 0 && s.planeUp 1) then s
  else
    let s := (s.set FABRIC.HID_EMPTY 1 pl).selAway ⟨.fabric, pl, 0⟩ (fun _ half => half = pl)
    let twins := s.video.active.filter (fun e => e.1 < 192 && e.2.twin && e.2.plane = 2)
    (twins.foldl (fun (t : State) e => if t.get VOUT.HID_SHED e.1 = 0 then t.set VOUT.HID_SHED 1 e.1 else t) s).planeMoves

/-- A stage is entered (R450): counted, STAGE_UP, and what it starts. The actions of T1, T2 and T5 follow from the stage itself. -/
def State.enterStage (s : State) (k : Nat) : State :=
  let s := ((s.set THERMAL.STAT_STAGE k).bump THERMAL.CNT_STAGE_ENTRIES).raise .thermal 0 THERMAL.EV_STAGE_UP
  if k = 3 then
    let t : State := { s with thermal := { s.thermal with lastTick := s.tctl } }
    (t.set THERMAL.HID_T3WAIT 1).shedOne (fun _ _ => true)
  else if k = 4 then s.emptyPlane
  else s

/-- Every stage whose threshold the sample reaches, in turn (R450). -/
def State.climb (s : State) : State :=
  [1, 2, 3, 4, 5].foldl (fun (t : State) k =>
    let t := if k = 1 ∧ 1000 ≤ t.tctl then t.set THERMAL.STAT_RISE_ACTIVE 0 else t
    if stageThreshold k ≤ t.tctl ∧ t.get THERMAL.STAT_STAGE < k then t.enterStage k else t) s

/-- The critical stage: CRITICAL at 112 degrees C, until below 110 (R456). -/
def State.critical (s : State) : State :=
  let s := s.set THERMAL.STAT_CRIT (flag (decide (1120 ≤ s.tctl)))
  if 1120 ≤ s.tctl ∧ s.get THERMAL.HID_CRIT = 0 then (s.set THERMAL.HID_CRIT 1).raise .thermal 0 THERMAL.EV_CRITICAL
  else if s.tctl < 1100 then s.set THERMAL.HID_CRIT 0
  else s

/-- The plane emptied or off at T4 is wanted again at once where the other one is lost (Table 16.3). -/
def State.rescuePlane (s : State) : State :=
  [0, 1].foldl (fun (t : State) pl =>
    if t.planeUp (1 - pl) then t
    else
      let t := t.set FABRIC.HID_EMPTY 0 pl
      if t.get THERMAL.HID_PLANEOFF = pl + 1 then (t.set THERMAL.HID_PLANEOFF 0).switchOn (7 + pl) else t) s

/-! ## Shutdown -/

/-- Thermal restarts in the last hour. -/
def State.restartsLately (s : State) : List Nat := recent s.clk.uptime (60 * minutePeriods) s.thermal.restarts

/-- The words of the shutdown record (Table 16.2). -/
def State.shutdownRecord (s : State) : List Nat :=
  let k := s.get THERMAL.STAT_HOT
  let w0 := k + 32 * s.get THERMAL.THS_ESTIMATE 0 k + 65536 * s.get THERMAL.THS_TEMP 0 k
  let w1 := bitsOf s.clk.uptime 0 32
  let w2 := bitsOf s.clk.uptime 32 16 + 65536 * s.get THERMAL.STAT_STAGE + 2 ^ 24 * flag s.storeWriting
  let w3 := s.get THERMAL.FAILED_MASK
  let w4 := s.get THERMAL.RISE_RATE_RATE + 65536 * s.get THERMAL.THS_MODEL 0 k
  let w5 := bitsOf s.sysSeconds 0 32
  let w6 := min 3 s.restartsLately.length
  [w0, w1, w2, w3, w4, w5, w6, Config.digest [w0, w1, w2, w3, w4, w5, w6] % 2 ^ 32]

/-- Thermal shutdown (R457): the record is written to BKP, a commit is abandoned, and PD1 to PD25 are switched off without a drain. -/
def State.shutDown (s : State) : State :=
  let w := s.shutdownRecord
  let s := ((List.range 8).foldl (fun (t : State) k => t.set RESET.SHUT_REC_DATA (w.getD k 0) 0 k) s).set RESET.BKP_STAT_SHUT_REC 1
  let s := s.putReset RESET.HID_SRC srcSHUT true
  let s := domainsReversed.foldl (fun (t : State) d => t.powerOff d) s
  ((s.set RESET.HID_PON 0).set RESET.HID_WAIT (s.get RESET.HID_WAIT / 2 ^ 25 * 2 ^ 25)).showHeld

/-- Every 1 ms the sensors are sampled (R446 to R457). -/
def execSensorSample (f : SensorFacts) (s : State) : Host.Outcome State Fault Refusal :=
  let t := (List.range 32).foldl (fun t k => t.watchSensor f k) s
  let t := (List.range 32).foldl (fun t k => t.showSensor f k) t
  let v (k : Nat) : Int := signedOf 16 (t.get THERMAL.THS_TEMP 0 k)
  let hot := hotSensor v
  let now := v hot
  let rate := riseRate now t.thermal.tctl
  let t := ((t.set THERMAL.STAT_HOT hot).set THERMAL.STAT_TCTL (ofSigned 16 now)).set THERMAL.RISE_RATE_RATE (ofSigned 16 rate)
  let t := t.set THERMAL.HID_RISING (if 200 < rate then min 500 (t.get THERMAL.HID_RISING + 1) else 0)
  let t : State := { t with thermal := { t.thermal with tctl := (now :: t.thermal.tctl).take 100 } }
  let t := (t.climb.critical.rescuePlane).storeTooHot
  done (if stageThreshold 6 ≤ now ∧ !t.resetBit RESET.HID_SRC srcSHUT then t.shutDown else t)

/-- A sensor's two-point self-test ends (R448, R449). -/
def execSensorSelftestEnd (k : Fin 32) (pass : Bool) (s : State) : Host.Outcome State Fault Refusal :=
  if s.sensor k ≠ thSUSPECT ∧ s.get THERMAL.HID_TESTING 0 k = 0 then done s
  else
    let t := s.set THERMAL.HID_TESTING 0 0 k
    if pass then done (t.setSensor k thOK)
    else if t.sensor k = thFAILED then done t
    else
      let t := ((t.setSensor k thFAILED).bump THERMAL.CNT_SENSOR_FAILS).raise .thermal 0 THERMAL.EV_SENSOR_FAIL
      done (if t.get THERMAL.STAT_HOT = k.val ∧ t.get THERMAL.STAT_STAGE ≠ 0 then t.set THERMAL.STAT_HOLD 1 else t)

/-- A write of THERMAL.SENSOR_CTL with TEST set (R448). -/
def execSensorTest (m : Fin 7) (v : Word) (s : State) : Host.Outcome State Fault Refusal :=
  done (s.withWrite m .thermal 0 0x054 v.toNat (fun t => if bitOf v.toNat 8 then t.set THERMAL.HID_TESTING 1 0 (bitsOf v.toNat 0 5) else t))

/-- The sum and count over the seconds held. -/
def sumsTotal (l : List (Int × Nat)) : Int × Nat := l.foldl (fun a e => (a.1 + e.1, a.2 + e.2)) (0, 0)

/-- A sensor's learned offset after a second (R447): the mean over the last 60 s in which it was in OK. -/
def State.learnOffset (s : State) (k : Nat) : State :=
  match NTable.find s.thermal.sums k with
  | none => s
  | some l =>
    let t := sumsTotal l
    let s := if t.2 = 0 then s else s.set THERMAL.THS_OFFSET (ofSigned 16 (t.1 / (t.2 : Int))) 0 k
    if (l.headD (0, 0)).2 = 0 then s
    else { s with thermal := { s.thermal with sums := NTable.put s.thermal.sums k (((0, 0) :: l).take 60) } }

/-- Once a second each learned offset is updated (R447). -/
def execOffsetUpdate (s : State) : Host.Outcome State Fault Refusal := done ((List.range 32).foldl (fun t k => t.learnOffset k) s)

/-- Whether the stage may fall: below its threshold less HYST, or for a stage entered by the rate of rise alone below 0.5 degrees C a
second and 98 degrees C; not while HOLD is set (R449, R451). -/
def State.mayLower (s : State) : Bool :=
  let st := s.get THERMAL.STAT_STAGE
  st ≠ 0 && s.get THERMAL.STAT_HOLD = 0 &&
  (if s.get THERMAL.STAT_RISE_ACTIVE = 1 then decide (signedOf 16 (s.get THERMAL.RISE_RATE_RATE) < 50) && decide (s.tctl < 980)
   else decide (s.tctl < stageThreshold st - 10 * (s.get THERMAL.CFG_HYST : Int)))

/-- Below T4 the plane that was switched off is powered on again (R454); one still being emptied is rebuilt when its move ends. -/
def State.planeOnAgain (s : State) : State :=
  let k := s.get THERMAL.HID_PLANEOFF
  if k = 0 then s
  else
    let s := s.set THERMAL.HID_PLANEOFF 0
    if bitOf (s.get POWER.DOM_REQ_ON) (5 + k) then s.switchOn (6 + k) else s

/-- The stage falls by one after its dwell (R451). -/
def execStageLower (s : State) : Host.Outcome State Fault Refusal :=
  if !s.mayLower then done s
  else
    let st := s.get THERMAL.STAT_STAGE
    let t := ((s.set THERMAL.STAT_STAGE (st - 1)).set THERMAL.STAT_RISE_ACTIVE 0).raise .thermal 0 THERMAL.EV_STAGE_DOWN
    done (if st = 4 then t.planeOnAgain else t)

/-- 10 s after the sensor that set TCTL failed (R449). -/
def execStageHoldEnd (s : State) : Host.Outcome State Fault Refusal := done (s.set THERMAL.STAT_HOLD 0)

/-- 500 samples in a row above 2 degrees C a second raise RISE and enter T1, where no stage is in force (R452). -/
def execRiseEnter (s : State) : Host.Outcome State Fault Refusal :=
  if s.get THERMAL.HID_RISING < 500 then done s
  else
    let t := if s.get THERMAL.STAT_STAGE ≠ 0 then s
      else ((s.enterStage 1).set THERMAL.STAT_RISE_ACTIVE 1).bump THERMAL.CNT_RISE_ENTRIES
    done (t.raise .thermal 0 THERMAL.EV_RISE)

/-- Each second at T3 or above one more item is shed, unless TCTL fell by 0.5 degrees C over it (R453). -/
def execT3ShedTick (s : State) : Host.Outcome State Fault Refusal :=
  if s.get THERMAL.STAT_STAGE < 3 then done s
  else
    let t : State := { s with thermal := { s.thermal with lastTick := s.tctl } }
    done (if s.tctl + 5 ≤ s.thermal.lastTick then t else t.shedOne (fun _ _ => true))

/-- 60 s below T3 let restoring requests begin (R453). -/
def execT3RestoreHoldEnd (s : State) : Host.Outcome State Fault Refusal :=
  if s.get THERMAL.STAT_STAGE < 3 then done (s.set THERMAL.HID_T3WAIT 0) else done s

/-- Whether a plane carries nothing any more: no P0 source and no twin half. -/
def State.planeEmpty (s : State) (pl : Nat) : Bool :=
  s.carriedOn pl = [] && !(s.video.active.any (fun e => e.2.twin && e.2.plane = 2)) && s.get FABRIC.HID_MOVE = 0

/-- The emptied plane's domain is switched off; where the stage has fallen below T4 meanwhile, the plane is rebuilt (R454, R461). -/
def execT4PlaneOff (s : State) : Host.Outcome State Fault Refusal :=
  match [0, 1].find? (fun pl => s.get FABRIC.HID_EMPTY pl = 1) with
  | none => done s
  | some pl =>
    if !s.planeEmpty pl then done s
    else
      let t := s.set FABRIC.HID_EMPTY 0 pl
      if t.get THERMAL.STAT_STAGE < 4 then done (t.planeBack pl)
      else done (((t.set THERMAL.HID_PLANEOFF (pl + 1)).putReset RESET.HID_OFFREQ (6 + pl) true).powerOff (7 + pl)).settleWait

/-- The streams that an engine builds for destinations on a peer: those that leave on a link to it (R369, R455). -/
def State.streamsFor (s : State) (mem : Nat) : List (Nat × Stream) :=
  s.video.streams.filter (fun e => linkList.any (fun n => s.linkPeer n = some mem && s.fsBase n ≤ e.2.dst && e.2.dst < s.fsBase n + 32))

/-- Every 100 ms at T5 one stream is offered to a peer at T2 or below (R455); where the peer proves it, this member's engine is
released at the flip. -/
def execOffload (mem : Fin 8) (cool accepted : Bool) (s : State) : Host.Outcome State Fault Refusal :=
  if s.get THERMAL.STAT_STAGE < 5 ∨ s.get THERMAL.CFG_OFFLOAD_EN = 0 ∨ s.member ≠ msMEMBER ∨ !cool then done s
  else match s.streamsFor mem with
    | [] => done s
    | x :: _ =>
      let t := s.raise .thermal 0 THERMAL.EV_OFFLOAD
      if !accepted then done t
      else
        let drop (p : Path) : Path := { p with stream := (if p.stream = some x.1 then none else p.stream),
                                               stream2 := (if p.stream2 = some x.1 then none else p.stream2) }
        done ((t.mapPaths drop).release).recount

/-- TCTL at or below RESTART_TEMP for 10 s after a shutdown (R459): a DEVICE reset under CAUSE 0x3; the third within an hour locks out. -/
def execThermalRestart (mode : BitVec 4) (member : BitVec 3) (s : State) : Host.Outcome State Fault Refusal :=
  if !s.resetBit RESET.HID_SRC srcSHUT ∨ s.get THERMAL.CFG_RESTART_EN = 0 ∨ s.get THERMAL.RESTART_LOCKOUT = 1 ∨
      10 * (s.get THERMAL.CFG_RESTART_TEMP : Int) < s.tctl then done s
  else
    let l := s.restartsLately ++ [s.clk.uptime]
    let t : State := { s with thermal := { s.thermal with restarts := l } }
    let t := (t.set THERMAL.RESTART_COUNT (min 3 l.length)).set THERMAL.RESTART_LOCKOUT (flag (decide (3 ≤ l.length)))
    done (t.deviceCycle 3 mode member)

/-- A write of THERMAL.CFG (R462): not applied with a field outside its range. -/
def State.thermalCfgWrite (s : State) (v : Nat) : State :=
  let h := bitsOf v 0 4
  let d := bitsOf v 8 6
  let r := bitsOf v 20 7
  if h < 1 ∨ 10 < h ∨ d < 1 ∨ 60 < d ∨ r < 60 ∨ 100 < r then s.raise .thermal 0 THERMAL.EV_CFG_BLOCKED
  else (((((s.set THERMAL.CFG_HYST h).set THERMAL.CFG_DWELL d).set THERMAL.CFG_RESTART_EN (bitsOf v 16 1)).set THERMAL.CFG_RESTART_TEMP r).set
    THERMAL.CFG_T4_PLANE (bitsOf v 28 1)).set THERMAL.CFG_OFFLOAD_EN (bitsOf v 29 1)

end Sys2Proof.Machine
end

