-- ==== Sys2Proof/Machine/Control.lean ====
section
/-! DEFINITION. The control plane (chapter 19): the PCIe endpoint (R498, R501, R502), page locks (R514), the event core (R517 to
R521), the event log (R521), doorbells and GPIO edges (R531), and the reads that latch (R444, R533). -/
namespace Sys2Proof.Machine

/-! ## The endpoint -/

/-- The subsystem identifiers that the endpoint shows: those of SUBSYS at the last training (R497, R523). -/
def BUSMATRIX.HID_SUBSYS : Field := ⟨.busmatrix, 0x1100, 0, 32, .const 0⟩

/-- The vectors that are due are sent, as far as they can be (R519). -/
def State.msixTryAll (s : State) : State := (List.range 64).foldl (fun t v => t.msixTry v) s

/-- The data link layer becomes active, at rate `speed` + 1 of Table 19.11 and at 2 ^ `width` lanes (R498). -/
def execPcieLinkUp (speed : Fin 4) (width : Fin 3) (s : State) : Host.Outcome State Fault Refusal :=
  if !s.domUp 25 ∨ s.get BUSMATRIX.PCIE_STAT_LINK_UP = 1 then done s
  else
    let t := ((s.set BUSMATRIX.PCIE_STAT_LINK_UP 1).set BUSMATRIX.PCIE_STAT_SPEED (speed.val + 1)).set BUSMATRIX.PCIE_STAT_WIDTH (2 ^ width.val)
    let t := t.set BUSMATRIX.HID_SUBSYS (t.get BUSMATRIX.SUBSYS_SVID + t.get BUSMATRIX.SUBSYS_SSID * 2 ^ 16)
    done (t.raise .busmatrix 0 BUSMATRIX.EV_LINK_UP)

/-- The link is lost (R498, R501). -/
def execPcieLinkDown (s : State) : Host.Outcome State Fault Refusal := if s.domUp 25 then done s.pcieDown else done s

/-- A hot reset: the effect of a link loss, and the link trains again (R498, R501). -/
def execHotReset (s : State) : Host.Outcome State Fault Refusal := if s.domUp 25 then done s.pcieDown else done s

/-- A link disable: the effect of a link loss (R498, R501). -/
def execLinkDisable (s : State) : Host.Outcome State Fault Refusal := if s.domUp 25 then done s.pcieDown else done s

/-- A Function Level Reset: the effect of a link loss on the endpoint; the link stays up (R501). -/
def execFunctionLevelReset (s : State) : Host.Outcome State Fault Refusal := if s.domUp 25 then done s.endpointReset else done s

/-- A configuration request (R498, R519): one `early`, less than 100 ms after the release of PD25, is answered with Configuration Request
Retry Status and does nothing; a later one may set the MSI-X enable and the function mask. -/
def execConfigRequest (early : Bool) (msix : Option (Bool × Bool)) (s : State) : Host.Outcome State Fault Refusal :=
  if early ∨ s.get BUSMATRIX.PCIE_STAT_LINK_UP = 0 then done s
  else match msix with
    | none => done s
    | some w => done (((s.set BUSMATRIX.PCIE_STAT_MSIX_EN (flag w.1)).set BUSMATRIX.PCIE_STAT_FN_MASK (flag w.2)).msixTryAll)

/-- A poisoned write TLP is dropped whole and recorded with kind 6 (R502, R506). -/
def execPoisonedTlp (addr : Nat) (s : State) : Host.Outcome State Fault Refusal :=
  if s.busUp ∧ s.get BUSMATRIX.PCIE_STAT_LINK_UP = 1 then done (s.busError 6 addr true 6) else done s

/-- Clearing ERR_INFO.VALID frees the register for the next error (R506). -/
def execErrInfoClear (m : Fin 7) (s : State) : Host.Outcome State Fault Refusal :=
  done (s.withCheck m .busmatrix 0 0x058 0x80000000 (fun t => t.set BUSMATRIX.ERR_INFO_VALID 0))

/-! ## Headers -/

/-- The event bits that a page type defines in EVT_STAT. -/
def Page.events : Page → Nat
  | .quad => 0xFFFF | .vin => 0x1FF | .fabric => 0x1F | .memch => 0xFF | .syncmgr => 0xFFF | .ce => 0x1FFF | .vout => 0xFF
  | .audio => 0xFF | .aport => 0x3FFF | .refmgr => 0xFF | .synth => 0x1F | .synthctl => 0xF | .mesh => 0x7F | .meshctl => 0x3F
  | .repair => 0x1FF | .supervisor => 0xFF | .reset => 0xFF | .power => 7 | .thermal => 0xFF | .nvm => 0x3FF | .keys => 0x3F
  | .busmatrix => 0x7F | .global => 1 | .event => 1 | .ledger => 0xF | .route => 0x7F | .service => 0xFF | .gpio => 0xFFFF
  | .eth => 0xFFF | .flow => 0x1FFF | _ => 0

/-- A master's write of a header register of a page: no access reaches a header that does not exist. -/
def State.withHeader (s : State) (m : Nat) (p : Page) (i off v : Nat) (act : State → State) : State :=
  if p.instances ≤ i ∨ 0x80 ≤ p.code then s else s.withCheck m p i off v act

/-- A write of EVT_FORCE: the bits set as events would (R509). -/
def State.forceEvents (s : State) (p : Page) (i v : Nat) : State := s.putStat (p.source i) (s.evtStat p i ||| (v &&& p.events))

/-- A write of EVT_STAT: the bits written 1 clear, and a source still asserted after bits cleared counts as risen (R508, R518). -/
def State.clearEvents (s : State) (p : Page) (i v : Nat) : State :=
  let old := s.evtStat p i
  let new := maskOff old v
  if new = old then s
  else
    let t := s.putStat (p.source i) new
    if t.evt.pageAsserted (p.source i) then t.rising (p.source i) else t

/-- A write of PAGE_LOCK (R514): with the key the lock opens; an open lock takes FREEZE and MASTERS, bits 0 to 2 of which read 1; CLOSE
then closes it. -/
def State.writeLock (s : State) (p : Page) (i v : Nat) : State :=
  let s := if bitsOf v 16 16 = lockKey then s.set (HDR.LOCK_OPEN p) 1 i else s
  let s := if s.get (HDR.LOCK_OPEN p) i = 1 then
      (s.set (HDR.FREEZE p) (bitsOf v 2 1) i).set (HDR.MASTERS p) (bitsOf v 8 7 ||| 7) i
    else s
  if bitOf v 1 then s.set (HDR.LOCK_OPEN p) 0 i else s

/-- A write of PAGE_LOCK with the key, by an admitted master (R514). -/
def execPageLockOpen (m : Fin 7) (p : Page) (i : Nat) (v : Word) (s : State) : Host.Outcome State Fault Refusal :=
  done (s.withHeader m p i 0x024 v.toNat (fun t => t.writeLock p i v.toNat))

/-- A write of PAGE_LOCK with CLOSE (R514). -/
def execPageLockClose (m : Fin 7) (p : Page) (i : Nat) (v : Word) (s : State) : Host.Outcome State Fault Refusal :=
  done (s.withHeader m p i 0x024 v.toNat (fun t => t.writeLock p i v.toNat))

/-- 60 s after the opening or the last change of an RWL field the lock closes (R514). -/
def execLockTimeout (p : Page) (i : Nat) (s : State) : Host.Outcome State Fault Refusal := done (s.set (HDR.LOCK_OPEN p) 0 i)

/-- A write of EVT_FORCE (R509). -/
def execEvtForce (m : Fin 7) (p : Page) (i : Nat) (v : Word) (s : State) : Host.Outcome State Fault Refusal :=
  done (s.withHeader m p i 0x018 v.toNat (fun t => t.forceEvents p i v.toNat))

/-- A W1C write of EVT_STAT (R518). -/
def execEvtW1c (m : Fin 7) (p : Page) (i : Nat) (v : Word) (s : State) : Host.Outcome State Fault Refusal :=
  done (s.withHeader m p i 0x010 v.toNat (fun t => t.clearEvents p i v.toNat))

/-- A write of EVT_MASK: a source that it asserts rises (R517). -/
def State.writeMask (s : State) (p : Page) (i v : Nat) : State :=
  let src := p.source i
  let was := s.evt.pageAsserted src
  let s := { s with evt := { s.evt with mask := NTable.putD s.evt.mask src v 0 } }
  if !was && s.evt.pageAsserted src then s.rising src else s

/-- A write of EVT_ROUTE (R509): VECTOR, MSIX, IRQN, SUP and LOG. -/
def State.writeRoute (s : State) (p : Page) (i v : Nat) : State :=
  { s with evt := { s.evt with route := NTable.putD s.evt.route (p.source i) (v &&& 0xF3F) routeReset } }

/-! ## Messages and the log -/

/-- A vector's holdoff ends: what rose during it makes one message (R519). -/
def execMsixHoldoffEnd (v : Fin 64) (s : State) : Host.Outcome State Fault Refusal :=
  done (State.msixTry { s with evt := { s.evt with msixHoldoff := clrBit s.evt.msixHoldoff v } } v)

/-- The REPEAT entry of a source that rose more than 16 times in the second (R521). -/
def State.repeatEntry (s : State) (src n : Nat) : State :=
  if n ≤ 16 ∨ !bitOf (s.routeOf src) 11 then s
  else
    let e : LogEntry := { stamp := s.clk.uptime, seq := 0, kind := 1, source := src, count := min (n - 16) 0xFFFF, stat := 0,
                          tail := s.sysSeconds }
    let s := { s with evt := { s.evt with cntRepeats := satAdd 32 s.evt.cntRepeats 1 } }
    s.logPut e

/-- The end of a second: the excess risings of each source become one entry, and the count starts again (R521). -/
def execLogRepeatFlush (s : State) : Host.Outcome State Fault Refusal :=
  let t := { s with evt := { s.evt with risings := [] } }
  done (s.evt.risings.foldl (fun u e => u.repeatEntry e.1 e.2) t)

/-- Entries of the event-log ring (R521). -/
abbrev logRingSize : Nat := 16384

/-- An entry is written at the head of the ring under the next SEQ; the head that wraps raises LOG_WRAP (R521, R530). -/
def State.ringWrite (s : State) (e : LogEntry) : State :=
  let n := (s.evt.logSeq + 1) % 4096
  let next := (s.evt.logHead + 1) % logRingSize
  let s := { s with evt := { s.evt with logRing := NTable.put s.evt.logRing s.evt.logHead { e with seq := n }, logHead := next, logSeq := n,
                                        cntEntries := satAdd 32 s.evt.cntEntries 1 } }
  s.raiseIf (next = 0) .event 0 EVENT.EV_LOG_WRAP

/-- The MAC of a SEAL entry at ring index `h`: over the 63 entries before it and the SEAL before those, under slot 9 (R521). -/
def State.sealMac (s : State) (h : Nat) : Nat :=
  let mac := Config.digest (NTable.getD s.keys.keys 9 0 ::
    (List.range 64).flatMap (fun k => ((NTable.find s.evt.logRing ((h + logRingSize - 64 + k) % logRingSize)).map LogEntry.words).getD []))
  mac % 2 ^ 128

/-- Every 64th entry of the ring is a SEAL entry, or SEAL_UNAVAILABLE while the key store is sealed (R521). -/
def State.sealRing (s : State) : State :=
  if s.evt.logHead % 64 ≠ 63 then s
  else
    let shut : Bool := s.sealedStore
    s.ringWrite { stamp := s.clk.uptime, seq := 0, kind := if shut then 3 else 2, source := 0, count := 0, stat := 0,
                  tail := if shut then s.sysSeconds else s.sealMac s.evt.logHead }

/-- Once the queue has space, one LOST entry tells how many were lost (R521). -/
def State.lostEntry (s : State) : State :=
  if s.evt.logLost = 0 ∨ logQueueSize ≤ s.evt.logQueue.length then s
  else
    let e : LogEntry := { stamp := s.clk.uptime, seq := 0, kind := 4, source := 0, count := min s.evt.logLost 0xFFFF, stat := 0,
                          tail := s.sysSeconds }
    { s with evt := { s.evt with logQueue := s.evt.logQueue ++ [e], logLost := 0 } }

/-- The first entry of the queue is written to the ring, with SEAL and LOST entries as due; the queue waits while PD25 is down or
writes are not permitted (R474, R521). -/
def execLogQueueWrite (s : State) : Host.Outcome State Fault Refusal :=
  if !s.domUp 25 ∨ !s.writesPermitted then done s
  else match s.evt.logQueue with
    | [] => done s
    | e :: rest =>
      let t : State := { s with evt := { s.evt with logQueue := rest } }
      done ((t.ringWrite e).sealRing.lostEntry)

/-! ## Doorbells, edges and latching reads -/

/-- Whether doorbell `k` asserts its source: set and unmasked (R531). -/
def State.doorbellOn (s : State) (k : Nat) : Bool := bitOf (maskOff (s.get EVENT.DB_STAT_DB 0 (k / 32)) (s.get EVENT.DB_MASK_MASK 0 (k / 32))) (k % 32)

/-- A doorbell set or cleared; newly asserted, its source rises. -/
def State.putDoorbell (s : State) (k : Nat) (b : Bool) : State :=
  let was := s.doorbellOn k
  let s := s.set EVENT.DB_STAT_DB (putBit (s.get EVENT.DB_STAT_DB 0 (k / 32)) (k % 32) b) 0 (k / 32)
  if !was && s.doorbellOn k then s.rising (640 + k) else s

/-- A write of DB_CTL (R531, Table 19.9): SET wins over CLEAR. -/
def State.writeDoorbell (s : State) (v : Nat) : State :=
  if bitOf v 16 then s.putDoorbell (bitsOf v 0 9) true
  else if bitOf v 17 then s.putDoorbell (bitsOf v 0 9) false
  else s

/-- A write of DB_CTL with SET (R531). -/
def execDbSet (m : Fin 7) (v : Word) (s : State) : Host.Outcome State Fault Refusal :=
  done (s.withCheck m .event 0 0x240 v.toNat (fun t => t.writeDoorbell v.toNat))

/-- A write of DB_CTL with CLEAR (R531). -/
def execDbClear (m : Fin 7) (v : Word) (s : State) : Host.Outcome State Fault Refusal :=
  done (s.withCheck m .event 0 0x240 v.toNat (fun t => t.writeDoorbell v.toNat))

/-- The level of a pin as IN shows it. -/
def State.pinLevel (s : State) (g : Nat) (high : Bool) : State := s.set GPIO.IN_LEVEL (putBit (s.get GPIO.IN_LEVEL) g high)

/-- An edge on a GPIO: latched where the GPIO page selects it (R531, R569). -/
def execGpioEdge (g : Fin 32) (rise : Bool) (s : State) : Host.Outcome State Fault Refusal :=
  let t := s.pinLevel g rise
  if !bitOf (t.get (if rise then GPIO.EDGE_RISE_EDGE else GPIO.EDGE_FALL_EDGE)) g then done t
  else
    let was := bitOf (maskOff (t.get EVENT.GPIO_LATCH_EDGE) (t.get EVENT.GPIO_MASK_MASK)) g
    let u := t.set EVENT.GPIO_LATCH_EDGE (setBit (t.get EVENT.GPIO_LATCH_EDGE) g)
    done (if !was && bitOf (maskOff (u.get EVENT.GPIO_LATCH_EDGE) (u.get EVENT.GPIO_MASK_MASK)) g then u.rising (596 + g) else u)

/-- A write of GLOBAL.WIN_CFG: FLOW_APERTURE of that master alone (R528). -/
def execFlowApertureWrite (m : Fin 7) (v : Word) (s : State) : Host.Outcome State Fault Refusal :=
  done (s.withWrite m .global 0 0x04C v.toNat id)

/-- A read of UPTIME_LO latches UPTIME_HI (R444). -/
def State.latchUptime (s : State) : State := s.set RESET.UPTIME_HI_COUNT (bitsOf s.clk.uptime 32 16)

/-- A read of UPTIME_LO by a master (R444). -/
def execUptimeRead (m : Fin 7) (s : State) : Host.Outcome State Fault Refusal := done (s.withRead m .reset 0 0x06C State.latchUptime)

/-- A read of RTC_S_LO latches RTC_S_HI and RTC_SUB (R444). -/
def State.latchRtc (s : State) : State :=
  (s.set RESET.RTC_S_HI_SECONDS (bitsOf s.clk.rtcSeconds 32 16)).set RESET.RTC_SUB_FRACTION s.clk.rtcSub

/-- A read of RTC_S_LO by a master (R444). -/
def execRtcRead (m : Fin 7) (s : State) : Host.Outcome State Fault Refusal := done (s.withRead m .reset 0 0x074 State.latchRtc)

/-- A read of LAST_REF_STAMP_LO latches its high word (R533). -/
def State.latchRefusal (s : State) : State := s.set LEDGER.LAST_REF_STAMP_HI_STAMP (s.get LEDGER.HID_REFSTAMP)

/-- A read of LAST_REF_STAMP_LO by a master (R533). -/
def execLastRefStampRead (m : Fin 7) (s : State) : Host.Outcome State Fault Refusal := done (s.withRead m .ledger 0 0x070 State.latchRefusal)

end Sys2Proof.Machine
end

