-- ==== Sys2Proof/Machine/Board.lean ====
section
/-! DEFINITION. The board's side: the I2C masters of the GPIO page (R569, R570), the hold of a Firefly row (R549), and the IEEE 1149.1
port (R567). -/
namespace Sys2Proof.Machine

/-! ## I2C -/

/-- Device's own copy of WRITE for the transfer under way, by master. -/
def GPIO.HID_XWRITE : Field := ⟨.gpio, 0x1108, 0, 1, .const 0⟩

/-- Raises I2C_ERR of a master (R569). -/
def State.i2cError (s : State) (k : Nat) : State := s.raise .gpio 0 (GPIO.EV_I2C_ERR + k)

/-- A transfer starts, on an enabled master that has none under way (R569). -/
def State.i2cStart (s : State) (k v : Nat) : State :=
  if !bitOf v 31 ∨ s.get GPIO.I2C_STAT_BUSY 0 k = 1 ∨ s.get GPIO.I2C_CFG_EN 0 k = 0 then s
  else
    ((((s.set GPIO.I2C_STAT_BUSY 1 0 k).set GPIO.I2C_STAT_DONE 0 0 k).set GPIO.I2C_STAT_NACK 0 0 k).set GPIO.I2C_STAT_TIMEOUT 0 0 k).set
      GPIO.HID_XWRITE (bitsOf v 24 1) 0 k

/-- A write of I2C_XFER (R569, R570). -/
def execI2cXferGo (m : Fin 7) (k : Fin 8) (v : Word) (s : State) : Host.Outcome State Fault Refusal :=
  done (s.withWrite m .gpio 0 (0x084 + 0x10 * k.val) v.toNat (fun t => t.i2cStart k v.toNat))

/-- A transfer ends with an acknowledgement, and the byte read, or without one (R569). -/
def execI2cXferDone (k : Fin 8) (ack : Bool) (data : BitVec 8) (s : State) : Host.Outcome State Fault Refusal :=
  if s.get GPIO.I2C_STAT_BUSY 0 k = 0 then done s
  else
    let t := s.set GPIO.I2C_STAT_BUSY 0 0 k
    if !ack then done ((t.set GPIO.I2C_STAT_NACK 1 0 k).i2cError k)
    else
      let t := t.set GPIO.I2C_STAT_DONE 1 0 k
      done (if t.get GPIO.HID_XWRITE 0 k = 1 then t else t.set GPIO.I2C_STAT_DATA data.toNat 0 k)

/-- A poll is due (R570): skipped during a transfer; a byte that differs from the one before raises I2C_CHG. -/
def execI2cPoll (k : Fin 8) (ack : Bool) (data : BitVec 8) (s : State) : Host.Outcome State Fault Refusal :=
  if s.get GPIO.I2C_CFG_EN 0 k = 0 ∨ s.get GPIO.I2C_CFG_POLL_EN 0 k = 0 ∨ s.get GPIO.I2C_STAT_BUSY 0 k = 1 then done s
  else if !ack then done (s.i2cError k)
  else if s.get GPIO.I2C_STAT_POLL_VAL 0 k = data.toNat then done s
  else done ((s.set GPIO.I2C_STAT_POLL_VAL data.toNat 0 k).raise .gpio 0 (GPIO.EV_I2C_CHG + k))

/-- 10 ms without an acknowledgement: the transfer under way ends with TIMEOUT (R570). With none under way it is a poll that fails, or
SDA held low, which raise I2C_ERR only (R569). -/
def execI2cTimeout (k : Fin 8) (s : State) : Host.Outcome State Fault Refusal :=
  if s.get GPIO.I2C_CFG_EN 0 k = 0 ∧ s.get GPIO.I2C_STAT_BUSY 0 k = 0 then done s
  else if s.get GPIO.I2C_STAT_BUSY 0 k = 1 then
    done (((s.set GPIO.I2C_STAT_BUSY 0 0 k).set GPIO.I2C_STAT_TIMEOUT 1 0 k).i2cError k)
  else done (s.i2cError k)

/-! ## Firefly -/

/-- The row in force has been driven for 2 s: a row of lower priority may take its place (R549). -/
def execFireflyHoldEnd (s : State) : Host.Outcome State Fault Refusal := done (s.set GPIO.HID_FFHOLD 0)

/-! ## Boundary scan -/

/-- IDCODE (R567): stepping, part, maker, and 1. -/
def idcode : Nat :=
  Config.stepping.toNat % 16 * 2 ^ 28 + 0x9640 * 2 ^ 12 + Config.jtagMaker.toNat * 2 + 1

/-- An instruction is loaded into the 8-bit register. -/
def State.jtagLoad (s : State) (ir captured : Nat) : State := { s with jtag := { s.jtag with ir := ir, captured := captured } }

/-- The boundary register takes what is shifted in. -/
def State.jtagShift (s : State) (v : Nat) : State := { s with jtag := { s.jtag with boundary := v } }

/-- Whether the pins follow the boundary register: EXTEST, CLAMP, HIGHZ, EXTEST_PULSE or EXTEST_TRAIN is loaded (R567). -/
def State.pinsFollowBoundary (s : State) : Bool := [0x00, 0x04, 0x05, 0x0A, 0x0B].contains s.jtag.ir

/-- BYPASS (R567): the bypass register, which captures 0, is selected. -/
def execBypass (s : State) : Host.Outcome State Fault Refusal := done (s.jtagLoad 0xFF 0)

/-- IDCODE (R567). -/
def execIdcode (s : State) : Host.Outcome State Fault Refusal := done (s.jtagLoad 0x01 idcode)

/-- SAMPLE/PRELOAD (R567): the pins are sampled, and the boundary register takes what is shifted in. -/
def execSamplePreload (pins value : Nat) (s : State) : Host.Outcome State Fault Refusal := done ((s.jtagLoad 0x02 pins).jtagShift value)

/-- EXTEST (R567): the pins follow the boundary register; the inputs are captured, and what is shifted in is driven next. -/
def execExtest (pins value : Nat) (s : State) : Host.Outcome State Fault Refusal := done ((s.jtagLoad 0x00 pins).jtagShift value)

/-- CLAMP (R567): the pins hold the boundary register's content, with the bypass register selected. -/
def execClamp (s : State) : Host.Outcome State Fault Refusal := done (s.jtagLoad 0x04 0)

/-- HIGHZ (R567): outputs are high-impedance, with the bypass register selected. -/
def execHighz (s : State) : Host.Outcome State Fault Refusal := done (s.jtagLoad 0x05 0)

/-- EXTEST_PULSE (R567): AC-coupled pairs carry a pulse, and their test receivers are captured. -/
def execExtestPulse (pins value : Nat) (s : State) : Host.Outcome State Fault Refusal := done ((s.jtagLoad 0x0A pins).jtagShift value)

/-- EXTEST_TRAIN (R567): AC-coupled pairs carry a pulse train, and their test receivers are captured. -/
def execExtestTrain (pins value : Nat) (s : State) : Host.Outcome State Fault Refusal := done ((s.jtagLoad 0x0B pins).jtagShift value)

end Sys2Proof.Machine
end

