-- ==== Sys2Proof/Machine/Read.lean ====
section
/-! DEFINITION. What a read returns: every register of the pages, the window tables and the buffers, with the values that the device
computes rather than stores (R499, R508 to R510, R523 to R535, and the page tables). -/
namespace Sys2Proof.Machine

/-! ## Values computed -/

/-- Whether an event source is asserted (R517). -/
def State.sourceAsserted (s : State) (src : Nat) : Bool :=
  if src < 596 then s.evt.pageAsserted src
  else if src < 628 then bitOf (maskOff (s.get EVENT.GPIO_LATCH_EDGE) (s.get EVENT.GPIO_MASK_MASK)) (src - 596)
  else if src < 640 then bitOf s.evt.level (src - 628)
  else s.doorbellOn (src - 640)

/-- PAGE_STAT (R509): RUN while any unit of the page is in RUN, else the first unit's state. -/
def State.pageStat (s : State) (p : Page) (i : Nat) : Nat :=
  let st := if (p.units i).any (fun u => s.unit u = uRUN) then uRUN else (((p.units i).head?).map s.unit).getD 0
  let c := s.pendingOf p i
  st + 16 * flag (s.pageBusy p i) + 32 * flag c.isSome + 64 * flag (c.any (fun x => x.group != 0))

/-- PAGE_LOCK as read: KEY and CLOSE read 0 (R509). -/
def State.lockWord (s : State) (p : Page) (i : Nat) : Nat :=
  s.get (HDR.LOCK_OPEN p) i + 4 * s.get (HDR.FREEZE p) i + 256 * s.get (HDR.MASTERS p) i

/-- The registers of the common header below the counters (Table 19.5). -/
def State.headerWord (s : State) (p : Page) (i off : Nat) : Nat :=
  match off with
  | 0x000 => p.code * 2 ^ 16 + i
  | 0x004 => Config.stepping.toNat * 2 ^ 16 + 1
  | 0x008 => s.get (HDR.ENABLE p) i + 16 * s.get (HDR.COMMIT_MODE p) i
  | 0x00C => s.pageStat p i
  | 0x010 => s.evtStat p i
  | 0x014 => NTable.getD s.evt.mask (p.source i) 0
  | 0x01C => NTable.getD s.evt.route (p.source i) routeReset
  | 0x020 => s.get (HDR.READ_ACTIVE p) i + 256 * s.get (HDR.GROUP p) i
  | 0x024 => s.lockWord p i
  | _ => 0

/-- ENG_STAT.ROLE (Table 7.15). -/
def State.engineRole (s : State) (ce : Nat) : Nat :=
  if s.video.streams.any (fun e => e.2.gang.contains ce) then 4
  else if s.unit (ceUnit ce) = uSPARE then (if s.engineShares ce = 0 then 2 else 3)
  else if s.engineShares ce = 0 then 0 else 1

/-- ENG_STAT.GANG_LEAD: the engine whose stream has this one in its gang. -/
def State.gangLead (s : State) (ce : Nat) : Nat :=
  ((s.video.streams.find? (fun e => e.2.gang.contains ce)).map (fun e => e.1 / 4)).getD 0x3F

/-- A number divided and rounded to the nearest whole. -/
def roundDiv (n d : Nat) : Nat := if d = 0 then 0 else (2 * n + d) / (2 * d)

/-- The channel sets on which an allocation shows: those it has, and in a move those of its new home (R216). -/
def State.shownSets (s : State) (id : Nat) (a : Alloc) : List (List (List Nat)) :=
  match a.moveTo with
  | none => [a.sets]
  | some q => [a.sets, s.layOut a.kind q (max 1 a.sets.length) id]

/-- The share of an allocation's bandwidth on a channel, in 0.1 Gbit/s steps. -/
def shareBw (a : Alloc) (c : Nat) (sets : List (List Nat)) : Nat :=
  let l := sets.flatten.eraseDups
  if l.contains c then roundDiv a.bw (100000000 * bwUnit * l.length) else 0

/-- The share of an allocation's capacity on a channel, in MiB: each buffer over the channels of its own set. -/
def shareCap (a : Alloc) (c : Nat) (sets : List (List Nat)) : Nat :=
  let parts := sets.filter (fun l => l.contains c)
  match parts with
  | [] => 0
  | l :: _ => roundDiv (a.cap * parts.length) (sets.length * l.length)

/-- CH_LOAD of a channel (R216). -/
def State.channelLoad (s : State) (c : Nat) : Nat × Nat :=
  s.video.allocs.foldl (fun n e =>
    (s.shownSets e.1 e.2).foldl (fun m l => (m.1 + shareBw e.2 c l, m.2 + shareCap e.2 c l)) n) (0, 0)

/-- A charge in whole Gbit/s. -/
def gbits (n : Nat) : Nat := tenths n / 10

/-- FABRIC LOAD and SRC_COUNT of a plane (Table 5.9). -/
def State.planeCarried (s : State) (pl : Nat) : List (Nat × Nat) :=
  s.carriedOn pl ++ (if pl = 0 then laSources s.video.paths else lbSources s.video.paths)

/-- L0 plus LA or LB. -/
def State.planeCharged (s : State) (pl : Nat) : Nat :=
  chargeSum (l0Sources s.video.paths) + chargeSum (if pl = 0 then laSources s.video.paths else lbSources s.video.paths)

/-- A flag for each of the numbers below a bound, as a mask. -/
def maskWhere (n : Nat) (p : Nat → Bool) : Nat := maskOfList ((List.range n).map p)

/-- Whether half `b` of pair `k` is in service. -/
def State.halfServes (s : State) (k b : Nat) : Bool := s.synState (12 + k) b = 3

/-- A 32-bit word of a 64-bit entry list, low half first. -/
def halfWord (l : List Nat) (k : Nat) : Nat := bitsOf (l.getD (k / 2) 0) (32 * (k % 2)) 32

/-- RET_DATA (Table 14.9): the entry of the retirement map at RET_SEL. -/
def State.retireWord (s : State) (k : Nat) : Nat :=
  match s.repair.retireMap[s.get REPAIR.RET_SEL_INDEX]? with
  | none => 0
  | some e => if k = 0 then bitsOf e.1 0 32 else bitsOf e.2.1 0 8 + 256 * bitsOf e.2.2 8 24

/-- A quantity that no command reports, as a read finds it: a free value. (DESIGN CHOICE, assumption 81.) -/
def State.measured (s : State) (f : Field) (i k : Nat) : Nat := Config.measured [f.page.code, f.off, f.lo, i, k, s.freeCtr]

/-- The value that the device computes for a field it does not store, if it is one. -/
def State.computed (s : State) (f : Field) (i k : Nat) : Option Nat :=
  match f.page with
  | .global =>
    if f = GLOBAL.CHIP_ID_VARIANT then some Config.variant.toNat
    else if f.off = 0x048 then some (bitsOf s.summaryNow f.lo f.width) else none
  | .reset =>
    if f = RESET.UPTIME_LO_COUNT then some (bitsOf s.clk.uptime 0 32)
    else if f = RESET.RTC_S_LO_SECONDS then some (bitsOf s.clk.rtcSeconds 0 32) else none
  | .thermal => if f = THERMAL.THS_NEIGH then some (sensorNeighbours k).length else none
  | .keys =>
    if f = KEYS.DEV_ID_LO_ID then some (bitsOf Config.deviceId.toNat 0 32)
    else if f = KEYS.DEV_ID_HI_ID then some (bitsOf Config.deviceId.toNat 32 32) else none
  | .event =>
    if f = EVENT.GRP_ASSERT_ASSERTED then some (maskWhere 32 (fun b => s.sourceAsserted (32 * k + b)))
    else if f = EVENT.LEVEL_STAT_LEVEL then some s.evt.level
    else if f = EVENT.LOG_HEAD_NEXT then some s.evt.logHead
    else if f = EVENT.LOG_HEAD_SEQ then some s.evt.logSeq
    else if f = EVENT.LOG_QUEUE_DEPTH then some s.evt.logQueue.length
    else if f = EVENT.LOG_DATA_DATA then
      some (halfWord (((NTable.find s.evt.logRing (s.get EVENT.LOG_SEL_INDEX)).map LogEntry.words).getD []) k)
    else if f = EVENT.CNT_LOG_ENTRIES then some s.evt.cntEntries
    else if f = EVENT.CNT_LOG_LOST then some s.evt.cntLost
    else if f = EVENT.CNT_REPEATS then some s.evt.cntRepeats else none
  | .busmatrix =>
    if f = BUSMATRIX.GROUP_COMMIT_WAITING then some (maskWhere 15 (fun g => s.commits.any (fun c => c.group = g + 1))) else none
  | .repair =>
    if f = REPAIR.LOG_DATA_DATA then
      some (halfWord (((NTable.find s.repair.log (s.get REPAIR.LOG_SEL_INDEX)).map StepEntry.words).getD []) k)
    else if f = REPAIR.RET_DATA_DATA then some (s.retireWord k)
    else if f = REPAIR.STAT_SHEDDING then some (flag ((List.range 192).any (fun o => s.get VOUT.HID_SHED o ≠ 0))) else none
  | .ledger =>
    if f = LEDGER.FLOW_CONTEXTS then some s.contexts.length
    else if f = LEDGER.AUDIO_CH_AS then some s.chargedSources.length
    else if f = LEDGER.AUDIO_CH_AD then some s.chargedDests.length
    else if f = LEDGER.AUDIO_PROC_SRUS then some s.srusUsed
    else if f = LEDGER.AUDIO_PROC_POOL then some (s.get AUDIO.ENG_STAT_POOL_USED)
    else if f = LEDGER.MIX_INPUTS then some s.mixInputs else none
  | .ce =>
    let st := NTable.find s.video.streams (4 * i + k)
    let of (g : Stream → Nat) : Option Nat := some ((st.map g).getD 0)
    if f = CE.ENG_STAT_ROLE then some (s.engineRole i)
    else if f = CE.ENG_STAT_CLUSTER then some (clusterOf i)
    else if f = CE.ENG_STAT_SHARES then some (s.engineShares i)
    else if f = CE.ENG_STAT_GANG_LEAD then some (s.gangLead i)
    else if f = CE.CNT_TAG_IN_ERR then some (s.measured f i k % 2 ^ 32)
    else if f = CE.STREAM_DST then of Stream.dst
    else if f = CE.STREAM_SRC then of Stream.src
    else if f = CE.STREAM_ACTIVE then of (fun _ => 1)
    else if f = CE.STREAM_PROFILE then of Stream.profile
    else if f = CE.STREAM_QREQ then of Stream.qreq
    else if f = CE.STREAM_QADM then of Stream.qadm
    else if f = CE.STREAM_QNOW then of Stream.qnow
    else if f = CE.STREAM_STAGES then of Stream.stages
    else if f = CE.STREAM_LATENCY then of Stream.latency
    else if f = CE.STREAM_FRAME then of Stream.frame else none
  | .memch =>
    if f = MEMCH.CH_LOAD_BW then some (s.channelLoad i).1
    else if f = MEMCH.CH_LOAD_CAP then some (s.channelLoad i).2
    else if f = MEMCH.CH_STAT_OPS then some (s.measured f i k % 1025) else none
  | .fabric =>
    if f = FABRIC.LOAD_CARRIED then some (gbits (chargeSum (s.planeCarried i)))
    else if f = FABRIC.LOAD_CHARGED then some (gbits (s.planeCharged i))
    else if f = FABRIC.SRC_COUNT_COUNT then some (s.planeCarried i).length
    else if f = FABRIC.TAP_STAT_ERRORS ∨ f = FABRIC.TAP_STAT_SEQ_OK then some (s.measured f i k % 2 ^ f.width) else none
  | .syncmgr =>
    if f = SYNCMGR.MEM_TOTAL_BW then some (s.get LEDGER.MEM_BW)
    else if f = SYNCMGR.MEM_TOTAL_CAP then some (s.get LEDGER.MEM_CAP)
    else if f = SYNCMGR.QUAD_STAT_BW then some (tenths (quadBw s.video.allocs k))
    else if f = SYNCMGR.QUAD_STAT_CHANNELS then some (s.runChannels k).length
    else if f = SYNCMGR.QUAD_STAT_CAP then some (quadCap s.video.allocs k) else none
  | .synth => if f = SYNTH.STEER_OFFSET ∧ i < 12 then some (ofSigned 24 (Int.ofNat (s.measured f i k % 2000001) - 1000000)) else none
  | .synthctl =>
    if f = SYNTHCTL.PAIR_SUM_BOTH then some (maskWhere 8 (fun n => s.halfServes n 0 && s.halfServes n 1))
    else if f = SYNTHCTL.PAIR_SUM_ONE then some (maskWhere 8 (fun n => s.halfServes n 0 != s.halfServes n 1))
    else if f = SYNTHCTL.PAIR_SUM_TS_LOCKED then some (maskWhere 12 (fun n => s.synState n 0 = 3)) else none
  | _ => none

/-! ## Words -/

/-- A field as a read shows it (R508, R510): WO fields and command bits read 0, RWS fields their shadow or active value. -/
def State.shownField (s : State) (r : LayoutRow) (i k : Nat) : Nat :=
  if s.rowAbsent r i k then 0
  else match r.acc with
    | .wo | .w1s => 0
    | .rws => s.rwsRead ⟨r.field, i, k⟩
    | _ => (s.computed r.field i k).getD (s.get r.field i k)

/-- The fields of a register put together. -/
def State.wordOf (s : State) (i : Nat) : List (LayoutRow × Nat) → Nat
  | [] => 0
  | (r, k) :: t => (s.shownField r i k * 2 ^ r.field.lo + s.wordOf i t) % 2 ^ 32

/-- A word of the MSI-X table or the pending-bit array (R523). -/
def State.msixWord (s : State) (off : Nat) : Nat :=
  if off < 0xC00 then NTable.getD s.evt.msixTable ((off - 0x800) / 4) (flag ((off - 0x800) / 4 % 4 = 3))
  else if off < 0xC08 then bitsOf s.evt.msixPending (8 * (off - 0xC00)) 32
  else 0

/-- A word of an Ethernet counter (R83): the low word as it stands, the high word as latched. -/
def State.ethWord (s : State) (q off : Nat) : Nat :=
  let p := (off - 0x100) / 0x40
  let k := (off - 0x100) % 0x40 / 8
  if s.get QUAD.QUAD_CFG_Q100 q = 1 ∧ p ≠ 0 then 0
  else if off % 8 = 0 then bitsOf (s.get (ethCounter k) q p) 0 32
  else s.get ETH.HID_LATCH q (8 * p + k)

/-- A register of a page, as a master reads it; reserved offsets read 0 (R499). -/
def State.pageWord (s : State) (m : Nat) (p : Page) (i off : Nat) : Nat :=
  if off < 0x028 then s.headerWord p i off
  else if p = .busmatrix ∧ 0x800 ≤ off then s.msixWord off
  else if p = .eth ∧ 0x100 ≤ off ∧ off < 0x200 then s.ethWord i off
  else s.wordOf (heldInst p i off m) (rowsAt p i off)

/-- The route entry of VD192 to VD227, the input of an engine, which its first stream makes (Table 5.6). -/
def State.engineEntry (s : State) (ce off : Nat) : Nat :=
  match NTable.find s.video.streams (4 * ce) with
  | none => if off = 0 then 0 else 0x3F * 256 + 3 + 0xF * 4
  | some t =>
    if off = 0 then
      let prot := ((s.video.active.find? (fun e => e.2.stream = some (4 * ce) || e.2.stream2 = some (4 * ce))).map
        (fun e => bitsOf e.2.w0 16 2)).getD 0
      t.src + t.mem * 2 ^ 9 + prot * 2 ^ 16 + 2 ^ 31
    else
      let pl := ((s.video.active.find? (fun e => e.2.stream = some (4 * ce) || e.2.stream2 = some (4 * ce))).map (fun e => e.2.plane)).getD 3
      3 + 0xF * 4 + pl * 2 ^ 6 + ce * 2 ^ 8 + bitsOf t.frame 0 16 * 2 ^ 16

/-- A word of a window table's entry. -/
def State.entryWord (s : State) (p : Page) (n off : Nat) : Nat :=
  if p = .rte ∧ 192 ≤ n ∧ n < 228 then s.engineEntry (n - 192) off else s.wordOf n (rowsAt p n off)

/-- A word of the audio status areas (R300, R527): SILENT, OVERLOAD, NONPCM and ASYNC of 32 channels. -/
def State.statusWord (s : State) (off : Nat) : Nat :=
  let c0 := off % 0x1000 / 4 * 32
  maskWhere 32 (fun b =>
    match off / 0x1000 with
    | 0 => s.get ASTAT.SRC_SILENT (c0 + b) = 1
    | 1 => s.get ASTAT.SRC_OVERLOAD (c0 + b) = 1
    | 2 => s.get ASTAT.SRC_NONPCM (c0 + b) = 1
    | _ => s.asyncSource (c0 + b))

/-- Four bytes of a buffer as a word, the lowest address least significant. -/
def Memory.word (m : Memory) (a : Nat) : Nat :=
  (m.read a).toNat + (m.read (a + 1)).toNat * 2 ^ 8 + (m.read (a + 2)).toNat * 2 ^ 16 + (m.read (a + 3)).toNat * 2 ^ 24

/-- The word at an internal address, as a master's read returns it. -/
def State.readWord (s : State) (m a : Nat) : Nat :=
  match s.decode m a with
  | .page p i off => s.pageWord m p i off
  | .entry p n off => s.entryWord p n off
  | .astat off => s.statusWord off
  | .conv off => s.buf.conv.word off
  | .sram off => s.buf.sram.word off
  | .bar2 off => s.buf.bar2.word off
  | .none => 0

/-- What a read changes: the words that a read of their low word latches (R83, R342, R444, R533). -/
def State.readEffect (s : State) (m a : Nat) : State :=
  match s.decode m a with
  | .page .reset _ off => if off = 0x06C then s.latchUptime else if off = 0x074 then s.latchRtc else s
  | .page .ledger _ off => if off = 0x070 then s.latchRefusal else s
  | .page .refmgr _ off => if off = 0x050 then s.latchTime else s
  | .page .eth q off =>
    if 0x100 ≤ off ∧ off < 0x200 ∧ off % 8 = 0 ∧ !(s.get QUAD.QUAD_CFG_Q100 q = 1 && 0x140 ≤ off) then
      let p := (off - 0x100) / 0x40
      let k := (off - 0x100) % 0x40 / 8
      s.set ETH.HID_LATCH (bitsOf (s.get (ethCounter k) q p) 32 32) q (8 * p + k)
    else s
  | _ => s

end Sys2Proof.Machine
end

