-- ==== Sys2Proof/Machine/Access.lean ====
section
/-! DEFINITION. A bus master's write of any address (R499, R500, R504, R506, R508, R510): the header, the block registers with the
commands that their bits start, the window areas marked RW, the control SRAM and the memory window. -/
namespace Sys2Proof.Machine

/-- The state that a command leaves. -/
def State.after (s : State) (f : State → Host.Outcome State Fault Refusal) : State :=
  match f s with
  | .next t => t
  | _ => s

/-- The commands of a list where their conditions hold, one after another. -/
def State.afterAll (s : State) : List (Bool × (State → Host.Outcome State Fault Refusal)) → State
  | [] => s
  | (c, f) :: t => (if c then s.after f else s).afterAll t

/-- The facts of one destination among those given. -/
def factsFor (w : WriteFacts) (o : Nat) : TakeFacts := NTable.getD w.takes o noFacts

/-- A write of PAGE_CTRL (R509): COMMIT_MODE, then ENABLE where it changes, then the actions whose bits are set. -/
def State.writeCtrl (s : State) (m : Fin 7) (p : Page) (i v : Nat) (w : WriteFacts) : State :=
  if !s.domUp (p.domain i) then s
  else
    let on : Bool := s.get (HDR.ENABLE p) i = 1
    let t := s.set (HDR.COMMIT_MODE p) (bitsOf v 4 2) i
    let t := t.afterAll [(on && !bitOf v 0, execPageEnableClear m p i), (!on && bitOf v 0, execPageEnableSet m p i),
      (bitOf v 1, execIsolateReq m p i)]
    let t := if bitOf v 2 then (p.units i).foldl (fun u x => u.after (execUnitReset (some m) x)) t else t
    t.afterAll [(bitOf v 3, execPageCommit m p i w.takes)]

/-- The commands that a write of a block register starts, in the order of its bits. -/
def blockActions (m : Fin 7) (p : Page) (i off : Nat) (v : Word) (w : WriteFacts) : List (State → Host.Outcome State Fault Refusal) :=
  match p with
  | .quad => if off = 0x04C then [execForceRx m (Fin.ofNat 24 i) v, execForceTx m (Fin.ofNat 24 i) v] else []
  | .route =>
    if off = 0x048 then [fun s => execTake m v (factsFor w (s.get ROUTE.TAKE_DST_SLOT m)) s, execTakeHold m v]
    else if off = 0x04C then (if bitOf v.toNat 1 then [execSalvoAbort m] else []) ++ [execSalvoGo m v w.order] else []
  | .memch =>
    if off = 0x058 then (if bitOf v.toNat 0 then [execMigrateOut m (Fin.ofNat 32 i)] else []) ++
      (if bitOf v.toNat 1 then [execChannelSelftest m (Fin.ofNat 32 i) w.failing] else []) else []
  | .syncmgr => if off = 0x070 then [execSyncEvacGo m v, execSyncEvacRelease m v] else []
  | .ce =>
    if i ≠ 0 then []
    else if off = 0x200 then [execLoadCommit m v]
    else if off = 0x210 then [execProfDstGo m v (factsFor w (bitsOf v.toNat 0 9))]
    else if off = 0x218 then [execCeEvacGo m v, execCeEvacRelease m v] else []
  | .flow =>
    if i = 0 then
      (if off = 0x080 then [execCtxReqAlloc m v, execCtxReqModify m v, execCtxReqActivate m v, execCtxReqDeactivate m v, execCtxReqFree m v]
       else if off = 0x08C then [execFwdTake m v, execFwdTakeBatch m v]
       else if off = 0x090 then [execFwdGo m v] else [])
    else if i = 3 then
      (if 0x040 ≤ off ∧ off < 0x240 ∧ off % 0x20 = 0x10 then [execHqTailWrite m (Fin.ofNat 16 ((off - 0x040) / 0x20)) false v w.descs]
       else if 0x240 ≤ off ∧ off < 0x440 ∧ off % 0x20 = 0x10 then [execHqTailWrite m (Fin.ofNat 16 ((off - 0x240) / 0x20)) true v w.descs]
       else [])
    else []
  | .audio =>
    if i = 0 then
      (if off = 0x060 then [execXpReqGo m v, execXpReqBatch m v]
       else if off = 0x064 then [execXpAbort m v, execXpGo m v] else [])
    else if i = 1 then (if off = 0x044 then [execSruAlloc m v, execSruModify m v, execSruFree m v] else [])
    else if i = 4 then (if off = 0x040 then [execMixReq m v] else if off = 0x048 then [execMixCommit m v] else [])
    else if i = 6 then
      (if 0x408 ≤ off ∧ off < 0xC00 ∧ off % 0x20 = 8 then [execMeterReset m (Fin.ofNat 64 ((off - 0x400) / 0x20)) v] else [])
    else []
  | .aport =>
    if i = 0 ∧ 0x200 ≤ off ∧ off < 0x220 then
      [execGrpArm m (Fin.ofNat 8 ((off - 0x200) / 4)) v, execGrpDisarm m (Fin.ofNat 8 ((off - 0x200) / 4)) v,
       execGrpGo m (Fin.ofNat 8 ((off - 0x200) / 4)) v]
    else []
  | .refmgr =>
    if off = 0x040 then [execRmCfgWrite m none v]
    else if 0x100 ≤ off ∧ off < 0x300 ∧ off % 0x20 = 0 then [execRmCfgWrite m (some (Fin.ofNat 16 ((off - 0x100) / 0x20))) v] else []
  | .synthctl => if off = 0x040 then [execSyncArm m v] else []
  | .synth =>
    if off = 0x040 then [execSynNWrite m (Fin.ofNat 20 i) false v]
    else if off = 0x044 then [execSynNWrite m (Fin.ofNat 20 i) true v]
    else if off = 0x080 ∧ 12 ≤ i then [execIspSwap m (Fin.ofNat 8 (i - 12)) v, execIspTest m (Fin.ofNat 8 (i - 12)) v] else []
  | .meshctl =>
    if off = 0x080 then [execPairGo m v]
    else if off = 0x088 then [execLeaveGo m v, execLeaveForce m v]
    else if off = 0x098 then [execRaGo m v] else []
  | .supervisor =>
    if off = 0x04C then (if bitOf v.toNat 0 then [execSwitchover m] else []) ++ (if bitOf v.toNat 1 then [execSupRetry m] else []) ++
      (if bitOf v.toNat 2 then [execRetestStandby m] else []) else []
  | .repair => if off = 0x07C then [execAvailClrGo m v, execAvailClrAll m v] else []
  | .reset =>
    if off = 0x048 then [execResetControl m v, execResetDevice m v w.mode w.member]
    else if off = 0x04C then [execDomHoldWrite m v]
    else if off = 0x050 then [execDomPulse m v] else []
  | .power => if off = 0x040 then [execDomReqWrite m v] else if off = 0x04C then [execStbyEnter m v] else []
  | .thermal => if off = 0x054 then [execSensorTest m v] else []
  | .nvm =>
    if off = 0x044 then
      (if bitOf v.toNat 1 then [execNvmAbort m] else []) ++ (if bitOf v.toNat 3 then [execNvmDiscard m] else []) ++
      (if bitOf v.toNat 0 ∧ bitOf v.toNat 2 then [execNvmSnapshot m v] else if bitOf v.toNat 0 then [execNvmStore m] else []) ++
      (if bitOf v.toNat 4 then [execNvmSelftest m] else [])
    else if off = 0x080 then (if bitOf v.toNat 0 then [execRawRead m w.err] else []) ++ (if bitOf v.toNat 1 then [execRawWrite m] else [])
    else []
  | .keys =>
    if off = 0x04C then [execKeysDerive m v, execKeysDestroy m v]
    else if off = 0x0B8 then [execSvnCommit m v, execServiceExit m v] else []
  | .event => if off = 0x240 then [execDbSet m v] else []
  | .busmatrix =>
    if off = 0x058 then (if bitOf v.toNat 31 then [execErrInfoClear m] else [])
    else if off = 0x060 then [execGroupCommitGo m v w.takes] else []
  | .gpio => if 0x084 ≤ off ∧ off < 0x100 ∧ off % 0x10 = 4 then [execI2cXferGo m (Fin.ofNat 8 ((off - 0x084) / 0x10)) v] else []
  | _ => []

/-- Risings of the sources of a list that a change of their mask asserts (R517, R531). -/
def State.unmasked (old s : State) : List Nat → State
  | [] => s
  | src :: t => State.unmasked old (if !old.sourceAsserted src && s.sourceAsserted src then s.rising src else s) t

/-- A write of a word of the MSI-X table: a vector whose mask clears is sent if it is due (R519, R523). -/
def State.writeMsix (s : State) (off v : Nat) : State :=
  let k := (off - 0x800) / 4
  State.msixTry { s with evt := { s.evt with msixTable := NTable.put s.evt.msixTable k (if k % 4 = 3 then v % 2 else v) } } (k / 4)

/-- A write of a pad lane's TEST_CTL: the fields, then the injection and the clearing of the count (R78). -/
def State.writeTestCtl (s : State) (m : Fin 7) (q : Fin 24) (n : Fin 4) (v : Word) : State :=
  s.afterAll [(true, execTestCtlWrite m q n v), (bitOf v.toNat 8, execErrInject m q n), (bitOf v.toNat 10, execChkClear m q n)]

/-- A write of a block register whose fields follow a rule of their own; none where they do not. -/
def State.writeSpecial (s : State) (m : Fin 7) (p : Page) (i off : Nat) (v : Word) : Option State :=
  let n := v.toNat
  match p with
  | .thermal => if off = 0x040 then some (s.thermalCfgWrite n) else none
  | .nvm => if off = 0x040 then some (s.nvmCfgWrite n) else none
  | .keys =>
    if off = 0x044 then some (s.tamperCfgWrite n)
    else if 0x054 ≤ off ∧ off < 0x074 then some (s.set KEYS.LABEL n 0 ((off - 0x054) / 4)) else none
  | .busmatrix => if 0x800 ≤ off ∧ off < 0xC00 then some (s.writeMsix off n) else none
  | .event =>
    if off = 0x104 then some (State.unmasked s (s.writePlain m .event 0 off n) ((List.range 32).map (596 + ·)))
    else if 0x1C0 ≤ off ∧ off < 0x200 then
      some (State.unmasked s (s.writePlain m .event 0 off n) ((List.range 32).map (640 + 8 * (off - 0x1C0) + ·)))
    else none
  | .quad =>
    if off = 0x100 then some (if s.get QUAD.HID_EYE i = 1 then s else if bitOf n 28 then s.after (execEyeStart m (Fin.ofNat 24 i) v)
      else s.writePlain m .quad i off n)
    else if 0x0D0 ≤ off ∧ off < 0x0E0 then some (s.writeTestCtl m (Fin.ofNat 24 i) (Fin.ofNat 4 ((off - 0x0D0) / 4)) v)
    else none
  | .flow =>
    if i = 2 ∧ 0x800 ≤ off ∧ s.prefixUsed ((off - 0x800) / 0x10) then some (s.raise .flow 2 FLOW.EV_CFG_BLOCKED) else none
  | .aport =>
    if off = 0x050 then some ((s.writePlain m .aport i off n).set APORT.HID_NEWMASK 1 i 1)
    else if off = 0x054 then some ((s.writePlain m .aport i off n).set APORT.HID_NEWMASK 1 i 0) else none
  | _ => none

/-- A write of a block register: its own rule, or the commands that its bits start, or its plain fields. -/
def State.writeBlock (s : State) (m : Fin 7) (p : Page) (i off : Nat) (v : Word) (w : WriteFacts) : State :=
  match s.writeSpecial m p i off v with
  | some t => t
  | none =>
    match blockActions m p i off v w with
    | [] => s.writePlain m p i off v.toNat
    | l => l.foldl (fun t f => t.after f) s

/-- An RWS write in AUTO mode commits itself (R510). DOM_REQ's own row has done so. -/
def State.autoCommit (s : State) (m : Fin 7) (p : Page) (i off : Nat) (w : WriteFacts) : State :=
  if s.get (HDR.COMMIT_MODE p) i = 2 ∧ p ≠ Page.power ∧ (rowsAt p i off).any (fun r => r.1.acc = .rws) then s.submitCommit m p i w.takes else s

/-- A write of a page register that the checks of R506 let through. -/
def State.writePage (s : State) (m : Fin 7) (p : Page) (i off : Nat) (v : Word) (w : WriteFacts) : State :=
  if 0x040 ≤ off then (s.writeBlock m p i off v w).autoCommit m p i off w
  else match off with
    | 0x008 => s.writeCtrl m p i v.toNat w
    | 0x010 => s.clearEvents p i v.toNat
    | 0x014 => s.writeMask p i v.toNat
    | 0x018 => s.forceEvents p i v.toNat
    | 0x01C => s.writeRoute p i v.toNat
    | 0x020 => s.after (execShadowDiscard m p i v)
    | 0x024 => s.writeLock p i v.toNat
    | _ => s

/-- Bytes written from an address up, the least significant first; `skip` names offsets that keep theirs. -/
def Memory.writeBytes (m : Memory) (a data : Nat) (skip : Nat → Bool) : List Nat → Memory
  | [] => m
  | k :: t => Memory.writeBytes (if skip (a + k) then m else m.write (a + k) (BitVec.ofNat 8 (bitsOf data (8 * k) 8))) a data skip t

/-- Whether an offset of a still lies in the 16 bytes that the device reserves at the end of each line (R500). -/
def tagByte (f : Fmt) (y : Nat) : Bool :=
  let len := ceilDiv f.lineBits 2048 * 256 + 16
  len - 16 ≤ y % len && y / len < lact f.raster * f.slots

/-- Whether a range of BAR2 lies in a still that is allocated and in its charged buffer (R194, R500). -/
def State.stillCovers (s : State) (off bytes : Nat) : Bool :=
  match s.stillOf (off / stillWindow) with
  | none => false
  | some e => off % stillWindow + bytes ≤ e.2.cap * 2 ^ 20

/-- A write of the memory window (R500): outside a still, an error response as for a decode miss. -/
def State.writeBar2 (s : State) (m a off bytes data : Nat) : State :=
  if !s.stillCovers off bytes then s.busError m a true 1
  else
    let f := s.pgFmt (off / stillWindow)
    { s with buf := { s.buf with bar2 := s.buf.bar2.writeBytes off data (fun y => tagByte f (y % stillWindow)) (List.range bytes) } }

/-- A bus master's write of `bytes` bytes at an internal address, with all that it does. -/
def State.busWrite (s : State) (m : Fin 7) (a bytes data : Nat) (w : WriteFacts) : State :=
  if !s.busUp then s
  else
    let kind := s.busKind m a true bytes data
    if kind ≠ 0 then s.busError m a true kind
    else match s.decode m a with
      | .page p i off => s.writePage m p i off (BitVec.ofNat 32 data) w
      | .entry .nh n off => s.after (execNextHopWrite m (Fin.ofNat 4096 n) (bytes = 8) (off = 4) data)
      | .entry p n off =>
        let t := s.writeRows n (bitsOf data 0 32) (rowsAt p n off)
        if bytes = 8 then t.writeRows n (bitsOf data 32 32) (rowsAt p n (off + 4)) else t
      | .conv off => { s with buf := { s.buf with conv := s.buf.conv.writeBytes off data (fun _ => false) (List.range bytes) } }
      | .sram off => { s with buf := { s.buf with sram := s.buf.sram.writeBytes off data (fun _ => false) (List.range bytes) } }
      | .bar2 off => s.writeBar2 m a off bytes data
      | _ => s

/-- A write of a register or window area by a bus master (R499, R506, R508): the checks of R506, then the fields under their access codes
and whatever the bits of the register start. -/
def execRegisterWrite (m : Fin 7) (addr bytes data : Nat) (w : WriteFacts) (s : State) : Host.Outcome State Fault Refusal :=
  done (s.busWrite m addr bytes data w)

end Sys2Proof.Machine
end

