-- ==== Sys2Proof/Machine/Console.lean ====
section
/-! DEFINITION. The Terora console: its lines and replies, authentication and tags, confirmation, tests and the end of a session
(R484, R493, R537 to R546). -/
namespace Sys2Proof.Machine

/-- The bus master that the console is (Table 19.2). -/
abbrev terora : Fin 7 := 4

/-- The state with the console changed. -/
def State.con (s : State) (f : ConsoleState → ConsoleState) : State := { s with console := f s.console }

/-! ## Reads and writes as master 4 -/

/-- Words that the console reads one after another, each an access of `bytes` bytes by master 4; a refused one ends the command with
ERR 04 and its kind (R541). -/
def State.consoleRead (s : State) (bytes : Nat) : List Nat → State
  | [] => s.reply 0 0 s.console.data
  | a :: t =>
    let kind := s.busKind terora a false bytes 0
    if kind ≠ 0 then (s.busError terora a false kind).reply 4 kind
    else
      let ws := (List.range (bytes / 4)).map (fun k => s.readWord terora (a + 4 * k))
      let s := s.con (fun c => { c with data := c.data ++ ws })
      (s.readEffect terora a).fresh.2.consoleRead bytes t

/-- A register that the console writes: refused with ERR 04 and its kind, else written, and `f` follows (R541). -/
def State.consoleWrite (s : State) (p : Page) (i off v : Nat) (w : WriteFacts) (f : State → State) : State :=
  let a := p.base + 0x1000 * i + off
  let kind := s.busKind terora a true 4 v
  if kind ≠ 0 then (s.busError terora a true kind).reply 4 kind
  else f (s.busWrite terora a 4 v w)

/-- Whether a page, an instance and an offset name a register. -/
def namesRegister (p : Page) (i off : Nat) : Bool := p.code < 0x80 && i < p.instances && off < 0x1000 && off % 4 = 0

/-- The number of entries or words asked for: the default where none is given. -/
def countOf (n : Option Nat) (dflt : Nat) : Nat := n.getD dflt

/-- No facts for a write. -/
def plainFacts : WriteFacts := { takes := [], order := [], descs := [], failing := 0, err := 0, mode := 0, member := 0 }

/-! ## OPEN commands -/

/-- HELLO (Table 21.1). -/
def State.runHello (s : State) : State :=
  s.reply 0 0 [s.pageWord terora .global 0 0x040, bitsOf Config.deviceId.toNat 32 32, bitsOf Config.deviceId.toNat 0 32, s.lc,
    s.pageWord terora .global 0 0x044, s.get MESHCTL.STAT_SELF_ID]

/-- STATUS (Table 21.1). -/
def State.runStatus (s : State) : State :=
  s.reply 0 0 [s.summaryNow, s.ffPins.2, s.ffPins.1, s.get GPIO.HID_FFROW, s.get THERMAL.STAT_TCTL, s.get THERMAL.STAT_STAGE,
    s.get SUPERVISOR.STAT_MODE]

/-- RD (Table 21.1): 1 to 64 words, one where no number is given. -/
def State.runRd (s : State) (p : Page) (i off : Nat) (n : Option Nat) : State :=
  let n := countOf n 1
  if namesRegister p i off ∧ 1 ≤ n ∧ n ≤ 64 ∧ off + 4 * n ≤ 0x1000 then
    s.consoleRead 4 ((List.range n).map (fun k => p.base + 0x1000 * i + off + 4 * k))
  else s.reply 2

/-- The BAR0 offset and the size of a table window (Table 20.2): route, next hop, audio, LUT/filter, flow. -/
def tableWindow : Nat → Nat × Nat
  | 0 => (0x400000, 0x1000)
  | 1 => (0x480000, 0x8000)
  | 2 => (0x500000, 0x100000)
  | 3 => (0x600000, 0x400000)
  | _ => (0xA00000, 0x600000)

/-- RT (Table 21.1): 1 to 64 lines of 8 bytes, one where no number is given. -/
def State.runRt (s : State) (win : Fin 5) (off : Nat) (n : Option Nat) : State :=
  let n := countOf n 1
  let w := tableWindow win
  if off % 8 = 0 ∧ 1 ≤ n ∧ n ≤ 64 ∧ off + 8 * n ≤ w.2 then s.consoleRead 8 ((List.range n).map (fun k => w.1 + off + 8 * k))
  else s.reply 2

/-- The last `n` entries of a ring of `size` whose next index is `head`, the oldest first; none where nothing was written. -/
def lastEntries (size head n : Nat) : List Nat := (List.range n).map (fun k => (head + size - n + k) % size)

/-- LOG (Table 21.1): the last 1 to 64 entries of the event log. -/
def State.runLog (s : State) (n : Option Nat) : State :=
  let n := countOf n (Config.consoleEntries % 64 + 1)
  if 1 ≤ n ∧ n ≤ 64 then
    s.reply 0 0 ((lastEntries logRingSize s.evt.logHead n).flatMap (fun k => ((NTable.find s.evt.logRing k).map LogEntry.words).getD []))
  else s.reply 2

/-- STEPS (Table 21.1): the last 1 to 64 entries of the step log. -/
def State.runSteps (s : State) (n : Option Nat) : State :=
  let n := countOf n (Config.consoleEntries % 64 + 1)
  if 1 ≤ n ∧ n ≤ 64 then
    s.reply 0 0 ((lastEntries stepLogSize (s.get REPAIR.LOG_HEAD_NEXT) n).flatMap
      (fun k => ((NTable.find s.repair.log k).map StepEntry.words).getD []))
  else s.reply 2

/-- REF (Table 21.1): the manager's state, and the configuration, state and offset of each slot. -/
def State.runRef (s : State) : State :=
  s.reply 0 0 (s.pageWord terora .refmgr 0 0x048 :: (List.range 16).flatMap (fun k =>
    [0x100, 0x104, 0x108, 0x10C].map (fun o => s.pageWord terora .refmgr 0 (o + 0x20 * k))))

/-- MEM (Table 21.1): HEALTH and CE_RATE of each channel. -/
def State.runMem (s : State) : State :=
  s.reply 0 0 ((List.range 32).flatMap (fun c => [s.get MEMCH.CH_STAT_HEALTH c, s.get MEMCH.CE_RATE_COUNT c]))

/-- LEDGER (Table 21.1): the totals of the ledger page. -/
def State.runLedger (s : State) : State :=
  s.reply 0 0 ((List.range 10).map (fun k => s.pageWord terora .ledger 0 (0x040 + 4 * k)))

/-- SUP (Table 21.1): the supervisors' state. -/
def State.runSup (s : State) : State :=
  s.reply 0 0 ([0x040, 0x044, 0x048, 0x050].map (fun o => s.pageWord terora .supervisor 0 o))

/-- AUTH (R484, R542, R545): a challenge of 128 bits, a free value, in place of an earlier one. -/
def State.runAuth (s : State) : State :=
  if s.get KEYS.LC_STAT_TAMPER_HOLD = 1 then s.reply 7
  else if s.get SERVICE.STAT_LOCKED_OUT = 1 then s.reply 6
  else
    let f := s.fresh
    let x := f.1 % 2 ^ 128
    (f.2.con (fun c => { c with challenge := some x })).reply 0 0 [bitsOf x 96 32, bitsOf x 64 32, bitsOf x 32 32, bitsOf x 0 32]

/-- XTAL32 periods in ten minutes. -/
abbrev tenMinutes : Nat := 600 * 32768

/-- A signature has failed (R484): the third within ten minutes locks entry for ten minutes. -/
def State.authFails (s : State) : State :=
  let l := s.console.fails.filter (fun x => s.clk.uptime < x + tenMinutes) ++ [s.clk.uptime]
  let s := (s.bump SERVICE.CNT_AUTH_FAILS).raise .service 0 SERVICE.EV_AUTH_FAIL
  let s := s.con (fun c => { c with fails := if 3 ≤ l.length then [] else l })
  let s := if 3 ≤ l.length then
      ((s.set SERVICE.STAT_LOCKED_OUT 1).set SERVICE.STAT_LOCKOUT_LEFT 600).raise .service 0 SERVICE.EV_LOCKOUT
    else s
  s.reply 5

/-- AUTH SIG (R484, R542): accepted under Belinane's service key, or the maker's once its hash is fused. An accepted signature starts the
change to SERVICE; OK follows it. -/
def State.runAuthSig (s : State) (belinane maker : Bool) : State :=
  if s.get KEYS.LC_STAT_TAMPER_HOLD = 1 then s.reply 7
  else if s.get SERVICE.STAT_LOCKED_OUT = 1 then s.reply 6
  else if s.console.challenge.isNone ∨ !(s.lc = lcFIELD || s.lc = lcSERVICE) then s.reply 10
  else
    let s := s.con (fun c => { c with challenge := none })
    if !(belinane || (maker && s.keys.makerService.isSome)) then s.authFails
    else if s.console.session then s.reply 0
    else
      let s := s.con (fun c => { c with waits := 1 })
      if s.lc = lcSERVICE ∧ s.get KEYS.HID_LCREQ ≠ 0 then s else s.askLc lcSERVICE

/-- A command is held for the confirmation GPIO: !CONFIRM is sent (R545). -/
def State.hold (s : State) (c : ConsoleLine) : State :=
  (s.con (fun x => { x with held := some c, lines := x.lines ++ [100] })).raise .service 0 SERVICE.EV_CONFIRM_WAIT

/-- CLEAR_TAMPER (R493): opens the 30 s of the confirmation GPIO, while there is tamper-hold to end. -/
def State.runClearTamper (s : State) : State :=
  if s.get KEYS.LC_STAT_TAMPER_HOLD = 1 then s.hold .clearTamper else s.reply 10

/-! ## Tests -/

/-- The tests of Table 21.3 by row. -/
abbrev ctPRBS : Nat := 1
abbrev ctEYE : Nat := 2
abbrev ctAPORT : Nat := 3
abbrev ctMEM : Nat := 4
abbrev ctCE : Nat := 5
abbrev ctISP : Nat := 6
abbrev ctSUP : Nat := 7

/-- What a field holds, to be restored. -/
def State.keep (s : State) (f : Field) (i k : Nat) : RegKey × Nat := (⟨f, i, k⟩, s.get f i k)

/-- A test starts, unless one runs, its arguments are out of range or its precondition is false (R546, Table 21.2). -/
def State.testStart (s : State) (range pre : Bool) (t : ConsoleTest) (f : State → State) : State :=
  if s.console.test.isSome then s.reply 9
  else if !range then s.reply 2
  else if !pre then s.reply 10
  else (f s).con (fun c => { c with test := some t })

/-- The unit of an audio port. -/
def apUnit (p : Nat) : UnitId := ⟨.aport, p, 0⟩

/-- TEST PRBS: the generator, the checker and the loop of a free pad lane; `via` 0 EXT, 1 NEAR, 2 FAR. -/
def State.runTestPrbs (s : State) (lane : Nat) (p31 : Bool) (secs : Nat) (via : Fin 3) : State :=
  let q := lane / 4
  let n := lane % 4
  let pat := if p31 then 2 else 1
  let saved : RTable := [s.keep QUAD.TEST_CTL_PRBS_GEN q n, s.keep QUAD.TEST_CTL_PRBS_CHK q n, s.keep QUAD.TEST_CTL_INVERT q n,
    s.keep QUAD.TEST_CTL_LOOP q n]
  s.testStart (lane < 96 && 1 ≤ secs && secs ≤ 3600) (s.laneFree q n && !s.laneShadowed q n) ⟨ctPRBS, lane, 0, saved⟩ (fun t =>
    (t.applyTestCtl terora q n (pat + 4 * pat + 32 * via)).set QUAD.PRBS_ERR_COUNT 0 q n)

/-- TEST EYE: one scan of the slice behind a lane in RUN. -/
def State.runTestEye (s : State) (lane hoff voff dwell : Nat) : State :=
  let q := lane / 4
  let sl := s.sliceOf false q (lane % 4)
  let saved : RTable := [s.keep QUAD.EYE_CTL_HOFF q 0, s.keep QUAD.EYE_CTL_VOFF q 0, s.keep QUAD.EYE_CTL_DWELL q 0, s.keep QUAD.EYE_CTL_SLICE q 0]
  s.testStart (lane < 96 && (hoff < 32 || (96 ≤ hoff && hoff < 128)) && (voff < 64 || (64 < voff && voff < 128)) && 20 ≤ dwell && dwell ≤ 40)
    (sl < 5 && s.get QUAD.RXSL_STAT_STATE q sl = slRUN && s.get QUAD.HID_EYE q = 0) ⟨ctEYE, lane, dwell, saved⟩ (fun t =>
    ((t.writePlain terora .quad q 0x100 (hoff + voff * 2 ^ 8 + dwell * 2 ^ 16 + sl * 2 ^ 24)).set QUAD.EYE_CTL_DONE 0 q).set
      QUAD.EYE_CTL_ABORTED 0 q |>.set QUAD.HID_EYE 1 q)

/-- TEST APORT: isolates the port for its loop test (R315). -/
def State.runTestAport (s : State) (p : Nat) : State :=
  let u := apUnit p
  s.testStart (p < Page.aport.instances) (s.domUp (Page.aport.domain p) && s.unit u ≠ uRETIRED) ⟨ctAPORT, p, flag (s.unit u = uOFF), []⟩
    (fun t => ((t.isolateUnit u).unitLost u).setUnit u uTEST)

/-- TEST MEM: the march test of a channel without allocations (R209). -/
def State.runTestMem (s : State) (c : Nat) : State :=
  s.testStart (c < 32) (s.channelEmpty c && (s.unit (chUnit c) = uRUN || s.unit (chUnit c) = uISOLATED)) ⟨ctMEM, c, 0, []⟩
    (fun t => t.setUnit (chUnit c) uTEST)

/-- TEST CE: the known-answer test of an engine that is SPARE and no twin, or ISOLATED (R248). -/
def State.runTestCe (s : State) (n : Nat) : State :=
  let st := s.unit (ceUnit n)
  s.testStart (n < 36) ((st = uSPARE && s.engineShares n = 0) || st = uISOLATED) ⟨ctCE, n, flag (st = uSPARE), []⟩
    (fun t => t.setUnit (ceUnit n) uTEST)

/-- TEST ISP: the self-test of the unselected half of a pair, LOCKED (R357). -/
def State.runTestIsp (s : State) (k : Nat) : State :=
  let b := 1 - s.get SYNTH.SYN_STAT_SEL (12 + k)
  s.testStart (k < 8) (s.synState (12 + k) b = 3 && s.unit (synUnit (12 + k) b) = uRUN) ⟨ctISP, k, b, []⟩ (fun t => t.testHalf (12 + k))

/-- TEST SUP: the self-test of the supervisor in STANDBY (R419). -/
def State.runTestSup (s : State) : State :=
  match [0, 1].find? (fun k => s.sup k = suSTANDBY) with
  | none => s.testStart true false ⟨ctSUP, 0, 0, []⟩ id
  | some k => s.testStart true (s.get SUPERVISOR.HID_TAKE = 0) ⟨ctSUP, k, 0, []⟩ (fun t => t.retestStandby)

/-- The codes of TEST FF's step `k`: FF_ANA from 2 to 17, LOCK_ANA from 0 to 6, both from the lowest. -/
def State.ffStep (s : State) (k : Nat) : State :=
  (s.set SERVICE.FF_CTL_ANA (min (2 + k) 17)).set SYNTHCTL.LOCKANA_FORCE (min k 6)

/-- TEST FF: the pins are stepped through their codes. -/
def State.runTestFf (s : State) : State :=
  let saved : RTable := [s.keep SERVICE.FF_CTL_OVERRIDE 0 0, s.keep SERVICE.FF_CTL_ANA 0 0, s.keep SYNTHCTL.LOCKANA_OVERRIDE 0 0,
    s.keep SYNTHCTL.LOCKANA_FORCE 0 0]
  s.testStart true true ⟨ctFF, 0, s.clk.uptime, saved⟩ (fun t =>
    ((t.set SERVICE.FF_CTL_OVERRIDE 1).set SYNTHCTL.LOCKANA_OVERRIDE 1).ffStep 0)

/-- The step of TEST FF after a time: 2 s each, until the sixteenth. -/
def State.tickFf (s : State) : State :=
  match s.console.test with
  | some t => if t.kind = ctFF then s.ffStep (min ((s.clk.uptime + 2 ^ 48 - t.arg2) % 2 ^ 48 / 65536) 15) else s
  | none => s

/-- The fields that a test changed take their values back (R546). -/
def State.restore (s : State) (l : RTable) : State :=
  l.foldl (fun (u : State) (e : RegKey × Nat) => u.set e.1.field e.2 e.1.inst e.1.idx) s

/-- PASS 1 or RETIRED 2 for a unit as it now is. -/
def State.verdict (s : State) (u : UnitId) : Nat := if s.unit u = uRETIRED then 2 else 1

/-- The unit under a test as its test leaves it, and the words of the reply (Table 21.3). -/
def State.testResult (s : State) (t : ConsoleTest) (pass : Bool) (n : Nat) : State × List Nat :=
  match t.kind with
  | 1 =>
    let q := t.arg / 4
    let l := t.arg % 4
    (s, [s.get QUAD.TEST_CTL_CHK_SYNC q l, s.get QUAD.PRBS_ERR_COUNT q l, n])
  | 2 => (s, [s.get QUAD.EYE_ERR_COUNT (t.arg / 4), 2 ^ t.arg2])
  | 3 =>
    let u := apUnit t.arg
    let r := if s.unit u ≠ uTEST then s
      else if !pass then s.testFailed u false
      else
        let x := ((s.logStep u stSELFTEST).logStep u stRETURN)
        if t.arg2 = 1 then x.setUnit u uOFF else x.startUnit u
    (r, [r.verdict u])
  | 4 =>
    let r := if s.unit (chUnit t.arg) = uTEST then s.channelTested t.arg (if pass then n else 2 ^ 24) else s
    (r, [r.verdict (chUnit t.arg), n])
  | 5 =>
    let u := ceUnit t.arg
    let r := if s.unit u ≠ uTEST then s else State.engineTested (if t.arg2 = 1 then s.setUnit u uSPARE else s) t.arg pass
    (r, [r.verdict u])
  | 6 =>
    let k := 12 + t.arg
    let u := synUnit k t.arg2
    let r := if s.unit u ≠ uTEST then s
      else if pass then (s.synthTested k t.arg2 true).startBand k t.arg2 else s.testFailed u false
    (r, [r.verdict u])
  | 7 => (s, [s.sup t.arg, s.get SUPERVISOR.JOURNAL_IN_SYNC])
  | _ => (s, (List.range 16).map (fun k => 2 + k) ++ List.range 7)

/-- Whether a test has run its course: the eye scan has ended, the supervisor is up again or has failed. -/
def State.testOver (s : State) (t : ConsoleTest) : Bool :=
  match t.kind with
  | 2 => s.get QUAD.HID_EYE (t.arg / 4) = 0
  | 7 => s.sup t.arg ≠ suBOOT && s.sup t.arg ≠ suSYNC
  | _ => true

/-- A test ends: its result, every field it changed restored, then its reply (R546). -/
def State.testEnd (s : State) (t : ConsoleTest) (pass : Bool) (n : Nat) : State :=
  let r := s.testResult t pass n
  let u := r.1.restore t.saved
  let u := if t.kind = ctPRBS then
      let q := t.arg / 4
      let l := t.arg % 4
      let set (s : State) : State := if s.get QUAD.TEST_CTL_PRBS_CHK q l = 0 then s.set QUAD.TEST_CTL_CHK_SYNC 0 q l else s
      set (u.testSlices q l)
    else u
  State.con (u.reply 0 0 r.2) (fun c => { c with test := none })

/-! ## SERVICE commands -/

/-- WR (Table 21.1): the write, then the word read back. -/
def State.runWr (s : State) (p : Page) (i off : Nat) (v : Word) (w : WriteFacts) : State :=
  if namesRegister p i off then
    s.consoleWrite p i off v.toNat w (fun t => if t.busUp then t.consoleRead 4 [p.base + 0x1000 * i + off] else t)
  else s.reply 2

/-- STORE: OK and RESULT follow when the store reaches IDLE. -/
def State.runStore (s : State) : State :=
  s.consoleWrite .nvm 0 0x044 1 plainFacts (fun t => t.con (fun c => { c with waits := 2 }))

/-- RETIRE (Table 18.1): from SERVICE only. -/
def State.runRetire (s : State) : State := if s.lc = lcSERVICE then (s.askLc lcRETIRED).reply 0 else s.reply 10

/-- FUSE MAKER_IMAGE (R488): once. -/
def State.runFuseImage (s : State) (h : Nat) : State :=
  if s.keys.makerImage.isSome then s.reply 10
  else (State.set { s with keys := { s.keys with makerImage := some (h % 2 ^ 384) } } KEYS.IMAGE_STAT_MAKER_SET 1).reply 0

/-- FUSE MAKER_SERVICE (R484): once. -/
def State.runFuseService (s : State) (h : Nat) : State :=
  if s.keys.makerService.isSome then s.reply 10
  else State.reply { s with keys := { s.keys with makerService := some (h % 2 ^ 384) } } 0

/-- The action of a SERVICE command that may run. -/
def State.runService (s : State) : ConsoleLine → State
  | .exit _ => State.reply (if s.console.session then s.con (fun c => { c with ending := ceEXIT }) else s) 0
  | .wr p i off v _ w => s.runWr p i off v w
  | .testPrbs lane p31 secs via _ => s.runTestPrbs lane p31 secs via
  | .testEye lane hoff voff dwell _ => s.runTestEye lane hoff voff dwell
  | .testAport p _ => s.runTestAport p
  | .testMem c _ => s.runTestMem c
  | .testCe n _ => s.runTestCe n
  | .testIsp k _ => s.runTestIsp k
  | .testSup _ => s.runTestSup
  | .testFf _ => s.runTestFf
  | .store _ => s.runStore
  | .resetControl _ => s.consoleWrite .reset 0 0x048 (lockKey * 2 ^ 16 + 2) plainFacts (fun t => t.reply 0)
  | .resetDevice mode member _ => s.consoleWrite .reset 0 0x048 (lockKey * 2 ^ 16 + 1)
      { plainFacts with mode := mode, member := member } (fun t => t.reply 0)
  | .retry _ => s.consoleWrite .supervisor 0 0x04C 2 plainFacts (fun t => t.reply 0)
  | .retire _ => s.runRetire
  | .fuseImage h _ => s.runFuseImage h
  | .fuseService h _ => s.runFuseService h
  | _ => s

/-- A tag has not matched (R543): ERR 05, and the third in a row ends the session. -/
def State.tagFails (s : State) : State :=
  let s := ((s.bump SERVICE.CNT_TAG_FAILS).raise .service 0 SERVICE.EV_TAG_FAIL).reply 5
  let n := s.console.badTags + 1
  s.con (fun c => { c with badTags := n, ending := if 3 ≤ n ∧ c.ending = 0 then ceTAGS else c.ending })

/-- A SERVICE command (R541, R543, R545): held in tamper-hold, ERR 03 outside a session, and in one its tag decides. -/
def State.serve (s : State) (tag confirm : Bool) (c : ConsoleLine) : State :=
  if s.get KEYS.LC_STAT_TAMPER_HOLD = 1 then s.hold c
  else if !s.console.session ∨ s.console.ending ≠ 0 then s.reply 3
  else if !tag then s.tagFails
  else
    let s := (s.incr SERVICE.CMD_CTR_COUNT).con (fun x => { x with badTags := 0 })
    if confirm then s.hold c else s.runService c

/-! ## Lines -/

/-- A line begins: counted, and the last reply and the lines sent since are behind it. -/
def State.beginLine (s : State) : State :=
  (s.bump SERVICE.CNT_LINES).con (fun c => { c with data := [], code := noReply, text := 0, lines := [] })

/-- A line is taken up: each command under its level (Table 21.1). -/
def State.takeLine (s : State) (c : ConsoleLine) : State :=
  let s := s.beginLine
  match c with
  | .unknown long => s.reply (if long then 11 else 1)
  | .hello => s.runHello
  | .status => s.runStatus
  | .rd p i off n => s.runRd p i off n
  | .rt win off n => s.runRt win off n
  | .logs n => s.runLog n
  | .steps n => s.runSteps n
  | .ref => s.runRef
  | .mem => s.runMem
  | .ledger => s.runLedger
  | .sup => s.runSup
  | .auth => s.runAuth
  | .authSig b m => s.runAuthSig b m
  | .clearTamper => s.runClearTamper
  | .exit tag | .wr _ _ _ _ tag _ | .testPrbs _ _ _ _ tag | .testEye _ _ _ _ tag | .testAport _ tag | .testMem _ tag
  | .testCe _ tag | .testIsp _ tag | .testSup tag | .testFf tag | .store tag | .resetControl tag
  | .resetDevice _ _ tag | .retry tag => s.serve tag false c
  | .retire tag | .fuseImage _ tag | .fuseService _ tag => s.serve tag true c

/-- Whether a command runs that keeps the console from the next line: it waits for a change or for its confirmation. -/
def State.consoleBusy (s : State) : Bool := s.console.waits ≠ 0 || s.console.held.isSome

/-- The lines received while a command ran are taken up in their order, until one waits (R539). -/
def State.drainLines (s : State) : List ConsoleLine → State
  | [] => s.con (fun c => { c with buffer := [] })
  | c :: t => if s.consoleBusy || !s.domUp 25 then s.con (fun x => { x with buffer := c :: t })
      else State.drainLines (s.takeLine c).settleConsole t

/-- A line arrives at the console, which runs while PD25 is up (R538, R539): it follows the lines buffered, and waits with them while
a command runs. -/
def State.consoleLine (s : State) (c : ConsoleLine) : State :=
  if !s.domUp 25 then s else s.drainLines (s.console.buffer ++ [c])

/-- What the console does as time passes: the lines buffered, and the steps of TEST FF. -/
def State.tickConsole (s : State) : State := if s.domUp 25 then s.tickFf.drainLines s.console.buffer else s

/-! ## The rows -/

/-- The banner and the prompt, within 10 ms of PD25's release (R538). -/
def execConsoleStart (s : State) : Host.Outcome State Fault Refusal :=
  if !s.domUp 25 ∨ s.console.started then done s
  else done (s.con (fun c => { c with started := true, slow := false, lines := c.lines ++ [200] }))

/-- A break on SVC_RX: 115,200 baud until the console restarts (R537). -/
def execConsoleBreak (s : State) : Host.Outcome State Fault Refusal :=
  if s.domUp 25 then done (s.con (fun c => { c with slow := true })) else done s

/-- A line that names no command, or that was too long or lost bytes (R539, R540). `dropped` bytes are counted as received. -/
def execUnknownCommand (long : Bool) (dropped : Nat) (s : State) : Host.Outcome State Fault Refusal :=
  if !s.domUp 25 then done s
  else
    let t := if dropped = 0 then s else (s.bumpBy SERVICE.CNT_RX_OVERRUNS dropped).raise .service 0 SERVICE.EV_RX_OVERRUN
    done (t.consoleLine (.unknown (long || dropped ≠ 0)))

/-- HELLO. -/
def execHello (s : State) : Host.Outcome State Fault Refusal := done (s.consoleLine .hello)
/-- STATUS. -/
def execStatus (s : State) : Host.Outcome State Fault Refusal := done (s.consoleLine .status)
/-- RD page[i] offset [n]. -/
def execRd (p : Page) (i off : Nat) (n : Option Nat) (s : State) : Host.Outcome State Fault Refusal := done (s.consoleLine (.rd p i off n))
/-- RT window offset [n]. -/
def execRt (win : Fin 5) (off : Nat) (n : Option Nat) (s : State) : Host.Outcome State Fault Refusal := done (s.consoleLine (.rt win off n))
/-- LOG [n]. -/
def execLog (n : Option Nat) (s : State) : Host.Outcome State Fault Refusal := done (s.consoleLine (.logs n))
/-- STEPS [n]. -/
def execSteps (n : Option Nat) (s : State) : Host.Outcome State Fault Refusal := done (s.consoleLine (.steps n))
/-- REF. -/
def execRef (s : State) : Host.Outcome State Fault Refusal := done (s.consoleLine .ref)
/-- MEM. -/
def execMem (s : State) : Host.Outcome State Fault Refusal := done (s.consoleLine .mem)
/-- LEDGER. -/
def execLedger (s : State) : Host.Outcome State Fault Refusal := done (s.consoleLine .ledger)
/-- SUP. -/
def execSup (s : State) : Host.Outcome State Fault Refusal := done (s.consoleLine .sup)
/-- AUTH. -/
def execAuth (s : State) : Host.Outcome State Fault Refusal := done (s.consoleLine .auth)
/-- AUTH SIG r s. -/
def execAuthSig (belinane maker : Bool) (s : State) : Host.Outcome State Fault Refusal := done (s.consoleLine (.authSig belinane maker))
/-- EXIT. -/
def execExit (tag : Bool) (s : State) : Host.Outcome State Fault Refusal := done (s.consoleLine (.exit tag))
/-- WR page[i] offset value. -/
def execWr (p : Page) (i off : Nat) (v : Word) (tag : Bool) (w : WriteFacts) (s : State) : Host.Outcome State Fault Refusal :=
  done (s.consoleLine (.wr p i off v tag w))
/-- TEST PRBS lane 7|31 s NEAR|FAR|EXT. -/
def execTestPrbs (lane : Nat) (p31 : Bool) (secs : Nat) (via : Fin 3) (tag : Bool) (s : State) : Host.Outcome State Fault Refusal :=
  done (s.consoleLine (.testPrbs lane p31 secs via tag))
/-- TEST EYE lane hoff voff dwell. -/
def execTestEye (lane hoff voff dwell : Nat) (tag : Bool) (s : State) : Host.Outcome State Fault Refusal :=
  done (s.consoleLine (.testEye lane hoff voff dwell tag))
/-- TEST APORT p. -/
def execTestAport (p : Nat) (tag : Bool) (s : State) : Host.Outcome State Fault Refusal := done (s.consoleLine (.testAport p tag))
/-- TEST MEM c. -/
def execTestMem (c : Nat) (tag : Bool) (s : State) : Host.Outcome State Fault Refusal := done (s.consoleLine (.testMem c tag))
/-- TEST CE n. -/
def execTestCe (n : Nat) (tag : Bool) (s : State) : Host.Outcome State Fault Refusal := done (s.consoleLine (.testCe n tag))
/-- TEST ISP k. -/
def execTestIsp (k : Nat) (tag : Bool) (s : State) : Host.Outcome State Fault Refusal := done (s.consoleLine (.testIsp k tag))
/-- TEST SUP. -/
def execTestSup (tag : Bool) (s : State) : Host.Outcome State Fault Refusal := done (s.consoleLine (.testSup tag))
/-- TEST FF. -/
def execTestFf (tag : Bool) (s : State) : Host.Outcome State Fault Refusal := done (s.consoleLine (.testFf tag))
/-- STORE. -/
def execConsoleStore (tag : Bool) (s : State) : Host.Outcome State Fault Refusal := done (s.consoleLine (.store tag))
/-- RESET CONTROL. -/
def execConsoleResetControl (tag : Bool) (s : State) : Host.Outcome State Fault Refusal := done (s.consoleLine (.resetControl tag))
/-- RESET DEVICE. -/
def execConsoleResetDevice (mode : BitVec 4) (member : BitVec 3) (tag : Bool) (s : State) : Host.Outcome State Fault Refusal :=
  done (s.consoleLine (.resetDevice mode member tag))
/-- RETRY. -/
def execConsoleRetry (tag : Bool) (s : State) : Host.Outcome State Fault Refusal := done (s.consoleLine (.retry tag))
/-- CLEAR_TAMPER. -/
def execClearTamper (s : State) : Host.Outcome State Fault Refusal := done (s.consoleLine .clearTamper)
/-- RETIRE. -/
def execRetire (tag : Bool) (s : State) : Host.Outcome State Fault Refusal := done (s.consoleLine (.retire tag))
/-- FUSE MAKER_IMAGE h. -/
def execFuseMakerImage (h : Nat) (tag : Bool) (s : State) : Host.Outcome State Fault Refusal := done (s.consoleLine (.fuseImage h tag))
/-- FUSE MAKER_SERVICE h. -/
def execFuseMakerService (h : Nat) (tag : Bool) (s : State) : Host.Outcome State Fault Refusal :=
  done (s.consoleLine (.fuseService h tag))

/-- A console test has completed (R546). `pass`: a self-test passed; `n`: the bits compared by TEST PRBS, the pages remapped by TEST MEM. -/
def execConsoleTestEnd (pass : Bool) (n : Nat) (s : State) : Host.Outcome State Fault Refusal :=
  match s.console.test with
  | none => done s
  | some t => if s.testOver t then done (s.testEnd t pass n) else done s

/-- The confirmation GPIO held high for 2 s within 30 s of !CONFIRM: the command held runs (R545). CLEAR_TAMPER has a row of its own. -/
def execConfirmGpio (s : State) : Host.Outcome State Fault Refusal :=
  match s.console.held with
  | none => done s
  | some c =>
    if c = .clearTamper ∨ !s.domUp 25 then done s
    else done ((s.con (fun x => { x with held := none })).runService c)

/-- 30 s have passed without the confirmation: ERR 08 (R545). -/
def execConfirmTimeout (s : State) : Host.Outcome State Fault Refusal :=
  if s.console.held.isSome then done ((s.con (fun x => { x with held := none })).reply 8) else done s

/-- The confirmation GPIO held high for 2 s within 30 s of CLEAR_TAMPER: tamper-hold ends (R493). -/
def execTamperConfirm (s : State) : Host.Outcome State Fault Refusal :=
  if s.console.held = some .clearTamper ∧ s.get KEYS.LC_STAT_TAMPER_HOLD = 1 ∧ s.domUp 25 then
    done (((s.con (fun x => { x with held := none })).tamperEnds).reply 0)
  else done s

/-- CFG.IDLE minutes without a command end the session (R544). -/
def execConsoleIdleTimeout (s : State) : Host.Outcome State Fault Refusal :=
  if s.console.session ∧ s.console.ending = 0 then done (s.con (fun c => { c with ending := ceIDLE })) else done s

/-- The lockout of R484 runs out: AUTH is accepted again. -/
def execAuthLockoutEnd (s : State) : Host.Outcome State Fault Refusal :=
  if s.get SERVICE.STAT_LOCKED_OUT = 1 then done ((s.set SERVICE.STAT_LOCKED_OUT 0).set SERVICE.STAT_LOCKOUT_LEFT 0) else done s

end Sys2Proof.Machine
end

