-- ==== Sys2Proof/Machine/Dispatch.lean ====
section
/-! DEFINITION. One arm for each command. -/
namespace Sys2Proof.Machine

/-- The meaning of a command: its effect on everything but the queue. -/
def exec (i : Instr) (s : State) : Host.Outcome State Fault Refusal :=
  match i with
  | .registerWrite m addr bytes data w => Sys2Proof.Machine.execRegisterWrite m addr bytes data w s
  | .channelStall u => Sys2Proof.Machine.execChannelStall u s
  | .isolateReq m p inst => Sys2Proof.Machine.execIsolateReq m p inst s
  | .pageEnableClear m p inst => Sys2Proof.Machine.execPageEnableClear m p inst s
  | .pageEnableSet m p inst => Sys2Proof.Machine.execPageEnableSet m p inst s
  | .drainComplete u => Sys2Proof.Machine.execDrainComplete u s
  | .drainTimeout u => Sys2Proof.Machine.execDrainTimeout u s
  | .unitReset req u => Sys2Proof.Machine.execUnitReset req u s
  | .unitSelftestEnd u pass => Sys2Proof.Machine.execUnitSelftestEnd u pass s
  | .switchingLine o f => Sys2Proof.Machine.execSwitchingLine o f s
  | .outputLineRead o f => Sys2Proof.Machine.execOutputLineRead o f s
  | .signalDetectChange q sl present => Sys2Proof.Machine.execSignalDetectChange q sl present s
  | .losDeclare q sl spareSees => Sys2Proof.Machine.execLosDeclare q sl spareSees s
  | .losExit q sl => Sys2Proof.Machine.execLosExit q sl s
  | .acquireClassTimeout q sl => Sys2Proof.Machine.execAcquireClassTimeout q sl s
  | .cdrLockHeld q sl fam => Sys2Proof.Machine.execCdrLockHeld q sl fam s
  | .rxFreqUpdate q n off => Sys2Proof.Machine.execRxFreqUpdate q n off s
  | .spareShadow q n => Sys2Proof.Machine.execSpareShadow q n s
  | .spareAligned q => Sys2Proof.Machine.execSpareAligned q s
  | .shadowWindowEnd q activeErr spareErr sameLines => Sys2Proof.Machine.execShadowWindowEnd q activeErr spareErr sameLines s
  | .sliceFlip q tx => Sys2Proof.Machine.execSliceFlip q tx s
  | .hardFault q tx n => Sys2Proof.Machine.execHardFault q tx n s
  | .txSpareShadow q n => Sys2Proof.Machine.execTxSpareShadow q n s
  | .forceRx m q v => Sys2Proof.Machine.execForceRx m q v s
  | .forceTx m q v => Sys2Proof.Machine.execForceTx m q v s
  | .spareSelftest q tx => Sys2Proof.Machine.execSpareSelftest q tx s
  | .spareSelftestEnd q tx pass => Sys2Proof.Machine.execSpareSelftestEnd q tx pass s
  | .testCtlWrite m q n v => Sys2Proof.Machine.execTestCtlWrite m q n v s
  | .errInject m q n => Sys2Proof.Machine.execErrInject m q n s
  | .chkClear m q n => Sys2Proof.Machine.execChkClear m q n s
  | .eyeStart m q v => Sys2Proof.Machine.execEyeStart m q v s
  | .eyeDone q mismatches => Sys2Proof.Machine.execEyeDone q mismatches s
  | .ethFrameReceived q n f => Sys2Proof.Machine.execEthFrameReceived q n f s
  | .ethCountRead m q p k => Sys2Proof.Machine.execEthCountRead m q p k s
  | .ethLinkChange q n up localFault remoteFault fecLock lockLost => Sys2Proof.Machine.execEthLinkChange q n up localFault remoteFault fecLock lockLost s
  | .sdiLineReceived inst f => Sys2Proof.Machine.execSdiLineReceived inst f s
  | .trsMissing inst => Sys2Proof.Machine.execTrsMissing inst s
  | .viFrameStart inst f => Sys2Proof.Machine.execViFrameStart inst f s
  | .ctxReqAlloc m v => Sys2Proof.Machine.execCtxReqAlloc m v s
  | .ctxReqModify m v => Sys2Proof.Machine.execCtxReqModify m v s
  | .ctxReqActivate m v => Sys2Proof.Machine.execCtxReqActivate m v s
  | .ctxReqDeactivate m v => Sys2Proof.Machine.execCtxReqDeactivate m v s
  | .ctxReqFree m v => Sys2Proof.Machine.execCtxReqFree m v s
  | .sendDeactivateEnd fc => Sys2Proof.Machine.execSendDeactivateEnd fc s
  | .flowDatagram d => Sys2Proof.Machine.execFlowDatagram d s
  | .flowRowRemap bank row => Sys2Proof.Machine.execFlowRowRemap bank row s
  | .flowLost fc => Sys2Proof.Machine.execFlowLost fc s
  | .legLost fc => Sys2Proof.Machine.execLegLost fc s
  | .mergeRelease fc => Sys2Proof.Machine.execMergeRelease fc s
  | .txPacketSend fc start bytes => Sys2Proof.Machine.execTxPacketSend fc start bytes s
  | .membershipReport p => Sys2Proof.Machine.execMembershipReport p s
  | .reportRepeat p => Sys2Proof.Machine.execReportRepeat p s
  | .queryResponse p => Sys2Proof.Machine.execQueryResponse p s
  | .fwdTake m v => Sys2Proof.Machine.execFwdTake m v s
  | .fwdTakeBatch m v => Sys2Proof.Machine.execFwdTakeBatch m v s
  | .fwdGo m v => Sys2Proof.Machine.execFwdGo m v s
  | .flowTakeSwitch fc => Sys2Proof.Machine.execFlowTakeSwitch fc s
  | .holdTrunc fc => Sys2Proof.Machine.execHoldTrunc fc s
  | .nextHopWrite m k wide hi data => Sys2Proof.Machine.execNextHopWrite m k wide hi data s
  | .hqTailWrite m q tx v descs => Sys2Proof.Machine.execHqTailWrite m q tx v descs s
  | .take m v f => Sys2Proof.Machine.execTake m v f s
  | .takeHold m v => Sys2Proof.Machine.execTakeHold m v s
  | .salvoGo m v f => Sys2Proof.Machine.execSalvoGo m v f s
  | .salvoAbort m => Sys2Proof.Machine.execSalvoAbort m s
  | .timedSalvoCommit m late => Sys2Proof.Machine.execTimedSalvoCommit m late s
  | .salvoTrigEdge g f => Sys2Proof.Machine.execSalvoTrigEdge g f s
  | .sectorCorrected c sector => Sys2Proof.Machine.execSectorCorrected c sector s
  | .sectorUncorrectable c sector alloc => Sys2Proof.Machine.execSectorUncorrectable c sector alloc s
  | .scrubPass c hours => Sys2Proof.Machine.execScrubPass c hours s
  | .watchExpire c => Sys2Proof.Machine.execWatchExpire c s
  | .channelDead c => Sys2Proof.Machine.execChannelDead c s
  | .migrateOut m c => Sys2Proof.Machine.execMigrateOut m c s
  | .channelSelftest m c failing => Sys2Proof.Machine.execChannelSelftest m c failing s
  | .retrainEnd q => Sys2Proof.Machine.execRetrainEnd q s
  | .syncEvacGo m v => Sys2Proof.Machine.execSyncEvacGo m v s
  | .syncEvacRelease m v => Sys2Proof.Machine.execSyncEvacRelease m v s
  | .holdMaxExpire o => Sys2Proof.Machine.execHoldMaxExpire o s
  | .returnTExpire o => Sys2Proof.Machine.execReturnTExpire o s
  | .fsFallbackCommit m o f => Sys2Proof.Machine.execFsFallbackCommit m o f s
  | .fsCfgCommit m o f => Sys2Proof.Machine.execFsCfgCommit m o f s
  | .profDstGo m v f => Sys2Proof.Machine.execProfDstGo m v f s
  | .loadCommit m v => Sys2Proof.Machine.execLoadCommit m v s
  | .loadDone => Sys2Proof.Machine.execLoadDone s
  | .ceEvacGo m v => Sys2Proof.Machine.execCeEvacGo m v s
  | .ceEvacRelease m v => Sys2Proof.Machine.execCeEvacRelease m v s
  | .engineHardFault ce cause => Sys2Proof.Machine.execEngineHardFault ce cause s
  | .vectorFault ce st => Sys2Proof.Machine.execVectorFault ce st s
  | .qualityStepRequest ce st => Sys2Proof.Machine.execQualityStepRequest ce st s
  | .ceSpareSelftest ce pass => Sys2Proof.Machine.execCeSpareSelftest ce pass s
  | .generatorStart o timedOut => Sys2Proof.Machine.execGeneratorStart o timedOut s
  | .slewDone o => Sys2Proof.Machine.execSlewDone o s
  | .stepLinesSent o => Sys2Proof.Machine.execStepLinesSent o s
  | .xpReqGo m v => Sys2Proof.Machine.execXpReqGo m v s
  | .xpReqBatch m v => Sys2Proof.Machine.execXpReqBatch m v s
  | .xpGo m v => Sys2Proof.Machine.execXpGo m v s
  | .xpAbort m v => Sys2Proof.Machine.execXpAbort m v s
  | .sampleFrame f => Sys2Proof.Machine.execSampleFrame f s
  | .zcTimeout ch => Sys2Proof.Machine.execZcTimeout ch s
  | .nonpcmEnd pair => Sys2Proof.Machine.execNonpcmEnd pair s
  | .poolDelayAct ch => Sys2Proof.Machine.execPoolDelayAct ch s
  | .sruAlloc m v => Sys2Proof.Machine.execSruAlloc m v s
  | .sruModify m v => Sys2Proof.Machine.execSruModify m v s
  | .sruFree m v => Sys2Proof.Machine.execSruFree m v s
  | .sruLock k ratio => Sys2Proof.Machine.execSruLock k ratio s
  | .sruLost k => Sys2Proof.Machine.execSruLost k s
  | .mixReq m v => Sys2Proof.Machine.execMixReq m v s
  | .mixCommit m v => Sys2Proof.Machine.execMixCommit m v s
  | .meterReport k f => Sys2Proof.Machine.execMeterReport k f s
  | .meterReset m k v => Sys2Proof.Machine.execMeterReset m k v s
  | .silenceDetect ch => Sys2Proof.Machine.execSilenceDetect ch s
  | .halfSwap half => Sys2Proof.Machine.execHalfSwap half s
  | .portFrame p tx f => Sys2Proof.Machine.execPortFrame p tx f s
  | .portFadeEnd p tx => Sys2Proof.Machine.execPortFadeEnd p tx s
  | .portRejoin p tx => Sys2Proof.Machine.execPortRejoin p tx s
  | .portRampEnd p tx => Sys2Proof.Machine.execPortRampEnd p tx s
  | .portStopDone p tx => Sys2Proof.Machine.execPortStopDone p tx s
  | .portClkLost p => Sys2Proof.Machine.execPortClkLost p s
  | .portZcTimeout p tx c => Sys2Proof.Machine.execPortZcTimeout p tx c s
  | .syncConfirm p => Sys2Proof.Machine.execSyncConfirm p s
  | .syncWithdraw p => Sys2Proof.Machine.execSyncWithdraw p s
  | .grpArm m g v => Sys2Proof.Machine.execGrpArm m g v s
  | .grpDisarm m g v => Sys2Proof.Machine.execGrpDisarm m g v s
  | .grpGo m g v => Sys2Proof.Machine.execGrpGo m g v s
  | .apstartEdge gpio => Sys2Proof.Machine.execApstartEdge gpio s
  | .groupStartFrame g => Sys2Proof.Machine.execGroupStartFrame g s
  | .candidatePresent k f => Sys2Proof.Machine.execCandidatePresent k f s
  | .candidateAbsent k gm => Sys2Proof.Machine.execCandidateAbsent k gm s
  | .qualTestFail k => Sys2Proof.Machine.execQualTestFail k s
  | .qualifyEnd k f => Sys2Proof.Machine.execQualifyEnd k f s
  | .holdoffExpire => Sys2Proof.Machine.execHoldoffExpire s
  | .prepareEnd diff ptpCap => Sys2Proof.Machine.execPrepareEnd diff ptpCap s
  | .loopStep => Sys2Proof.Machine.execLoopStep s
  | .dispute a b fa fb => Sys2Proof.Machine.execDispute a b fa fb s
  | .disputeEnd a b fa fb => Sys2Proof.Machine.execDisputeEnd a b fa fb s
  | .rmCfgWrite m slot v => Sys2Proof.Machine.execRmCfgWrite m slot v s
  | .rtcCopy => Sys2Proof.Machine.execRtcCopy s
  | .leapSecond => Sys2Proof.Machine.execLeapSecond s
  | .systimeRead m => Sys2Proof.Machine.execSystimeRead m s
  | .synNWrite m k frac v => Sys2Proof.Machine.execSynNWrite m k frac v s
  | .bandFound k b band => Sys2Proof.Machine.execBandFound k b band s
  | .synLocked k b => Sys2Proof.Machine.execSynLocked k b s
  | .lossOfLock k b => Sys2Proof.Machine.execLossOfLock k b s
  | .holdReacquire k ok => Sys2Proof.Machine.execHoldReacquire k ok s
  | .holdTimeout k => Sys2Proof.Machine.execHoldTimeout k s
  | .syncArm m v => Sys2Proof.Machine.execSyncArm m v s
  | .syncInEdge => Sys2Proof.Machine.execSyncInEdge s
  | .ispSwap m k v => Sys2Proof.Machine.execIspSwap m k v s
  | .ispTest m k v => Sys2Proof.Machine.execIspTest m k v s
  | .lockAnaHoldEnd => Sys2Proof.Machine.execLockAnaHoldEnd s
  | .linkDetect n => Sys2Proof.Machine.execLinkDetect n s
  | .linkTrained n inv rev skew => Sys2Proof.Machine.execLinkTrained n inv rev skew s
  | .trainTimeout n => Sys2Proof.Machine.execTrainTimeout n s
  | .linkAuth n ok peer => Sys2Proof.Machine.execLinkAuth n ok peer s
  | .linkDown n => Sys2Proof.Machine.execLinkDown n s
  | .keyStaleTimeout n => Sys2Proof.Machine.execKeyStaleTimeout n s
  | .linkRetry n => Sys2Proof.Machine.execLinkRetry n s
  | .linkRekey n => Sys2Proof.Machine.execLinkRekey n s
  | .memberView n f => Sys2Proof.Machine.execMemberView n f s
  | .memberLost mem => Sys2Proof.Machine.execMemberLost mem s
  | .timeMessage n mem delay usable => Sys2Proof.Machine.execTimeMessage n mem delay usable s
  | .pairGo m v => Sys2Proof.Machine.execPairGo m v s
  | .pairDone n code check joining => Sys2Proof.Machine.execPairDone n code check joining s
  | .formationPart f => Sys2Proof.Machine.execFormationPart f s
  | .leaveGo m v => Sys2Proof.Machine.execLeaveGo m v s
  | .leaveForce m v => Sys2Proof.Machine.execLeaveForce m v s
  | .leaveInstantSend timedOut => Sys2Proof.Machine.execLeaveInstantSend timedOut s
  | .leaveInstant mem => Sys2Proof.Machine.execLeaveInstant mem s
  | .raGo m v => Sys2Proof.Machine.execRaGo m v s
  | .raComplete code v => Sys2Proof.Machine.execRaComplete code v s
  | .rejoinHoldExpire mem => Sys2Proof.Machine.execRejoinHoldExpire mem s
  | .restoreRequest f => Sys2Proof.Machine.execRestoreRequest f s
  | .heartbeat who => Sys2Proof.Machine.execHeartbeat who s
  | .heartbeatMiss who cause => Sys2Proof.Machine.execHeartbeatMiss who cause s
  | .failoverActive => Sys2Proof.Machine.execFailoverActive s
  | .standbyRestore pass => Sys2Proof.Machine.execStandbyRestore pass s
  | .journalApply => Sys2Proof.Machine.execJournalApply s
  | .switchover m => Sys2Proof.Machine.execSwitchover m s
  | .restartAttempt => Sys2Proof.Machine.execRestartAttempt s
  | .restartAttemptFail => Sys2Proof.Machine.execRestartAttemptFail s
  | .supRetry m => Sys2Proof.Machine.execSupRetry m s
  | .retestStandby m => Sys2Proof.Machine.execRetestStandby m s
  | .ledgerRebuildEnd f => Sys2Proof.Machine.execLedgerRebuildEnd f s
  | .availClrGo m v => Sys2Proof.Machine.execAvailClrGo m v s
  | .availClrAll m v => Sys2Proof.Machine.execAvailClrAll m v s
  | .resetNAssert => Sys2Proof.Machine.execResetNAssert s
  | .resetNRelease mode member => Sys2Proof.Machine.execResetNRelease mode member s
  | .heldNvm mode member => Sys2Proof.Machine.execHeldNvm mode member s
  | .railPowerFail rail => Sys2Proof.Machine.execRailPowerFail rail s
  | .railFault rail => Sys2Proof.Machine.execRailFault rail s
  | .supplyLoss => Sys2Proof.Machine.execSupplyLoss s
  | .powerGoodFilterEnd io3a io3b mode member => Sys2Proof.Machine.execPowerGoodFilterEnd io3a io3b mode member s
  | .resetDevice m v mode member => Sys2Proof.Machine.execResetDevice m v mode member s
  | .resetControl m v => Sys2Proof.Machine.execResetControl m v s
  | .controlRetry mode member => Sys2Proof.Machine.execControlRetry mode member s
  | .domHoldWrite m v => Sys2Proof.Machine.execDomHoldWrite m v s
  | .domPulse m v => Sys2Proof.Machine.execDomPulse m v s
  | .domPulseEnd v => Sys2Proof.Machine.execDomPulseEnd v s
  | .releaseStep => Sys2Proof.Machine.execReleaseStep s
  | .domainResetDeassert d => Sys2Proof.Machine.execDomainResetDeassert d s
  | .loaderDone => Sys2Proof.Machine.execLoaderDone s
  | .bootCheck f => Sys2Proof.Machine.execBootCheck f s
  | .imageSectionHash ok last => Sys2Proof.Machine.execImageSectionHash ok last s
  | .stbyEnter m v => Sys2Proof.Machine.execStbyEnter m v s
  | .standbyDomainOff mode member => Sys2Proof.Machine.execStandbyDomainOff mode member s
  | .wakeEdge mode member => Sys2Proof.Machine.execWakeEdge mode member s
  | .wakeGpio g mode member => Sys2Proof.Machine.execWakeGpio g mode member s
  | .linkWake n mode member => Sys2Proof.Machine.execLinkWake n mode member s
  | .shutRecCopy => Sys2Proof.Machine.execShutRecCopy s
  | .xtal32Fail absent => Sys2Proof.Machine.execXtal32Fail absent s
  | .domReqWrite m v => Sys2Proof.Machine.execDomReqWrite m v s
  | .sensorSample f => Sys2Proof.Machine.execSensorSample f s
  | .sensorSelftestEnd k pass => Sys2Proof.Machine.execSensorSelftestEnd k pass s
  | .sensorTest m v => Sys2Proof.Machine.execSensorTest m v s
  | .offsetUpdate => Sys2Proof.Machine.execOffsetUpdate s
  | .stageLower => Sys2Proof.Machine.execStageLower s
  | .stageHoldEnd => Sys2Proof.Machine.execStageHoldEnd s
  | .riseEnter => Sys2Proof.Machine.execRiseEnter s
  | .t3ShedTick => Sys2Proof.Machine.execT3ShedTick s
  | .t3RestoreHoldEnd => Sys2Proof.Machine.execT3RestoreHoldEnd s
  | .t4PlaneOff => Sys2Proof.Machine.execT4PlaneOff s
  | .offload mem cool accepted => Sys2Proof.Machine.execOffload mem cool accepted s
  | .thermalRestart mode member => Sys2Proof.Machine.execThermalRestart mode member s
  | .nvmStore m => Sys2Proof.Machine.execNvmStore m s
  | .nvmSnapshot m v => Sys2Proof.Machine.execNvmSnapshot m v s
  | .nvmAbort m => Sys2Proof.Machine.execNvmAbort m s
  | .nvmDiscard m => Sys2Proof.Machine.execNvmDiscard m s
  | .nvmSelftest m => Sys2Proof.Machine.execNvmSelftest m s
  | .tempWindowOpen => Sys2Proof.Machine.execTempWindowOpen s
  | .nvmWordWrite ok => Sys2Proof.Machine.execNvmWordWrite ok s
  | .commitWriteDone => Sys2Proof.Machine.execCommitWriteDone s
  | .rawRead m err => Sys2Proof.Machine.execRawRead m err s
  | .rawWrite m => Sys2Proof.Machine.execRawWrite m s
  | .counterCopy => Sys2Proof.Machine.execCounterCopy s
  | .correctedRewrite => Sys2Proof.Machine.execCorrectedRewrite s
  | .lcChange => Sys2Proof.Machine.execLcChange s
  | .staleKeyZeroise n => Sys2Proof.Machine.execStaleKeyZeroise n s
  | .serviceTimeout => Sys2Proof.Machine.execServiceTimeout s
  | .serviceExit m v => Sys2Proof.Machine.execServiceExit m v s
  | .svnCommit m v => Sys2Proof.Machine.execSvnCommit m v s
  | .keysDerive m v => Sys2Proof.Machine.execKeysDerive m v s
  | .keysDestroy m v => Sys2Proof.Machine.execKeysDestroy m v s
  | .tamperAlarm source inKeyOp => Sys2Proof.Machine.execTamperAlarm source inKeyOp s
  | .tamperConfirm => Sys2Proof.Machine.execTamperConfirm s
  | .keyRegionFail word both => Sys2Proof.Machine.execKeyRegionFail word both s
  | .measRewrite => Sys2Proof.Machine.execMeasRewrite s
  | .pcieLinkUp speed width => Sys2Proof.Machine.execPcieLinkUp speed width s
  | .pcieLinkDown => Sys2Proof.Machine.execPcieLinkDown s
  | .hotReset => Sys2Proof.Machine.execHotReset s
  | .linkDisable => Sys2Proof.Machine.execLinkDisable s
  | .functionLevelReset => Sys2Proof.Machine.execFunctionLevelReset s
  | .configRequest early msix => Sys2Proof.Machine.execConfigRequest early msix s
  | .poisonedTlp addr => Sys2Proof.Machine.execPoisonedTlp addr s
  | .pageLockOpen m p inst v => Sys2Proof.Machine.execPageLockOpen m p inst v s
  | .pageLockClose m p inst v => Sys2Proof.Machine.execPageLockClose m p inst v s
  | .lockTimeout p inst => Sys2Proof.Machine.execLockTimeout p inst s
  | .pageCommit m p inst f => Sys2Proof.Machine.execPageCommit m p inst f s
  | .commitPoint p inst f => Sys2Proof.Machine.execCommitPoint p inst f s
  | .groupCommitGo m v f => Sys2Proof.Machine.execGroupCommitGo m v f s
  | .shadowDiscard m p inst v => Sys2Proof.Machine.execShadowDiscard m p inst v s
  | .evtForce m p inst v => Sys2Proof.Machine.execEvtForce m p inst v s
  | .evtW1c m p inst v => Sys2Proof.Machine.execEvtW1c m p inst v s
  | .errInfoClear m => Sys2Proof.Machine.execErrInfoClear m s
  | .msixHoldoffEnd v => Sys2Proof.Machine.execMsixHoldoffEnd v s
  | .logRepeatFlush => Sys2Proof.Machine.execLogRepeatFlush s
  | .logQueueWrite => Sys2Proof.Machine.execLogQueueWrite s
  | .dbSet m v => Sys2Proof.Machine.execDbSet m v s
  | .dbClear m v => Sys2Proof.Machine.execDbClear m v s
  | .gpioEdge g rise => Sys2Proof.Machine.execGpioEdge g rise s
  | .flowApertureWrite m v => Sys2Proof.Machine.execFlowApertureWrite m v s
  | .uptimeRead m => Sys2Proof.Machine.execUptimeRead m s
  | .rtcRead m => Sys2Proof.Machine.execRtcRead m s
  | .lastRefStampRead m => Sys2Proof.Machine.execLastRefStampRead m s
  | .consoleStart => Sys2Proof.Machine.execConsoleStart s
  | .consoleBreak => Sys2Proof.Machine.execConsoleBreak s
  | .unknownCommand long dropped => Sys2Proof.Machine.execUnknownCommand long dropped s
  | .hello => Sys2Proof.Machine.execHello s
  | .status => Sys2Proof.Machine.execStatus s
  | .rd p inst off n => Sys2Proof.Machine.execRd p inst off n s
  | .rt win off n => Sys2Proof.Machine.execRt win off n s
  | .log n => Sys2Proof.Machine.execLog n s
  | .steps n => Sys2Proof.Machine.execSteps n s
  | .ref => Sys2Proof.Machine.execRef s
  | .mem => Sys2Proof.Machine.execMem s
  | .ledger => Sys2Proof.Machine.execLedger s
  | .sup => Sys2Proof.Machine.execSup s
  | .auth => Sys2Proof.Machine.execAuth s
  | .authSig belinane maker => Sys2Proof.Machine.execAuthSig belinane maker s
  | .exit tag => Sys2Proof.Machine.execExit tag s
  | .wr p inst off v tag w => Sys2Proof.Machine.execWr p inst off v tag w s
  | .testPrbs lane p31 secs via tag => Sys2Proof.Machine.execTestPrbs lane p31 secs via tag s
  | .testEye lane hoff voff dwell tag => Sys2Proof.Machine.execTestEye lane hoff voff dwell tag s
  | .testAport p tag => Sys2Proof.Machine.execTestAport p tag s
  | .testMem c tag => Sys2Proof.Machine.execTestMem c tag s
  | .testCe n tag => Sys2Proof.Machine.execTestCe n tag s
  | .testIsp k tag => Sys2Proof.Machine.execTestIsp k tag s
  | .testSup tag => Sys2Proof.Machine.execTestSup tag s
  | .testFf tag => Sys2Proof.Machine.execTestFf tag s
  | .consoleTestEnd pass n => Sys2Proof.Machine.execConsoleTestEnd pass n s
  | .consoleStore tag => Sys2Proof.Machine.execConsoleStore tag s
  | .consoleResetControl tag => Sys2Proof.Machine.execConsoleResetControl tag s
  | .consoleResetDevice mode member tag => Sys2Proof.Machine.execConsoleResetDevice mode member tag s
  | .consoleRetry tag => Sys2Proof.Machine.execConsoleRetry tag s
  | .clearTamper => Sys2Proof.Machine.execClearTamper s
  | .retire tag => Sys2Proof.Machine.execRetire tag s
  | .fuseMakerImage h tag => Sys2Proof.Machine.execFuseMakerImage h tag s
  | .fuseMakerService h tag => Sys2Proof.Machine.execFuseMakerService h tag s
  | .confirmGpio => Sys2Proof.Machine.execConfirmGpio s
  | .confirmTimeout => Sys2Proof.Machine.execConfirmTimeout s
  | .consoleIdleTimeout => Sys2Proof.Machine.execConsoleIdleTimeout s
  | .fireflyHoldEnd => Sys2Proof.Machine.execFireflyHoldEnd s
  | .i2cXferGo m k v => Sys2Proof.Machine.execI2cXferGo m k v s
  | .i2cPoll k ack data => Sys2Proof.Machine.execI2cPoll k ack data s
  | .i2cTimeout k => Sys2Proof.Machine.execI2cTimeout k s
  | .bypass => Sys2Proof.Machine.execBypass s
  | .idcode => Sys2Proof.Machine.execIdcode s
  | .samplePreload pins value => Sys2Proof.Machine.execSamplePreload pins value s
  | .extest pins value => Sys2Proof.Machine.execExtest pins value s
  | .clamp => Sys2Proof.Machine.execClamp s
  | .highz => Sys2Proof.Machine.execHighz s
  | .extestPulse pins value => Sys2Proof.Machine.execExtestPulse pins value s
  | .extestTrain pins value => Sys2Proof.Machine.execExtestTrain pins value s
  | .prbsCheckerSync q n inSync errors => Sys2Proof.Machine.execPrbsCheckerSync q n inSync errors s
  | .hiBerChange q p high => Sys2Proof.Machine.execHiBerChange q p high s
  | .linkCodewordReceived n corrected uncorr crcBad => Sys2Proof.Machine.execLinkCodewordReceived n corrected uncorr crcBad s
  | .vbatLow low => Sys2Proof.Machine.execVbatLow low s
  | .authLockoutEnd => Sys2Proof.Machine.execAuthLockoutEnd s
  | .i2cXferDone k ack data => Sys2Proof.Machine.execI2cXferDone k ack data s
  | .arrayScanEnd corrected bad => Sys2Proof.Machine.execArrayScanEnd corrected bad s

end Sys2Proof.Machine
end

