-- ==== Sys2Proof/Machine/Ticks.lean ====
section
/-! DEFINITION. What happens as time passes while no command waits: one period of XTAL32 (R437, R438), the seconds and minutes that
registers count down or up, and the console's own pace. (DESIGN CHOICE, assumption 48.) -/
namespace Sys2Proof.Machine

/-- Femtoseconds in a period of XTAL32. -/
abbrev fsPerTick : Nat := 30517578125

/-- The clocks after a period: system time goes on (R322); the uptime counter of 48 bits and the real-time counter do unless XTAL32 is
absent (R437, R438). -/
def State.tickClocks (s : State) : State :=
  let c := { s.clk with sysFs := s.clk.sysFs + fsPerTick }
  { s with clk :=
      if s.get RESET.BKP_STAT_XTAL32_FAIL = 1 then c
      else { c with uptime := (c.uptime + 1) % 2 ^ 48
                    rtcSub := (c.rtcSub + 1) % 32768
                    rtcSeconds := if c.rtcSub + 1 < 32768 then c.rtcSeconds else (c.rtcSeconds + 1) % 2 ^ 48 } }

/-- The state with a counter of seconds or minutes one lower. -/
def State.countDown (s : State) (f : Field) : State := s.set f (s.get f - 1)

/-- HOLD_STAT after a second in HOLDOVER (R333). -/
def State.tickHold (s : State) : State :=
  if s.get REFMGR.RM_STAT_STATE ≠ rmHOLDOVER ∨ !s.domUp 22 then s
  else
    let t := s.bump REFMGR.HOLD_STAT_AGE
    t.set REFMGR.HOLD_STAT_ERR (min 0xFFFF (Config.holdError (t.get REFMGR.RM_CFG_XO_CLASS) (t.get REFMGR.HOLD_STAT_AGE)))

/-- Hours since each channel's last scrub pass (Table 6.11). -/
def State.tickScrub (s : State) : State :=
  (List.range 32).foldl (fun (t : State) c => if t.domUp (Page.memch.domain c) then t.bump MEMCH.SCRUB_STAT_AGE c else t) s

/-- A second ends: the times that registers show as seconds (R411, R484, R333), as minutes (R482) and as hours (R204). -/
def State.tickSecond (s : State) : State :=
  let n := s.clk.sysFs / fsPerSecond
  let t := ((s.countDown SUPERVISOR.STAT_BACKOFF).countDown SERVICE.STAT_LOCKOUT_LEFT).tickHold
  let t := if n % 60 = 0 ∧ t.lc = lcSERVICE then t.countDown KEYS.LC_STAT_SERVICE_LEFT else t
  let t := if n % 3600 = 0 then t.tickScrub else t
  t.set THERMAL.RESTART_COUNT (min 3 t.restartsLately.length)

/-- One period of XTAL32 passes. -/
def State.tick (s : State) : State :=
  let t := s.tickClocks
  let t := if t.clk.sysFs / fsPerSecond = s.clk.sysFs / fsPerSecond then t else t.tickSecond
  t.tickConsole.settle

end Sys2Proof.Machine
end

