-- ==== Sys2Proof/WellFormed.lean ====
section
/-! DEFINITION. Which commands the block can be given: every operand that a type does not bound lies in the range of its row. -/
namespace Sys2Proof
open Machine

/-- A page of the register map and one of its instances (R524). -/
def pageWf (p : Page) (i : Nat) : Bool := p.code < 0x80 && i < p.instances

/-- A unit that a page of the map shows (R25). -/
def unitWf (u : UnitId) : Bool := pageWf u.page u.inst && (u.page.units u.inst).contains u

/-- An access of R499: 1 to 256 bytes within the 40 bits of address that R523 records, its data within its bytes. -/
def accessWf (addr bytes data : Nat) : Bool := addr < 2 ^ 40 && 1 ≤ bytes && bytes ≤ 256 && data < 2 ^ (8 * bytes)

/-- Whether a command is well formed. A console line is well formed whatever numbers it carries: the console itself answers those out of
range (R540). -/
def Instr.wf : Instr → Bool
  | .registerWrite _ addr bytes data _ => accessWf addr bytes data
  | .channelStall u => unitWf u
  | .isolateReq _ p i | .pageEnableClear _ p i | .pageEnableSet _ p i => pageWf p i
  | .drainComplete u | .drainTimeout u | .unitReset _ u | .unitSelftestEnd u _ => unitWf u
  | .pageLockOpen _ p i _ | .pageLockClose _ p i _ | .evtForce _ p i _ | .evtW1c _ p i _ | .shadowDiscard _ p i _ => pageWf p i
  | .lockTimeout p i | .commitPoint p i _ | .pageCommit _ p i _ => pageWf p i
  | .timedSalvoCommit _ late => late.all (· < 512)
  | .sectorCorrected _ sector | .sectorUncorrectable _ sector _ => sector < 2 ^ 24
  | .engineHardFault _ cause => cause < 256
  | .nextHopWrite _ _ wide _ data => data < (if wide then 2 ^ 64 else 2 ^ 32)
  | .pairDone _ code _ _ | .raComplete code _ => code < 256
  | .keyRegionFail word _ => word < 2 ^ 19
  | .arrayScanEnd corrected bad => corrected.all (· < 2 ^ 19) && bad.all (· < 2 ^ 19)
  | .poisonedTlp addr => addr < 2 ^ 40
  | .fuseMakerImage h _ | .fuseMakerService h _ => h < 2 ^ 384
  | _ => true

end Sys2Proof
end

