-- ==== Sys2Proof/Safety.lean ====
section
/-! DEFINITION. What counts as a safe run, in the terms that the statements use: the canonical forms that every step keeps, and what a
command leaves alone. -/
namespace Sys2Proof.Machine

/-- Every addressed buffer is in its canonical form. -/
def State.BuffersWf (s : State) : Prop := s.buf.conv.wf ∧ s.buf.sram.wf ∧ s.buf.bar2.wf

/-- An invariant of a step: it holds after every step from a state where it holds. -/
def KeptByStep (inv : State → Prop) : Prop := ∀ s s' : State, inv s → step s = .next s' → inv s'

/-- A property of the state that a command leaves, where it leaves one. -/
def After (o : Host.Outcome State Fault Refusal) (p : State → Prop) : Prop := ∀ t, o = .next t → p t

/-- A command completes in a state with a property. -/
def Completes (o : Host.Outcome State Fault Refusal) (p : State → Prop) : Prop := ∃ t, o = .next t ∧ p t

/-- The device takes a master's 32-bit write of a page register: PD25 is up and no check of R506 turns the write away. -/
abbrev State.takesWrite (s : State) (m : Nat) (p : Page) (i off v : Nat) : Prop :=
  s.busUp = true ∧ s.busKind m (p.base + 0x1000 * i + off) true 4 v = 0

/-- The device takes a master's 32-bit read of a page register. -/
abbrev State.takesRead (s : State) (m : Nat) (p : Page) (i off : Nat) : Prop :=
  s.busUp = true ∧ s.busKind m (p.base + 0x1000 * i + off) false 4 0 = 0

/-- An event bit of a page reads 1. -/
abbrev State.event (s : State) (p : Page) (i bit : Nat) : Prop := bitOf (s.evtStat p i) bit = true

/-- The fields that every command may change beside its own effect, since the device shows its condition in them: staging, the console's
session, LOCK_ANA, the Firefly pins (R349, R359, R467, R542, R547). -/
def alwaysShown (f : Field) : Bool :=
  [NVM.STAT_STAGE_OVF, NVM.STAGE_ENTRIES, NVM.STAGE_AFTER_TST, KEYS.HID_LCREQ, SERVICE.CMD_CTR_COUNT, SERVICE.STAT_SESSION,
   SERVICE.STAT_TEST_BUSY, SERVICE.FF_CTL_OVERRIDE, SERVICE.FF_STAT_BEAT, SERVICE.FF_STAT_ANA, SERVICE.FF_STAT_ROW,
   SERVICE.FF_STAT_OVERRIDE_ON, SYNTHCTL.LOCKANA_CODE, SYNTHCTL.HID_ANAHOLD, GPIO.HID_FFROW, GPIO.HID_FFHOLD].contains f

/-- Every field but those of a list, and those that any command may show, reads as before. -/
def FieldsKept (l : List Field) (s t : State) : Prop := ∀ f i k, f ∉ l → alwaysShown f = false → t.get f i k = s.get f i k

/-- Every byte of every addressed buffer reads as before. -/
def BuffersKept (s t : State) : Prop :=
  ∀ a, t.buf.conv.read a = s.buf.conv.read a ∧ t.buf.sram.read a = s.buf.sram.read a ∧ t.buf.bar2.read a = s.buf.bar2.read a

/-- Nothing but registers of a list, events, and what any command may show, differs from one state to the next. -/
def OnlyRegs (l : List RegKey) (s t : State) : Prop :=
  (∀ f i k, ⟨f, i, k⟩ ∉ l → alwaysShown f = false → t.get f i k = s.get f i k) ∧ BuffersKept s t ∧
  t.shadow = s.shadow ∧ t.commits = s.commits ∧ t.clk = s.clk ∧ t.video = s.video ∧ t.repair = s.repair ∧ t.ess = s.ess ∧
  t.flow = s.flow ∧ t.audio = s.audio ∧ t.ports = s.ports ∧ t.keys = s.keys ∧ t.jtag = s.jtag ∧ t.thermal = s.thermal

/-- The status outputs agree with the device's condition: the Firefly row in force or the one held for its 2 s, FF_STAT with the pins,
STAT.SESSION and TEST_BUSY with the console, LOCK_ANA with the worst condition or the lower code held for its second (R359, R547, R549,
Table 21.6). -/
def State.DisplayAgrees (s : State) : Prop :=
  (s.get GPIO.HID_FFROW = s.ffRowNow ∨
    (s.get GPIO.HID_FFROW < s.ffRowNow ∧ s.get GPIO.HID_FFROW ≠ 0 ∧ s.get GPIO.HID_FFHOLD = 1)) ∧
  (s.domUp 25 = true →
    s.get SERVICE.FF_STAT_ROW = s.get GPIO.HID_FFROW ∧ s.get SERVICE.FF_STAT_ANA = s.ffPins.2 ∧
    s.get SERVICE.FF_STAT_BEAT = s.ffPins.1 % 2 ^ SERVICE.FF_STAT_BEAT.width ∧ s.get SERVICE.FF_STAT_OVERRIDE_ON = flag s.ffOverride ∧
    s.get SERVICE.STAT_TEST_BUSY = flag s.console.test.isSome ∧
    s.get SERVICE.STAT_SESSION = (if s.console.held.isSome then 3 else if s.console.session then 2
      else if s.console.challenge.isSome then 1 else 0)) ∧
  (s.get SYNTHCTL.LOCKANA_OVERRIDE ≠ 1 →
    s.get SYNTHCTL.LOCKANA_CODE = s.lockAnaNow ∨
      (s.get SYNTHCTL.LOCKANA_CODE < s.lockAnaNow ∧ s.get SYNTHCTL.HID_ANAHOLD = 1))

/-- The parts of the state beside the registers and the events. -/
inductive Part where
  | shadow | commits | clk | video | repair | ess | buf | flow | audio | ports | nvm | keys | console | jtag | thermal
  deriving DecidableEq, Repr

/-- A part is as it was. Staging and the console's answer, which every command may show, are left out of their parts. -/
def Part.same : Part → State → State → Prop
  | .shadow, s, t => t.shadow = s.shadow
  | .commits, s, t => t.commits = s.commits
  | .clk, s, t => t.clk = s.clk
  | .video, s, t => t.video = s.video
  | .repair, s, t => t.repair = s.repair
  | .ess, s, t => t.ess = s.ess
  | .buf, s, t => t.buf = s.buf
  | .flow, s, t => t.flow = s.flow
  | .audio, s, t => t.audio = s.audio
  | .ports, s, t => t.ports = s.ports
  | .nvm, s, t => t.nvm.bankA = s.nvm.bankA ∧ t.nvm.bankB = s.nvm.bankB ∧ t.nvm.writing = s.nvm.writing ∧ t.nvm.words = s.nvm.words ∧
      t.nvm.rewrites = s.nvm.rewrites ∧ t.nvm.counters = s.nvm.counters
  | .keys, s, t => t.keys = s.keys
  | .console, s, t => t.console.started = s.console.started ∧ t.console.fails = s.console.fails ∧ t.console.buffer = s.console.buffer ∧
      t.console.test = s.console.test ∧ t.console.slow = s.console.slow
  | .jtag, s, t => t.jtag = s.jtag
  | .thermal, s, t => t.thermal = s.thermal

/-- The pages whose events any command may raise, as the device shows its condition: SUMMARY_CHG, the console's session and the Firefly
row, a full staging area, the lost log entries (R471, R519, R529, R542, R549). -/
def shownPages : List Page := [.global, .service, .nvm, .busmatrix, .event]

/-- What a command may change: the fields of a list, a page's of them only at the instances named where `own` names the page; the parts
of a list; the events of the pages of a list. -/
def Frame (l : List Field) (own : List (Page × Nat)) (parts : List Part) (pages : List Page) (s t : State) : Prop :=
  (∀ f i k, (f ∉ l ∨ ∃ e ∈ own, e.1 = f.page ∧ e.2 ≠ i) → alwaysShown f = false → t.get f i k = s.get f i k) ∧
  (∀ p, p ∉ parts → p.same s t) ∧
  (∀ p i, p ∈ Page.directory → i < p.instances → p ∉ pages → p ∉ shownPages → t.evtStat p i = s.evtStat p i)

/-- The fields of a register that a write takes at once: those with access code RW, RWL or W1C (Table 19.4). -/
def writtenAt (p : Page) (i off : Nat) : List Field :=
  ((rowsAt p i off).filter (fun r => r.1.acc = .rw || r.1.acc = .rwl || r.1.acc = .w1c)).map (fun r => r.1.field)

/-- The error record and its counters, which a command turned away changes (R506). -/
def errorFields : List Field :=
  [BUSMATRIX.ERR_ADDR_LO_ADDR, BUSMATRIX.ERR_ADDR_HI_ADDR, BUSMATRIX.ERR_INFO_MASTER, BUSMATRIX.ERR_INFO_KIND, BUSMATRIX.ERR_INFO_WRITE,
   BUSMATRIX.ERR_INFO_VALID, BUSMATRIX.CNT_DECODE_ERRS, BUSMATRIX.CNT_WIN_DENIES, BUSMATRIX.CNT_LOCK_DENIES, BUSMATRIX.CNT_ACCESS_ERRS]

/-- The ledger's totals (R38). -/
def bookFields : List Field :=
  [LEDGER.ENGINES_FREE, LEDGER.ENGINES_SHARES, LEDGER.ENGINES_SPARES, LEDGER.FAB_AB_LA, LEDGER.FAB_AB_LB, LEDGER.FAB_L0_L0,
   LEDGER.LINKS_MAX, LEDGER.MEM_BW, LEDGER.MEM_CAP, LEDGER.STAT_PRESSURE]

/-- The ledger's record of a decision, and the supervisors' journal of it (R39, R40, R408). -/
def decisionFields : List Field :=
  [LEDGER.CNT_ADMITTED, LEDGER.CNT_REFUSED, LEDGER.HID_REFSTAMP, LEDGER.LAST_REF_CODE, LEDGER.LAST_REF_INDEX, LEDGER.LAST_REF_MASTER,
   LEDGER.LAST_REF_MEMBER, LEDGER.LAST_REF_PAGE_PAGE_ID, LEDGER.LAST_REF_STAMP_LO_STAMP, SUPERVISOR.JOURNAL_IN_SYNC,
   SUPERVISOR.JOURNAL_LAG]

/-- The step log's head and queue (R414). -/
def stepFields : List Field :=
  [REPAIR.CNT_LADDER_STEPS, REPAIR.LOG_HEAD_NEXT, REPAIR.LOG_HEAD_SEQ, REPAIR.STAT_QUEUE, SUPERVISOR.JOURNAL_IN_SYNC,
   SUPERVISOR.JOURNAL_LAG]

/-- The states and drains of the repair units of some pages, with the slices of the quads (R25, R30). -/
def unitFields (l : List Page) : List Field :=
  l.map HDR.STATE ++ l.map HDR.DRAIN ++ (if l.contains .quad then [QUAD.RXSL_STAT_STATE, QUAD.TXSL_STAT_STATE] else [])

/-- What an IP input shows of its flow (R88 to R94). -/
def ipInputFields : List Field :=
  [VIN.CNT_FMT_CHANGES, VIN.FMT_COLOR, VIN.FMT_DEPTH, VIN.FMT_MAPPING, VIN.FMT_RASTER, VIN.FMT_RATE, VIN.FMT_SAMPLING, VIN.FMT_SCAN,
   VIN.FMT_TRANSFER, VIN.FMT_VALID, VIN.HID_BEGUN, VIN.HID_EVER, VIN.HID_FRAME, VIN.HID_GOOD, VIN.HID_NOPID, VIN.HID_TRS,
   VIN.STAT_PID_SEEN, VIN.STAT_STATE, VIN.STAT_TRS_LOCK]

/-- The reference manager's selection, its loss and its holdover (R323 to R341). -/
def referenceFields : List Field :=
  [REFMGR.CNT_HOLDOVERS, REFMGR.EVT_SLOT_SLOT, REFMGR.HID_AWAIT, REFMGR.HID_HOLDOFF, REFMGR.HID_LOST, REFMGR.HID_REST,
   REFMGR.HOLD_STAT_AGE, REFMGR.HOLD_STAT_ERR, REFMGR.RC_FREQ_VALID, REFMGR.RC_STAT_PHASE_VALID, REFMGR.RC_STAT_RETURN,
   REFMGR.RC_STAT_STATE, REFMGR.RM_STAT_ACTIVE_VALID, REFMGR.RM_STAT_PENDING, REFMGR.RM_STAT_PENDING_VALID, REFMGR.RM_STAT_STATE]

/-- The state of a key slot as its page shows it (R486). -/
def slotFields : List Field :=
  [KEYS.SLOT_STAT_AUTO, KEYS.SLOT_STAT_ENGINES, KEYS.SLOT_STAT_LCMASK, KEYS.SLOT_STAT_PARENT, KEYS.SLOT_STAT_STATE]

/-- Every field of a flow context, and the device's own marks of it (Table 4.3). -/
def contextFields : List Field :=
  Page.fc.layout.map (fun r => r.field) ++
  [FC.HID_SEEN, FC.HID_SEQ, FC.HID_GOOD, FC.HID_MISM, FC.HID_TS, FC.HID_TXSEQ, FC.HID_AWAIT, FC.HID_FROM, FC.HID_MSEQ, FC.HID_WIN,
   FC.HID_BITS, FC.HID_RAMP]

/-- What a command that reaches many units may change: the pages of a list, the headers' states, drains, starts and enables, the parts of
a list. Every other field and every other part is as before. -/
def PagesKept (pages : List Page) (parts : List Part) (s t : State) : Prop :=
  (∀ f i k, f.page ∉ pages → f ∉ [HDR.STATE f.page, HDR.DRAIN f.page, HDR.START f.page, HDR.ENABLE f.page, HDR.HELD_ENABLE f.page] →
    alwaysShown f = false → t.get f i k = s.get f i k) ∧
  (∀ p, p ∉ parts → p.same s t)

/-- Whether an ancillary filter of a VI matches a packet (R102). -/
abbrev State.ancMatches (s : State) (i : Nat) (p : AncPacket) (k : Nat) : Prop :=
  s.get VIN.ANC_FILT_VALID i k = 1 ∧ s.get VIN.ANC_FILT_DID i k = p.did ∧
  (s.get VIN.ANC_FILT_ANY_SDID i k = 1 ∨ s.get VIN.ANC_FILT_SDID i k = p.sdid)

/-- The console answers a line at once: PD25 is up, no line waits and no command holds the console. -/
abbrev State.consoleFree (s : State) : Prop := s.domUp 25 = true ∧ s.consoleBusy = false ∧ s.console.buffer = []

/-- The console answers a session's command at once, and the tag is what is left to check (R544). -/
abbrev State.consoleServes (s : State) : Prop :=
  s.consoleFree ∧ s.get KEYS.LC_STAT_TAMPER_HOLD = 0 ∧ s.console.session = true ∧ s.console.ending = 0

/-- A session's command whose tag is good: the line is counted, and CMD_CTR with it (R544). -/
def State.tagTaken (s : State) : State := (s.beginLine.incr SERVICE.CMD_CTR_COUNT).con (fun c => { c with badTags := 0 })

/-- A line's answer: what the console shows of it, no line left in its buffer. -/
def State.lineShown (s : State) : State := (s.settleConsole.con (fun c => { c with buffer := [] })).settle

end Sys2Proof.Machine
end

