-- ==== Sys2Proof/Certificates/Slice0/Obligations.lean ====
section
/-! DEFINITION. The statements for the provers. A clause `Completes o p` says that o is a next state of which p holds, and `After o p` that
p holds of the next state where there is one (Safety.lean). -/
open Sys2Proof Sys2Proof.Machine

/-- PAGE_CTRL isolates, disables and enables a page, and drains end. A taken write of PAGE_CTRL on a memory channel in RUN with no drain
starts a drain: of kind 2 with ISOLATE_REQ, of kind 1 with ENABLE cleared, ENABLE then 0. A write that sets ENABLE on any page of a
domain that is up, while the page drains, sets ENABLE and holds the enable. Of a bank of the flow engine: a drain of kind 1 that
completes leaves it OFF, a drain of kind 2 that times out leaves it ISOLATED (automatic repair off), a stall isolates it and raises
BANK_STALL, a reset of an ISOLATED bank puts it in TEST and counts RST_COUNT[10], and its self-test ends in RUN where it passes at a
start and in ISOLATED where it fails outside one. (R20; R26; R30; R31; R33; R391; R407; R420; R429.) -/
def Obligations.PageControlActs : Prop :=
  (∀ (m : Fin 7) (c : Fin 32) (s : State),
    s.takesWrite m .memch c 0x008 0 →
    s.domUp (Page.memch.domain c) = true →
    s.get (HDR.DRAIN .memch) c = 0 →
    s.get (HDR.STATE .memch) c = uRUN →
    Completes (exec (.isolateReq m .memch c) s) fun t => t.get (HDR.DRAIN .memch) c = 2) ∧
  (∀ (m : Fin 7) (c : Fin 32) (s : State),
    s.takesWrite m .memch c 0x008 0 →
    s.domUp (Page.memch.domain c) = true →
    s.get (HDR.DRAIN .memch) c = 0 →
    s.get (HDR.STATE .memch) c = uRUN →
    Completes (exec (.pageEnableClear m .memch c) s) fun t => t.get (HDR.ENABLE .memch) c = 0 ∧ t.get (HDR.DRAIN .memch) c = 1) ∧
  (∀ (m : Fin 7) (p : Page) (i : Nat) (s : State),
    s.takesWrite m p i 0x008 0 →
    i < p.instances →
    p.code < 0x80 →
    s.domUp (p.domain i) = true →
    s.draining p i = true →
    Completes (exec (.pageEnableSet m p i) s) fun t => t.get (HDR.ENABLE p) i = 1 ∧ t.get (HDR.HELD_ENABLE p) i = 1) ∧
  (∀ (k : Fin 16) (s : State),
    s.get (HDR.DRAIN .flow) 0 (k + 1) = 1 →
    s.get (HDR.HELD_ENABLE .flow) = 0 →
    bitOf (s.get RESET.HID_DRAINOFF) 16 = false →
    Completes (exec (.drainComplete ⟨.flow, 0, k + 1⟩) s) fun t =>
      t.get (HDR.DRAIN .flow) 0 (k + 1) = 0 ∧ t.get (HDR.STATE .flow) 0 (k + 1) = uOFF) ∧
  (∀ (k : Fin 16) (s : State),
    s.get (HDR.DRAIN .flow) 0 (k + 1) = 2 →
    s.get (HDR.STATE .flow) 0 (k + 1) = uRUN →
    s.get (HDR.HELD_ENABLE .flow) = 0 →
    s.get REPAIR.CFG_AUTO = 0 →
    bitOf (s.get RESET.HID_DRAINOFF) 16 = false →
    Completes (exec (.drainTimeout ⟨.flow, 0, k + 1⟩) s) fun t =>
      t.get (HDR.DRAIN .flow) 0 (k + 1) = 0 ∧ t.get (HDR.STATE .flow) 0 (k + 1) = uISOLATED) ∧
  (∀ (k : Fin 16) (s : State),
    s.get (HDR.STATE .flow) 0 (k + 1) = uRUN →
    s.get REPAIR.CFG_AUTO = 0 →
    Completes (exec (.channelStall ⟨.flow, 0, k + 1⟩) s) fun t =>
      t.get (HDR.STATE .flow) 0 (k + 1) = uISOLATED ∧ t.event .flow 0 FLOW.EV_BANK_STALL) ∧
  (∀ (k : Fin 16) (s : State),
    s.get (HDR.STATE .flow) 0 (k + 1) = uISOLATED →
    s.domUp 17 = true →
    Completes (exec (.unitReset none ⟨.flow, 0, k + 1⟩) s) fun t =>
      t.get (HDR.STATE .flow) 0 (k + 1) = uTEST ∧ t.get RESET.RST_COUNT_COUNT 0 10 = satAdd 16 (s.get RESET.RST_COUNT_COUNT 0 10) 1) ∧
  (∀ (k : Fin 16) (s : State),
    s.get (HDR.STATE .flow) 0 (k + 1) = uTEST →
    s.get (HDR.START .flow) 0 (k + 1) = 1 →
    Completes (exec (.unitSelftestEnd ⟨.flow, 0, k + 1⟩ true) s) fun t =>
      t.get (HDR.STATE .flow) 0 (k + 1) = uRUN ∧ t.get (HDR.START .flow) 0 (k + 1) = 0) ∧
  (∀ (k : Fin 16) (s : State),
    s.get (HDR.STATE .flow) 0 (k + 1) = uTEST →
    s.get (HDR.START .flow) 0 (k + 1) = 0 →
    s.get REPAIR.CFG_AUTO = 0 →
    Completes (exec (.unitSelftestEnd ⟨.flow, 0, k + 1⟩ false) s) fun t => t.get (HDR.STATE .flow) 0 (k + 1) = uISOLATED)

/-- How a receive slice loses and finds its signal. A change of signal detect is kept by slice. A receive slice in RUN whose quad has no
spare goes to LOS, with CDR_LOCK 0, LOS_COUNT raised and LOS_CHG of its pad lane; a slice in LOS with signal goes to ACQUIRE with
LOS_CHG; a slice of an SDI lane in ACQUIRE whose lock is held goes to RUN, with CDR_LOCK 1, the family and the class it tried, and
LOCK_CHG; a class that times out at class 0, all classes allowed and none locked before, gives way to class 4; and the frequency offset
of a lane whose slice is in RUN is shown as VALID. (R58; R59; R60; R61; R68.) -/
def Obligations.LaneReceiveStates : Prop :=
  (∀ (q : Fin 24) (sl : Fin 5) (present : Bool) (s : State),
    Completes (exec (.signalDetectChange q sl present) s) fun t => t.get QUAD.HID_SIGDET q sl = flag present) ∧
  (∀ (q : Fin 24) (sl : Fin 5) (n : Nat) (s : State),
    s.laneOf false q sl = some n →
    s.spareOf false q = none →
    s.get QUAD.RXSL_STAT_STATE q sl = slRUN →
    Completes (exec (.losDeclare q sl false) s) fun t =>
      t.get QUAD.RXSL_STAT_STATE q sl = slLOS ∧ t.get QUAD.RXSL_STAT_CDR_LOCK q sl = 0 ∧
      t.get QUAD.CNT_LOS_COUNT q = satAdd 32 (s.get QUAD.CNT_LOS_COUNT q) 1 ∧ t.event .quad q (QUAD.EV_LOS_CHG + n)) ∧
  (∀ (q : Fin 24) (sl : Fin 5) (n : Nat) (s : State),
    s.laneOf false q sl = some n →
    s.get QUAD.RXSL_STAT_STATE q sl = slLOS →
    s.get QUAD.HID_SIGDET q sl = 1 →
    Completes (exec (.losExit q sl) s) fun t =>
      t.get QUAD.RXSL_STAT_STATE q sl = slACQUIRE ∧ t.event .quad q (QUAD.EV_LOS_CHG + n)) ∧
  (∀ (q : Fin 24) (sl : Fin 5) (n : Nat) (s : State),
    s.laneOf false q sl = some n →
    s.get QUAD.RXSL_STAT_STATE q sl = slACQUIRE →
    s.laneEth q n = false →
    Completes (exec (.cdrLockHeld q sl true) s) fun t =>
      t.get QUAD.RXSL_STAT_STATE q sl = slRUN ∧ t.get QUAD.RXSL_STAT_CDR_LOCK q sl = 1 ∧ t.get QUAD.RXSL_STAT_FAM_DET q sl = 1 ∧
      t.get QUAD.RXSL_STAT_RATE_DET q sl = s.get QUAD.HID_CLASS q sl % 8 ∧ t.event .quad q (QUAD.EV_LOCK_CHG + n)) ∧
  (∀ (q : Fin 24) (sl : Fin 5) (n : Nat) (s : State),
    s.laneOf false q sl = some n →
    s.get QUAD.RXSL_STAT_STATE q sl = slACQUIRE →
    s.laneEth q n = false →
    s.get QUAD.LANE_CFG_RX_RATE_MASK q n = 0x1F →
    s.get QUAD.HID_LAST q sl = 0 →
    s.get QUAD.HID_CLASS q sl = 0 →
    Completes (exec (.acquireClassTimeout q sl) s) fun t => t.get QUAD.HID_CLASS q sl = 4) ∧
  (∀ (q : Fin 24) (n : Fin 4) (off : BitVec 16) (s : State),
    s.sliceOf false q n < 5 →
    s.get QUAD.RXSL_STAT_STATE q (s.sliceOf false q n) = slRUN →
    Completes (exec (.rxFreqUpdate q n off) s) fun t => t.get QUAD.RX_FREQ_OFFSET q n = off.toNat ∧ t.get QUAD.RX_FREQ_VALID q n = 1)

/-- How a spare slice shadows a lane, takes it over, is forced and is tested. With a spare slice, SPARE_AUTO set and nothing shadowed, a
SPARE_SHADOW or TX_SPARE_SHADOW puts the spare in SHADOW on the lane (transmit: the flip due). The spare's alignment is kept. A window
in which the active slice erred and the spare did not makes the flip due; one in which both erred on the same lines returns the spare
and raises RX_INPUT_FAULT; the flip raises RX_SUB. A hard fault in a quad without a spare raises SUB_EXHAUSTED. FORCE_RX and FORCE_TX of
lane 1 to 4 put the spare in SHADOW on that lane as forced. A self-test takes the spare to TEST with RX_SPARE_BUSY and, passing, back to
SPARE; failing, it raises SPARE_FAIL. (R65; R66; R67; R68; R69; R70; R75.) -/
def Obligations.LaneSpareSlices : Prop :=
  (∀ (q : Fin 24) (n : Fin 4) (sl : Nat) (s : State),
    s.spareOf false q = some sl →
    s.get QUAD.QUAD_CFG_SPARE_AUTO q = 1 →
    s.shadowed false q = none →
    s.sliceOf false q n < 5 →
    Completes (exec (.spareShadow q n) s) fun t =>
      t.get QUAD.RXSL_STAT_STATE q sl = slSHADOW ∧ t.get QUAD.RXSL_STAT_PADLANE q sl = n ∧ t.get QUAD.QUAD_STAT_RX_SPARE_BUSY q = 1) ∧
  (∀ (q : Fin 24) (n : Fin 4) (sl : Nat) (s : State),
    s.spareOf true q = some sl →
    s.get QUAD.QUAD_CFG_SPARE_AUTO q = 1 →
    s.shadowed true q = none →
    s.sliceOf true q n < 5 →
    Completes (exec (.txSpareShadow q n) s) fun t =>
      t.get QUAD.TXSL_STAT_STATE q sl = slSHADOW ∧ t.get QUAD.TXSL_STAT_PADLANE q sl = n ∧ t.get QUAD.HID_FLIP q 1 = 1) ∧
  (∀ (q : Fin 24) (n : Nat) (s : State),
    s.shadowed false q = some n →
    Completes (exec (.spareAligned q) s) fun t => t.get QUAD.HID_ALIGNED q 0 = 1) ∧
  (∀ (q : Fin 24) (sl : Nat) (n : Nat) (sameLines : Bool) (s : State),
    s.spareOf false q = some sl →
    s.shadowed false q = some n →
    s.get QUAD.HID_FORCED q 0 = 0 →
    Completes (exec (.shadowWindowEnd q true false sameLines) s) fun t => t.get QUAD.HID_FLIP q 0 = 1) ∧
  (∀ (q : Fin 24) (sl : Nat) (n : Nat) (s : State),
    s.spareOf false q = some sl →
    s.shadowed false q = some n →
    s.get QUAD.HID_FORCED q 0 = 0 →
    Completes (exec (.shadowWindowEnd q true true true) s) fun t =>
      t.get QUAD.RXSL_STAT_STATE q sl = slSPARE ∧ t.event .quad q QUAD.EV_RX_INPUT_FAULT) ∧
  (∀ (q : Fin 24) (sl : Nat) (n : Nat) (s : State),
    s.spareOf false q = some sl →
    s.shadowed false q = some n →
    s.get QUAD.HID_FLIP q 0 = 1 →
    Completes (exec (.sliceFlip q false) s) fun t => t.get QUAD.HID_FLIP q 0 = 0 ∧ t.event .quad q QUAD.EV_RX_SUB) ∧
  (∀ (q : Fin 24) (n : Fin 4) (s : State),
    s.spareOf false q = none →
    s.sliceOf false q n < 5 →
    Completes (exec (.hardFault q false n) s) fun t => t.event .quad q QUAD.EV_SUB_EXHAUSTED) ∧
  (∀ (m : Fin 7) (q : Fin 24) (v : Word) (sl : Nat) (s : State),
    s.takesWrite m .quad q 0x04C v.toNat →
    (s.writePlain m .quad q 0x04C v.toNat).spareOf false q = some sl →
    (s.writePlain m .quad q 0x04C v.toNat).shadowed false q = none →
    1 ≤ bitsOf v.toNat 16 3 →
    bitsOf v.toNat 16 3 ≤ 4 →
    Completes (exec (.forceRx m q v) s) fun t =>
      t.get QUAD.RXSL_STAT_STATE q sl = slSHADOW ∧ t.get QUAD.RXSL_STAT_PADLANE q sl = bitsOf v.toNat 16 3 - 1 ∧ t.get QUAD.HID_FORCED q 0 = 1) ∧
  (∀ (m : Fin 7) (q : Fin 24) (v : Word) (sl : Nat) (s : State),
    s.takesWrite m .quad q 0x04C v.toNat →
    (s.writePlain m .quad q 0x04C v.toNat).spareOf true q = some sl →
    (s.writePlain m .quad q 0x04C v.toNat).shadowed true q = none →
    1 ≤ bitsOf v.toNat 20 3 →
    bitsOf v.toNat 20 3 ≤ 4 →
    Completes (exec (.forceTx m q v) s) fun t =>
      t.get QUAD.TXSL_STAT_STATE q sl = slSHADOW ∧ t.get QUAD.TXSL_STAT_PADLANE q sl = bitsOf v.toNat 20 3 - 1 ∧
      t.get QUAD.HID_FORCED q 1 = 1 ∧ t.get QUAD.HID_FLIP q 1 = 1) ∧
  (∀ (q : Fin 24) (sl : Nat) (s : State),
    s.spareOf false q = some sl →
    s.get QUAD.SPARE_CTL_SELFTEST_EN q = 1 →
    s.get THERMAL.STAT_STAGE = 0 →
    s.get QUAD.RXSL_STAT_STATE q sl = slSPARE →
    Completes (exec (.spareSelftest q false) s) fun t => t.get QUAD.RXSL_STAT_STATE q sl = slTEST ∧ t.get QUAD.QUAD_STAT_RX_SPARE_BUSY q = 1) ∧
  (∀ (q : Fin 24) (sl : Nat) (s : State),
    s.spareOf false q = some sl →
    s.get QUAD.HID_SELFTEST q 0 = 1 →
    Completes (exec (.spareSelftestEnd q false true) s) fun t => t.get QUAD.RXSL_STAT_STATE q sl = slSPARE ∧ t.get QUAD.QUAD_STAT_RX_SPARE_BUSY q = 0) ∧
  (∀ (q : Fin 24) (sl : Nat) (s : State),
    s.spareOf false q = some sl →
    s.get QUAD.HID_SELFTEST q 0 = 1 →
    Completes (exec (.spareSelftestEnd q false false) s) fun t => t.event .quad q QUAD.EV_SPARE_FAIL)

/-- The test functions and counters of a quad. A taken ERR_INJECT on a lane whose generator runs counts one inverted bit; CHK_CLEAR sets
PRBS_ERR_COUNT to 0; a TEST_CTL write on a lane that is not free sets its bit of CFG_BLOCKED and raises the event, on a free unshadowed
lane it clears the bit; an eye measurement starts where none runs, and ends with DONE, its count cut to 32 bits and EYE_DONE; errors of
a running checker are added to the count, with PRBS_ERR; a read of the low word of an Ethernet counter latches bits 63 to 32; and a
change of HI_BER is shown and raises HI_BER. (R55; R77; R78; R80; R82; R83.) -/
def Obligations.LaneTests : Prop :=
  (∀ (m : Fin 7) (q : Fin 24) (n : Fin 4) (s : State),
    s.takesWrite m .quad q (0x0D0 + 4 * n) 0x100 →
    s.get QUAD.TEST_CTL_PRBS_GEN q n ≠ 0 →
    Completes (exec (.errInject m q n) s) fun t => t.get QUAD.HID_INJECTED q n = (s.get QUAD.HID_INJECTED q n + 1) % 2 ^ 32) ∧
  (∀ (m : Fin 7) (q : Fin 24) (n : Fin 4) (s : State),
    s.takesWrite m .quad q (0x0D0 + 4 * n) 0x400 →
    Completes (exec (.chkClear m q n) s) fun t => t.get QUAD.PRBS_ERR_COUNT q n = 0) ∧
  (∀ (m : Fin 7) (q : Fin 24) (n : Fin 4) (v : Word) (s : State),
    s.takesWrite m .quad q (0x0D0 + 4 * n) v.toNat →
    (s.laneFree q n && !s.laneShadowed q n) = false →
    Completes (exec (.testCtlWrite m q n v) s) fun t =>
      t.get QUAD.QUAD_STAT_CFG_BLOCKED q = (s.get QUAD.QUAD_STAT_CFG_BLOCKED q ||| 2 ^ n.val) % 16 ∧ t.event .quad q QUAD.EV_CFG_BLOCKED) ∧
  (∀ (m : Fin 7) (q : Fin 24) (n : Fin 4) (v : Word) (s : State),
    s.takesWrite m .quad q (0x0D0 + 4 * n) v.toNat →
    s.laneFree q n = true →
    s.laneShadowed q n = false →
    Completes (exec (.testCtlWrite m q n v) s) fun t => t.get QUAD.QUAD_STAT_CFG_BLOCKED q = clrBit (s.get QUAD.QUAD_STAT_CFG_BLOCKED q) n % 16) ∧
  (∀ (m : Fin 7) (q : Fin 24) (v : Word) (s : State),
    s.takesWrite m .quad q 0x100 v.toNat →
    s.get QUAD.HID_EYE q = 0 →
    Completes (exec (.eyeStart m q v) s) fun t => t.get QUAD.HID_EYE q = 1 ∧ t.get QUAD.EYE_CTL_DONE q = 0 ∧ t.get QUAD.EYE_CTL_ABORTED q = 0) ∧
  (∀ (q : Fin 24) (mismatches : Nat) (s : State),
    s.get QUAD.HID_EYE q = 1 →
    Completes (exec (.eyeDone q mismatches) s) fun t =>
      t.get QUAD.HID_EYE q = 0 ∧ t.get QUAD.EYE_CTL_DONE q = 1 ∧ t.get QUAD.EYE_ERR_COUNT q = min mismatches 0xFFFFFFFF ∧ t.event .quad q QUAD.EV_EYE_DONE) ∧
  (∀ (q : Fin 24) (n : Fin 4) (errors : Nat) (s : State),
    s.get QUAD.TEST_CTL_PRBS_CHK q n ≠ 0 →
    errors ≠ 0 →
    Completes (exec (.prbsCheckerSync q n true errors) s) fun t =>
      t.get QUAD.TEST_CTL_CHK_SYNC q n = 1 ∧ t.get QUAD.PRBS_ERR_COUNT q n = satAdd 32 (s.get QUAD.PRBS_ERR_COUNT q n) errors ∧ t.event .quad q QUAD.EV_PRBS_ERR) ∧
  (∀ (m : Fin 7) (q : Fin 24) (p : Fin 4) (k : Fin 8) (s : State),
    s.takesRead m .eth q (0x100 + 0x40 * p + 8 * k) →
    s.get QUAD.QUAD_CFG_Q100 q = 0 →
    Completes (exec (.ethCountRead m q p k) s) fun t => t.get ETH.HID_LATCH q (8 * p + k) = bitsOf (s.get (ethCounter k) q p) 32 32) ∧
  (∀ (q : Fin 24) (p : Fin 4) (high : Bool) (s : State),
    flag high ≠ s.get ETH.PORT_STAT_HI_BER q p →
    Completes (exec (.hiBerChange q p high) s) fun t => t.get ETH.PORT_STAT_HI_BER q p = flag high ∧ t.event .eth q (ETH.EV_HI_BER + p))

/-- An SDI input finds and loses its lines and frames. An SDI input whose TRS is missing falls from DETECT and from PRESENT to SEARCH, from
PRESENT with FMT.VALID 0 and PRESENT_CHG. A line with TRS in SEARCH counts, and the fourth takes the input to DETECT with TRS_LOCK. A
frame of a PRESENT IP input without time code raises its frame count and leaves TC_RUNNING 0. A frame of a multi-link SDI input with a
skew above 2,000 takes it to SEARCH with SKEW_ERR and the skew shown, cut to 0x1FFF. (R91; R94; R95; R97; R100; R105; R109; R111.) -/
def Obligations.SdiInputs : Prop :=
  (∀ (i : Fin 192) (s : State),
    s.laneSdi false i = true →
    s.get VIN.STAT_STATE i = viDETECT →
    Completes (exec (.trsMissing i) s) fun t => t.get VIN.STAT_STATE i = viSEARCH ∧ t.get VIN.STAT_TRS_LOCK i = 0) ∧
  (∀ (i : Fin 192) (s : State),
    s.laneSdi false i = true →
    s.get VIN.STAT_STATE i = viPRESENT →
    Completes (exec (.trsMissing i) s) fun t =>
      t.get VIN.STAT_STATE i = viSEARCH ∧ t.get VIN.FMT_VALID i = 0 ∧ t.event .vin i VIN.EV_PRESENT_CHG) ∧
  (∀ (i : Fin 192) (f : SdiLine) (s : State),
    s.laneSdi false i = true →
    s.get VIN.STAT_STATE i = viSEARCH →
    f.trs = true →
    s.viSlicesRun i = true →
    s.get VIN.HID_TRS i = 0 →
    Completes (exec (.sdiLineReceived i f) s) fun t => t.get VIN.HID_TRS i = 1 ∧ t.get VIN.STAT_STATE i = viSEARCH) ∧
  (∀ (i : Fin 192) (f : SdiLine) (s : State),
    s.laneSdi false i = true →
    s.get VIN.STAT_STATE i = viSEARCH →
    f.trs = true →
    s.viSlicesRun i = true →
    s.get VIN.HID_TRS i = 3 →
    Completes (exec (.sdiLineReceived i f) s) fun t => t.get VIN.STAT_STATE i = viDETECT ∧ t.get VIN.STAT_TRS_LOCK i = 1) ∧
  (∀ (i : Fin 192) (f : SdiFrame) (s : State),
    s.laneSdi false i = false →
    s.get VIN.STAT_STATE i = viPRESENT →
    f.ltc = none →
    s.get VIN.TC_SRC_SEL i = 0 →
    Completes (exec (.viFrameStart i f) s) fun t => t.get VIN.HID_FRAME i = (s.get VIN.HID_FRAME i + 1) % 2 ^ 20 ∧ t.get VIN.TC_RUNNING i = 0) ∧
  (∀ (i : Fin 192) (f : SdiFrame) (s : State),
    s.laneSdi false i = true →
    s.get VIN.STAT_STATE i = viPRESENT →
    s.viLinks i ≠ 1 →
    2000 < f.skew →
    Completes (exec (.viFrameStart i f) s) fun t =>
      t.get VIN.STAT_STATE i = viSEARCH ∧ t.get VIN.STAT_SKEW_ERR i = 1 ∧ t.get VIN.STAT_SKEW i = min 0x1FFF f.skew)

/-- Switching lines, line reads and the timing of outputs. At the switching line of a test tap a pending unroute acts: no take waits, no
path is active, W1 shows no plane, and TAKE_ACTED is raised; of a running output during standby entry, the generator stops and STAT
shows OFF. A P0 output whose line did not arrive is marked defective; a twin output whose half A failed and whose half B is good swaps
the line and counts it. A slew without a reference ends in FREE with PHASE_ERR 0 and SLEW_DONE; the lines of a STEP are sent and STEPPED
is raised; the hold of a synchroniser ends in BLACK; and the return timer of a fallback with AUTO_RETURN sets the return. (R21; R166;
R262; R389; R390; R395; R440.) -/
def Obligations.OutputBoundaries : Prop :=
  (∀ (o : Fin 512) (p : PendingTake) (f : BoundaryFacts) (s : State),
    452 ≤ o.val →
    o.val < 468 →
    NTable.find s.video.pend o = some p →
    p.path = none →
    Completes (exec (.switchingLine o f) s) fun t =>
      NTable.find t.video.pend o = none ∧ NTable.find t.video.active o = none ∧ t.get RTE.W1_PENDING o = 0 ∧ t.get RTE.W1_KIND o = 3 ∧
      t.event .route 0 ROUTE.EV_TAKE_ACTED) ∧
  (∀ (o : Fin 512) (f : BoundaryFacts) (s : State),
    o.val < 192 →
    s.tgRuns o = true →
    s.domUp (Page.vout.domain o) = true →
    s.get POWER.STBY_BUSY = 1 →
    Completes (exec (.switchingLine o f) s) fun t => t.get VOUT.TIM_STAT_STATE o = tgOFF ∧ t.get VOUT.STAT_STATE o = 0) ∧
  (∀ (o : Fin 192) (p : Path) (f : LineFacts) (s : State),
    NTable.find s.video.active o = some p →
    s.get VOUT.STAT_STATE o = 3 →
    p.plane = 0 →
    f.copyA.arrived = false →
    Completes (exec (.outputLineRead o f) s) fun t => t.get VOUT.HID_DEF o = 1) ∧
  (∀ (o : Fin 192) (p : Path) (f : LineFacts) (s : State),
    NTable.find s.video.active o = some p →
    s.get VOUT.STAT_STATE o = 3 →
    p.plane = 2 →
    p.twin = true →
    s.get REPAIR.PROT_CFG_SEL 0 o = 0 →
    f.copyA.arrived = false →
    f.copyB.poison = false →
    s.lineCheckOut o p f.line true f.copyB = true →
    Completes (exec (.outputLineRead o f) s) fun t =>
      t.get REPAIR.CNT_LINE_SWAPS = satAdd 32 (s.get REPAIR.CNT_LINE_SWAPS) 1 ∧ t.get VOUT.HID_SELFAIL o = 1) ∧
  (∀ (o : Fin 192) (s : State),
    s.get VOUT.TIM_STAT_STATE o = tgSLEW →
    s.get REFMGR.RM_STAT_ACTIVE_VALID = 0 →
    Completes (exec (.slewDone o) s) fun t =>
      t.get VOUT.TIM_STAT_STATE o = tgFREE ∧ t.get VOUT.PHASE_ERR_ERR o = 0 ∧ t.event .vout o VOUT.EV_SLEW_DONE) ∧
  (∀ (o : Fin 192) (s : State),
    s.get VOUT.TIM_STAT_STATE o = tgSTEP →
    Completes (exec (.stepLinesSent o) s) fun t => t.get VOUT.HID_REST o = 0 ∧ t.event .vout o VOUT.EV_STEPPED) ∧
  (∀ (o : Fin 192) (s : State),
    s.get SYNCMGR.FS_STAT_MODE 0 o = fsHOLD →
    s.get SYNCMGR.FS_CFG_HOLD_MAX 0 o ≠ 0 →
    Completes (exec (.holdMaxExpire o) s) fun t => t.get SYNCMGR.FS_STAT_MODE 0 o = fsBLACK) ∧
  (∀ (o : Fin 192) (s : State),
    s.get SYNCMGR.FS_STAT_MODE 0 o = fsFALLBACK →
    s.get SYNCMGR.FS_CFG_AUTO_RETURN 0 o = 1 →
    Completes (exec (.returnTExpire o) s) fun t => t.get VOUT.HID_RETURN o = 1)

/-- Takes and salvos are admitted, held, cut off and committed. A GO of TAKE_CTL for a destination of this member, accepted, answers code 0
with DONE and leaves the take pending; refused with a code, it shows the code, leaves the paths and takes as they were and raises
REFUSAL. A GO with BATCH adds the take to the master's buffer, up to 512. A salvo GO, accepted, answers 0 and empties the buffer;
refused, it shows the code, empties the buffer and changes no pending or timed take (that the buffer is empty after a refusal is the
model's choice, log entry 12). ABORT empties the buffer and clears TAKE_DST and BATCH. A timed salvo that commits leaves WAITING as the
other timed salvos of its master say. A selected edge submits the salvo of the one master that selects it. (R167; R168; R171; R173;
R536.) -/
def Obligations.TakesCommit : Prop :=
  (∀ (m : Fin 7) (v : Word) (f : TakeFacts) (s : State) (t0 : State),
    s.takesWrite m .route 0 0x048 v.toNat →
    t0 = s.writePlain m .route 0 0x048 v.toNat →
    bitOf v.toNat 0 = true →
    bitOf v.toNat 1 = false →
    t0.gate .route 0 = 0 →
    t0.takeMember m = localMember →
    (t0.decideTake (t0.get ROUTE.TAKE_DST_SLOT m) (t0.get ROUTE.TAKE_ENTRY_W0 m) localMember (t0.takeFrame (t0.get ROUTE.TAKE_DST_SLOT m) f.pastCut) f).1 = 0 →
    Completes (exec (.take m v f) s) fun t =>
      t.get ROUTE.RESP_CODE m = 0 ∧ t.get ROUTE.RESP_DONE m = 1 ∧ t.get ROUTE.RESP_BUSY m = 0 ∧
      t.get RTE.W1_PENDING (t0.get ROUTE.TAKE_DST_SLOT m) = 1) ∧
  (∀ (m : Fin 7) (v : Word) (f : TakeFacts) (s : State) (t0 : State) (r : Nat),
    s.takesWrite m .route 0 0x048 v.toNat →
    t0 = s.writePlain m .route 0 0x048 v.toNat →
    bitOf v.toNat 0 = true →
    bitOf v.toNat 1 = false →
    t0.gate .route 0 = 0 →
    (t0.decideTake (t0.get ROUTE.TAKE_DST_SLOT m) (t0.get ROUTE.TAKE_ENTRY_W0 m) (t0.takeMember m) (t0.takeFrame (t0.get ROUTE.TAKE_DST_SLOT m) f.pastCut) f).1 = r →
    r ≠ 0 →
    Completes (exec (.take m v f) s) fun t =>
      t.get ROUTE.RESP_CODE m = r % 2 ^ 8 ∧ t.get ROUTE.RESP_DONE m = 1 ∧ t.video = t0.video ∧ t.event .ledger 0 LEDGER.EV_REFUSAL) ∧
  (∀ (m : Fin 7) (v : Word) (s : State) (t0 : State),
    s.takesWrite m .route 0 0x048 v.toNat →
    t0 = s.writePlain m .route 0 0x048 v.toNat →
    bitOf v.toNat 0 = true →
    bitOf v.toNat 1 = true →
    (t0.heldTakes m).length < 512 →
    Completes (exec (.takeHold m v) s) fun t =>
      t.get ROUTE.SALVO_CTL_HELD m = (t0.heldTakes m).length + 1 ∧
      t.heldTakes m = t0.heldTakes m ++ [{ dst := t0.get ROUTE.TAKE_DST_SLOT m, w0 := t0.get ROUTE.TAKE_ENTRY_W0 m, dmember := t0.takeMember m }]) ∧
  (∀ (m : Fin 7) (v : Word) (f : List TakeFacts) (s : State) (t0 : State),
    s.takesWrite m .route 0 0x04C v.toNat →
    t0 = s.writePlain m .route 0 0x04C v.toNat →
    bitOf v.toNat 0 = true →
    bitOf v.toNat 2 = false →
    t0.heldTakes m ≠ [] →
    t0.salvoCode m false (t0.heldTakes m) = 0 →
    (t0.decideSalvo 0 (t0.heldTakes m) f).1 = 0 →
    Completes (exec (.salvoGo m v f) s) fun t =>
      t.get ROUTE.RESP_CODE m = 0 ∧ t.get ROUTE.RESP_DONE m = 1 ∧ t.get ROUTE.SALVO_CTL_HELD m = 0 ∧ t.heldTakes m = []) ∧
  (∀ (m : Fin 7) (v : Word) (f : List TakeFacts) (s : State) (t0 : State) (r : Nat),
    s.takesWrite m .route 0 0x04C v.toNat →
    t0 = s.writePlain m .route 0 0x04C v.toNat →
    bitOf v.toNat 0 = true →
    t0.heldTakes m ≠ [] →
    t0.salvoCode m (bitOf v.toNat 2) (t0.heldTakes m) = 0 →
    (t0.decideSalvo 0 (t0.heldTakes m) f).1 = r →
    r ≠ 0 →
    Completes (exec (.salvoGo m v f) s) fun t =>
      t.get ROUTE.RESP_CODE m = r % 2 ^ 8 ∧ t.get ROUTE.SALVO_CTL_HELD m = 0 ∧ t.video.pend = t0.video.pend ∧ t.video.timed = t0.video.timed) ∧
  (∀ (m : Fin 7) (s : State),
    s.takesWrite m .route 0 0x04C 2 →
    Completes (exec (.salvoAbort m) s) fun t =>
      t.get ROUTE.SALVO_CTL_HELD m = 0 ∧ t.heldTakes m = [] ∧ t.get ROUTE.TAKE_DST_SLOT m = 0 ∧ t.get ROUTE.TAKE_CTL_BATCH m = 0) ∧
  (∀ (m : Fin 7) (late : List Nat) (z : TimedSalvo) (s : State),
    s.video.timed.find? (fun x => x.master = m.val) = some z →
    Completes (exec (.timedSalvoCommit m late) s) fun t =>
      t.get ROUTE.RESP_WAITING z.master = flag ((s.video.timed.filter (fun x => x ≠ z)).any (fun x => x.master = z.master))) ∧
  (∀ (g : Fin 32) (f : List TakeFacts) (s : State),
    bitOf (s.get GPIO.DIR_OUT_EN) g = false →
    s.get ROUTE.SALVO_TRIG_EN 1 = 1 →
    s.get ROUTE.SALVO_TRIG_GPIO 1 = g →
    (∀ m : Fin 7, m.val ≠ 1 → s.get ROUTE.SALVO_TRIG_EN m = 0) →
    s.get ROUTE.RESP_BUSY 1 = 0 →
    exec (.salvoTrigEdge g f) s = .next (s.submitSalvo 1 (decide (s.get ROUTE.SALVO_CTL_TIMED 1 = 1)) f).settle)

/-- How a memory channel counts errors, fails, is tested and is emptied. A corrected sector of a running channel counts in CORR and is shown
with kind 0, where the thresholds of Table 6.8 are not met; an uncorrectable one counts in UNCORR, with kind 1 and UNCORR raised; a
scrub pass counts, clears AGE and shows LATE above 24 hours; WATCH expires to GOOD; a dead channel shows DEAD and raises it. MIGRATE_OUT
takes a GOOD or WATCH channel to FAILING; a self-test of an empty channel that finds nothing leaves it in RUN at WATCH with
SELFTEST_DONE; a retrain of a quadrant in a domain that is up leaves its eight channels TRAINED and a DEGRADED quadrant in RUN. EVAC.GO
where none runs evacuates the quadrant as one request; RELEASE returns an EVACUATED quadrant to RUN. An output's generator that may
start, with no take pending, starts with PHASE_ERR 0 and the system frame count, and raises STARTED. (R187; R188; R204; R205; R206;
R208; R209; R212; R213; R266.) -/
def Obligations.MemoryChannels : Prop :=
  (∀ (c : Fin 32) (sector : Nat) (s : State),
    s.chanRun c = true →
    (recent s.clk.uptime dayPeriods (NTable.getD s.repair.corrections (sectorKey c sector) [])).length < 2 →
    s.get MEMCH.CH_STAT_HEALTH c ≠ chGOOD →
    (recent s.clk.uptime (s.get MEMCH.CH_CFG_CE_WINDOW c * xtalPerSecond) (NTable.getD s.repair.corrections (channelKey c) [])).length + 1 < s.get MEMCH.CH_CFG_CE_LIMIT c →
    Completes (exec (.sectorCorrected c sector) s) fun t =>
      t.get MEMCH.CNT_CORR c = satAdd 32 (s.get MEMCH.CNT_CORR c) 1 ∧ t.get MEMCH.ERR_ADDR_SECTOR c = sector % 2 ^ 24 ∧ t.get MEMCH.ERR_ADDR_KIND c = 0) ∧
  (∀ (c : Fin 32) (sector : Nat) (s : State),
    s.chanRun c = true →
    Completes (exec (.sectorUncorrectable c sector false) s) fun t =>
      t.get MEMCH.CNT_UNCORR c = satAdd 32 (s.get MEMCH.CNT_UNCORR c) 1 ∧ t.get MEMCH.ERR_ADDR_KIND c = 1 ∧ t.event .memch c MEMCH.EV_UNCORR) ∧
  (∀ (c : Fin 32) (hours : Nat) (s : State),
    s.chanRun c = true →
    s.get SYNCMGR.SCRUB_CFG_EN = 1 →
    s.get THERMAL.STAT_STAGE = 0 →
    Completes (exec (.scrubPass c hours) s) fun t =>
      t.get MEMCH.CNT_SCRUB_PASS c = satAdd 32 (s.get MEMCH.CNT_SCRUB_PASS c) 1 ∧ t.get MEMCH.SCRUB_STAT_AGE c = 0 ∧
      t.get MEMCH.SCRUB_STAT_LATE c = flag (24 < hours)) ∧
  (∀ (c : Fin 32) (s : State),
    s.get MEMCH.CH_STAT_HEALTH c = chWATCH →
    Completes (exec (.watchExpire c) s) fun t => t.get MEMCH.CH_STAT_HEALTH c = chGOOD) ∧
  (∀ (c : Fin 32) (s : State),
    s.chanRun c = true →
    Completes (exec (.channelDead c) s) fun t => t.event .memch c MEMCH.EV_DEAD ∧ t.get MEMCH.CH_STAT_HEALTH c = chDEAD) ∧
  (∀ (m : Fin 7) (c : Fin 32) (s : State),
    s.takesWrite m .memch c 0x058 1 →
    (s.writePlain m .memch c 0x058 1).chanRun c = true →
    s.get MEMCH.CH_STAT_HEALTH c < 2 →
    Completes (exec (.migrateOut m c) s) fun t => t.get MEMCH.CH_STAT_HEALTH c = chFAILING) ∧
  (∀ (m : Fin 7) (c : Fin 32) (s : State),
    s.takesWrite m .memch c 0x058 2 →
    (s.writePlain m .memch c 0x058 2).channelEmpty c = true →
    Completes (exec (.channelSelftest m c 0) s) fun t =>
      t.event .memch c MEMCH.EV_SELFTEST_DONE ∧ t.get MEMCH.CH_STAT_HEALTH c = chWATCH ∧ t.get (HDR.STATE .memch) c = uRUN) ∧
  (∀ (q : Fin 4) (s : State),
    s.domUp (13 + q) = true →
    Completes (exec (.retrainEnd q) s) fun t =>
      (∀ c : Fin 8, t.get MEMCH.CH_STAT_TRAINED (8 * q + c) = 1) ∧ (s.get SYNCMGR.QUAD_STAT_STATE 0 q = quadDEGRADED → t.get SYNCMGR.QUAD_STAT_STATE 0 q = quadRUN)) ∧
  (∀ (m : Fin 7) (v : Word) (s : State),
    s.takesWrite m .syncmgr 0 0x070 v.toNat →
    bitOf v.toNat 4 = true →
    (s.writePlain m .syncmgr 0 0x070 v.toNat).get SYNCMGR.EVAC_BUSY = 0 →
    exec (.syncEvacGo m v) s = .next ((s.writePlain m .syncmgr 0 0x070 v.toNat).evacuate m (bitsOf v.toNat 0 2)).settle) ∧
  (∀ (m : Fin 7) (v : Word) (s : State),
    s.takesWrite m .syncmgr 0 0x070 v.toNat →
    bitOf v.toNat 5 = true →
    (s.writePlain m .syncmgr 0 0x070 v.toNat).get SYNCMGR.QUAD_STAT_STATE 0 (bitsOf v.toNat 0 2) = quadEVACUATED →
    Completes (exec (.syncEvacRelease m v) s) fun t => t.get SYNCMGR.QUAD_STAT_STATE 0 (bitsOf v.toNat 0 2) = quadRUN) ∧
  (∀ (o : Fin 192) (s : State),
    s.mayStart o true = true →
    NTable.find s.video.pend o = none →
    Completes (exec (.generatorStart o true) s) fun t =>
      t.get VOUT.PHASE_ERR_ERR o = 0 ∧ t.get VOUT.HID_INSERVICE o = 0 ∧ t.get VOUT.FRAME_CNT_COUNT o = s.sysFrame (s.get VOUT.FMT_RATE o) % 2 ^ 20 ∧
      t.event .vout o VOUT.EV_STARTED)

/-- Profiles, loads, evacuations and faults of the conversion engines. PROF_DST.GO for an output without a path maps the profile to it with
code 0. LOAD_CTL.COMMIT, where no load runs, shows the error of the checks (log entry 17 orders them), LOAD_ERR and no load where it is
not 0, and else starts the load of the kind and target written; LOAD_DONE ends it with DONE. EVAC.GO of a cluster without streams ends
at once with code 0, DONE and EVAC_DONE, the cluster marked; RELEASE clears the mark. A hard fault of an engine in RUN, with no stream
on the device and automatic repair off, isolates it. A vector fault of a running stream counts and raises VEC_FAULT; a quality step
request is the step of its stream; a spare's self-test counts where it passes and raises SELFTEST_FAIL where it fails. (R231; R236;
R242; R248; R253.) -/
def Obligations.EngineCommands : Prop :=
  (∀ (m : Fin 7) (v : Word) (f : TakeFacts) (s : State) (t0 : State),
    s.takesWrite m .ce 0 0x210 v.toNat →
    t0 = s.writePlain m .ce 0 0x210 v.toNat →
    bitOf v.toNat 31 = true →
    t0.get CE.PROF_RESP_BUSY = 0 →
    t0.gate .ce 0 = 0 →
    bitsOf v.toNat 0 9 < 192 →
    t0.get CE.PROF0_VALID 0 (bitsOf v.toNat 16 6) ≠ 0 →
    NTable.find t0.video.active (bitsOf v.toNat 0 9) = none →
    Completes (exec (.profDstGo m v f) s) fun t =>
      t.get CE.PROF_MAP_PROFILE 0 (bitsOf v.toNat 0 9) = bitsOf v.toNat 16 6 ∧ t.get CE.PROF_RESP_CODE = 0 ∧ t.get CE.PROF_RESP_DONE = 1) ∧
  (∀ (m : Fin 7) (v : Word) (s : State) (t0 : State) (e : Nat),
    s.takesWrite m .ce 0 0x200 v.toNat →
    t0 = s.writePlain m .ce 0 0x200 v.toNat →
    bitOf v.toNat 8 = true →
    t0.get CE.LOAD_STAT_BUSY = 0 →
    t0.loadError (bitOf v.toNat 0) (bitsOf v.toNat 1 4) = e →
    Completes (exec (.loadCommit m v) s) fun t =>
      t.get CE.LOAD_STAT_DONE = 0 ∧ t.get CE.LOAD_STAT_ERR = e % 8 ∧
      (e ≠ 0 → t.get CE.LOAD_STAT_BUSY = 0 ∧ t.event .ce 0 CE.EV_LOAD_ERR) ∧
      (e = 0 → t.get CE.LOAD_STAT_BUSY = 1 ∧ t.get CE.HID_LOADKIND = flag (bitOf v.toNat 0) ∧ t.get CE.HID_LOADTARGET = bitsOf v.toNat 1 4)) ∧
  (∀ (s : State),
    s.get CE.LOAD_STAT_BUSY = 1 →
    Completes (exec .loadDone s) fun t => t.get CE.LOAD_STAT_BUSY = 0 ∧ t.get CE.LOAD_STAT_DONE = 1) ∧
  (∀ (m : Fin 7) (v : Word) (s : State) (t0 : State),
    s.takesWrite m .ce 0 0x218 v.toNat →
    t0 = s.writePlain m .ce 0 0x218 v.toNat →
    bitOf v.toNat 4 = true →
    t0.get CE.EVAC_BUSY = 0 →
    t0.gate .ce 0 = 0 →
    t0.video.streams.filter (fun e => clusterOf (e.1 / 4) = bitsOf v.toNat 0 2) = [] →
    Completes (exec (.ceEvacGo m v) s) fun t =>
      t.get CE.EVAC_CODE = 0 ∧ t.get CE.HID_EVACUATED (9 * bitsOf v.toNat 0 2) = 1 ∧ t.get CE.EVAC_BUSY = 0 ∧ t.get CE.EVAC_DONE = 1 ∧
      t.event .ce 0 CE.EV_EVAC_DONE) ∧
  (∀ (m : Fin 7) (v : Word) (s : State),
    s.takesWrite m .ce 0 0x218 v.toNat →
    bitOf v.toNat 5 = true →
    Completes (exec (.ceEvacRelease m v) s) fun t => t.get CE.HID_EVACUATED (9 * bitsOf v.toNat 0 2) = 0) ∧
  (∀ (ce : Fin 36) (cause : Nat) (s : State),
    s.unit (ceUnit ce) = uRUN →
    s.video.streams = [] →
    s.get REPAIR.CFG_AUTO = 0 →
    Completes (exec (.engineHardFault ce cause) s) fun t => t.get (HDR.STATE .ce) ce = uISOLATED) ∧
  (∀ (ce : Fin 36) (st : Fin 4) (x : Stream) (s : State),
    NTable.find s.video.streams (4 * ce.val + st.val) = some x →
    Completes (exec (.vectorFault ce st) s) fun t =>
      t.get CE.CNT_VEC_FAULTS ce = satAdd 32 (s.get CE.CNT_VEC_FAULTS ce) 1 ∧ t.event .ce ce CE.EV_VEC_FAULT) ∧
  (∀ (ce : Fin 36) (st : Fin 4) (x : Stream) (s : State),
    NTable.find s.video.streams (4 * ce.val + st.val) = some x →
    exec (.qualityStepRequest ce st) s = .next (s.stepUp (4 * ce.val + st.val)).settle) ∧
  (∀ (ce : Fin 36) (s : State),
    s.unit (ceUnit ce) = uISOLATED →
    Completes (exec (.ceSpareSelftest ce true) s) fun t =>
      t.get CE.CNT_SELFTESTS ce = satAdd 32 (s.get CE.CNT_SELFTESTS ce) 1) ∧
  (∀ (ce : Fin 36) (s : State),
    s.unit (ceUnit ce) = uISOLATED →
    Completes (exec (.ceSpareSelftest ce false) s) fun t => t.event .ce ce CE.EV_SELFTEST_FAIL)

/-- How a synthesiser searches, locks, holds, fails and is swapped. A write of SYN_N of a timing synthesiser that is not OFF starts its band
search and counts it; the band found is shown in ACQUIRE; lock follows in LOCKED; a loss of lock leaves HOLD, counts the loss and the
hold and raises LOCK_LOST and HOLD_SWAP; reacquired it is LOCKED, timed out it is FAILED with FAILED raised. SYNC_ARM with no output
selected arms; with a selected output enabled it is blocked with CFG_BLOCKED; a SYNC_IN edge while armed raises SYNC_DONE. ISP_CTL.SWAP
to a locked half selects it, counts the hold and raises HOLD_SWAP; ISP_CTL.TEST puts the other half in TEST; the LOCK_ANA hold ends.
(R344; R347; R348; R351; R352; R355; R356; R359; R360.) -/
def Obligations.Synthesisers : Prop :=
  (∀ (m : Fin 7) (k : Fin 20) (v : Word) (s : State) (t0 : State),
    s.takesWrite m .synth k 0x040 v.toNat →
    t0 = s.writePlain m .synth k 0x040 v.toNat →
    k.val < 12 →
    t0.synState k 0 ≠ syOFF →
    Completes (exec (.synNWrite m k false v) s) fun t =>
      t.get SYNTH.SYN_STAT_STATE k = syBAND ∧ t.get SYNTH.CNT_BAND_SEARCHES k = satAdd 32 (t0.get SYNTH.CNT_BAND_SEARCHES k) 1) ∧
  (∀ (k : Fin 20) (band : BitVec 6) (s : State),
    s.get SYNTH.SYN_STAT_STATE k = syBAND →
    Completes (exec (.bandFound k false band) s) fun t => t.get SYNTH.SYN_STAT_STATE k = syACQUIRE ∧ t.get SYNTH.SYN_STAT_BAND k = band.toNat) ∧
  (∀ (k : Fin 20) (s : State),
    k.val < 12 →
    s.get SYNTH.SYN_STAT_STATE k = syACQUIRE →
    Completes (exec (.synLocked k false) s) fun t => t.get SYNTH.SYN_STAT_STATE k = syLOCKED ∧ t.get SYNTH.HID_WASLOCKED k = 1) ∧
  (∀ (k : Fin 20) (s : State),
    k.val < 12 →
    s.get SYNTH.SYN_STAT_STATE k = syLOCKED →
    Completes (exec (.lossOfLock k false) s) fun t =>
      t.get SYNTH.SYN_STAT_STATE k = syHOLD ∧ t.get SYNTH.CNT_LOCK_LOSSES k = satAdd 32 (s.get SYNTH.CNT_LOCK_LOSSES k) 1 ∧
      t.get SYNTH.CNT_HOLDS k = satAdd 32 (s.get SYNTH.CNT_HOLDS k) 1 ∧ t.event .synth k SYNTH.EV_LOCK_LOST ∧ t.event .synth k SYNTH.EV_HOLD_SWAP) ∧
  (∀ (k : Fin 12) (s : State),
    s.get SYNTH.SYN_STAT_STATE k = syHOLD →
    Completes (exec (.holdReacquire k true) s) fun t => t.get SYNTH.SYN_STAT_STATE k = syLOCKED) ∧
  (∀ (k : Fin 12) (s : State),
    s.get SYNTH.SYN_STAT_STATE k = syHOLD →
    Completes (exec (.holdTimeout k) s) fun t => t.get SYNTH.SYN_STAT_STATE k = syFAILED ∧ t.event .synth k SYNTH.EV_FAILED) ∧
  (∀ (m : Fin 7) (v : Word) (s : State) (t0 : State),
    s.takesWrite m .synthctl 0 0x040 v.toNat →
    t0 = s.writePlain m .synthctl 0 0x040 v.toNat →
    bitOf v.toNat 0 = true →
    t0.syncOutputs = [] →
    Completes (exec (.syncArm m v) s) fun t => t.get SYNTHCTL.SYNC_ARM_ARMED = 1) ∧
  (∀ (m : Fin 7) (v : Word) (s : State) (t0 : State),
    s.takesWrite m .synthctl 0 0x040 v.toNat →
    t0 = s.writePlain m .synthctl 0 0x040 v.toNat →
    bitOf v.toNat 0 = true →
    t0.syncOutputs.filter (fun e => t0.get SYNTH.OUT_CFG_EN e.1 e.2 = 1) ≠ [] →
    Completes (exec (.syncArm m v) s) fun t => t.event .synthctl 0 SYNTHCTL.EV_CFG_BLOCKED ∧ t.get SYNTHCTL.SYNC_ARM_ARMED = t0.get SYNTHCTL.SYNC_ARM_ARMED) ∧
  (∀ (s : State),
    s.get SYNTHCTL.SYNC_ARM_ARMED = 1 →
    s.domUp 22 = true →
    Completes (exec .syncInEdge s) fun t => t.event .synthctl 0 SYNTHCTL.EV_SYNC_DONE) ∧
  (∀ (m : Fin 7) (k : Fin 8) (v : Word) (s : State) (t0 : State),
    s.takesWrite m .synth (12 + k) 0x080 v.toNat →
    t0 = s.writePlain m .synth (12 + k) 0x080 v.toNat →
    bitOf v.toNat 0 = true →
    t0.synState (12 + k) (1 - t0.get SYNTH.SYN_STAT_SEL (12 + k)) = syLOCKED →
    Completes (exec (.ispSwap m k v) s) fun t =>
      t.get SYNTH.SYN_STAT_SEL (12 + k) = 1 - t0.get SYNTH.SYN_STAT_SEL (12 + k) ∧
      t.get SYNTH.CNT_HOLDS (12 + k) = satAdd 32 (t0.get SYNTH.CNT_HOLDS (12 + k)) 1 ∧ t.event .synth (12 + k) SYNTH.EV_HOLD_SWAP) ∧
  (∀ (m : Fin 7) (k : Fin 8) (v : Word) (s : State) (t0 : State),
    s.takesWrite m .synth (12 + k) 0x080 v.toNat →
    t0 = s.writePlain m .synth (12 + k) 0x080 v.toNat →
    bitOf v.toNat 1 = true →
    t0.get (HDR.STATE .synth) (12 + k) (1 - t0.get SYNTH.SYN_STAT_SEL (12 + k)) = uRUN →
    Completes (exec (.ispTest m k v) s) fun t => t.get (HDR.STATE .synth) (12 + k) (1 - t0.get SYNTH.SYN_STAT_SEL (12 + k)) = uTEST) ∧
  (∀ (s : State),
    exec .lockAnaHoldEnd s = .next (s.set SYNTHCTL.HID_ANAHOLD 0).settle)

/-- How a reference candidate qualifies, is selected, disputed and lost. With no switch pending, an ABSENT candidate that appears is
QUALIFYING with QUAL_CHG; a QUALIFYING one that goes is ABSENT; a QUALIFIED one that fails a test is QUALIFYING again; the end of
qualification makes it QUALIFIED with its measured frequency. HOLDOFF expires. The end of PREPARE makes the pending candidate ACTIVE, in
ACQUIRE, with SWITCH. A loop step divides the bandwidth by 10, and reaches LOCKED at BW_TRACK. A dispute of two selectable candidates of
the best rank more than 1 ppm apart, with a reference that decides, rejects the other and raises DISPUTE; below 0.5 ppm the dispute
ends. A write of RC_CFG sets the rank. While a candidate with time is ACTIVE the real-time counter takes system time; a positive leap
second raises the UTC offset by one, clears LEAP61 and raises LEAP; a read of SYSTIME_S_LO latches the seconds and nanoseconds. (R322;
R328; R329; R330; R331; R332; R334; R336; R338; R339; R342.) -/
def Obligations.ReferenceManager : Prop :=
  (∀ (k : Fin 16) (f : RcMeas) (s : State),
    s.rc k = rcABSENT →
    s.get REFMGR.RM_STAT_PENDING_VALID = 0 →
    Completes (exec (.candidatePresent k f) s) fun t =>
      t.get REFMGR.RC_STAT_STATE 0 k = rcQUALIFYING ∧ t.event .refmgr 0 REFMGR.EV_QUAL_CHG) ∧
  (∀ (k : Fin 16) (gm : Bool) (s : State),
    s.rc k = rcQUALIFYING →
    s.rcKind k ≠ 9 →
    Completes (exec (.candidateAbsent k gm) s) fun t => t.get REFMGR.RC_STAT_STATE 0 k = rcABSENT) ∧
  (∀ (k : Fin 16) (s : State),
    s.rc k = rcQUALIFIED →
    Completes (exec (.qualTestFail k) s) fun t => t.get REFMGR.RC_STAT_STATE 0 k = rcQUALIFYING ∧ t.get REFMGR.RC_STAT_RETURN 0 k = 0) ∧
  (∀ (k : Fin 16) (f : RcMeas) (s : State),
    s.rc k = rcQUALIFYING →
    Completes (exec (.qualifyEnd k f) s) fun t =>
      t.get REFMGR.RC_STAT_STATE 0 k = rcQUALIFIED ∧ t.get REFMGR.RC_FREQ_OFFSET 0 k = ofSigned 24 f.freq % 2 ^ 24 ∧ t.get REFMGR.RC_FREQ_VALID 0 k = 1) ∧
  (∀ (s : State),
    s.get REFMGR.HID_HOLDOFF = 1 →
    Completes (exec .holdoffExpire s) fun t => t.get REFMGR.HID_HOLDOFF = 0) ∧
  (∀ (diff : Int) (ptpCap : Nat) (k : Nat) (s : State),
    s.pendingRc = some k →
    k < 16 →
    Completes (exec (.prepareEnd diff ptpCap) s) fun t =>
      t.get REFMGR.RM_STAT_ACTIVE = k ∧ t.get REFMGR.RM_STAT_ACTIVE_VALID = 1 ∧ t.get REFMGR.RM_STAT_PENDING_VALID = 0 ∧
      t.get REFMGR.RM_STAT_STATE = rmACQUIRE ∧ t.get REFMGR.RC_STAT_STATE 0 k = rcACTIVE ∧ t.event .refmgr 0 REFMGR.EV_SWITCH) ∧
  (∀ (s : State),
    s.get REFMGR.RM_STAT_STATE = rmACQUIRE →
    s.bwTrack < s.get REFMGR.BW_NOW_BW / 10 →
    Completes (exec .loopStep s) fun t => t.get REFMGR.BW_NOW_BW = s.get REFMGR.BW_NOW_BW / 10 % 2 ^ 20 ∧ t.get REFMGR.RM_STAT_STATE = rmACQUIRE) ∧
  (∀ (s : State),
    s.get REFMGR.RM_STAT_STATE = rmACQUIRE →
    s.get REFMGR.BW_NOW_BW / 10 ≤ s.bwTrack →
    Completes (exec .loopStep s) fun t => t.get REFMGR.BW_NOW_BW = s.bwTrack % 2 ^ 20 ∧ t.get REFMGR.RM_STAT_STATE = rmLOCKED) ∧
  (∀ (a : Fin 16) (b : Fin 16) (fa : Int) (fb : Int) (w : Nat) (s : State),
    a ≠ b →
    s.selectable a = true →
    s.selectable b = true →
    s.bestRc.isSome = true →
    s.rcRank a = s.rcRank (s.bestRc.getD 0) →
    s.rcRank b = s.rcRank (s.bestRc.getD 0) →
    100 < freqGap (signedOf 24 (ofSigned 24 fa % 2 ^ 24)) (signedOf 24 (ofSigned 24 fb % 2 ^ 24)) →
    ((s.set REFMGR.RC_FREQ_OFFSET (ofSigned 24 fa) 0 a).set REFMGR.RC_FREQ_OFFSET (ofSigned 24 fb) 0 b).arbiter a b = some w →
    Completes (exec (.dispute a b fa fb) s) fun t => t.get REFMGR.RC_STAT_STATE 0 (if w = a.val then b.val else a.val) = rcREJECTED ∧ t.event .refmgr 0 REFMGR.EV_DISPUTE) ∧
  (∀ (a : Fin 16) (b : Fin 16) (fa : Int) (fb : Int) (s : State),
    a ≠ b →
    freqGap (signedOf 24 (ofSigned 24 fa % 2 ^ 24)) (signedOf 24 (ofSigned 24 fb % 2 ^ 24)) < 50 →
    Completes (exec (.disputeEnd a b fa fb) s) fun t => t.get REFMGR.HID_DISPUTE = 0) ∧
  (∀ (m : Fin 7) (k : Fin 16) (v : Word) (s : State),
    s.takesWrite m .refmgr 0 (0x100 + 0x20 * k.val) v.toNat →
    Completes (exec (.rmCfgWrite m (some k) v) s) fun t => t.get REFMGR.RC_CFG_RANK 0 k = bitsOf v.toNat 4 4) ∧
  (∀ (k : Nat) (s : State),
    s.activeRc = some k →
    kindTime (s.rcKind k) = true →
    Completes (exec .rtcCopy s) fun t => t.clk.rtcSeconds = s.sysSeconds ∧ t.clk.rtcSub = s.clk.sysFs % fsPerSecond * 32768 / fsPerSecond) ∧
  (∀ (k : Nat) (s : State),
    s.activeRc = some k →
    s.rcKind k = 6 →
    s.get REFMGR.UTC_STAT_LEAP61 0 (s.get REFMGR.RC_CFG_SOURCE 0 k) = 1 →
    s.get REFMGR.UTC_STAT_LEAP59 0 (s.get REFMGR.RC_CFG_SOURCE 0 k) = 0 →
    Completes (exec .leapSecond s) fun t =>
      t.get REFMGR.UTC_STAT_OFFSET 0 (s.get REFMGR.RC_CFG_SOURCE 0 k) = (s.get REFMGR.UTC_STAT_OFFSET 0 (s.get REFMGR.RC_CFG_SOURCE 0 k) + 1) % 2 ^ 16 ∧
      t.get REFMGR.UTC_STAT_LEAP61 0 (s.get REFMGR.RC_CFG_SOURCE 0 k) = 0 ∧ t.event .refmgr 0 REFMGR.EV_LEAP) ∧
  (∀ (m : Fin 7) (s : State),
    s.takesRead m .refmgr 0 0x050 →
    Completes (exec (.systimeRead m) s) fun t =>
      t.get REFMGR.SYSTIME_S_LO_SECONDS = bitsOf s.sysSeconds 0 32 ∧ t.get REFMGR.SYSTIME_S_HI_SECONDS = bitsOf s.sysSeconds 32 16 ∧
      t.get REFMGR.SYSTIME_NS_NS = s.sysNs % 2 ^ 30)

/-- A flow context is allocated, modified, activated, deactivated and freed. A CTX_REQ with GO, on an idle FLOW[0] with the units in RUN, is
decided with the checks of the request: ALLOC accepted leaves the context IDLE, MODIFY accepted leaves a running context in RUN with the
image waiting, ACTIVATE takes it to WAIT (receive) or RUN, DEACTIVATE to IDLE (receive) or DRAIN, FREE to no type; each answers code 0
with DONE. A DRAIN that ends leaves IDLE. A write of a next hop that is not valid sets its address and VALID. A remapped row of a bank
is added to the list. (R122; R123; R130; R139; R144; R147; R150; R152.) -/
def Obligations.FlowContextRequests : Prop :=
  (∀ (m : Fin 7) (v : Word) (s : State) (t0 : State),
    s.takesWrite m .flow 0 0x080 v.toNat →
    t0 = s.writePlain m .flow 0 0x080 v.toNat →
    bitOf v.toNat 31 = true →
    bitsOf v.toNat 20 3 = 1 →
    t0.get FLOW.CTX_RESP_BUSY = 0 →
    t0.gate .flow 0 = 0 →
    t0.fcType (bitsOf v.toNat 0 18) = 0 →
    t0.ctxCheck (bitsOf v.toNat 0 18) t0.ctxImg = 0 →
    Completes (exec (.ctxReqAlloc m v) s) fun t =>
      t.get FLOW.CTX_RESP_CODE = 0 ∧ t.get FLOW.CTX_RESP_DONE = 1 ∧ t.get FC.W0_STATE (bitsOf v.toNat 0 18) = fcIDLE) ∧
  (∀ (m : Fin 7) (v : Word) (s : State) (t0 : State),
    s.takesWrite m .flow 0 0x080 v.toNat →
    t0 = s.writePlain m .flow 0 0x080 v.toNat →
    bitOf v.toNat 31 = true →
    bitsOf v.toNat 20 3 = 2 →
    t0.get FLOW.CTX_RESP_BUSY = 0 →
    t0.gate .flow 0 = 0 →
    t0.fcType (bitsOf v.toNat 0 18) ≠ 0 →
    t0.fcState (bitsOf v.toNat 0 18) = fcRUN →
    t0.ctxCheck (bitsOf v.toNat 0 18) t0.ctxImg = 0 →
    Completes (exec (.ctxReqModify m v) s) fun t =>
      t.get FLOW.CTX_RESP_CODE = 0 ∧ t.get FLOW.CTX_RESP_DONE = 1 ∧ t.get FC.W0_STATE (bitsOf v.toNat 0 18) = fcRUN ∧
      NTable.find t.flow.images (bitsOf v.toNat 0 18) = some t0.ctxImg) ∧
  (∀ (m : Fin 7) (v : Word) (s : State) (t0 : State),
    s.takesWrite m .flow 0 0x080 v.toNat →
    t0 = s.writePlain m .flow 0 0x080 v.toNat →
    bitOf v.toNat 31 = true →
    bitsOf v.toNat 20 3 = 3 →
    t0.get FLOW.CTX_RESP_BUSY = 0 →
    t0.gate .flow 0 = 0 →
    t0.unitCode ⟨.flow, 0, 0⟩ = 0 →
    t0.unitCode ⟨.flow, 0, 1 + bitsOf v.toNat 0 18 / 16384⟩ = 0 →
    t0.fcType (bitsOf v.toNat 0 18) ≠ 0 →
    t0.nhBad (t0.imageOf (bitsOf v.toNat 0 18)) = false →
    t0.fcState (bitsOf v.toNat 0 18) = fcIDLE →
    Completes (exec (.ctxReqActivate m v) s) fun t =>
      t.get FLOW.CTX_RESP_CODE = 0 ∧ t.get FLOW.CTX_RESP_DONE = 1 ∧
      t.get FC.W0_STATE (bitsOf v.toNat 0 18) = (if kindReceives (t0.fcType (bitsOf v.toNat 0 18)) then fcWAIT else fcRUN)) ∧
  (∀ (m : Fin 7) (v : Word) (s : State) (t0 : State),
    s.takesWrite m .flow 0 0x080 v.toNat →
    t0 = s.writePlain m .flow 0 0x080 v.toNat →
    bitOf v.toNat 31 = true →
    bitsOf v.toNat 20 3 = 4 →
    t0.get FLOW.CTX_RESP_BUSY = 0 →
    t0.gate .flow 0 = 0 →
    t0.feeds (bitsOf v.toNat 0 18) = false →
    t0.fcType (bitsOf v.toNat 0 18) ≠ 0 →
    fcWAIT ≤ t0.fcState (bitsOf v.toNat 0 18) →
    t0.fcState (bitsOf v.toNat 0 18) ≠ fcDRAIN →
    Completes (exec (.ctxReqDeactivate m v) s) fun t =>
      t.get FLOW.CTX_RESP_CODE = 0 ∧ t.get FLOW.CTX_RESP_DONE = 1 ∧
      t.get FC.W0_STATE (bitsOf v.toNat 0 18) = (if kindReceives (t0.fcType (bitsOf v.toNat 0 18)) then fcIDLE else fcDRAIN)) ∧
  (∀ (m : Fin 7) (v : Word) (s : State) (t0 : State),
    s.takesWrite m .flow 0 0x080 v.toNat →
    t0 = s.writePlain m .flow 0 0x080 v.toNat →
    bitOf v.toNat 31 = true →
    bitsOf v.toNat 20 3 = 5 →
    t0.get FLOW.CTX_RESP_BUSY = 0 →
    t0.gate .flow 0 = 0 →
    t0.feeds (bitsOf v.toNat 0 18) = false →
    t0.fcType (bitsOf v.toNat 0 18) ≠ 0 →
    Completes (exec (.ctxReqFree m v) s) fun t =>
      t.get FLOW.CTX_RESP_CODE = 0 ∧ t.get FLOW.CTX_RESP_DONE = 1 ∧ t.get FC.W0_TYPE (bitsOf v.toNat 0 18) = 0 ∧ t.get FC.W0_STATE (bitsOf v.toNat 0 18) = 0) ∧
  (∀ (fc : Fin 262144) (s : State),
    kindSends (s.fcType fc) = true →
    s.fcState fc = fcDRAIN →
    Completes (exec (.sendDeactivateEnd fc) s) fun t => t.get FC.W0_STATE fc = fcIDLE) ∧
  (∀ (m : Fin 7) (k : Fin 4096) (data : Nat) (s : State),
    s.busUp = true →
    s.busKind m (Page.nh.base + 8 * k.val) true 8 data = 0 →
    s.get NH.E_VALID k = 0 →
    Completes (exec (.nextHopWrite m k true false data) s) fun t =>
      t.get NH.E_MAC_LO k = bitsOf data 0 32 ∧ t.get NH.E_MAC_HI k = bitsOf data 32 16 ∧ t.get NH.E_VALID k = bitsOf data 63 1) ∧
  (∀ (bank : Fin 16) (row : Nat) (s : State),
    (bank.val, row) ∉ s.flow.rows →
    Completes (exec (.flowRowRemap bank row) s) fun t => t.flow.rows = s.flow.rows ++ [(bank.val, row)])

/-- Packets of a flow are received, sequenced, lost, merged and sent. A datagram that one video context in WAIT matches counts in PKTS,
keeps its sequence number and takes the context to DETECT; one whose context word was uncorrectable counts in ECC_UNCORR, clears what
was seen and raises CTX_ECC. A lost flow and a lost leg show LOST with their events. A merge buffer releases its first packet and
expects the next number. A packet sent counts in PKTS, raises the sequence number and carries the RTP time of system time. A flow take
with BATCH is held, up to 512; alone, accepted, it answers 0 and pends; FWD_GO accepted answers 0 and empties the buffer; at its
switching point the FWD_OUT links the new FWD_IN, and a hold that is cut off ends the take and raises HOLD_TRUNC. (R128; R130; R133;
R135; R136; R137; R138; R145; R146.) -/
def Obligations.FlowTraffic : Prop :=
  (∀ (d : Datagram) (fc : Fin 262144) (s : State),
    s.unit ⟨.flow, 0, 0⟩ = uRUN →
    s.contexts.filter (fun c => s.matches d c) = [fc.val] →
    s.fcType fc = fcRXV →
    s.fcState fc = fcWAIT →
    s.unit ⟨.flow, 0, 1 + fc.val / 16384⟩ = uRUN →
    s.partner fc = none →
    NTable.find s.flow.images fc = none →
    d.uncorrectable = false →
    d.start = true →
    d.frame = none →
    Completes (exec (.flowDatagram d) s) fun t =>
      t.get FC.W10_PKTS fc = (s.get FC.W10_PKTS fc + 1) % 2 ^ 32 ∧ t.get FC.HID_SEQ fc = d.seq % 2 ^ 32 ∧ t.get FC.W0_STATE fc = fcDETECT) ∧
  (∀ (d : Datagram) (fc : Fin 262144) (s : State),
    s.unit ⟨.flow, 0, 0⟩ = uRUN →
    s.contexts.filter (fun c => s.matches d c) = [fc.val] →
    fcWAIT ≤ s.fcState fc →
    s.fcState fc ≠ fcDRAIN →
    s.unit ⟨.flow, 0, 1 + fc.val / 16384⟩ = uRUN →
    d.corrected = false →
    d.uncorrectable = true →
    Completes (exec (.flowDatagram d) s) fun t =>
      t.get FLOW.CNT_ECC_UNCORR = satAdd 32 (s.get FLOW.CNT_ECC_UNCORR) 1 ∧ t.get FC.HID_SEEN fc = 0 ∧ t.get FLOW.EVT_FC_FC = fc ∧ t.event .flow 0 FLOW.EV_CTX_ECC) ∧
  (∀ (fc : Fin 262144) (s : State),
    s.fcType fc = fcRXV →
    s.fcState fc = fcRUN →
    Completes (exec (.flowLost fc) s) fun t => t.get FC.W0_STATE fc = fcLOST ∧ t.get FLOW.EVT_FC_FC = fc ∧ t.event .flow 0 FLOW.EV_FLOW_LOST) ∧
  (∀ (fc : Fin 262144) (o : Nat) (s : State),
    s.partner fc = some o →
    fcWAIT ≤ s.fcState fc →
    s.fcState fc ≤ fcRUN →
    o ≠ fc →
    s.fcState o ≠ fcLOST →
    Completes (exec (.legLost fc) s) fun t => t.get FC.W0_STATE fc = fcLOST ∧ t.event .flow 0 FLOW.EV_LEG_LOST) ∧
  (∀ (fc : Fin 262144) (o : Nat) (d : Datagram) (l : List Datagram) (s : State),
    s.partner fc = some o →
    NTable.getD s.flow.merge (s.lead fc) [] = d :: l →
    Completes (exec (.mergeRelease fc) s) fun t =>
      t.get FC.HID_MSEQ (s.lead fc) = (d.seq + 1) % 2 ^ 33 ∧ NTable.getD t.flow.merge (s.lead fc) [] = l) ∧
  (∀ (fc : Fin 262144) (bytes : Nat) (s : State),
    s.fcType fc = fcTXA30 →
    s.fcState fc = fcRUN →
    s.unit ⟨.flow, 0, 0⟩ = uRUN →
    s.unit ⟨.flow, 0, 1 + fc.val / 16384⟩ = uRUN →
    NTable.find s.flow.images fc = none →
    Completes (exec (.txPacketSend fc false bytes) s) fun t =>
      t.get FC.W10_PKTS fc = (s.get FC.W10_PKTS fc + 1) % 2 ^ 32 ∧ t.get FC.HID_TXSEQ fc = (s.get FC.HID_TXSEQ fc + 1) % 2 ^ 32 ∧
      t.get FC.HID_TS fc = rtpOf (rtpClock (s.imageOf fc)) s.clk.sysFs % 2 ^ 32) ∧
  (∀ (m : Fin 7) (v : Word) (s : State) (t0 : State),
    s.takesWrite m .flow 0 0x08C v.toNat →
    t0 = s.writePlain m .flow 0 0x08C v.toNat →
    bitOf v.toNat 31 = true →
    bitOf v.toNat 30 = true →
    t0.flow.held.length < 512 →
    Completes (exec (.fwdTakeBatch m v) s) fun t => t.flow.held = t0.flow.held ++ [(t0.get FLOW.FWD_TAKE_OUT_FC, bitsOf v.toNat 0 18)]) ∧
  (∀ (m : Fin 7) (v : Word) (s : State) (t0 : State),
    s.takesWrite m .flow 0 0x08C v.toNat →
    t0 = s.writePlain m .flow 0 0x08C v.toNat →
    bitOf v.toNat 31 = true →
    bitOf v.toNat 30 = false →
    t0.gate .flow 0 = 0 →
    t0.flowTakeCode (t0.get FLOW.FWD_TAKE_OUT_FC) (bitsOf v.toNat 0 18) = 0 →
    Completes (exec (.fwdTake m v) s) fun t =>
      t.get FLOW.FWD_RESP_CODE = 0 ∧ t.get FLOW.FWD_RESP_DONE = 1 ∧ t.get FLOW.FWD_RESP_PENDING = 1 ∧
      ((NTable.find t.flow.takes (t0.get FLOW.FWD_TAKE_OUT_FC)).map FlowTake.src) = some (bitsOf v.toNat 0 18)) ∧
  (∀ (m : Fin 7) (v : Word) (s : State) (t0 : State),
    s.takesWrite m .flow 0 0x090 v.toNat →
    t0 = s.writePlain m .flow 0 0x090 v.toNat →
    bitOf v.toNat 0 = true →
    t0.gate .flow 0 = 0 →
    (t0.heldCode 0 t0.flow.held).1 = 0 →
    Completes (exec (.fwdGo m v) s) fun t => t.get FLOW.FWD_RESP_CODE = 0 ∧ t.get FLOW.FWD_RESP_DONE = 1 ∧ t.flow.held = []) ∧
  (∀ (fc : Fin 262144) (x : FlowTake) (s : State),
    NTable.find s.flow.takes fc = some x →
    s.fcType fc = fcFWDOUT →
    x.src < 262144 →
    x.packets = [] →
    Completes (exec (.flowTakeSwitch fc) s) fun t => NTable.find t.flow.takes fc = none ∧ t.get FC.W7_LINK fc = x.src) ∧
  (∀ (fc : Fin 262144) (x : FlowTake) (s : State),
    NTable.find s.flow.takes fc = some x →
    s.fcType fc = fcFWDOUT →
    x.packets ≠ [] →
    Completes (exec (.holdTrunc fc) s) fun t => NTable.find t.flow.takes fc = none ∧ t.get FLOW.EVT_FC_FC = fc ∧ t.event .flow 0 FLOW.EV_HOLD_TRUNC)

/-- Ethernet ports count frames, follow their links, send reports and serve host queues. A due membership report of a port is sent with its
group and counted in TX_SENT; a repeat is sent and its count falls; a query is answered with the port's memberships. On an enabled port
outside 100GBASE-R a frame with a bad FCS counts in FCS_ERR, a good frame that no filter takes counts in RX_GOOD and RX_NOMATCH. A link
that comes up shows LINK_UP and FEC_LOCK and raises LINK_CHG. A write of a host queue's tail with the queue enabled and the link up
sends the descriptor it names: HEAD moves on by one in the ring, the writeback names it, and INT raises HQ_DONE. (R82; R83; R127; R142;
R149.) -/
def Obligations.EthernetPorts : Prop :=
  (∀ (p : Fin 96) (r : Report) (s : State),
    s.flow.reports.find? (fun x => x.group.port = p.val && x.due) = some r →
    Completes (exec (.membershipReport p) s) fun t =>
      (NTable.find t.flow.lastReport p).map SentReport.groups = some [r.group] ∧ (NTable.find t.flow.lastReport p).map SentReport.leave = some r.leave ∧
      t.get ETH.COUNT_TX_SENT (p.val / 4) (p.val % 4) = (s.get ETH.COUNT_TX_SENT (p.val / 4) (p.val % 4) + 1) % 2 ^ 64) ∧
  (∀ (p : Fin 96) (r : Report) (s : State),
    s.flow.reports.find? (fun x => x.group.port = p.val && !x.due) = some r →
    1 < r.repeats →
    Completes (exec (.reportRepeat p) s) fun t =>
      (NTable.find t.flow.lastReport p).map SentReport.groups = some [r.group] ∧
      t.flow.reports = s.flow.reports.filter (fun x => x ≠ r) ++ [{ r with repeats := r.repeats - 1 }]) ∧
  (∀ (p : Fin 96) (s : State),
    s.flow.queries.contains p.val = true →
    Completes (exec (.queryResponse p) s) fun t =>
      t.flow.queries.contains p.val = false ∧ (s.memberships p ≠ [] → (NTable.find t.flow.lastReport p).map SentReport.groups = some (s.memberships p))) ∧
  (∀ (q : Fin 24) (n : Fin 4) (f : EthFrame) (s : State),
    s.portEnabled q n = true →
    s.get QUAD.QUAD_CFG_Q100 q = 0 →
    f.fecUncorrectable = false →
    f.fcsOk = false →
    Completes (exec (.ethFrameReceived q n f) s) fun t => t.get ETH.COUNT_FCS_ERR q n = (s.get ETH.COUNT_FCS_ERR q n + 1) % 2 ^ 64) ∧
  (∀ (q : Fin 24) (n : Fin 4) (e : Nat) (f : EthFrame) (s : State),
    s.portEnabled q n = true →
    s.get QUAD.QUAD_CFG_Q100 q = 0 →
    f.fecUncorrectable = false →
    f.fcsOk = true →
    f.bytes ≤ s.get ETH.PORT_CFG_MAX_FRAME q n →
    f.kind = .other e →
    (List.range 64).find? (fun k => s.filterHits (4 * q.val + n.val) f k) = none →
    Completes (exec (.ethFrameReceived q n f) s) fun t =>
      t.get ETH.COUNT_RX_GOOD q n = (s.get ETH.COUNT_RX_GOOD q n + 1) % 2 ^ 64 ∧ t.get FLOW.CNT_RX_NOMATCH = satAdd 32 (s.get FLOW.CNT_RX_NOMATCH) 1) ∧
  (∀ (q : Fin 24) (n : Fin 4) (fec : Bool) (s : State),
    s.portEnabled q n = true →
    s.get QUAD.QUAD_CFG_Q100 q = 0 →
    s.get ETH.PORT_STAT_LINK_UP q n = 0 →
    Completes (exec (.ethLinkChange q n true false false fec false) s) fun t =>
      t.get ETH.PORT_STAT_LINK_UP q n = 1 ∧ t.get ETH.PORT_STAT_FEC_LOCK q n = flag fec ∧ t.event .eth q (ETH.EV_LINK_CHG + n)) ∧
  (∀ (m : Fin 7) (q : Fin 16) (v : Word) (d : HostDesc) (s : State) (t0 : State),
    s.takesWrite m .flow 3 (0x240 + 0x20 * q.val + 0x10) v.toNat →
    t0 = s.writePlain m .flow 3 (0x240 + 0x20 * q.val + 0x10) v.toNat →
    t0.get FLOW.FE_CTL_HOST_EN = 1 →
    t0.get FLOW.HQ_TX_EN 3 q = 1 →
    t0.get BUSMATRIX.PCIE_STAT_LINK_UP = 1 →
    t0.get FLOW.HQ_TX_HEAD 3 q ≠ t0.get FLOW.HQ_TX_TAIL 3 q →
    d.own = true →
    Completes (exec (.hqTailWrite m q true v [d]) s) fun t =>
      t.get FLOW.HQ_TX_HEAD 3 q = (t0.get FLOW.HQ_TX_HEAD 3 q + 1) % ringSize (t0.get FLOW.HQ_TX_SIZE 3 q) ∧
      (NTable.find t.flow.hostDone (q + 16)).map HostDone.index = some (t0.get FLOW.HQ_TX_HEAD 3 q) ∧ (d.int = true → t.event .flow 0 FLOW.EV_HQ_DONE))

/-- Crosspoint requests of Cicada are decided, held, committed and aborted. A crosspoint request with GO and without BATCH answers code 0,
index 0 and DONE where its one decision is 0; where its destination has no earlier request it waits for its instant; with BATCH it is
held, up to 4,096. XP_GO commits the held requests with code 0 and empties the list where all may; ABORT empties it and leaves what
already waits. (R275.) -/
def Obligations.AudioCrosspoints : Prop :=
  (∀ (m : Fin 7) (v : Word) (s : State) (t0 : State),
    s.takesWrite m .audio 0 0x060 v.toNat →
    t0 = s.writePlain m .audio 0 0x060 v.toNat →
    bitOf v.toNat 31 = true →
    bitOf v.toNat 24 = false →
    t0.get AUDIO.XP_RESP_BUSY = 0 →
    t0.gate .audio 0 = 0 →
    (t0.xpOne (t0.xpRead m v.toNat)).1 = 0 →
    Completes (exec (.xpReqGo m v) s) fun t => t.get AUDIO.XP_RESP_CODE = 0 ∧ t.get AUDIO.XP_RESP_INDEX = 0 ∧ t.get AUDIO.XP_RESP_DONE = 1) ∧
  (∀ (m : Fin 7) (v : Word) (s : State) (t0 : State),
    s.takesWrite m .audio 0 0x060 v.toNat →
    t0 = s.writePlain m .audio 0 0x060 v.toNat →
    bitOf v.toNat 31 = true →
    bitOf v.toNat 24 = false →
    t0.get AUDIO.XP_RESP_BUSY = 0 →
    t0.gate .audio 0 = 0 →
    t0.audioCode = 0 →
    t0.xpForm (t0.xpRead m v.toNat) = 0 →
    (t0.xpDecide (t0.xpRead m v.toNat) (t0.xpRead m v.toNat).targets).1 = 0 →
    (t0.xpDecide (t0.xpRead m v.toNat) (t0.xpRead m v.toNat).targets).2.audio = t0.audio →
    Completes (exec (.xpReqGo m v) s) fun t =>
      t.audio.pend = t0.audio.pend ++ [{ t0.xpRead m v.toNat with instant := t0.xpInstant (t0.xpRead m v.toNat) }]) ∧
  (∀ (m : Fin 7) (v : Word) (s : State) (t0 : State),
    s.takesWrite m .audio 0 0x060 v.toNat →
    t0 = s.writePlain m .audio 0 0x060 v.toNat →
    bitOf v.toNat 31 = true →
    bitOf v.toNat 24 = true →
    t0.get AUDIO.XP_RESP_BUSY = 0 →
    t0.audio.held.length < 4096 →
    Completes (exec (.xpReqBatch m v) s) fun t => t.audio.held = t0.audio.held ++ [t0.xpRead m v.toNat]) ∧
  (∀ (m : Fin 7) (v : Word) (s : State) (t0 : State),
    s.takesWrite m .audio 0 0x064 v.toNat →
    t0 = s.writePlain m .audio 0 0x064 v.toNat →
    bitOf v.toNat 0 = true →
    t0.gate .audio 0 = 0 →
    (t0.xpHeld 0 t0.audio.held).1 = 0 →
    Completes (exec (.xpGo m v) s) fun t => t.get AUDIO.XP_RESP_CODE = 0 ∧ t.get AUDIO.XP_RESP_DONE = 1 ∧ t.audio.held = []) ∧
  (∀ (m : Fin 7) (v : Word) (s : State),
    s.takesWrite m .audio 0 0x064 v.toNat →
    bitOf v.toNat 1 = true →
    Completes (exec (.xpAbort m v) s) fun t => t.audio.held = [] ∧ t.audio.pend = s.audio.pend)

/-- Cicada's channels, converters, mixers, meters and halves. A zero-crossing wait that times out raises ZC_TIMEOUT; NONPCM of a pair ends
with NONPCM_CHG; a long delay that waits for the pool acts with the delay asked for. SRU_REQ: ALLOC answers the first free converter
with the image's mode and channels, MODIFY enters it, FREE leaves it unused; each with code 0 and DONE. A converter locks with its ratio
and loses its lock, each with SRU_CHG. MIX_REQ sets the bus's first input and number, MIX_CTL.COMMIT makes the levels due. A loudness
meter shows its values and is reset to silence. Silence of a channel raises SIL_CHG. A half in service that fails is isolated (automatic
repair off), the other is selected, the swap counted, and HALF_SWAP raised. (R281; R284; R288; R290; R291; R292; R293; R294; R295;
R297.) -/
def Obligations.AudioProcessing : Prop :=
  (∀ (ch : Fin 32768) (w : Nat × Nat × Nat) (s : State),
    (s.chan ch).waiting = some w →
    Completes (exec (.zcTimeout ch) s) fun t => t.event .audio 0 AUDIO.EV_ZC_TIMEOUT) ∧
  (∀ (pair : Fin 16384) (s : State),
    s.get ASTAT.SRC_NONPCM (2 * pair.val) = 1 →
    Completes (exec (.nonpcmEnd pair) s) fun t =>
      t.get ASTAT.SRC_NONPCM (2 * pair.val) = 0 ∧ t.get ASTAT.SRC_NONPCM (2 * pair.val + 1) = 0 ∧ t.event .audio 0 AUDIO.EV_NONPCM_CHG) ∧
  (∀ (ch : Fin 32768) (n : Nat) (s : State),
    NTable.find s.audio.poolWait ch = some n →
    Completes (exec (.poolDelayAct ch) s) fun t =>
      t.get XPT.W2_DELAY ch = n % 2 ^ 17 ∧ t.get XPT.W2_LONG ch = 1 ∧ NTable.find t.audio.poolWait ch = none ∧
      (t.chan ch).oldDelay = some (s.get XPT.W2_DELAY ch, 0)) ∧
  (∀ (m : Fin 7) (v : Word) (k : Nat) (s : State) (t0 : State),
    s.takesWrite m .audio 1 0x044 v.toNat →
    t0 = s.writePlain m .audio 1 0x044 v.toNat →
    bitOf v.toNat 31 = true →
    bitsOf v.toNat 8 2 = 1 →
    t0.get AUDIO.SRU_RESP_BUSY 1 = 0 →
    t0.gate .audio 1 = 0 →
    t0.audioCode = 0 →
    (List.range 256).find? (fun x => !t0.sruUsed x) = some k →
    t0.sruImg.code = 0 →
    Completes (exec (.sruAlloc m v) s) fun t =>
      t.get AUDIO.SRU_RESP_CODE 1 = 0 ∧ t.get AUDIO.SRU_RESP_INDEX 1 = k % 2 ^ 8 ∧ t.get AUDIO.SRU_RESP_DONE 1 = 1 ∧
      t.get AUDIO.SRU_MODE (sruInst k) (sruIdx k) = t0.get AUDIO.SRU_IMG_MODE 1 % 2 ^ 2 ∧
      t.get AUDIO.SRU_NCH (sruInst k) (sruIdx k) = t0.get AUDIO.SRU_IMG_NCH 1 % 2 ^ 5) ∧
  (∀ (m : Fin 7) (v : Word) (s : State) (t0 : State),
    s.takesWrite m .audio 1 0x044 v.toNat →
    t0 = s.writePlain m .audio 1 0x044 v.toNat →
    bitOf v.toNat 31 = true →
    bitsOf v.toNat 8 2 = 2 →
    t0.get AUDIO.SRU_RESP_BUSY 1 = 0 →
    t0.gate .audio 1 = 0 →
    t0.audioCode = 0 →
    t0.sruUsed (bitsOf v.toNat 0 8) = true →
    t0.sruImg.code = 0 →
    t0.get AUDIO.SRU_IMG_VALID 1 = 1 →
    Completes (exec (.sruModify m v) s) fun t =>
      t.get AUDIO.SRU_RESP_CODE 1 = 0 ∧ t.get AUDIO.SRU_RESP_DONE 1 = 1 ∧
      t.get AUDIO.SRU_STATE (sruInst (bitsOf v.toNat 0 8)) (sruIdx (bitsOf v.toNat 0 8)) = 1) ∧
  (∀ (m : Fin 7) (v : Word) (s : State) (t0 : State),
    s.takesWrite m .audio 1 0x044 v.toNat →
    t0 = s.writePlain m .audio 1 0x044 v.toNat →
    bitOf v.toNat 31 = true →
    bitsOf v.toNat 8 2 = 3 →
    t0.get AUDIO.SRU_RESP_BUSY 1 = 0 →
    t0.gate .audio 1 = 0 →
    t0.audioCode = 0 →
    t0.sruUsed (bitsOf v.toNat 0 8) = true →
    t0.sruRead (bitsOf v.toNat 0 8) = false →
    Completes (exec (.sruFree m v) s) fun t =>
      t.get AUDIO.SRU_RESP_CODE 1 = 0 ∧ t.get AUDIO.SRU_RESP_DONE 1 = 1 ∧ t.sruUsed (bitsOf v.toNat 0 8) = false) ∧
  (∀ (k : Fin 256) (ratio : BitVec 32) (s : State),
    s.get AUDIO.SRU_STATE (sruInst k) (sruIdx k) = 1 →
    Completes (exec (.sruLock k ratio) s) fun t =>
      t.get AUDIO.SRU_STATE (sruInst k) (sruIdx k) = 2 ∧ t.get AUDIO.SRU_RATIO (sruInst k) (sruIdx k) = ratio.toNat ∧ t.event .audio 0 AUDIO.EV_SRU_CHG) ∧
  (∀ (k : Fin 256) (s : State),
    s.get AUDIO.SRU_STATE (sruInst k) (sruIdx k) = 2 →
    Completes (exec (.sruLost k) s) fun t => t.get AUDIO.SRU_STATE (sruInst k) (sruIdx k) = 3 ∧ t.event .audio 0 AUDIO.EV_SRU_CHG) ∧
  (∀ (m : Fin 7) (v : Word) (f : Nat) (s : State) (t0 : State),
    s.takesWrite m .audio 4 0x040 v.toNat →
    t0 = s.writePlain m .audio 4 0x040 v.toNat →
    bitOf v.toNat 31 = true →
    t0.get AUDIO.MIX_RESP_BUSY 4 = 0 →
    t0.gate .audio 4 = 0 →
    t0.audioCode = 0 →
    bitsOf v.toNat 16 7 ≠ 0 →
    bitsOf v.toNat 16 7 ≤ 64 →
    t0.mixRun (bitsOf v.toNat 0 9) (bitsOf v.toNat 16 7) = some f →
    f < 8192 →
    Completes (exec (.mixReq m v) s) fun t =>
      t.get AUDIO.MIX_RESP_CODE 4 = 0 ∧ t.get AUDIO.MIX_RESP_DONE 4 = 1 ∧
      t.get AUDIO.MB_FIRST (busInst (bitsOf v.toNat 0 9)) (busIdx (bitsOf v.toNat 0 9)) = f ∧
      t.get AUDIO.MB_NIN (busInst (bitsOf v.toNat 0 9)) (busIdx (bitsOf v.toNat 0 9)) = bitsOf v.toNat 16 7) ∧
  (∀ (m : Fin 7) (v : Word) (s : State) (t0 : State),
    s.takesWrite m .audio 4 0x048 v.toNat →
    t0 = s.writePlain m .audio 4 0x048 v.toNat →
    bitOf v.toNat 0 = true →
    t0.gate .audio 4 = 0 →
    t0.audioCode = 0 →
    t0.mixCode = 0 →
    Completes (exec (.mixCommit m v) s) fun t => t.get AUDIO.MIX_RESP_CODE 4 = 0 ∧ t.get AUDIO.MIX_RESP_DONE 4 = 1 ∧ t.audio.mixDue = true) ∧
  (∀ (k : Fin 64) (f : MeterFacts) (s : State),
    s.get AUDIO.LM_EN 6 k = 1 →
    Completes (exec (.meterReport k f) s) fun t =>
      t.get AUDIO.LM_MOMENTARY 6 k = f.momentary % 2 ^ 16 ∧ t.get AUDIO.LM_INTEGRATED 6 k = f.integrated % 2 ^ 16 ∧ t.get AUDIO.LM_TRUE_PEAK 6 k = f.truePeak % 2 ^ 16) ∧
  (∀ (m : Fin 7) (k : Fin 64) (v : Word) (s : State),
    s.takesWrite m .audio 6 (0x408 + 0x20 * k.val) v.toNat →
    bitOf v.toNat 0 = true →
    Completes (exec (.meterReset m k v) s) fun t =>
      t.get AUDIO.LM_INTEGRATED 6 k = 0x8000 ∧ t.get AUDIO.LM_RANGE 6 k = 0 ∧ t.get AUDIO.LM_TRUE_PEAK 6 k = 0x8000 ∧ t.get AUDIO.LM_SECONDS 6 k = 0) ∧
  (∀ (ch : Fin 32768) (s : State),
    s.get ASTAT.SRC_SILENT ch = 0 →
    Completes (exec (.silenceDetect ch) s) fun t => t.get ASTAT.SRC_SILENT ch = 1 ∧ t.get ASTAT.SRC_OVERLOAD ch ≠ 1 ∧ t.event .audio 0 AUDIO.EV_SIL_CHG) ∧
  (∀ (half : Bool) (s : State),
    s.get (HDR.STATE .audio) 0 (flag half) = uRUN →
    s.get (HDR.STATE .audio) 0 (1 - flag half) = uRUN →
    s.get REPAIR.CFG_AUTO = 0 →
    s.get AUDIO.ENG_STAT_SEL = flag half →
    Completes (exec (.halfSwap half) s) fun t =>
      t.get (HDR.STATE .audio) 0 (flag half) = uISOLATED ∧ t.get AUDIO.ENG_STAT_SEL = 1 - flag half ∧
      t.get AUDIO.CNT_HALF_SWAPS = satAdd 32 (s.get AUDIO.CNT_HALF_SWAPS) 1 ∧ t.event .audio 0 AUDIO.EV_HALF_SWAP)

/-- A serial audio port fades, rejoins, ramps, stops, loses its clock and declares its class. A port direction goes from FADE to HOLD at the
end of the fade, from HOLD to RAMP with REJOIN after 16 clean frames, from RAMP to RUN, from STOP to OFF where disabled. A lost clock
clears CLK_OK and the measurement, fades the receive side, counts and raises CLK_LOST; a wait for a zero crossing that times out is
cleared, counted and raised; SYNC is confirmed and withdrawn with SYNC_CHG. A port frame of a running port receives or sends after the
clock is back, and a sample frame serves the ports before and after the matrix. (R271; R307; R309; R311; R312; R313; R316.) -/
def Obligations.SerialAudioPorts : Prop :=
  (∀ (p : Fin 16) (tx : Bool) (s : State),
    s.ap p tx = apFADE →
    Completes (exec (.portFadeEnd p tx) s) fun t => t.ap p tx = apHOLD ∧ t.get APORT.HID_STARTING p (flag tx) = 0) ∧
  (∀ (p : Fin 16) (tx : Bool) (s : State),
    s.ap p tx = apHOLD →
    s.get APORT.HID_CLEAN p (flag tx) = 16 →
    Completes (exec (.portRejoin p tx) s) fun t => t.ap p tx = apRAMP ∧ t.get APORT.HID_STARTING p (flag tx) = 0 ∧ t.event .aport p APORT.EV_REJOIN) ∧
  (∀ (p : Fin 16) (tx : Bool) (s : State),
    s.ap p tx = apRAMP →
    Completes (exec (.portRampEnd p tx) s) fun t => t.ap p tx = apRUN ∧ t.get APORT.HID_WAIT p (flag tx) = 0) ∧
  (∀ (p : Fin 16) (s : State),
    s.ap p true = apSTOP →
    s.get APORT.PORT_CFG_TX_EN p = 0 →
    Completes (exec (.portStopDone p true) s) fun t => t.ap p true = apOFF ∧ t.get APORT.PORT_STAT_TX_FILL p = 0) ∧
  (∀ (p : Fin 16) (s : State),
    s.get APORT.PORT_STAT_CLK_OK p = 1 →
    s.ap p false = apRUN →
    Completes (exec (.portClkLost p) s) fun t =>
      t.get APORT.PORT_STAT_CLK_OK p = 0 ∧ t.get APORT.FS_MEAS_VALID p = 0 ∧ t.ap p false = apFADE ∧
      t.get APORT.CNT_CLK_LOSSES p = satAdd 32 (s.get APORT.CNT_CLK_LOSSES p) 1 ∧ t.event .aport p APORT.EV_CLK_LOST) ∧
  (∀ (p : Fin 16) (tx : Bool) (c : Fin 32) (s : State),
    bitOf (s.get APORT.HID_WAIT p (flag tx)) c = true →
    Completes (exec (.portZcTimeout p tx c) s) fun t =>
      t.get APORT.HID_WAIT p (flag tx) = clrBit (s.get APORT.HID_WAIT p (flag tx)) c % 2 ^ 32 ∧
      t.get APORT.CNT_ZC_TIMEOUTS p = satAdd 32 (s.get APORT.CNT_ZC_TIMEOUTS p) 1 ∧ t.event .aport p APORT.EV_ZC_TIMEOUT) ∧
  (∀ (p : Fin 16) (s : State),
    s.get APORT.PORT_CFG_SYNC_DECL p = 1 →
    s.get APORT.HID_SYNC p = 0 →
    Completes (exec (.syncConfirm p) s) fun t => t.get APORT.HID_SYNC p = 1 ∧ t.event .aport p APORT.EV_SYNC_CHG) ∧
  (∀ (p : Fin 16) (s : State),
    s.get APORT.PORT_CFG_SYNC_DECL p = 1 →
    s.get APORT.HID_SYNC p = 1 →
    Completes (exec (.syncWithdraw p) s) fun t => t.get APORT.HID_SYNC p = 0 ∧ t.event .aport p APORT.EV_SYNC_CHG) ∧
  (∀ (p : Fin 16) (f : PortFrame) (s : State),
    s.ap p false ≠ apOFF →
    s.unit ⟨.aport, p, 0⟩ = uRUN →
    exec (.portFrame p false f) s = .next ((s.clockBack p f).rxFrame p f).settle) ∧
  (∀ (p : Fin 16) (f : PortFrame) (s : State),
    s.ap p true ≠ apOFF →
    s.unit ⟨.aport, p, 0⟩ = uRUN →
    s.get APORT.PORT_CFG_MODE p ≠ 3 →
    exec (.portFrame p true f) s = .next ((s.clockBack p f).txFrame p f).settle) ∧
  (∀ (f : SampleFacts) (s : State),
    s.domUp 18 = true →
    exec (.sampleFrame f) s = .next ((((s.portsStep false).sampleFrame f).portsStep true).groupIndex).settle)

/-- Port groups are armed, triggered and started together. GRP_CTL.ARM arms a group, DISARM disarms it, GO triggers an armed group of
trigger 0 that does not run, and an APSTART edge triggers the one armed group that selects it, each with TRIGGER; at the start frame the
triggered group runs from index 0, no longer armed or triggered. (R318.) -/
def Obligations.PortGroups : Prop :=
  (∀ (m : Fin 7) (g : Fin 8) (v : Word) (s : State),
    s.takesWrite m .aport 0 (0x200 + 4 * g.val) v.toNat →
    bitOf v.toNat 16 = true →
    Completes (exec (.grpArm m g v) s) fun t => t.get APORT.GRP_CTL_ARMED 0 g = 1) ∧
  (∀ (m : Fin 7) (g : Fin 8) (v : Word) (s : State),
    s.takesWrite m .aport 0 (0x200 + 4 * g.val) v.toNat →
    bitOf v.toNat 17 = true →
    Completes (exec (.grpDisarm m g v) s) fun t => t.get APORT.GRP_CTL_ARMED 0 g = 0) ∧
  (∀ (m : Fin 7) (g : Fin 8) (v : Word) (s : State) (t0 : State),
    s.takesWrite m .aport 0 (0x200 + 4 * g.val) v.toNat →
    t0 = s.writePlain m .aport 0 (0x200 + 4 * g.val) v.toNat →
    bitOf v.toNat 18 = true →
    t0.get APORT.GRP_CTL_TRIG 0 g = 0 →
    t0.get APORT.GRP_CTL_ARMED 0 g = 1 →
    t0.get APORT.GRP_CTL_RUNNING 0 g = 0 →
    Completes (exec (.grpGo m g v) s) fun t => t.get APORT.HID_TRIGGERED 0 g = 1 ∧ t.event .aport 0 APORT.EV_TRIGGER) ∧
  (∀ (g : Nat) (s : State),
    (List.range 8).filter (fun k => s.get APORT.GRP_CTL_TRIG 0 k = 1) = [g] →
    s.get APORT.GRP_CTL_ARMED 0 g = 1 →
    s.get APORT.GRP_CTL_RUNNING 0 g = 0 →
    Completes (exec (.apstartEdge none) s) fun t => t.get APORT.HID_TRIGGERED 0 g = 1 ∧ t.event .aport 0 APORT.EV_TRIGGER) ∧
  (∀ (g : Fin 8) (s : State),
    s.get APORT.HID_TRIGGERED 0 g = 1 →
    s.get APORT.GRP_CTL_ARMED 0 g = 1 →
    Completes (exec (.groupStartFrame g) s) fun t =>
      t.get APORT.GRP_CTL_RUNNING 0 g = 1 ∧ t.get APORT.GRP_CTL_ARMED 0 g = 0 ∧ t.get APORT.GRP_IDX_INDEX 0 g = 0 ∧ t.get APORT.HID_TRIGGERED 0 g = 0)

/-- A mesh link trains, authenticates, is rekeyed and goes down. A link goes from DETECT to TRAIN and counts the training, from TRAIN to
AUTH with polarity, order and skew, or back to DETECT with TRAIN_FAIL; from AUTH, paired and unsealed, to UP with the peer's identity,
its session key LIVE and UP_CHG, or to DOWN with AUTH_FAIL. It goes DOWN with UP_CHG and no valid peer, and with KEY_DROP where its key
stayed stale; from DOWN it is tried again. A rekey counts, ends the stale mark and raises REKEY. An uncorrectable codeword counts and
raises FEC_UNCORR, a corrected one counts alone; a time message shows its delay. (R362; R363; R372; R373; R374; R375; R376; R381; R384;
R492.) -/
def Obligations.MeshLinks : Prop :=
  (∀ (n : Fin 8) (s : State),
    s.link n = lkDETECT →
    Completes (exec (.linkDetect n) s) fun t => t.link n = lkTRAIN ∧ t.get MESH.CNT_TRAININGS n = satAdd 32 (s.get MESH.CNT_TRAININGS n) 1) ∧
  (∀ (n : Fin 8) (inv : BitVec 8) (rev : Bool) (skew : BitVec 7) (s : State),
    s.link n = lkTRAIN →
    Completes (exec (.linkTrained n inv rev skew) s) fun t =>
      t.link n = lkAUTH ∧ t.get MESH.LINK_STAT_LANE_INV n = inv.toNat ∧ t.get MESH.LINK_STAT_REVERSED n = flag rev ∧
      t.get MESH.LINK_STAT_SKEW n = skew.toNat) ∧
  (∀ (n : Fin 8) (s : State),
    s.link n = lkTRAIN →
    Completes (exec (.trainTimeout n) s) fun t => t.link n = lkDETECT ∧ t.event .mesh n MESH.EV_TRAIN_FAIL) ∧
  (∀ (n : Fin 8) (peer : BitVec 64) (s : State),
    s.link n = lkAUTH →
    s.get MESHCTL.STAT_PAIRED = 1 →
    s.get KEYS.LC_STAT_SEALED = 0 →
    Completes (exec (.linkAuth n true peer) s) fun t =>
      t.link n = lkUP ∧ t.event .mesh n MESH.EV_UP_CHG ∧ t.get MESH.PEER_ID_LO_ID n = bitsOf peer.toNat 0 32 ∧
      t.get MESH.PEER_ID_HI_ID n = bitsOf peer.toNat 32 32 ∧ t.get KEYS.SLOT_STAT_STATE 0 n = 1) ∧
  (∀ (n : Fin 8) (peer : BitVec 64) (s : State),
    s.link n = lkAUTH →
    s.get MESHCTL.STAT_PAIRED = 1 →
    s.get KEYS.LC_STAT_SEALED = 0 →
    Completes (exec (.linkAuth n false peer) s) fun t => t.link n = lkDOWN ∧ t.event .mesh n MESH.EV_AUTH_FAIL) ∧
  (∀ (n : Fin 8) (s : State),
    s.link n = lkUP →
    Completes (exec (.linkDown n) s) fun t => t.link n = lkDOWN ∧ t.event .mesh n MESH.EV_UP_CHG ∧ t.get MESH.LINK_STAT_PEER_VALID n = 0) ∧
  (∀ (n : Fin 8) (s : State),
    s.link n = lkUP →
    s.get MESH.HID_STALE n = 1 →
    Completes (exec (.keyStaleTimeout n) s) fun t => t.link n = lkDOWN ∧ t.event .mesh n MESH.EV_KEY_DROP ∧ t.event .mesh n MESH.EV_UP_CHG) ∧
  (∀ (n : Fin 8) (s : State),
    s.link n = lkDOWN →
    Completes (exec (.linkRetry n) s) fun t => t.link n = lkDETECT) ∧
  (∀ (n : Fin 8) (s : State),
    s.link n = lkUP →
    Completes (exec (.linkRekey n) s) fun t =>
      t.get MESH.CNT_REKEYS n = satAdd 32 (s.get MESH.CNT_REKEYS n) 1 ∧ t.get MESH.HID_STALE n = 0 ∧ t.event .mesh n MESH.EV_REKEY) ∧
  (∀ (n : Fin 8) (crcBad : Bool) (s : State),
    s.link n = lkUP →
    Completes (exec (.linkCodewordReceived n false true crcBad) s) fun t =>
      t.get MESH.CNT_FEC_UNCORR n = satAdd 32 (s.get MESH.CNT_FEC_UNCORR n) 1 ∧ t.event .mesh n MESH.EV_FEC_UNCORR ∧
      t.get MESH.CNT_FEC_CORR n = s.get MESH.CNT_FEC_CORR n) ∧
  (∀ (n : Fin 8) (s : State),
    s.link n = lkUP →
    Completes (exec (.linkCodewordReceived n true false false) s) fun t =>
      t.get MESH.CNT_FEC_CORR n = satAdd 32 (s.get MESH.CNT_FEC_CORR n) 1 ∧ t.get MESH.CNT_FEC_UNCORR n = s.get MESH.CNT_FEC_UNCORR n) ∧
  (∀ (n : Fin 8) (mem : Fin 8) (delay : BitVec 20) (s : State),
    s.link n = lkUP →
    Completes (exec (.timeMessage n mem delay true) s) fun t => t.get MESH.DELAY_NS n = delay.toNat)

/-- A member is seen, lost, paired with, asked for its part, read from, and leaves. A view of a member over an UP link is taken up; a member
that nothing shows is lost, with MEMBER_LOST and its count; a vacant number is freed. PAIR.GO on a link that can pair sets BUSY, and
ends with the check code, the code, DONE and PAIR_DONE; received from a peer in FIELD, it pairs this device. A source part of a
formation request accepted is decided and noted. LEAVE.GO and FORCE take a MEMBER to LEAVING, FORCE with the instant sent; the instant
is sent once no channel is in use, and at it this member is ALONE without a valid ID, with LEAVE_DONE. RA_CTL.GO starts a remote access
and a read's value is shown with DONE and code 0. (R46; R366; R375; R377; R379; R380; R382; R383; R384.) -/
def Obligations.FormationMembership : Prop :=
  (∀ (n : Fin 8) (f : MemberView) (s : State),
    s.link n = lkUP →
    s.get MESHCTL.CFG_FORM_EN = 1 →
    exec (.memberView n f) s = .next (s.view n f).settle) ∧
  (∀ (mem : Fin 8) (s : State),
    bitOf (s.get MESHCTL.STAT_MEMBERS) mem = true →
    mem.val ≠ s.selfId →
    s.seen mem = false →
    Completes (exec (.memberLost mem) s) fun t =>
      bitOf (t.get MESHCTL.STAT_MEMBERS) mem = false ∧ t.event .meshctl 0 MESHCTL.EV_MEMBER_LOST ∧
      t.get MESHCTL.CNT_LOSSES = satAdd 32 (s.get MESHCTL.CNT_LOSSES) 1) ∧
  (∀ (mem : Fin 8) (s : State),
    Completes (exec (.rejoinHoldExpire mem) s) fun t => bitOf (t.get MESHCTL.HID_VACANT) mem = false) ∧
  (∀ (m : Fin 7) (v : Word) (s : State) (t0 : State),
    s.takesWrite m .meshctl 0 0x080 v.toNat →
    t0 = s.writePlain m .meshctl 0 0x080 v.toNat →
    bitOf v.toNat 8 = true →
    t0.get MESHCTL.PAIR_BUSY = 0 →
    t0.pairCode = 0 →
    t0.link (t0.get MESHCTL.PAIR_LINK) = lkDOWN →
    Completes (exec (.pairGo m v) s) fun t =>
      t.get MESHCTL.PAIR_BUSY = 1 ∧ t.get MESHCTL.PAIR_DONE = 0 ∧ t.get MESHCTL.PAIR_CODE = 0) ∧
  (∀ (n : Fin 8) (code : Nat) (check : BitVec 24) (s : State),
    s.get MESHCTL.PAIR_BUSY = 1 →
    s.get MESHCTL.PAIR_LINK = n.val →
    Completes (exec (.pairDone n code check false) s) fun t =>
      t.get MESHCTL.PAIR_CHECK_CODE = check.toNat ∧ t.get MESHCTL.PAIR_CODE = code % 2 ^ 8 ∧ t.get MESHCTL.PAIR_DONE = 1 ∧
      t.get MESHCTL.PAIR_BUSY = 0 ∧ t.event .meshctl 0 MESHCTL.EV_PAIR_DONE) ∧
  (∀ (n : Fin 8) (check : BitVec 24) (s : State),
    s.link n ≠ lkOFF →
    s.link n ≠ lkUP →
    s.get MESHCTL.STAT_PAIRED = 0 →
    s.get KEYS.LC_STAT_STATE = 1 →
    s.get KEYS.LC_STAT_TAMPER_HOLD = 0 →
    Completes (exec (.pairDone n 0 check true) s) fun t => t.get MESHCTL.STAT_PAIRED = 1 ∧ t.event .meshctl 0 MESHCTL.EV_PAIR_DONE) ∧
  (∀ (f : FormPart) (slot : Nat) (mem : Nat) (b : Bool) (s : State),
    s.gate .route 0 = 0 →
    f.kind = .source slot mem b →
    f.all = true →
    (s.sourcePart f.asker slot mem b).1 = 0 →
    exec (.formationPart f) s = .next ((s.sourcePart f.asker slot mem b).2.noteDecision 0 0 masterFormation .route 0).settle) ∧
  (∀ (m : Fin 7) (v : Word) (s : State) (t0 : State),
    s.takesWrite m .meshctl 0 0x088 v.toNat →
    t0 = s.writePlain m .meshctl 0 0x088 v.toNat →
    bitOf v.toNat 0 = true →
    t0.gate .meshctl 0 = 0 →
    t0.member = msMEMBER →
    Completes (exec (.leaveGo m v) s) fun t => t.member = msLEAVING ∧ t.get MESHCTL.LEAVE_DONE = 0) ∧
  (∀ (m : Fin 7) (v : Word) (s : State) (t0 : State),
    s.takesWrite m .meshctl 0 0x088 v.toNat →
    t0 = s.writePlain m .meshctl 0 0x088 v.toNat →
    bitOf v.toNat 1 = true →
    t0.member = msMEMBER →
    Completes (exec (.leaveForce m v) s) fun t => t.member = msLEAVING ∧ t.get MESHCTL.HID_SENT = 1) ∧
  (∀ (s : State),
    s.member = msLEAVING →
    s.get MESHCTL.HID_SENT = 0 →
    s.channelsInUse = false →
    Completes (exec (.leaveInstantSend false) s) fun t => t.get MESHCTL.HID_SENT = 1) ∧
  (∀ (mem : Fin 8) (s : State),
    mem.val = s.selfId →
    s.member = msLEAVING →
    s.get MESHCTL.HID_SENT = 1 →
    s.video.timed = [] →
    Completes (exec (.leaveInstant mem) s) fun t =>
      t.member = msALONE ∧ t.get MESHCTL.LEAVE_DONE = 1 ∧ t.get MESHCTL.STAT_ID_VALID = 0 ∧ t.event .meshctl 0 MESHCTL.EV_LEAVE_DONE) ∧
  (∀ (m : Fin 7) (v : Word) (s : State) (t0 : State),
    s.takesWrite m .meshctl 0 0x098 v.toNat →
    t0 = s.writePlain m .meshctl 0 0x098 v.toNat →
    bitOf v.toNat 8 = true →
    t0.raCode (t0.get MESHCTL.RA_CTL_MEMBER) = 0 →
    Completes (exec (.raGo m v) s) fun t => t.get MESHCTL.HID_RA = 1 ∧ t.get MESHCTL.RA_CTL_DONE = 0 ∧ t.get MESHCTL.RA_CTL_CODE = 0) ∧
  (∀ (v : Word) (s : State),
    s.get MESHCTL.HID_RA = 1 →
    s.get MESHCTL.RA_CTL_WRITE = 0 →
    Completes (exec (.raComplete 0 v) s) fun t =>
      t.get MESHCTL.RA_DATA_DATA = v.toNat ∧ t.get MESHCTL.RA_CTL_DONE = 1 ∧ t.get MESHCTL.RA_CTL_CODE = 0)

/-- The supervisor's heartbeats, failover, standby, journal, switchover and restart attempts. A heartbeat of an ACTIVE Phobos and a STANDBY
Deimos counts modulo 2^16. A missed heartbeat of the STANDBY one outside flywheel and failover fails it, counts and shows cause and
name, IN_SYNC 0. The supervisor that takes over is ACTIVE and serves, counted with FAILOVER. A restored standby within its limit is
STANDBY in sync with STANDBY_READY; one that fails its self-test is RETIRED, with its events. The journal is applied entry by entry.
CTL.SWITCHOVER in sync hands over from Phobos to Deimos; RETEST_STANDBY boots the standby again. In flywheel without a hold an attempt
boots Phobos, up to three; the third failure holds, with RESTART_FAIL and FLYWHEEL_HOLD; CTL.RETRY starts a new series after 1 s. (R392;
R406; R407; R409; R411; R419.) -/
def Obligations.Supervisor : Prop :=
  (∀ (s : State),
    s.sup 0 = suACTIVE →
    Completes (exec (.heartbeat 0) s) fun t => t.get SUPERVISOR.HB_PHOBOS_HB = (s.get SUPERVISOR.HB_PHOBOS_HB + 1) % 2 ^ 16) ∧
  (∀ (s : State),
    s.sup 1 = suSTANDBY →
    Completes (exec (.heartbeat 1) s) fun t => t.get SUPERVISOR.HB_DEIMOS_HB = (s.get SUPERVISOR.HB_DEIMOS_HB + 1) % 2 ^ 16) ∧
  (∀ (who : Fin 2) (cause : Fin 16) (s : State),
    s.sup who = suSTANDBY →
    s.flywheel = false →
    s.get SUPERVISOR.HID_TAKE = 0 →
    cause = 1 →
    Completes (exec (.heartbeatMiss who cause) s) fun t =>
      t.sup who = suFAILED ∧ t.get SUPERVISOR.CNT_HB_MISSES = satAdd 32 (s.get SUPERVISOR.CNT_HB_MISSES) 1 ∧
      t.get SUPERVISOR.LAST_CAUSE_CAUSE = 1 ∧ t.get SUPERVISOR.LAST_CAUSE_WHO = who ∧ t.get SUPERVISOR.JOURNAL_IN_SYNC = 0) ∧
  (∀ (k : Fin 2) (s : State),
    s.get SUPERVISOR.HID_TAKE = k + 1 →
    Completes (exec .failoverActive s) fun t =>
      t.sup k = suACTIVE ∧ t.get SUPERVISOR.STAT_ACTIVE = k ∧ t.get SUPERVISOR.HID_TAKE = 0 ∧ t.get LEDGER.STAT_SERVING = 1 ∧
      t.get SUPERVISOR.CNT_FAILOVERS = satAdd 32 (s.get SUPERVISOR.CNT_FAILOVERS) 1 ∧ t.event .supervisor 0 SUPERVISOR.EV_FAILOVER) ∧
  (∀ (k : Nat) (s : State),
    s.restoring = some k →
    s.domUp (23 + k) = true →
    (s.recentIsolations (supUnit k)).length < s.retireLimit →
    Completes (exec (.standbyRestore true) s) fun t =>
      t.sup k = suSTANDBY ∧ t.get SUPERVISOR.JOURNAL_IN_SYNC = 1 ∧ t.get SUPERVISOR.JOURNAL_LAG = 0 ∧ t.event .supervisor 0 SUPERVISOR.EV_STANDBY_READY) ∧
  (∀ (k : Nat) (s : State),
    s.restoring = some k →
    s.domUp (23 + k) = true →
    Completes (exec (.standbyRestore false) s) fun t =>
      t.sup k = suRETIRED ∧ t.get SUPERVISOR.LAST_CAUSE_CAUSE = 6 ∧ t.event .supervisor 0 SUPERVISOR.EV_SUP_RETIRED ∧ t.event .repair 0 REPAIR.EV_RETIRED) ∧
  (∀ (s : State),
    s.sup 1 = suSTANDBY →
    Completes (exec .journalApply s) fun t =>
      t.get SUPERVISOR.JOURNAL_LAG = (s.get SUPERVISOR.JOURNAL_LAG - 1) % 2 ^ 20 ∧
      t.get SUPERVISOR.JOURNAL_IN_SYNC = flag ((s.get SUPERVISOR.JOURNAL_LAG - 1) % 2 ^ 20 ≤ 64)) ∧
  (∀ (m : Fin 7) (s : State) (t0 : State),
    s.takesWrite m .supervisor 0 0x04C 1 →
    t0 = s.writePlain m .supervisor 0 0x04C 1 →
    t0.get SUPERVISOR.JOURNAL_IN_SYNC = 1 →
    t0.get SUPERVISOR.STAT_ACTIVE = 0 →
    Completes (exec (.switchover m) s) fun t =>
      t.get SUPERVISOR.HID_TAKE = 2 ∧ t.get SUPERVISOR.STAT_ACTIVE = 3 ∧ t.get LEDGER.STAT_SERVING = 0 ∧
      t.get SUPERVISOR.LAST_CAUSE_CAUSE = 5 ∧ t.get SUPERVISOR.LAST_CAUSE_WHO = 0) ∧
  (∀ (s : State),
    s.flywheel = true →
    s.get SUPERVISOR.HID_HOLD = 0 →
    s.attempting = none →
    s.sup 0 = suFAILED →
    s.domUp 23 = true →
    Completes (exec .restartAttempt s) fun t =>
      t.sup 0 = suBOOT ∧ t.get SUPERVISOR.STAT_ATTEMPT = min 3 (s.get SUPERVISOR.STAT_ATTEMPT + 1) ∧ t.get SUPERVISOR.STAT_BACKOFF = 0 ∧
      t.get SUPERVISOR.CNT_RESTARTS = satAdd 32 (s.get SUPERVISOR.CNT_RESTARTS) 1) ∧
  (∀ (s : State),
    s.flywheel = true →
    s.attempting = some 1 →
    3 ≤ s.get SUPERVISOR.STAT_ATTEMPT →
    Completes (exec .restartAttemptFail s) fun t =>
      t.sup 1 = suFAILED ∧ t.get SUPERVISOR.HID_HOLD = 1 ∧ t.event .supervisor 0 SUPERVISOR.EV_RESTART_FAIL ∧ t.event .supervisor 0 SUPERVISOR.EV_FLYWHEEL_HOLD) ∧
  (∀ (m : Fin 7) (s : State) (t0 : State),
    s.takesWrite m .supervisor 0 0x04C 2 →
    t0 = s.writePlain m .supervisor 0 0x04C 2 →
    t0.flywheel = true →
    Completes (exec (.supRetry m) s) fun t =>
      t.get SUPERVISOR.HID_HOLD = 0 ∧ t.get SUPERVISOR.STAT_ATTEMPT = 0 ∧ t.get SUPERVISOR.STAT_BACKOFF = 1) ∧
  (∀ (m : Fin 7) (s : State) (t0 : State),
    s.takesWrite m .supervisor 0 0x04C 4 →
    t0 = s.writePlain m .supervisor 0 0x04C 4 →
    t0.get SUPERVISOR.HID_TAKE = 0 →
    t0.sup 0 ≠ suSTANDBY →
    t0.sup 1 = suSTANDBY →
    Completes (exec (.retestStandby m) s) fun t => t.sup 1 = suBOOT ∧ t.get SUPERVISOR.JOURNAL_IN_SYNC = 0)

/-- The availability counters are cleared, and the supervisor requests lost protection again. AVAIL_CLR.GO clears the three counts of the
output named, ALL those of every output; and once a second the serving supervisor requests lost protection again and moves planes.
(R404; R418.) -/
def Obligations.AvailabilityAndRestoration : Prop :=
  (∀ (m : Fin 7) (v : Word) (s : State),
    s.takesWrite m .repair 0 0x07C v.toNat →
    bitOf v.toNat 31 = true →
    bitsOf v.toNat 0 8 < 192 →
    Completes (exec (.availClrGo m v) s) fun t =>
      t.get REPAIR.FRAMES_COUNT 0 (bitsOf v.toNat 0 8) = 0 ∧ t.get REPAIR.DEFECTIVE_COUNT 0 (bitsOf v.toNat 0 8) = 0 ∧
      t.get REPAIR.LATE_COUNT 0 (bitsOf v.toNat 0 8) = 0) ∧
  (∀ (m : Fin 7) (v : Word) (s : State),
    s.takesWrite m .repair 0 0x07C v.toNat →
    bitOf v.toNat 30 = true →
    Completes (exec (.availClrAll m v) s) fun t => ∀ o : Fin 192,
      t.get REPAIR.FRAMES_COUNT 0 o = 0 ∧ t.get REPAIR.DEFECTIVE_COUNT 0 o = 0 ∧ t.get REPAIR.LATE_COUNT 0 o = 0) ∧
  (∀ (f : List (Nat × Nat)) (s : State),
    s.mayRestore = true →
    exec (.restoreRequest f) s = .next ((s.restoreAll f).planeMoves).settle)

/-- A page commit, a group commit, a commit point, a discard and a rebuild. A COMMIT of a page, or of FS_FALLBACK or FS_CFG, in a domain
that is up submits what is captured; a pending commit outside a group, ready at its point, is applied; GROUP_COMMIT releases the groups
named; DISCARD drops the shadow of the page; a write of DOM_REQ submits it where COMMIT_MODE is AUTO. The end of the ledger's rebuild in
flywheel, with no commit held, leaves the rebuilding supervisor ACTIVE and serving, outside flywheel, with REBUILT and FLYWHEEL_OUT.
(R202; R412; R439; R509; R510; R512; R513; R522.) -/
def Obligations.CommitsAndDiscards : Prop :=
  (∀ (m : Fin 7) (p : Page) (i : Nat) (f : List (Nat × TakeFacts)) (s : State),
    i < p.instances →
    p.code < 0x80 →
    s.takesWrite m p i 0x008 0 →
    s.domUp (p.domain i) = true →
    exec (.pageCommit m p i f) s = .next (s.submitCommit m p i f).settle) ∧
  (∀ (m : Fin 7) (o : Fin 192) (f : TakeFacts) (s : State),
    s.takesWrite m .syncmgr 0 0x008 0 →
    s.domUp (Page.syncmgr.domain 0) = true →
    exec (.fsFallbackCommit m o f) s = .next (s.submitCommit m .syncmgr 0 [(o.val, f)]).settle) ∧
  (∀ (m : Fin 7) (o : Fin 192) (f : TakeFacts) (s : State),
    s.takesWrite m .syncmgr 0 0x008 0 →
    s.domUp (Page.syncmgr.domain 0) = true →
    exec (.fsCfgCommit m o f) s = .next (s.submitCommit m .syncmgr 0 [(o.val, f)]).settle) ∧
  (∀ (p : Page) (i : Nat) (f : List (Nat × TakeFacts)) (c : PendingCommit) (s : State),
    s.pendingOf p i = some c →
    c.group = 0 →
    s.commitReady p i = true →
    exec (.commitPoint p i f) s = .next (s.applyCommit c f).settle) ∧
  (∀ (m : Fin 7) (v : Word) (f : List (Nat × TakeFacts)) (s : State),
    s.takesWrite m .busmatrix 0 0x060 v.toNat →
    exec (.groupCommitGo m v f) s = .next (s.releaseGroups (bitsOf v.toNat 1 15 * 2) f).settle) ∧
  (∀ (m : Fin 7) (p : Page) (i : Nat) (v : Word) (s : State),
    i < p.instances →
    p.code < 0x80 →
    s.takesWrite m p i 0x020 v.toNat →
    bitOf v.toNat 1 = true →
    exec (.shadowDiscard m p i v) s = .next (((s.set (HDR.READ_ACTIVE p) (bitsOf v.toNat 0 1) i).set (HDR.GROUP p) (bitsOf v.toNat 8 4) i).discardShadow p i).settle) ∧
  (∀ (m : Fin 7) (v : Word) (s : State) (t0 : State),
    s.takesWrite m .power 0 0x040 v.toNat →
    t0 = s.writePlain m .power 0 0x040 v.toNat →
    exec (.domReqWrite m v) s = .next (if t0.get (HDR.COMMIT_MODE .power) = 2 then t0.submitCommit m .power 0 [] else t0).settle) ∧
  (∀ (k : Fin 2) (f : List (Nat × LockFacts)) (s : State),
    s.get LEDGER.STAT_REBUILDING = 1 →
    s.get SUPERVISOR.HID_REBUILDER = k + 1 →
    s.commits = [] →
    s.flywheel = true →
    Completes (exec (.ledgerRebuildEnd f) s) fun t =>
      t.sup k = suACTIVE ∧ t.get SUPERVISOR.STAT_ACTIVE = k ∧ t.get LEDGER.STAT_REBUILDING = 0 ∧ t.get LEDGER.STAT_SERVING = 1 ∧
      t.flywheel = false ∧ t.event .ledger 0 LEDGER.EV_REBUILT ∧ t.event .supervisor 0 SUPERVISOR.EV_FLYWHEEL_OUT)

/-- The sources of a DEVICE and of a CONTROL reset, and what each does. RESET_N low asserts its source, and RESET_N high samples BOOTMODE
and MEMBER_ID and takes the source back; a reset held for a store word raises HELD_NVM. A failed rail asserts COLD, noted with cause 1;
a rail fault raises RAIL_FAULT; the loss of the backup supply clears the clocks and the tamper hold; the end of the power-good filter
shows all rails, the I/O banks and the straps, and takes COLD back. CTL.DEVICE with the key runs a DEVICE reset of cause 5 (within one
command: the model's choice, log entry 41), CTL.CONTROL one of cause 7, and a failed self-test of PD25 tries again, up to three times,
with cause 8. (R420; R421; R422; R431; R433; R436; R437; R445.) -/
def Obligations.ResetSources : Prop :=
  (∀ (s : State),
    s.resetBit RESET.HID_SRC srcRESETN = false →
    s.storeWriting = false →
    exec .resetNAssert s = .next s.resetNAssert.settle) ∧
  (∀ (mode : BitVec 4) (member : BitVec 3) (s : State),
    s.get RESET.HID_DEFER ≠ 2 →
    s.resetBit RESET.HID_SRC srcRESETN = true →
    Completes (exec (.resetNRelease mode member) s) fun t =>
      t.get RESET.BOOT_STAT_BOOTMODE = mode.toNat ∧ t.get RESET.BOOT_STAT_STRAP = member.toNat ∧ t.get MESHCTL.STAT_STRAP = member.toNat ∧
      t.resetBit RESET.HID_SRC srcRESETN = false) ∧
  (∀ (mode : BitVec 4) (member : BitVec 3) (s : State),
    s.get RESET.HID_DEFER ≠ 0 →
    Completes (exec (.heldNvm mode member) s) fun t => t.event .reset 0 RESET.EV_HELD_NVM) ∧
  (∀ (rail : Fin 10) (s : State),
    s.resetBit RESET.HID_SRC srcCOLD = false →
    exec (.railPowerFail rail) s = .next (((s.set POWER.RAIL_STAT_GOOD (clrBit (s.get POWER.RAIL_STAT_GOOD) rail)).noteReset 1).coldReset).settle) ∧
  (∀ (rail : Fin 10) (s : State),
    Completes (exec (.railFault rail) s) fun t => t.event .power 0 POWER.EV_RAIL_FAULT) ∧
  (∀ (s : State),
    Completes (exec .supplyLoss s) fun t => t.clk = { uptime := 0, rtcSeconds := 0, rtcSub := 0, sysFs := 0 } ∧ t.get KEYS.LC_STAT_TAMPER_HOLD = 0) ∧
  (∀ (io3a : Bool) (io3b : Bool) (mode : BitVec 4) (member : BitVec 3) (s : State),
    s.resetBit RESET.HID_SRC srcCOLD = true →
    Completes (exec (.powerGoodFilterEnd io3a io3b mode member) s) fun t =>
      t.get POWER.RAIL_STAT_GOOD = 0x3FF ∧ t.get POWER.RAIL_STAT_IO_A_3V3 = flag io3a ∧ t.get POWER.RAIL_STAT_IO_B_3V3 = flag io3b ∧
      t.get RESET.BOOT_STAT_BOOTMODE = mode.toNat ∧ t.get RESET.BOOT_STAT_STRAP = member.toNat ∧ t.resetBit RESET.HID_SRC srcCOLD = false) ∧
  (∀ (m : Fin 7) (v : Word) (mode : BitVec 4) (member : BitVec 3) (s : State),
    s.takesWrite m .reset 0 0x048 v.toNat →
    bitOf v.toNat 0 = true →
    bitsOf v.toNat 16 16 = lockKey →
    s.storeWriting = false →
    exec (.resetDevice m v mode member) s = .next (s.deviceCycle 5 mode member).settle) ∧
  (∀ (m : Fin 7) (v : Word) (s : State),
    s.takesWrite m .reset 0 0x048 v.toNat →
    bitOf v.toNat 1 = true →
    bitsOf v.toNat 16 16 = lockKey →
    s.storeWriting = false →
    exec (.resetControl m v) s = .next ((s.set RESET.HID_CTLFAILS 0).controlReset 7).settle) ∧
  (∀ (mode : BitVec 4) (member : BitVec 3) (s : State),
    s.get RESET.HID_CTLTEST = 1 →
    s.domUp 25 = true →
    s.get RESET.HID_CTLFAILS < 2 →
    exec (.controlRetry mode member) s = .next (((s.set RESET.HID_CTLTEST 0).set RESET.HID_CTLFAILS (s.get RESET.HID_CTLFAILS + 1)).controlReset 8).settle)

/-- Domains are held, pulsed, released in sequence, deasserted and loaded. A write of DOM_HOLD that adds domains, and a DOM_PULSE of domains
by software, count cause 9 and put them in reset; the end of a pulse drops its mask. A release step releases the first step that waits
and raises SEQ_DONE with the last; a domain that is on starts when its reset deasserts; the loader's end shows LOADED, and EMPTY where
no bank is valid. A shutdown record is copied once writes are permitted, with SHUT_REC; XTAL32_FAIL and VBAT_LOW follow their detectors.
(R423; R426; R428; R430; R436; R438; R444.) -/
def Obligations.DomainSequence : Prop :=
  (∀ (m : Fin 7) (v : Word) (news : Nat) (s : State) (t0 : State),
    s.takesWrite m .reset 0 0x04C v.toNat →
    t0 = s.writePlain m .reset 0 0x04C v.toNat →
    maskOff (bitsOf v.toNat 0 22) (s.get RESET.DOM_HOLD_MASK) = news →
    news ≠ 0 →
    exec (.domHoldWrite m v) s = .next ((t0.countReset 9).resetDomains news).settleWait.settle) ∧
  (∀ (m : Fin 7) (v : Word) (s : State),
    s.takesWrite m .reset 0 0x050 v.toNat →
    bitsOf v.toNat 0 22 ≠ 0 →
    s.pulseCause m = 9 →
    exec (.domPulse m v) s = .next ((((s.countReset 9).set RESET.HID_PULSE ((s.countReset 9).get RESET.HID_PULSE ||| bitsOf v.toNat 0 22)).resetDomains (bitsOf v.toNat 0 22)).settleWait).settle) ∧
  (∀ (v : Word) (s : State),
    Completes (exec (.domPulseEnd v) s) fun t => t.get RESET.HID_PULSE = maskOff (s.get RESET.HID_PULSE) (bitsOf v.toNat 0 22) % 2 ^ 22) ∧
  (∀ (l : List Nat) (s : State) (t0 : State),
    releaseSteps.find? (fun x => x.filter (fun d => s.resetBit RESET.HID_WAIT (d - 1)) ≠ []) = some l →
    t0 = ((l.filter (fun d => s.resetBit RESET.HID_WAIT (d - 1))).foldl (fun t d => t.releaseDomain d) s).showHeld →
    exec .releaseStep s = .next (t0.raiseIf (t0.get RESET.HID_WAIT = 0) .reset 0 RESET.EV_SEQ_DONE).settle) ∧
  (∀ (d : Fin 25) (s : State),
    s.resetBit RESET.HID_PON d = true →
    exec (.domainResetDeassert d) s = .next (s.startDomain (d + 1)).settle) ∧
  (∀ (s : State),
    s.get RESET.HID_LOADER = 1 →
    s.loaderOff = false →
    Completes (exec .loaderDone s) fun t => t.get RESET.SEQ_STAT_LOADED = 1 ∧ t.get RESET.SEQ_STAT_EMPTY = flag (s.get NVM.STAT_VALID = 0)) ∧
  (∀ (s : State),
    s.get RESET.BKP_STAT_SHUT_REC = 1 →
    s.domUp 25 = true →
    s.writesPermitted = true →
    Completes (exec .shutRecCopy s) fun t => t.get RESET.BKP_STAT_SHUT_REC = 0 ∧ t.event .reset 0 RESET.EV_SHUT_REC) ∧
  (∀ (absent : Bool) (s : State),
    Completes (exec (.xtal32Fail absent) s) fun t => t.get RESET.BKP_STAT_XTAL32_FAIL = flag absent) ∧
  (∀ (low : Bool) (s : State),
    Completes (exec (.vbatLow low) s) fun t => t.get RESET.BKP_STAT_VBAT_LOW = flag low)

/-- The device enters STANDBY domain by domain, and a wake source ends it. STBY.ENTER with the key, not yet entering, sets BUSY, clears the
wake and makes a MEMBER leave. When all is ready, the domains of the last release step that are powered are switched off; when none is
powered and nothing woke, the device is in standby and BUSY clears. In standby an edge on WAKE, a GPIO of the mask and a link whose wake
is enabled each set WAKE_CAUSE to its source, with the pin or link. (R440; R441; R443.) -/
def Obligations.StandbyAndWaking : Prop :=
  (∀ (m : Fin 7) (v : Word) (s : State) (t0 : State),
    s.takesWrite m .power 0 0x04C v.toNat →
    t0 = s.writePlain m .power 0 0x04C v.toNat →
    bitOf v.toNat 0 = true →
    bitsOf v.toNat 16 16 = lockKey →
    t0.get POWER.STBY_BUSY = 0 →
    Completes (exec (.stbyEnter m v) s) fun t =>
      t.get POWER.STBY_BUSY = 1 ∧ t.get POWER.HID_WAKE = 0 ∧ (t0.member = msMEMBER → t.member = msLEAVING)) ∧
  (∀ (mode : BitVec 4) (member : BitVec 3) (l : List Nat) (s : State) (t0 : State),
    s.stbyReady = true →
    releaseSteps.reverse.find? (fun x => x.filter (fun d => d ≤ 25 && s.domPowered d) ≠ []) = some l →
    t0 = (l.filter (fun d => d ≤ 25 && s.domPowered d)).foldl (fun t d => t.powerOff d) s →
    (List.range 25).any (fun k => t0.domPowered (k + 1)) = true →
    exec (.standbyDomainOff mode member) s = .next t0.settle) ∧
  (∀ (mode : BitVec 4) (member : BitVec 3) (s : State),
    s.stbyReady = true →
    s.get POWER.DOM_STAT_POWERED = 0 →
    s.get POWER.HID_WAKE = 0 →
    Completes (exec (.standbyDomainOff mode member) s) fun t => t.resetBit RESET.HID_SRC srcSTBY = true ∧ t.get POWER.STBY_BUSY = 0) ∧
  (∀ (mode : BitVec 4) (member : BitVec 3) (s : State),
    s.get POWER.STBY_WAKE_PIN_EN = 1 →
    s.resetBit RESET.HID_SRC srcSTBY = true →
    Completes (exec (.wakeEdge mode member) s) fun t => t.get POWER.WAKE_CAUSE_SOURCE = 1) ∧
  (∀ (g : Fin 32) (mode : BitVec 4) (member : BitVec 3) (s : State),
    bitOf (s.get POWER.WAKE_GPIO_MASK) g = true →
    s.resetBit RESET.HID_SRC srcSTBY = true →
    Completes (exec (.wakeGpio g mode member) s) fun t => t.get POWER.WAKE_CAUSE_SOURCE = 2 ∧ t.get POWER.WAKE_CAUSE_GPIO = g) ∧
  (∀ (n : Fin 8) (mode : BitVec 4) (member : BitVec 3) (s : State),
    s.get POWER.STBY_LINK_WAKE_EN = 1 →
    bitOf (s.get POWER.HID_LINKEN) n = true →
    s.resetBit RESET.HID_SRC srcSTBY = true →
    Completes (exec (.linkWake n mode member) s) fun t => t.get POWER.WAKE_CAUSE_SOURCE = 3 ∧ t.get POWER.WAKE_CAUSE_LINK = n)

/-- The start, the life-cycle change, key derivation and destruction, tamper, and the security version. The boot check starts the loader
where PD25 is up and the loader waits; the last section hashed of an accepted image takes Phobos to SYNC and shows the firmware's
version. A life-cycle change asked for and ready is the state asked for, counted, with LC_CHG. A stale key is zeroised; the time limit
of SERVICE clears SERVICE_LEFT; SERVICE_EXIT with the key asks for FIELD; SVN_COMMIT with the key raises the minimum version to the
image's. DERIVE and DESTROY without a refusal answer 0 with DONE and REQ_DONE, the slot's parent shown or the slot EMPTY. A pin tamper
holds and seals, with its source, latch, count and TAMPER; a failed key word loses the root with source 4; the measurement is rewritten
once writes are permitted. (R412; R430; R431; R432; R465; R482; R483; R486; R487; R489; R490; R544.) -/
def Obligations.KeysAndLifeCycle : Prop :=
  (∀ (f : BootFacts) (s : State),
    s.domUp 25 = true →
    s.get RESET.HID_LOADER = 0 →
    s.loaderOff = true →
    Completes (exec (.bootCheck f) s) fun t => t.get RESET.HID_LOADER = 1 ∧ t.get RESET.HID_CTLTEST = 0) ∧
  (∀ (s : State),
    s.booting = some 0 →
    s.get KEYS.IMAGE_STAT_SLOT ≠ 0 →
    s.get RESET.BOOT_STAT_BOOTMODE ≠ 4 →
    s.domUp 25 = true →
    Completes (exec (.imageSectionHash true true) s) fun t =>
      t.sup 0 = suSYNC ∧ t.get GLOBAL.FW_VER_PATCH = bitsOf (s.get KEYS.HID_VER) 0 8 ∧ t.get GLOBAL.FW_VER_MINOR = bitsOf (s.get KEYS.HID_VER) 8 8 ∧
      t.get GLOBAL.FW_VER_MAJOR = bitsOf (s.get KEYS.HID_VER) 16 8) ∧
  (∀ (dest : Fin 4) (s : State),
    s.get KEYS.HID_LCREQ = dest + 1 →
    s.lcReady dest = true →
    Completes (exec .lcChange s) fun t =>
      t.lc = dest ∧ t.get KEYS.CNT_LC_CHANGES = satAdd 32 (s.get KEYS.CNT_LC_CHANGES) 1 ∧ t.event .keys 0 KEYS.EV_LC_CHG) ∧
  (∀ (n : Fin 8) (s : State),
    s.slot n = skSTALE →
    Completes (exec (.staleKeyZeroise n) s) fun t => t.slot n = skEMPTY ∧ t.get KEYS.SLOT_STAT_PARENT 0 n = 0 ∧ t.get KEYS.SLOT_STAT_ENGINES 0 n = 0) ∧
  (∀ (s : State),
    s.lc = lcSERVICE →
    Completes (exec .serviceTimeout s) fun t => t.get KEYS.LC_STAT_SERVICE_LEFT = 0) ∧
  (∀ (m : Fin 7) (v : Word) (s : State),
    s.takesWrite m .keys 0 0x0B8 v.toNat →
    bitsOf v.toNat 16 16 = lockKey →
    bitOf v.toNat 1 = true →
    s.lc = lcSERVICE →
    exec (.serviceExit m v) s = .next (s.askLc lcFIELD).settle) ∧
  (∀ (m : Fin 7) (v : Word) (s : State),
    s.takesWrite m .keys 0 0x0B8 v.toNat →
    bitsOf v.toNat 16 16 = lockKey →
    bitOf v.toNat 0 = true →
    s.get KEYS.IMAGE_STAT_SLOT ≠ 0 →
    Completes (exec (.svnCommit m v) s) fun t => t.get KEYS.MIN_SVN_SVN = max (s.get KEYS.MIN_SVN_SVN) (s.get KEYS.IMAGE_STAT_SVN) % 2 ^ 16) ∧
  (∀ (m : Fin 7) (v : Word) (s : State) (t0 : State),
    s.takesWrite m .keys 0 0x04C v.toNat →
    t0 = s.writePlain m .keys 0 0x04C v.toNat →
    bitOf v.toNat 31 = true →
    bitsOf v.toNat 8 2 = 1 →
    t0.get KEYS.RESP_BUSY = 0 →
    t0.deriveCode (bitsOf v.toNat 0 6) = 0 →
    Completes (exec (.keysDerive m v) s) fun t =>
      t.get KEYS.RESP_CODE = 0 ∧ t.get KEYS.RESP_DONE = 1 ∧ t.event .keys 0 KEYS.EV_REQ_DONE ∧
      t.get KEYS.CNT_DERIVES = satAdd 32 (s.get KEYS.CNT_DERIVES) 1 ∧
      t.get KEYS.SLOT_STAT_PARENT 0 (bitsOf v.toNat 0 6) = t0.get KEYS.REQ_IMG_PARENT % 2 ^ 7) ∧
  (∀ (m : Fin 7) (v : Word) (s : State) (t0 : State),
    s.takesWrite m .keys 0 0x04C v.toNat →
    t0 = s.writePlain m .keys 0 0x04C v.toNat →
    bitOf v.toNat 31 = true →
    bitsOf v.toNat 8 2 = 2 →
    t0.get KEYS.RESP_BUSY = 0 →
    16 ≤ bitsOf v.toNat 0 6 →
    t0.sealedStore = false →
    Completes (exec (.keysDestroy m v) s) fun t =>
      t.get KEYS.RESP_CODE = 0 ∧ t.get KEYS.RESP_DONE = 1 ∧ t.event .keys 0 KEYS.EV_REQ_DONE ∧ t.slot (bitsOf v.toNat 0 6) = skEMPTY) ∧
  (∀ (inKeyOp : Bool) (s : State),
    s.get KEYS.TAMPER_CFG_PIN_EN = 1 →
    s.domUp 25 = true →
    Completes (exec (.tamperAlarm 1 inKeyOp) s) fun t =>
      t.get KEYS.LC_STAT_TAMPER_HOLD = 1 ∧ t.get KEYS.LC_STAT_SEALED = 1 ∧ t.get KEYS.TAMPER_STAT_SOURCE = 1 ∧
      t.get RESET.BKP_STAT_TAMPER_LATCHED = 1 ∧ t.get KEYS.TAMPER_STAT_IN_KEY_OP = flag inKeyOp ∧ t.event .keys 0 KEYS.EV_TAMPER ∧
      t.get KEYS.CNT_TAMPERS = satAdd 32 (s.get KEYS.CNT_TAMPERS) 1) ∧
  (∀ (word : Nat) (s : State),
    s.domUp 25 = true →
    keyWord word = true →
    Completes (exec (.keyRegionFail word true) s) fun t =>
      t.get KEYS.TAMPER_STAT_SOURCE = 4 ∧ t.get KEYS.TAMPER_STAT_ROOT_LOST = 1 ∧ t.get KEYS.LC_STAT_ROOT_VALID = 0 ∧ t.keys.root = none ∧
      t.get RESET.BKP_STAT_TAMPER_LATCHED = 1 ∧ t.get KEYS.LC_STAT_TAMPER_HOLD = 1) ∧
  (∀ (s : State),
    s.keys.rewrite = true →
    s.domUp 25 = true →
    s.writesPermitted = true →
    s.sealedStore = false →
    s.get NVM.STAT_STATE < nvMERGE →
    Completes (exec .measRewrite s) fun t => t.keys.rewrite = false ∧ t.keys.meas = some s.measNow)

/-- What a sample, a sensor's self-test, the stages, shedding, the plane and a restart do. A sample below 118.0 degrees C shows the hottest
sensor and takes TCTL from it. A SUSPECT sensor that passes its self-test is OK, one that fails is FAILED, counted, with SENSOR_FAIL;
SENSOR_CTL.TEST asks for one. The learned offset is the mean of the day's deviations. A stage that may fall falls by one with
STAGE_DOWN; the display hold ends; a rise of 500 samples at stage 0 enters stage 1 with RISE and STAGE_UP, counted. At stage 3 or above
a tick not yet 0.5 degree colder sheds one item; below, the 60 s wait ends. At stage 4 or above an emptied plane is switched off; at
stage 5 an accepted offload raises OFFLOAD; a restart from thermal shutdown counts and locks out after the third. (R446; R447; R448;
R449; R451; R452; R453; R454; R455; R457; R459; R461.) -/
def Obligations.Thermal : Prop :=
  (∀ (f : SensorFacts) (s : State) (t0 : State) (hot : Nat),
    t0 = (List.range 32).foldl (fun t k => t.showSensor f k) ((List.range 32).foldl (fun t k => t.watchSensor f k) s) →
    hot = hotSensor (fun k => signedOf 16 (t0.get THERMAL.THS_TEMP 0 k)) →
    signedOf 16 (t0.get THERMAL.THS_TEMP 0 hot) < 1180 →
    Completes (exec (.sensorSample f) s) fun t =>
      t.get THERMAL.STAT_HOT = hot ∧ t.tctl = signedOf 16 (t0.get THERMAL.THS_TEMP 0 hot)) ∧
  (∀ (k : Fin 32) (s : State),
    s.sensor k = thSUSPECT →
    Completes (exec (.sensorSelftestEnd k true) s) fun t => t.sensor k = thOK) ∧
  (∀ (k : Fin 32) (s : State),
    s.sensor k = thSUSPECT →
    Completes (exec (.sensorSelftestEnd k false) s) fun t =>
      t.sensor k = thFAILED ∧ t.get THERMAL.CNT_SENSOR_FAILS = satAdd 32 (s.get THERMAL.CNT_SENSOR_FAILS) 1 ∧ t.event .thermal 0 THERMAL.EV_SENSOR_FAIL) ∧
  (∀ (m : Fin 7) (v : Word) (s : State),
    s.takesWrite m .thermal 0 0x054 v.toNat →
    bitOf v.toNat 8 = true →
    Completes (exec (.sensorTest m v) s) fun t => t.get THERMAL.HID_TESTING 0 (bitsOf v.toNat 0 5) = 1) ∧
  (∀ (k : Fin 32) (l : List (Int × Nat)) (s : State),
    NTable.find s.thermal.sums k = some l →
    (sumsTotal l).2 ≠ 0 →
    Completes (exec .offsetUpdate s) fun t => t.get THERMAL.THS_OFFSET 0 k = ofSigned 16 ((sumsTotal l).1 / ((sumsTotal l).2 : Int)) % 2 ^ 16) ∧
  (∀ (s : State),
    s.mayLower = true →
    Completes (exec .stageLower s) fun t =>
      t.get THERMAL.STAT_STAGE = (s.get THERMAL.STAT_STAGE - 1) % 2 ^ 3 ∧ t.get THERMAL.STAT_RISE_ACTIVE = 0 ∧ t.event .thermal 0 THERMAL.EV_STAGE_DOWN) ∧
  (∀ (s : State),
    Completes (exec .stageHoldEnd s) fun t => t.get THERMAL.STAT_HOLD = 0) ∧
  (∀ (s : State),
    500 ≤ s.get THERMAL.HID_RISING →
    s.get THERMAL.STAT_STAGE = 0 →
    Completes (exec .riseEnter s) fun t =>
      t.get THERMAL.STAT_STAGE = 1 ∧ t.get THERMAL.STAT_RISE_ACTIVE = 1 ∧ t.event .thermal 0 THERMAL.EV_RISE ∧ t.event .thermal 0 THERMAL.EV_STAGE_UP ∧
      t.get THERMAL.CNT_RISE_ENTRIES = satAdd 32 (s.get THERMAL.CNT_RISE_ENTRIES) 1) ∧
  (∀ (s : State),
    3 ≤ s.get THERMAL.STAT_STAGE →
    ¬ s.tctl + 5 ≤ s.thermal.lastTick →
    exec .t3ShedTick s = .next (State.shedOne { s with thermal := { s.thermal with lastTick := s.tctl } } (fun _ _ => true)).settle) ∧
  (∀ (s : State),
    s.get THERMAL.STAT_STAGE < 3 →
    Completes (exec .t3RestoreHoldEnd s) fun t => t.get THERMAL.HID_T3WAIT = 0) ∧
  (∀ (pl : Nat) (s : State),
    [0, 1].find? (fun x => s.get FABRIC.HID_EMPTY x = 1) = some pl →
    s.planeEmpty pl = true →
    4 ≤ s.get THERMAL.STAT_STAGE →
    Completes (exec .t4PlaneOff s) fun t => t.get THERMAL.HID_PLANEOFF = pl + 1 ∧ t.resetBit RESET.HID_OFFREQ (6 + pl) = true ∧ t.get FABRIC.HID_EMPTY pl = 0) ∧
  (∀ (mem : Fin 8) (s : State),
    5 ≤ s.get THERMAL.STAT_STAGE →
    s.get THERMAL.CFG_OFFLOAD_EN = 1 →
    s.member = msMEMBER →
    s.streamsFor mem ≠ [] →
    Completes (exec (.offload mem true true) s) fun t => t.event .thermal 0 THERMAL.EV_OFFLOAD) ∧
  (∀ (mode : BitVec 4) (member : BitVec 3) (s : State),
    s.resetBit RESET.HID_SRC srcSHUT = true →
    s.get THERMAL.CFG_RESTART_EN = 1 →
    s.get THERMAL.RESTART_LOCKOUT = 0 →
    s.tctl ≤ 10 * (s.get THERMAL.CFG_RESTART_TEMP : Int) →
    Completes (exec (.thermalRestart mode member) s) fun t =>
      t.get THERMAL.RESTART_COUNT = min 3 (s.restartsLately.length + 1) ∧ t.get THERMAL.RESTART_LOCKOUT = flag (2 ≤ s.restartsLately.length))

/-- A store starts, is written, ends, is aborted and discarded, and the array is read, written and scanned. With the store idle, unsealed,
unprotected and permitted, CTL.STORE enters MERGE at word 0, and with SNAPSHOT as a snapshot. ABORT of a waiting store ends it as
ABORTED with STORE_FAIL; DISCARD empties staging; SELFTEST scans the array. A waiting store whose temperature window opens enters MERGE.
A word written in MERGE moves on to WRITE; a word that fails counts with ERR_ADDR kind 1 and STORE_FAIL; the commit word makes the bank
that was written valid with the record, counted, with STORE_DONE. The scan ends with SELFTEST_DONE. A raw read of a word that holds no
key shows it, a raw write permitted stores it. The hourly copy stores the counters, and a corrected word is rewritten. (R463; R465;
R468; R472; R473; R474; R476; R478; R479.) -/
def Obligations.NonVolatileStore : Prop :=
  (∀ (m : Fin 7) (s : State),
    s.takesWrite m .nvm 0 0x044 1 →
    s.get NVM.STAT_STATE = nvIDLE →
    s.sealedStore = false →
    s.get NVM.CFG_PROTECT < 2 →
    s.writesPermitted = true →
    Completes (exec (.nvmStore m) s) fun t => t.get NVM.STAT_STATE = nvMERGE ∧ t.get NVM.PROGRESS_WORDS = 0 ∧ t.get NVM.HID_SNAP = 0) ∧
  (∀ (m : Fin 7) (v : Word) (s : State),
    s.takesWrite m .nvm 0 0x044 v.toNat →
    bitOf v.toNat 0 = true →
    bitOf v.toNat 2 = true →
    s.get NVM.STAT_STATE = nvIDLE →
    s.sealedStore = false →
    s.get NVM.CFG_PROTECT < 2 →
    s.writesPermitted = true →
    Completes (exec (.nvmSnapshot m v) s) fun t => t.get NVM.STAT_STATE = nvMERGE ∧ t.get NVM.PROGRESS_WORDS = 0 ∧ t.get NVM.HID_SNAP = 1) ∧
  (∀ (m : Fin 7) (s : State),
    s.takesWrite m .nvm 0 0x044 2 →
    s.get NVM.STAT_STATE = nvWAIT →
    s.get NVM.HID_SCAN = 0 →
    Completes (exec (.nvmAbort m) s) fun t =>
      t.get NVM.STAT_STATE = nvIDLE ∧ t.get NVM.STAT_QUEUED = 0 ∧ t.get NVM.STAT_RESULT = rsABORTED ∧ t.event .nvm 0 NVM.EV_STORE_FAIL) ∧
  (∀ (m : Fin 7) (s : State),
    s.takesWrite m .nvm 0 0x044 8 →
    s.get NVM.STAT_STATE = nvIDLE →
    exec (.nvmDiscard m) s = .next (State.showStage { s with nvm := { s.nvm with staged := [], after := [] } }).settle) ∧
  (∀ (m : Fin 7) (s : State),
    s.takesWrite m .nvm 0 0x044 16 →
    s.get NVM.STAT_STATE = nvIDLE →
    Completes (exec (.nvmSelftest m) s) fun t => t.get NVM.STAT_STATE = nvTEST) ∧
  (∀ (s : State),
    s.get NVM.STAT_STATE = nvWAIT →
    s.tctl < 1030 →
    -380 < s.tctl →
    s.sealedStore = false →
    s.get NVM.CFG_PROTECT < 2 →
    Completes (exec .tempWindowOpen s) fun t => t.get NVM.STAT_STATE = nvMERGE ∧ t.get NVM.PROGRESS_WORDS = 0) ∧
  (∀ (r : NvmRecord) (s : State),
    s.nvm.writing = some r →
    s.get NVM.STAT_STATE = nvMERGE →
    s.get NVM.PROGRESS_WORDS < r.length + 8 →
    Completes (exec (.nvmWordWrite true) s) fun t =>
      t.get NVM.STAT_STATE = nvWRITE ∧ t.get NVM.PROGRESS_WORDS = (s.get NVM.PROGRESS_WORDS + 1) % 2 ^ 18) ∧
  (∀ (r : NvmRecord) (s : State),
    s.nvm.writing = some r →
    s.get NVM.STAT_STATE = nvWRITE →
    Completes (exec (.nvmWordWrite false) s) fun t =>
      t.get NVM.CNT_WRITE_FAILS = satAdd 32 (s.get NVM.CNT_WRITE_FAILS) 1 ∧ t.get NVM.ERR_ADDR_KIND = 1 ∧ t.event .nvm 0 NVM.EV_STORE_FAIL) ∧
  (∀ (r : NvmRecord) (s : State),
    s.nvm.writing = some r →
    s.get NVM.STAT_STATE = nvWRITE →
    s.get NVM.PROGRESS_WORDS = r.length + 8 →
    Completes (exec .commitWriteDone s) fun t =>
      t.get NVM.STAT_VALID = (if s.targetB then 2 else 1) ∧ t.get NVM.CNT_STORES = satAdd 32 (s.get NVM.CNT_STORES) 1 ∧
      t.event .nvm 0 NVM.EV_STORE_DONE ∧ (if s.targetB then t.nvm.bankB else t.nvm.bankA) = some r) ∧
  (∀ (corrected : List Nat) (bad : List Nat) (s : State),
    s.get NVM.STAT_STATE = nvTEST →
    Completes (exec (.arrayScanEnd corrected bad) s) fun t => t.event .nvm 0 NVM.EV_SELFTEST_DONE) ∧
  (∀ (m : Fin 7) (s : State),
    s.takesWrite m .nvm 0 0x080 1 →
    keyWord (s.get NVM.RAW_ADDR_WORD) = false →
    Completes (exec (.rawRead m 0) s) fun t =>
      t.get NVM.RAW_LO_DATA = bitsOf (s.arrayWord (s.get NVM.RAW_ADDR_WORD)) 0 32 ∧
      t.get NVM.RAW_HI_DATA = bitsOf (s.arrayWord (s.get NVM.RAW_ADDR_WORD)) 32 32 ∧ t.get NVM.RAW_CTL_DONE = 1 ∧ t.get NVM.RAW_CTL_ERR = 0) ∧
  (∀ (m : Fin 7) (s : State),
    s.takesWrite m .nvm 0 0x080 2 →
    s.rawWritable = true →
    Completes (exec (.rawWrite m) s) fun t =>
      t.nvm.words = NTable.putD s.nvm.words (s.get NVM.RAW_ADDR_WORD) (s.get NVM.RAW_LO_DATA + s.get NVM.RAW_HI_DATA * 2 ^ 32) 0 ∧
      t.get NVM.RAW_CTL_DONE = 1 ∧ t.get NVM.RAW_CTL_ERR = 0) ∧
  (∀ (s : State),
    s.domUp 25 = true →
    s.writesPermitted = true →
    Completes (exec .counterCopy s) fun t => t.nvm.counters = s.regs.filter (fun e => counterCopied e.1.field)) ∧
  (∀ (s : State),
    s.domUp 25 = true →
    s.writesPermitted = true →
    Completes (exec .correctedRewrite s) fun t => t.nvm.rewrites = s.nvm.rewrites.drop 1)

/-- The PCIe link, its resets, its configuration requests and poisoned requests. With PD25 up, a link that trains shows LINK_UP, speed and
width with LINK_UP raised; a link lost counts with LINK_DOWN; a hot reset and a link disable take the link down with MSI-X disabled (log
entry 65); a function-level reset leaves the link, clears the MSI-X enable and mask and disables every host queue; a configuration
request sets the enable and the mask; a poisoned write is recorded with kind 6, counted, with ACCESS_ERR. (R498; R501; R502; R506;
R519.) -/
def Obligations.HostInterface : Prop :=
  (∀ (speed : Fin 4) (width : Fin 3) (s : State),
    s.domUp 25 = true →
    s.get BUSMATRIX.PCIE_STAT_LINK_UP = 0 →
    Completes (exec (.pcieLinkUp speed width) s) fun t =>
      t.get BUSMATRIX.PCIE_STAT_LINK_UP = 1 ∧ t.get BUSMATRIX.PCIE_STAT_SPEED = speed + 1 ∧ t.get BUSMATRIX.PCIE_STAT_WIDTH = 2 ^ width.val ∧
      t.event .busmatrix 0 BUSMATRIX.EV_LINK_UP) ∧
  (∀ (s : State),
    s.domUp 25 = true →
    s.get BUSMATRIX.PCIE_STAT_LINK_UP = 1 →
    Completes (exec .pcieLinkDown s) fun t =>
      t.get BUSMATRIX.PCIE_STAT_LINK_UP = 0 ∧ t.get BUSMATRIX.CNT_LINK_DOWNS = satAdd 32 (s.get BUSMATRIX.CNT_LINK_DOWNS) 1 ∧
      t.event .busmatrix 0 BUSMATRIX.EV_LINK_DOWN) ∧
  (∀ (s : State),
    s.domUp 25 = true →
    s.get BUSMATRIX.PCIE_STAT_LINK_UP = 1 →
    Completes (exec .hotReset s) fun t =>
      t.get BUSMATRIX.PCIE_STAT_LINK_UP = 0 ∧ t.get BUSMATRIX.PCIE_STAT_MSIX_EN = 0 ∧ t.event .busmatrix 0 BUSMATRIX.EV_LINK_DOWN) ∧
  (∀ (s : State),
    s.domUp 25 = true →
    s.get BUSMATRIX.PCIE_STAT_LINK_UP = 1 →
    Completes (exec .linkDisable s) fun t =>
      t.get BUSMATRIX.PCIE_STAT_LINK_UP = 0 ∧ t.get BUSMATRIX.PCIE_STAT_MSIX_EN = 0 ∧ t.event .busmatrix 0 BUSMATRIX.EV_LINK_DOWN) ∧
  (∀ (s : State),
    s.domUp 25 = true →
    Completes (exec .functionLevelReset s) fun t =>
      t.get BUSMATRIX.PCIE_STAT_MSIX_EN = 0 ∧ t.get BUSMATRIX.PCIE_STAT_FN_MASK = 0 ∧
      t.get BUSMATRIX.PCIE_STAT_LINK_UP = s.get BUSMATRIX.PCIE_STAT_LINK_UP ∧
      ∀ q : Fin 16, t.get FLOW.HQ_RX_EN 3 q = 0 ∧ t.get FLOW.HQ_TX_EN 3 q = 0) ∧
  (∀ (en : Bool) (fnMask : Bool) (s : State),
    s.get BUSMATRIX.PCIE_STAT_LINK_UP ≠ 0 →
    Completes (exec (.configRequest false (some (en, fnMask))) s) fun t =>
      t.get BUSMATRIX.PCIE_STAT_MSIX_EN = flag en ∧ t.get BUSMATRIX.PCIE_STAT_FN_MASK = flag fnMask) ∧
  (∀ (addr : Nat) (s : State),
    s.busUp = true →
    s.get BUSMATRIX.PCIE_STAT_LINK_UP = 1 →
    s.get BUSMATRIX.ERR_INFO_VALID = 0 →
    Completes (exec (.poisonedTlp addr) s) fun t =>
      t.get BUSMATRIX.ERR_INFO_VALID = 1 ∧ t.get BUSMATRIX.ERR_INFO_KIND = 6 ∧ t.get BUSMATRIX.ERR_INFO_MASTER = 6 ∧
      t.get BUSMATRIX.ERR_ADDR_LO_ADDR = bitsOf addr 0 32 ∧ t.get BUSMATRIX.ERR_ADDR_HI_ADDR = bitsOf addr 32 8 ∧
      t.get BUSMATRIX.CNT_ACCESS_ERRS = satAdd 32 (s.get BUSMATRIX.CNT_ACCESS_ERRS) 1 ∧ t.event .busmatrix 0 BUSMATRIX.EV_ACCESS_ERR)

/-- A page's lock opens and closes, its events are forced and cleared, and the error record is cleared. For every page, a PAGE_LOCK write
with the key and not CLOSE opens the lock with FREEZE and MASTERS as written (masters 0 to 2 always), a CLOSE closes it, and it closes
by itself; EVT_FORCE sets each event bit written; EVT_STAT clears what is written; and ERR_INFO.VALID is cleared. (R506; R509; R514;
R518.) -/
def Obligations.PageHeaders : Prop :=
  (∀ (m : Fin 7) (p : Page) (i : Nat) (v : Word) (s : State),
    i < p.instances →
    p.code < 0x80 →
    s.takesWrite m p i 0x024 v.toNat →
    bitsOf v.toNat 16 16 = lockKey →
    bitOf v.toNat 1 = false →
    Completes (exec (.pageLockOpen m p i v) s) fun t =>
      t.get (HDR.LOCK_OPEN p) i = 1 ∧ t.get (HDR.FREEZE p) i = bitsOf v.toNat 2 1 ∧ t.get (HDR.MASTERS p) i = (bitsOf v.toNat 8 7 ||| 7)) ∧
  (∀ (m : Fin 7) (p : Page) (i : Nat) (v : Word) (s : State),
    i < p.instances →
    p.code < 0x80 →
    s.takesWrite m p i 0x024 v.toNat →
    bitOf v.toNat 1 = true →
    Completes (exec (.pageLockClose m p i v) s) fun t => t.get (HDR.LOCK_OPEN p) i = 0) ∧
  (∀ (p : Page) (i : Nat) (s : State),
    Completes (exec (.lockTimeout p i) s) fun t => t.get (HDR.LOCK_OPEN p) i = 0) ∧
  (∀ (m : Fin 7) (p : Page) (i : Nat) (v : Word) (b : Nat) (s : State),
    i < p.instances →
    p.code < 0x80 →
    s.takesWrite m p i 0x018 v.toNat →
    bitOf (v.toNat &&& p.events) b = true →
    Completes (exec (.evtForce m p i v) s) fun t => t.event p i b) ∧
  (∀ (m : Fin 7) (p : Page) (i : Nat) (v : Word) (s : State),
    i < p.instances →
    p.code < 0x80 →
    s.takesWrite m p i 0x010 v.toNat →
    exec (.evtW1c m p i v) s = .next (s.clearEvents p i v.toNat).settle) ∧
  (∀ (m : Fin 7) (s : State),
    s.takesWrite m .busmatrix 0 0x058 0x80000000 →
    Completes (exec (.errInfoClear m) s) fun t => t.get BUSMATRIX.ERR_INFO_VALID = 0)

/-- MSI-X holdoff, the log's queue and repeats, doorbells, GPIO edges, the flow aperture and the latched reads. A holdoff that ends lets its
vector be sent; the repeats counted are logged at the end of their window; the queue's oldest entry is written to the ring with its
seal. A doorbell is set and cleared by DB_CTL; an edge of a selected kind on a GPIO is latched with its level; the flow aperture of a
master is set; and reads of UPTIME_LO, RTC_S_LO and LAST_REF_STAMP_LO latch the words beside them. (R444; R474; R519; R521; R528; R531;
R533; R569.) -/
def Obligations.EventsAndLog : Prop :=
  (∀ (v : Fin 64) (s : State),
    exec (.msixHoldoffEnd v) s = .next (State.msixTry { s with evt := { s.evt with msixHoldoff := clrBit s.evt.msixHoldoff v } } v).settle) ∧
  (∀ (s : State),
    exec .logRepeatFlush s = .next (s.evt.risings.foldl (fun (u : State) e => u.repeatEntry e.1 e.2) { s with evt := { s.evt with risings := [] } }).settle) ∧
  (∀ (e : LogEntry) (rest : List LogEntry) (s : State),
    s.domUp 25 = true →
    s.writesPermitted = true →
    s.evt.logQueue = e :: rest →
    exec .logQueueWrite s = .next ((State.ringWrite { s with evt := { s.evt with logQueue := rest } } e).sealRing.lostEntry).settle) ∧
  (∀ (m : Fin 7) (v : Word) (s : State),
    s.takesWrite m .event 0 0x240 v.toNat →
    bitOf v.toNat 16 = true →
    Completes (exec (.dbSet m v) s) fun t => bitOf (t.get EVENT.DB_STAT_DB 0 (bitsOf v.toNat 0 9 / 32)) (bitsOf v.toNat 0 9 % 32) = true) ∧
  (∀ (m : Fin 7) (v : Word) (s : State),
    s.takesWrite m .event 0 0x240 v.toNat →
    bitOf v.toNat 16 = false →
    bitOf v.toNat 17 = true →
    Completes (exec (.dbClear m v) s) fun t => bitOf (t.get EVENT.DB_STAT_DB 0 (bitsOf v.toNat 0 9 / 32)) (bitsOf v.toNat 0 9 % 32) = false) ∧
  (∀ (g : Fin 32) (s : State),
    bitOf (s.get GPIO.EDGE_RISE_EDGE) g = true →
    Completes (exec (.gpioEdge g true) s) fun t =>
      bitOf (t.get GPIO.IN_LEVEL) g = true ∧ bitOf (t.get EVENT.GPIO_LATCH_EDGE) g = true) ∧
  (∀ (g : Fin 32) (s : State),
    bitOf (s.get GPIO.EDGE_FALL_EDGE) g = true →
    Completes (exec (.gpioEdge g false) s) fun t =>
      bitOf (t.get GPIO.IN_LEVEL) g = false ∧ bitOf (t.get EVENT.GPIO_LATCH_EDGE) g = true) ∧
  (∀ (m : Fin 7) (v : Word) (s : State),
    s.takesWrite m .global 0 0x04C v.toNat →
    Completes (exec (.flowApertureWrite m v) s) fun t => t.aperture m = bitsOf v.toNat 0 GLOBAL.WIN_CFG_FLOW_APERTURE.width) ∧
  (∀ (m : Fin 7) (s : State),
    s.takesRead m .reset 0 0x06C →
    Completes (exec (.uptimeRead m) s) fun t => t.get RESET.UPTIME_HI_COUNT = bitsOf s.clk.uptime 32 16) ∧
  (∀ (m : Fin 7) (s : State),
    s.takesRead m .reset 0 0x074 →
    Completes (exec (.rtcRead m) s) fun t =>
      t.get RESET.RTC_S_HI_SECONDS = bitsOf s.clk.rtcSeconds 32 16 ∧ t.get RESET.RTC_SUB_FRACTION = s.clk.rtcSub % 2 ^ RESET.RTC_SUB_FRACTION.width) ∧
  (∀ (m : Fin 7) (s : State),
    s.takesRead m .ledger 0 0x070 →
    Completes (exec (.lastRefStampRead m) s) fun t =>
      t.get LEDGER.LAST_REF_STAMP_HI_STAMP = s.get LEDGER.HID_REFSTAMP % 2 ^ LEDGER.LAST_REF_STAMP_HI_STAMP.width)

/-- The I2C buses, the Firefly hold and the instructions of the scan chain. I2C_XFER with GO on an enabled idle bus sets BUSY and clears
DONE, NACK and TIMEOUT; a read acknowledged ends with DONE and its data, one not acknowledged with NACK and I2C_ERR; a poll whose byte
changed shows it with I2C_CHG; a timeout ends with TIMEOUT and I2C_ERR. The Firefly row's hold ends. Each of the eight instructions of
the scan chain loads its code of R567; BYPASS captures 0, IDCODE the identifier, the four boundary ones the pins with the boundary
register as shifted, and CLAMP and HIGHZ keep the boundary register. (The layout of the identifier is presumed, log entry 46.) (R549;
R567; R569; R570.) -/
def Obligations.BoardBusesAndScan : Prop :=
  (∀ (m : Fin 7) (k : Fin 8) (v : Word) (s : State) (t0 : State),
    s.takesWrite m .gpio 0 (0x084 + 0x10 * k.val) v.toNat →
    t0 = s.writePlain m .gpio 0 (0x084 + 0x10 * k.val) v.toNat →
    bitOf v.toNat 31 = true →
    t0.get GPIO.I2C_STAT_BUSY 0 k = 0 →
    t0.get GPIO.I2C_CFG_EN 0 k = 1 →
    Completes (exec (.i2cXferGo m k v) s) fun t =>
      t.get GPIO.I2C_STAT_BUSY 0 k = 1 ∧ t.get GPIO.I2C_STAT_DONE 0 k = 0 ∧ t.get GPIO.I2C_STAT_NACK 0 k = 0 ∧ t.get GPIO.I2C_STAT_TIMEOUT 0 k = 0) ∧
  (∀ (k : Fin 8) (data : BitVec 8) (s : State),
    s.get GPIO.I2C_STAT_BUSY 0 k = 1 →
    s.get GPIO.HID_XWRITE 0 k = 0 →
    Completes (exec (.i2cXferDone k true data) s) fun t =>
      t.get GPIO.I2C_STAT_BUSY 0 k = 0 ∧ t.get GPIO.I2C_STAT_DONE 0 k = 1 ∧ t.get GPIO.I2C_STAT_DATA 0 k = data.toNat) ∧
  (∀ (k : Fin 8) (data : BitVec 8) (s : State),
    s.get GPIO.I2C_STAT_BUSY 0 k = 1 →
    Completes (exec (.i2cXferDone k false data) s) fun t =>
      t.get GPIO.I2C_STAT_BUSY 0 k = 0 ∧ t.get GPIO.I2C_STAT_NACK 0 k = 1 ∧ t.event .gpio 0 (GPIO.EV_I2C_ERR + k)) ∧
  (∀ (k : Fin 8) (data : BitVec 8) (s : State),
    s.get GPIO.I2C_CFG_EN 0 k = 1 →
    s.get GPIO.I2C_CFG_POLL_EN 0 k = 1 →
    s.get GPIO.I2C_STAT_BUSY 0 k = 0 →
    s.get GPIO.I2C_STAT_POLL_VAL 0 k ≠ data.toNat →
    Completes (exec (.i2cPoll k true data) s) fun t =>
      t.get GPIO.I2C_STAT_POLL_VAL 0 k = data.toNat ∧ t.event .gpio 0 (GPIO.EV_I2C_CHG + k)) ∧
  (∀ (k : Fin 8) (s : State),
    s.get GPIO.I2C_STAT_BUSY 0 k = 1 →
    Completes (exec (.i2cTimeout k) s) fun t =>
      t.get GPIO.I2C_STAT_BUSY 0 k = 0 ∧ t.get GPIO.I2C_STAT_TIMEOUT 0 k = 1 ∧ t.event .gpio 0 (GPIO.EV_I2C_ERR + k)) ∧
  (∀ (s : State),
    exec .fireflyHoldEnd s = .next (s.set GPIO.HID_FFHOLD 0).settle) ∧
  (∀ (s : State),
    Completes (exec .bypass s) fun t => t.jtag.ir = 0xFF ∧ t.jtag.captured = 0) ∧
  (∀ (s : State),
    Completes (exec .idcode s) fun t => t.jtag.ir = 0x01 ∧ t.jtag.captured = Sys2Proof.Machine.idcode) ∧
  (∀ (pins : Nat) (value : Nat) (s : State),
    Completes (exec (.samplePreload pins value) s) fun t => t.jtag = { ir := 0x02, captured := pins, boundary := value }) ∧
  (∀ (pins : Nat) (value : Nat) (s : State),
    Completes (exec (.extest pins value) s) fun t => t.jtag = { ir := 0x00, captured := pins, boundary := value }) ∧
  (∀ (s : State),
    Completes (exec .clamp s) fun t => t.jtag.ir = 0x04 ∧ t.jtag.boundary = s.jtag.boundary) ∧
  (∀ (s : State),
    Completes (exec .highz s) fun t => t.jtag.ir = 0x05 ∧ t.jtag.boundary = s.jtag.boundary) ∧
  (∀ (pins : Nat) (value : Nat) (s : State),
    Completes (exec (.extestPulse pins value) s) fun t => t.jtag = { ir := 0x0A, captured := pins, boundary := value }) ∧
  (∀ (pins : Nat) (value : Nat) (s : State),
    Completes (exec (.extestTrain pins value) s) fun t => t.jtag = { ir := 0x0B, captured := pins, boundary := value })

/-- The console starts, slows, answers its queries and counts unknown and overlong lines. The console starts with its banner where PD25 is
up; a break sets the slow rate. Where the console is free, an unknown line is answered ERR 01 and one too long ERR 11, dropped bytes
counted with RX_OVERRUN; HELLO, STATUS, REF, MEM, LEDGER and SUP answer as their meanings compose them; RD and RT of 1 to 64 registers
or lines are that many accesses of master 4; LOG and STEPS answer the newest entries of their rings, oldest first. (R537; R538; R539;
R540.) -/
def Obligations.ConsoleQueries : Prop :=
  (∀ (s : State),
    s.domUp 25 = true →
    s.console.started = false →
    Completes (exec .consoleStart s) fun t => t.console.started = true ∧ 200 ∈ t.console.lines) ∧
  (∀ (s : State),
    s.domUp 25 = true →
    Completes (exec .consoleBreak s) fun t => t.console.slow = true) ∧
  (∀ (long : Bool) (s : State),
    s.consoleFree →
    exec (.unknownCommand long 0) s = .next (s.beginLine.reply (if long then 11 else 1)).lineShown) ∧
  (∀ (long : Bool) (dropped : Nat) (s : State),
    s.consoleFree →
    0 < dropped →
    Completes (exec (.unknownCommand long dropped) s) fun t =>
      t.event .service 0 SERVICE.EV_RX_OVERRUN ∧ t.get SERVICE.CNT_RX_OVERRUNS = satAdd 32 (s.get SERVICE.CNT_RX_OVERRUNS) dropped ∧
      t.get SERVICE.CNT_LINES = satAdd 32 (s.get SERVICE.CNT_LINES) 1 ∧ t.console.code = 11) ∧
  (∀ (s : State),
    s.consoleFree →
    exec .hello s = .next s.beginLine.runHello.lineShown) ∧
  (∀ (s : State),
    s.consoleFree →
    exec .status s = .next s.beginLine.runStatus.lineShown) ∧
  (∀ (p : Page) (i : Nat) (off : Nat) (n : Nat) (s : State),
    s.consoleFree →
    namesRegister p i off = true →
    1 ≤ n →
    n ≤ 64 →
    off + 4 * n ≤ 0x1000 →
    exec (.rd p i off (some n)) s = .next (s.beginLine.consoleRead 4 ((List.range n).map (fun k => p.base + 0x1000 * i + off + 4 * k))).lineShown) ∧
  (∀ (win : Fin 5) (off : Nat) (n : Nat) (s : State),
    s.consoleFree →
    off % 8 = 0 →
    1 ≤ n →
    n ≤ 64 →
    off + 8 * n ≤ (tableWindow win).2 →
    exec (.rt win off (some n)) s = .next (s.beginLine.consoleRead 8 ((List.range n).map (fun k => (tableWindow win).1 + off + 8 * k))).lineShown) ∧
  (∀ (n : Nat) (s : State),
    s.consoleFree →
    1 ≤ n →
    n ≤ 64 →
    Completes (exec (.log (some n)) s) fun t =>
      t.console.code = 0 ∧ t.console.data = (lastEntries logRingSize s.evt.logHead n).flatMap (fun k => ((NTable.find s.evt.logRing k).map LogEntry.words).getD [])) ∧
  (∀ (n : Nat) (s : State),
    s.consoleFree →
    1 ≤ n →
    n ≤ 64 →
    Completes (exec (.steps (some n)) s) fun t =>
      t.console.code = 0 ∧ t.console.data = (lastEntries stepLogSize (s.get REPAIR.LOG_HEAD_NEXT) n).flatMap (fun k => ((NTable.find s.repair.log k).map StepEntry.words).getD [])) ∧
  (∀ (s : State),
    s.consoleFree →
    exec .ref s = .next s.beginLine.runRef.lineShown) ∧
  (∀ (s : State),
    s.consoleFree →
    exec .mem s = .next s.beginLine.runMem.lineShown) ∧
  (∀ (s : State),
    s.consoleFree →
    exec .ledger s = .next s.beginLine.runLedger.lineShown) ∧
  (∀ (s : State),
    s.consoleFree →
    exec .sup s = .next s.beginLine.runSup.lineShown)

/-- A session is authenticated, ends, waits for a confirmation, and a lockout ends. AUTH outside a session, tamper hold and lockout answers
a challenge of four groups; AUTH SIG with a good signature in FIELD asks for SERVICE and waits; the third bad one within ten minutes
locks out for 600 s with AUTH_FAIL, LOCKOUT and ERR 05. EXIT with a good tag ends the session with !END, with a bad one is ERR 05 with
TAG_FAIL. CLEAR_TAMPER in tamper hold, and RETIRE and both FUSE commands in a session, wait for a confirmation, with CONFIRM_WAIT;
confirmed, a FUSE sets the maker's hash not yet fused, and CLEAR_TAMPER ends the hold; not confirmed in time, the line is ERR 08. Idle
minutes end the session; the lockout ends. (R484; R493; R544; R545.) -/
def Obligations.ConsoleSessions : Prop :=
  (∀ (s : State),
    s.consoleFree →
    s.get KEYS.LC_STAT_TAMPER_HOLD = 0 →
    s.get SERVICE.STAT_LOCKED_OUT = 0 →
    s.console.session = false →
    Completes (exec .auth s) fun t => t.console.challenge.isSome ∧ t.console.code = 0 ∧ t.console.data.length = 4) ∧
  (∀ (maker : Bool) (s : State),
    s.consoleFree →
    s.get KEYS.LC_STAT_TAMPER_HOLD = 0 →
    s.get SERVICE.STAT_LOCKED_OUT = 0 →
    s.console.session = false →
    s.console.challenge.isSome = true →
    s.lc = lcFIELD →
    exec (.authSig true maker) s = .next ((s.beginLine.con (fun c => { c with challenge := none, waits := 1 })).askLc lcSERVICE).lineShown) ∧
  (∀ (s : State),
    s.consoleFree →
    s.get KEYS.LC_STAT_TAMPER_HOLD = 0 →
    s.get SERVICE.STAT_LOCKED_OUT = 0 →
    s.console.session = false →
    s.console.challenge.isSome = true →
    s.lc = lcFIELD →
    2 ≤ (s.console.fails.filter (fun x => s.clk.uptime < x + tenMinutes)).length →
    Completes (exec (.authSig false false) s) fun t =>
      t.get SERVICE.STAT_LOCKED_OUT = 1 ∧ t.get SERVICE.STAT_LOCKOUT_LEFT = 600 ∧ t.event .service 0 SERVICE.EV_AUTH_FAIL ∧
      t.event .service 0 SERVICE.EV_LOCKOUT ∧ t.console.code = 5 ∧ t.get SERVICE.CNT_AUTH_FAILS = satAdd 32 (s.get SERVICE.CNT_AUTH_FAILS) 1) ∧
  (∀ (s : State),
    s.consoleServes →
    s.console.test = none →
    s.lc = lcSERVICE →
    Completes (exec (.exit true) s) fun t => t.console.session = false ∧ t.event .service 0 SERVICE.EV_SESSION_END ∧ ceEXIT ∈ t.console.lines) ∧
  (∀ (s : State),
    s.consoleServes →
    s.console.test = none →
    s.lc = lcSERVICE →
    Completes (exec (.exit false) s) fun t =>
      t.console.code = 5 ∧ t.event .service 0 SERVICE.EV_TAG_FAIL ∧ t.get SERVICE.CNT_TAG_FAILS = satAdd 32 (s.get SERVICE.CNT_TAG_FAILS) 1) ∧
  (∀ (s : State),
    s.consoleFree →
    s.get KEYS.LC_STAT_TAMPER_HOLD = 1 →
    Completes (exec .clearTamper s) fun t => t.console.held = some .clearTamper ∧ t.event .service 0 SERVICE.EV_CONFIRM_WAIT) ∧
  (∀ (s : State),
    s.consoleServes →
    s.lc = lcSERVICE →
    Completes (exec (.retire true) s) fun t => t.console.held = some (.retire true) ∧ t.event .service 0 SERVICE.EV_CONFIRM_WAIT) ∧
  (∀ (h : Nat) (s : State),
    s.consoleServes →
    s.lc = lcSERVICE →
    Completes (exec (.fuseMakerImage h true) s) fun t => t.console.held = some (.fuseImage h true) ∧ t.event .service 0 SERVICE.EV_CONFIRM_WAIT) ∧
  (∀ (h : Nat) (s : State),
    s.consoleServes →
    s.lc = lcSERVICE →
    Completes (exec (.fuseMakerService h true) s) fun t => t.console.held = some (.fuseService h true) ∧ t.event .service 0 SERVICE.EV_CONFIRM_WAIT) ∧
  (∀ (h : Nat) (s : State),
    s.console.held = some (.fuseImage h true) →
    s.domUp 25 = true →
    s.keys.makerImage = none →
    Completes (exec .confirmGpio s) fun t => t.keys.makerImage = some (h % 2 ^ 384) ∧ t.get KEYS.IMAGE_STAT_MAKER_SET = 1) ∧
  (∀ (h : Nat) (s : State),
    s.console.held = some (.fuseService h true) →
    s.domUp 25 = true →
    s.keys.makerService = none →
    Completes (exec .confirmGpio s) fun t => t.keys.makerService = some (h % 2 ^ 384)) ∧
  (∀ (s : State),
    s.console.held.isSome = true →
    Completes (exec .confirmTimeout s) fun t => t.console.held = none ∧ t.console.code = 8) ∧
  (∀ (s : State),
    s.console.held = some .clearTamper →
    s.get KEYS.LC_STAT_TAMPER_HOLD = 1 →
    s.domUp 25 = true →
    Completes (exec .tamperConfirm s) fun t =>
      t.get KEYS.LC_STAT_TAMPER_HOLD = 0 ∧ t.get KEYS.LC_STAT_SEALED = 0 ∧ t.get RESET.BKP_STAT_TAMPER_LATCHED = 0 ∧ t.get KEYS.TAMPER_STAT_SOURCE = 0) ∧
  (∀ (s : State),
    s.consoleServes →
    s.console.test = none →
    s.lc = lcSERVICE →
    Completes (exec .consoleIdleTimeout s) fun t => t.console.session = false ∧ t.event .service 0 SERVICE.EV_SESSION_END ∧ ceIDLE ∈ t.console.lines) ∧
  (∀ (s : State),
    s.get SERVICE.STAT_LOCKED_OUT = 1 →
    Completes (exec .authLockoutEnd s) fun t => t.get SERVICE.STAT_LOCKED_OUT = 0 ∧ t.get SERVICE.STAT_LOCKOUT_LEFT = 0)

/-- What a session's commands do: writes, tests, stores, resets. In a session with a good tag and no test running: WR writes as master 4 and
reads back; TEST PRBS, EYE, APORT, MEM, CE, ISP, SUP and FF start where their conditions hold, each as its meaning says, EYE with the
measurement running and FF with the pins and LOCK_ANA overridden; a test that is over gives its result; STORE, RESET CONTROL, RESET
DEVICE and RETRY are the writes of their registers by master 4, each where the bus takes the write. (R546.) -/
def Obligations.ConsoleServiceCommands : Prop :=
  (∀ (p : Page) (i : Nat) (off : Nat) (v : Word) (w : WriteFacts) (s : State) (t0 : State) (t1 : State),
    s.consoleServes →
    t0 = s.tagTaken →
    t1 = t0.busWrite terora (p.base + 0x1000 * i + off) 4 v.toNat w →
    namesRegister p i off = true →
    t0.busKind terora (p.base + 0x1000 * i + off) true 4 v.toNat = 0 →
    exec (.wr p i off v true w) s = .next (if t1.busUp then t1.consoleRead 4 [p.base + 0x1000 * i + off] else t1).lineShown) ∧
  (∀ (lane : Nat) (p31 : Bool) (secs : Nat) (via : Fin 3) (s : State) (t0 : State),
    s.consoleServes →
    t0 = s.tagTaken →
    t0.console.test = none →
    lane < 96 →
    1 ≤ secs →
    secs ≤ 3600 →
    t0.laneFree (lane / 4) (lane % 4) = true →
    t0.laneShadowed (lane / 4) (lane % 4) = false →
    exec (.testPrbs lane p31 secs via true) s = .next (t0.runTestPrbs lane p31 secs via).lineShown ∧ (t0.runTestPrbs lane p31 secs via).console.test.isSome) ∧
  (∀ (lane : Nat) (hoff : Nat) (voff : Nat) (dwell : Nat) (s : State) (t0 : State),
    s.consoleServes →
    t0 = s.tagTaken →
    t0.console.test = none →
    lane < 96 →
    hoff < 32 →
    voff < 64 →
    20 ≤ dwell →
    dwell ≤ 40 →
    t0.sliceOf false (lane / 4) (lane % 4) < 5 →
    t0.get QUAD.RXSL_STAT_STATE (lane / 4) (t0.sliceOf false (lane / 4) (lane % 4)) = slRUN →
    t0.get QUAD.HID_EYE (lane / 4) = 0 →
    Completes (exec (.testEye lane hoff voff dwell true) s) fun t => t.get QUAD.HID_EYE (lane / 4) = 1 ∧ t.get QUAD.EYE_CTL_DONE (lane / 4) = 0 ∧ t.console.test.isSome) ∧
  (∀ (p : Nat) (s : State) (t0 : State),
    s.consoleServes →
    t0 = s.tagTaken →
    t0.console.test = none →
    p < Page.aport.instances →
    t0.domUp (Page.aport.domain p) = true →
    t0.unit (apUnit p) ≠ uRETIRED →
    exec (.testAport p true) s = .next ((((t0.isolateUnit (apUnit p)).unitLost (apUnit p)).setUnit (apUnit p) uTEST).con (fun c => { c with test := some ⟨ctAPORT, p, flag (t0.unit (apUnit p) = uOFF), []⟩ })).lineShown) ∧
  (∀ (c : Nat) (s : State) (t0 : State),
    s.consoleServes →
    t0 = s.tagTaken →
    t0.console.test = none →
    c < 32 →
    t0.channelEmpty c = true →
    t0.unit (chUnit c) = uRUN →
    exec (.testMem c true) s = .next ((t0.setUnit (chUnit c) uTEST).con (fun x => { x with test := some ⟨ctMEM, c, 0, []⟩ })).lineShown) ∧
  (∀ (n : Nat) (s : State) (t0 : State),
    s.consoleServes →
    t0 = s.tagTaken →
    t0.console.test = none →
    n < 36 →
    t0.unit (ceUnit n) = uISOLATED →
    exec (.testCe n true) s = .next ((t0.setUnit (ceUnit n) uTEST).con (fun x => { x with test := some ⟨ctCE, n, 0, []⟩ })).lineShown) ∧
  (∀ (k : Nat) (b : Nat) (s : State) (t0 : State),
    s.consoleServes →
    t0 = s.tagTaken →
    t0.console.test = none →
    k < 8 →
    b = 1 - t0.get SYNTH.SYN_STAT_SEL (12 + k) →
    t0.synState (12 + k) b = 3 →
    t0.unit (synUnit (12 + k) b) = uRUN →
    exec (.testIsp k true) s = .next ((t0.testHalf (12 + k)).con (fun x => { x with test := some ⟨ctISP, k, b, []⟩ })).lineShown) ∧
  (∀ (s : State) (t0 : State),
    s.consoleServes →
    t0 = s.tagTaken →
    t0.console.test = none →
    t0.sup 0 ≠ suSTANDBY →
    t0.sup 1 = suSTANDBY →
    t0.get SUPERVISOR.HID_TAKE = 0 →
    exec (.testSup true) s = .next (t0.retestStandby.con (fun x => { x with test := some ⟨ctSUP, 1, 0, []⟩ })).lineShown) ∧
  (∀ (s : State) (t0 : State),
    s.consoleServes →
    t0 = s.tagTaken →
    t0.console.test = none →
    exec (.testFf true) s = .next t0.runTestFf.lineShown ∧ t0.runTestFf.console.test.isSome ∧ t0.runTestFf.get SERVICE.FF_CTL_OVERRIDE = 1 ∧
      t0.runTestFf.get SYNTHCTL.LOCKANA_OVERRIDE = 1 ∧ t0.runTestFf.get SERVICE.FF_CTL_ANA = 2) ∧
  (∀ (t1 : ConsoleTest) (pass : Bool) (n : Nat) (s : State),
    s.console.test = some t1 →
    s.testOver t1 = true →
    exec (.consoleTestEnd pass n) s = .next (s.testEnd t1 pass n).settle) ∧
  (∀ (s : State) (t0 : State),
    s.consoleServes →
    t0 = s.tagTaken →
    t0.busKind terora (Page.nvm.base + 0x044) true 4 1 = 0 →
    exec (.consoleStore true) s = .next ((t0.busWrite terora (Page.nvm.base + 0x044) 4 1 plainFacts).con (fun c => { c with waits := 2 })).lineShown) ∧
  (∀ (s : State) (t0 : State),
    s.consoleServes →
    t0 = s.tagTaken →
    t0.busKind terora (Page.reset.base + 0x048) true 4 (lockKey * 2 ^ 16 + 2) = 0 →
    exec (.consoleResetControl true) s = .next ((t0.busWrite terora (Page.reset.base + 0x048) 4 (lockKey * 2 ^ 16 + 2) plainFacts).reply 0).lineShown) ∧
  (∀ (mode : BitVec 4) (member : BitVec 3) (s : State) (t0 : State),
    s.consoleServes →
    t0 = s.tagTaken →
    t0.busKind terora (Page.reset.base + 0x048) true 4 (lockKey * 2 ^ 16 + 1) = 0 →
    exec (.consoleResetDevice mode member true) s = .next ((t0.busWrite terora (Page.reset.base + 0x048) 4 (lockKey * 2 ^ 16 + 1) { plainFacts with mode := mode, member := member }).reply 0).lineShown) ∧
  (∀ (s : State) (t0 : State),
    s.consoleServes →
    t0 = s.tagTaken →
    t0.busKind terora (Page.supervisor.base + 0x04C) true 4 2 = 0 →
    exec (.consoleRetry true) s = .next ((t0.busWrite terora (Page.supervisor.base + 0x04C) 4 2 plainFacts).reply 0).lineShown)

/-- What the commands of a lane's checks and a memory channel's upkeep leave alone. Signal detect, lane frequency, PRBS checking, HI_BER,
the eye's end, spare alignment, CHK_CLEAR, ERR_INJECT, scrub passes, the end of WATCH and the return timer change the fields named in
their clauses and no other register but those that show the device's condition (alwaysShown), no byte of a buffer and no other part of
the state that OnlyRegs names. (R58; R61; R67; R78; R80; R83; R204.) -/
def Obligations.FrameOfLanesAndChannels : Prop :=
  (∀ (q : Fin 24) (sl : Fin 5) (b : Bool) (s : State),
    After (exec (.signalDetectChange q sl b) s) (OnlyRegs [⟨QUAD.HID_SIGDET, q, sl⟩] s)) ∧
  (∀ (q : Fin 24) (n : Fin 4) (off : BitVec 16) (s : State),
    After (exec (.rxFreqUpdate q n off) s) (OnlyRegs [⟨QUAD.RX_FREQ_OFFSET, q, n⟩, ⟨QUAD.RX_FREQ_VALID, q, n⟩] s)) ∧
  (∀ (q : Fin 24) (n : Fin 4) (inSync : Bool) (errors : Nat) (s : State),
    After (exec (.prbsCheckerSync q n inSync errors) s) (OnlyRegs [⟨QUAD.TEST_CTL_CHK_SYNC, q, n⟩, ⟨QUAD.PRBS_ERR_COUNT, q, n⟩] s)) ∧
  (∀ (q : Fin 24) (p : Fin 4) (high : Bool) (s : State),
    After (exec (.hiBerChange q p high) s) (OnlyRegs [⟨ETH.PORT_STAT_HI_BER, q, p⟩] s)) ∧
  (∀ (q : Fin 24) (mismatches : Nat) (s : State),
    After (exec (.eyeDone q mismatches) s) (OnlyRegs [⟨QUAD.HID_EYE, q, 0⟩, ⟨QUAD.EYE_CTL_DONE, q, 0⟩, ⟨QUAD.EYE_ERR_COUNT, q, 0⟩] s)) ∧
  (∀ (q : Fin 24) (s : State),
    After (exec (.spareAligned q) s) (OnlyRegs [⟨QUAD.HID_ALIGNED, q, 0⟩] s)) ∧
  (∀ (m : Fin 7) (q : Fin 24) (n : Fin 4) (s : State),
    s.takesWrite m .quad q (0x0D0 + 4 * n) 0x400 →
    After (exec (.chkClear m q n) s) (OnlyRegs [⟨QUAD.PRBS_ERR_COUNT, q, n⟩] s)) ∧
  (∀ (m : Fin 7) (q : Fin 24) (n : Fin 4) (s : State),
    s.takesWrite m .quad q (0x0D0 + 4 * n) 0x100 →
    After (exec (.errInject m q n) s) (OnlyRegs [⟨QUAD.HID_INJECTED, q, n⟩] s)) ∧
  (∀ (c : Fin 32) (hours : Nat) (s : State),
    After (exec (.scrubPass c hours) s) (OnlyRegs [⟨MEMCH.CNT_SCRUB_PASS, c, 0⟩, ⟨MEMCH.SCRUB_STAT_AGE, c, 0⟩, ⟨MEMCH.SCRUB_STAT_LATE, c, 0⟩] s)) ∧
  (∀ (c : Fin 32) (s : State),
    After (exec (.watchExpire c) s) (OnlyRegs [⟨MEMCH.CH_STAT_HEALTH, c, 0⟩] s)) ∧
  (∀ (o : Fin 192) (s : State),
    After (exec (.returnTExpire o) s) (OnlyRegs [⟨VOUT.HID_RETURN, o, 0⟩] s))

/-- What the small commands of the audio matrix, the serial ports and the mesh links leave alone. Silence, NONPCM, the loudness report and
the zero-crossing timeout of a port, and the training, retry, codewords, time messages, vacancies, leave instant and remote access of
the mesh, change the fields named in their clauses and no other register but those that show the device's condition (alwaysShown), no
byte of a buffer and no other part of the state that OnlyRegs names. (R284; R294; R295; R313; R362; R363; R373; R374; R380; R382; R383.) -/
def Obligations.FrameOfAudioAndMeshCommands : Prop :=
  (∀ (ch : Fin 32768) (s : State),
    After (exec (.silenceDetect ch) s) (OnlyRegs [⟨ASTAT.SRC_SILENT, ch, 0⟩, ⟨ASTAT.SRC_OVERLOAD, ch, 0⟩, ⟨AUDIO.EVT_CH_CH, 0, 0⟩, ⟨AUDIO.EVT_CH_SIDE, 0, 0⟩] s)) ∧
  (∀ (pair : Fin 16384) (s : State),
    After (exec (.nonpcmEnd pair) s) (OnlyRegs [⟨ASTAT.SRC_NONPCM, 2 * pair, 0⟩, ⟨ASTAT.SRC_NONPCM, 2 * pair + 1, 0⟩, ⟨AUDIO.EVT_CH_CH, 0, 0⟩, ⟨AUDIO.EVT_CH_SIDE, 0, 0⟩] s)) ∧
  (∀ (k : Fin 64) (f : MeterFacts) (s : State),
    After (exec (.meterReport k f) s) (OnlyRegs [⟨AUDIO.LM_MOMENTARY, 6, k⟩, ⟨AUDIO.LM_SHORT, 6, k⟩, ⟨AUDIO.LM_INTEGRATED, 6, k⟩, ⟨AUDIO.LM_RANGE, 6, k⟩, ⟨AUDIO.LM_TRUE_PEAK, 6, k⟩, ⟨AUDIO.LM_SECONDS, 6, k⟩] s)) ∧
  (∀ (p : Fin 16) (tx : Bool) (c : Fin 32) (s : State),
    After (exec (.portZcTimeout p tx c) s) (OnlyRegs [⟨APORT.HID_WAIT, p, flag tx⟩, ⟨APORT.CNT_ZC_TIMEOUTS, p, 0⟩] s)) ∧
  (∀ (n : Fin 8) (s : State),
    After (exec (.linkDetect n) s) (OnlyRegs [⟨MESH.LINK_STAT_STATE, n, 0⟩, ⟨MESH.CNT_TRAININGS, n, 0⟩] s)) ∧
  (∀ (n : Fin 8) (inv : BitVec 8) (rev : Bool) (skew : BitVec 7) (s : State),
    After (exec (.linkTrained n inv rev skew) s) (OnlyRegs [⟨MESH.LINK_STAT_STATE, n, 0⟩, ⟨MESH.LINK_STAT_LANE_INV, n, 0⟩, ⟨MESH.LINK_STAT_REVERSED, n, 0⟩, ⟨MESH.LINK_STAT_SKEW, n, 0⟩] s)) ∧
  (∀ (n : Fin 8) (s : State),
    After (exec (.trainTimeout n) s) (OnlyRegs [⟨MESH.LINK_STAT_STATE, n, 0⟩] s)) ∧
  (∀ (n : Fin 8) (s : State),
    After (exec (.linkRetry n) s) (OnlyRegs [⟨MESH.LINK_STAT_STATE, n, 0⟩] s)) ∧
  (∀ (n : Fin 8) (corrected : Bool) (uncorr : Bool) (crcBad : Bool) (s : State),
    After (exec (.linkCodewordReceived n corrected uncorr crcBad) s) (OnlyRegs [⟨MESH.CNT_FEC_CORR, n, 0⟩, ⟨MESH.CNT_FEC_UNCORR, n, 0⟩, ⟨MESH.CNT_CRC_DROPS, n, 0⟩] s)) ∧
  (∀ (n : Fin 8) (mem : Fin 8) (delay : BitVec 20) (s : State),
    After (exec (.timeMessage n mem delay true) s) (OnlyRegs [⟨MESH.DELAY_NS, n, 0⟩] s)) ∧
  (∀ (mem : Fin 8) (s : State),
    After (exec (.rejoinHoldExpire mem) s) (OnlyRegs [⟨MESHCTL.HID_VACANT, 0, 0⟩] s)) ∧
  (∀ (timedOut : Bool) (s : State),
    After (exec (.leaveInstantSend timedOut) s) (OnlyRegs [⟨MESHCTL.HID_SENT, 0, 0⟩] s)) ∧
  (∀ (code : Nat) (v : Word) (s : State),
    After (exec (.raComplete code v) s) (OnlyRegs [⟨MESHCTL.RA_DATA_DATA, 0, 0⟩, ⟨MESHCTL.RA_CTL_CODE, 0, 0⟩, ⟨MESHCTL.RA_CTL_DONE, 0, 0⟩, ⟨MESHCTL.HID_RA, 0, 0⟩] s))

/-- What the events of the supervisors, the sensors, the board and the console's timers leave alone. Heartbeats, the journal, sensor self-
tests, the thermal holds, rail faults, the backup domain's detectors, the copies to the store, lock timeouts, GPIO edges, the I2C buses,
the display holds, the lockout's end and the MSI-X holdoff change the fields named in their clauses and no other register but those that
show the device's condition (alwaysShown), no byte of a buffer and no other part of the state that OnlyRegs names. (R406; R407; R438;
R444; R445; R448; R449; R453; R463; R474; R569; R570.) -/
def Obligations.FrameOfControlEvents : Prop :=
  (∀ (who : Fin 2) (s : State),
    After (exec (.heartbeat who) s) (OnlyRegs [⟨SUPERVISOR.HB_PHOBOS_HB, 0, 0⟩, ⟨SUPERVISOR.HB_DEIMOS_HB, 0, 0⟩] s)) ∧
  (∀ (s : State),
    After (exec .journalApply s) (OnlyRegs [⟨SUPERVISOR.JOURNAL_LAG, 0, 0⟩, ⟨SUPERVISOR.JOURNAL_IN_SYNC, 0, 0⟩] s)) ∧
  (∀ (k : Fin 32) (pass : Bool) (s : State),
    After (exec (.sensorSelftestEnd k pass) s) (OnlyRegs [⟨THERMAL.HID_TESTING, 0, k⟩, ⟨THERMAL.THS_STATE, 0, k⟩, ⟨THERMAL.FAILED_MASK, 0, 0⟩, ⟨THERMAL.SUSPECT_MASK_MASK, 0, 0⟩, ⟨THERMAL.CNT_SENSOR_FAILS, 0, 0⟩, ⟨THERMAL.STAT_HOLD, 0, 0⟩] s)) ∧
  (∀ (s : State),
    After (exec .stageHoldEnd s) (OnlyRegs [⟨THERMAL.STAT_HOLD, 0, 0⟩] s)) ∧
  (∀ (s : State),
    After (exec .t3RestoreHoldEnd s) (OnlyRegs [⟨THERMAL.HID_T3WAIT, 0, 0⟩] s)) ∧
  (∀ (rail : Fin 10) (s : State),
    After (exec (.railFault rail) s) (OnlyRegs [] s)) ∧
  (∀ (absent : Bool) (s : State),
    After (exec (.xtal32Fail absent) s) (OnlyRegs [⟨RESET.BKP_STAT_XTAL32_FAIL, 0, 0⟩] s)) ∧
  (∀ (low : Bool) (s : State),
    After (exec (.vbatLow low) s) (OnlyRegs [⟨RESET.BKP_STAT_VBAT_LOW, 0, 0⟩] s)) ∧
  (∀ (s : State),
    After (exec .shutRecCopy s) (OnlyRegs [⟨RESET.BKP_STAT_SHUT_REC, 0, 0⟩] s)) ∧
  (∀ (s : State),
    After (exec .counterCopy s) (OnlyRegs [] s)) ∧
  (∀ (s : State),
    After (exec .correctedRewrite s) (OnlyRegs [] s)) ∧
  (∀ (p : Page) (i : Nat) (s : State),
    After (exec (.lockTimeout p i) s) (OnlyRegs [⟨HDR.LOCK_OPEN p, i, 0⟩] s)) ∧
  (∀ (g : Fin 32) (rise : Bool) (s : State),
    After (exec (.gpioEdge g rise) s) (OnlyRegs [⟨GPIO.IN_LEVEL, 0, 0⟩, ⟨EVENT.GPIO_LATCH_EDGE, 0, 0⟩] s)) ∧
  (∀ (k : Fin 8) (ack : Bool) (data : BitVec 8) (s : State),
    After (exec (.i2cXferDone k ack data) s) (OnlyRegs [⟨GPIO.I2C_STAT_BUSY, 0, k⟩, ⟨GPIO.I2C_STAT_NACK, 0, k⟩, ⟨GPIO.I2C_STAT_DONE, 0, k⟩, ⟨GPIO.I2C_STAT_DATA, 0, k⟩] s)) ∧
  (∀ (k : Fin 8) (ack : Bool) (data : BitVec 8) (s : State),
    After (exec (.i2cPoll k ack data) s) (OnlyRegs [⟨GPIO.I2C_STAT_POLL_VAL, 0, k⟩] s)) ∧
  (∀ (k : Fin 8) (s : State),
    After (exec (.i2cTimeout k) s) (OnlyRegs [⟨GPIO.I2C_STAT_BUSY, 0, k⟩, ⟨GPIO.I2C_STAT_TIMEOUT, 0, k⟩] s)) ∧
  (∀ (s : State),
    After (exec .fireflyHoldEnd s) (OnlyRegs [] s)) ∧
  (∀ (s : State),
    After (exec .lockAnaHoldEnd s) (OnlyRegs [] s)) ∧
  (∀ (s : State),
    After (exec .authLockoutEnd s) (OnlyRegs [⟨SERVICE.STAT_LOCKED_OUT, 0, 0⟩, ⟨SERVICE.STAT_LOCKOUT_LEFT, 0, 0⟩] s)) ∧
  (∀ (v : Fin 64) (s : State),
    After (exec (.msixHoldoffEnd v) s) (OnlyRegs [] s))

/-- What a taken write or read of a register command leaves alone. A taken write of ERR_INFO, EVT_FORCE, EVT_STAT, PAGE_LOCK, DB_CTL, the
SVN commit, the flow aperture, the sensor test and the meter reset, and a taken read of UPTIME_LO, RTC_S_LO and LAST_REF_STAMP_LO,
change the fields named in their clauses and no other register but those that show the device's condition (alwaysShown), no byte of a
buffer and no other part of the state that OnlyRegs names. (R294; R444; R448; R489; R506; R509; R514; R518; R528; R531; R533.) -/
def Obligations.FrameOfRegisterCommands : Prop :=
  (∀ (m : Fin 7) (s : State),
    s.takesWrite m .busmatrix 0 0x058 0x80000000 →
    After (exec (.errInfoClear m) s) (OnlyRegs [⟨BUSMATRIX.ERR_INFO_VALID, 0, 0⟩] s)) ∧
  (∀ (m : Fin 7) (p : Page) (i : Nat) (v : Word) (s : State),
    i < p.instances →
    p.code < 0x80 →
    s.takesWrite m p i 0x018 v.toNat →
    After (exec (.evtForce m p i v) s) (OnlyRegs [] s)) ∧
  (∀ (m : Fin 7) (p : Page) (i : Nat) (v : Word) (s : State),
    i < p.instances →
    p.code < 0x80 →
    s.takesWrite m p i 0x010 v.toNat →
    After (exec (.evtW1c m p i v) s) (OnlyRegs [] s)) ∧
  (∀ (m : Fin 7) (p : Page) (i : Nat) (v : Word) (s : State),
    i < p.instances →
    p.code < 0x80 →
    s.takesWrite m p i 0x024 v.toNat →
    After (exec (.pageLockOpen m p i v) s) (OnlyRegs [⟨HDR.LOCK_OPEN p, i, 0⟩, ⟨HDR.FREEZE p, i, 0⟩, ⟨HDR.MASTERS p, i, 0⟩] s)) ∧
  (∀ (m : Fin 7) (p : Page) (i : Nat) (v : Word) (s : State),
    i < p.instances →
    p.code < 0x80 →
    s.takesWrite m p i 0x024 v.toNat →
    After (exec (.pageLockClose m p i v) s) (OnlyRegs [⟨HDR.LOCK_OPEN p, i, 0⟩, ⟨HDR.FREEZE p, i, 0⟩, ⟨HDR.MASTERS p, i, 0⟩] s)) ∧
  (∀ (m : Fin 7) (v : Word) (s : State),
    s.takesWrite m .event 0 0x240 v.toNat →
    After (exec (.dbSet m v) s) (OnlyRegs [⟨EVENT.DB_STAT_DB, 0, bitsOf v.toNat 0 9 / 32⟩] s) ∧ After (exec (.dbClear m v) s) (OnlyRegs [⟨EVENT.DB_STAT_DB, 0, bitsOf v.toNat 0 9 / 32⟩] s)) ∧
  (∀ (m : Fin 7) (s : State),
    s.takesRead m .reset 0 0x06C →
    After (exec (.uptimeRead m) s) (OnlyRegs [⟨RESET.UPTIME_HI_COUNT, 0, 0⟩] s)) ∧
  (∀ (m : Fin 7) (s : State),
    s.takesRead m .reset 0 0x074 →
    After (exec (.rtcRead m) s) (OnlyRegs [⟨RESET.RTC_S_HI_SECONDS, 0, 0⟩, ⟨RESET.RTC_SUB_FRACTION, 0, 0⟩] s)) ∧
  (∀ (m : Fin 7) (s : State),
    s.takesRead m .ledger 0 0x070 →
    After (exec (.lastRefStampRead m) s) (OnlyRegs [⟨LEDGER.LAST_REF_STAMP_HI_STAMP, 0, 0⟩] s)) ∧
  (∀ (m : Fin 7) (v : Word) (s : State),
    s.takesWrite m .keys 0 0x0B8 v.toNat →
    After (exec (.svnCommit m v) s) (OnlyRegs [⟨KEYS.MIN_SVN_SVN, 0, 0⟩] s)) ∧
  (∀ (m : Fin 7) (v : Word) (s : State),
    s.takesWrite m .global 0 0x04C v.toNat →
    After (exec (.flowApertureWrite m v) s) (OnlyRegs [⟨GLOBAL.WIN_CFG_FLOW_APERTURE, m, 0⟩] s)) ∧
  (∀ (m : Fin 7) (v : Word) (s : State),
    s.takesWrite m .thermal 0 0x054 v.toNat →
    After (exec (.sensorTest m v) s) (OnlyRegs [⟨THERMAL.HID_TESTING, 0, bitsOf v.toNat 0 5⟩, ⟨THERMAL.SENSOR_CTL_INDEX, 0, 0⟩] s)) ∧
  (∀ (m : Fin 7) (k : Fin 64) (v : Word) (s : State),
    s.takesWrite m .audio 6 (0x408 + 0x20 * k.val) v.toNat →
    After (exec (.meterReset m k v) s) (OnlyRegs [⟨AUDIO.LM_INTEGRATED, 6, k⟩, ⟨AUDIO.LM_RANGE, 6, k⟩, ⟨AUDIO.LM_TRUE_PEAK, 6, k⟩, ⟨AUDIO.LM_SECONDS, 6, k⟩] s))

/-- The scan chain's instructions leave every register, buffer and path alone. Each of the eight instructions of the scan chain changes the
JTAG port alone: with the port put back, every register but those that show the device's condition, every byte of the buffers and every
part that OnlyRegs names is as before. (R567.) -/
def Obligations.FrameOfScanChain : Prop :=
  (∀ (pins : Nat) (value : Nat) (c : Instr) (s : State),
    c ∈ [.bypass, .idcode, .samplePreload pins value, .extest pins value, .clamp, .highz, .extestPulse pins value, .extestTrain pins value] →
    Completes (exec c s) fun t => OnlyRegs [] s { t with jtag := s.jtag })

/-- A step runs the command at the front of the queue, with the queue's rest. For every state with a command c at the front of its queue,
step is exec of c on the state with the queue's rest. (opcode_table.json; R522.) -/
def Obligations.StepRunsFront : Prop :=
  (∀ (c : Instr) (rest : List Instr) (s : State),
    s.pending = c :: rest →
    step s = exec c { s with pending := rest })

/-- On an empty queue a step is one tick of 1/32,768 s (the model's choice, assumption 48). With nothing waiting, step answers next of the
tick; and with no console bytes buffered and the XTAL32 running, that tick raises UPTIME by one modulo 2^48 and system time by one
period, and leaves the queue empty. That a step without a command is one period of XTAL32 is the model's choice (assumption 48).
(opcode_table.json; R322; R437; R438.) -/
def Obligations.StepIdles : Prop :=
  (∀ (s : State),
    s.pending = [] →
    step s = .next s.tick) ∧
  (∀ (s : State),
    s.pending = [] →
    s.console.buffer = [] →
    s.get RESET.BKP_STAT_XTAL32_FAIL = 0 →
    Completes (step s) fun t => t.clk.uptime = (s.clk.uptime + 1) % 2 ^ 48 ∧ t.clk.sysFs = s.clk.sysFs + fsPerTick ∧ t.pending = [])

/-- Every command, in every state, leaves a next state, and never waits for another. For every command c and every state s there is a state
t such that exec c s answers the next state that t settles to: no command faults, is refused or waits. (opcode_table.json.) -/
def Obligations.EveryCommandCompletes : Prop :=
  (∀ (c : Instr) (s : State),
    ∃ t : State, exec c s = .next t.settle)

/-- After every step the status outputs agree with the device's condition. If the status outputs agree with the device's condition before a
step that answers a next state, they agree after it: the Firefly row driven is the row in force or a higher one held for its 2 s; with
PD25 up, FF_STAT, TEST_BUSY and SESSION show what the pins and the console do; and LOCKANA.CODE, where it is not overridden, is the
worst condition's or the lower code held for its second. (R359; R547; R548; R549; Table 12.7; Table 21.4; Table 21.6.) -/
def Obligations.DisplayAgreesKept : Prop :=
  (    KeptByStep State.DisplayAgrees)

/-- Every step keeps the canonical form of the three addressed buffers. If the LUT and filter store, the control SRAM and the still windows
are each in canonical form (addresses strictly rising, no entry equal to what an unlisted address reads as) before a step that answers a
next state, they are after it. The form is the model's own. (Table 19.3; R233; R499.) -/
def Obligations.BuffersStayCanonical : Prop :=
  (    KeptByStep State.BuffersWf)

/-- The invariants of a step hold at reset. State.reset meets both invariants: the status outputs agree with the device's condition, and the
three buffers are in canonical form. (R547; Table 21.4; Table 15.5.) -/
def Obligations.InvariantsAtReset : Prop :=
  (    State.reset.DisplayAgrees) ∧
  (    State.reset.BuffersWf)

/-- After every step the level sources and SUMMARY mirror the conditions they name. After every step SUMMARY equals the conditions it names
and every bit of LEVEL_STAT but bit 10 (the log queue, which may lag by one command, assumption 63) equals its condition. (R517; R520;
R529; Table 20.4.) -/
def Obligations.LevelsAndSummaryMirror : Prop :=
  (∀ (s : State),
    Completes (step s) fun t => t.evt.summary = t.summaryNow ∧ ∀ k < 12, k ≠ 10 → bitOf t.evt.level k = bitOf t.levelNow k)

/-- The reset format of every output is 1080i29.97 with mapping 1, and LINE2 is line 572. At reset, read by any master, VOUT.FMT of every
output is 0x01010133, field by field 1080i29.97 in YCbCr 4:2:2 10-bit, BT.709, SDR with mapping 1, and ANC_LINE.LINE2 is 0x23C, which is
572. (R119.) -/
def Obligations.ResetFormat : Prop :=
  (∀ (m : Fin 7) (o : Fin 192),
    State.reset.pageWord m .vout o 0x044 = 0x01010133 ∧ State.reset.get VOUT.FMT_RASTER o = 3 ∧ State.reset.get VOUT.FMT_RATE o = 3 ∧ State.reset.get VOUT.FMT_SCAN o = 1 ∧ State.reset.get VOUT.FMT_SAMPLING o = 0 ∧ State.reset.get VOUT.FMT_DEPTH o = 0 ∧ State.reset.get VOUT.FMT_COLOR o = 1 ∧ State.reset.get VOUT.FMT_TRANSFER o = 0 ∧ State.reset.get VOUT.FMT_MAPPING o = 1 ∧ State.reset.get VOUT.ANC_LINE_LINE2 o = 0x23C ∧ (0x23C : Nat) = 572)

/-- The lowest ancillary filter that matches a packet stores or drops it, and a packet that none matches is stored. Where filter k of an
input is the lowest that matches a good stored-kind packet, ACTION 1 drops it with nothing changed, and ACTION 0 stores it at the end of
the buffer where it fits; a packet that no filter matches is stored where it fits. (R102.) -/
def Obligations.AncillaryFilters : Prop :=
  (∀ (i : Fin 192) (p : AncPacket) (k : Fin 16) (s : State),
    s.ancMatches i p k →
    (∀ j : Fin 16, j < k → ¬ s.ancMatches i p j) →
    p.bad = false →
    p.kind = 0 →
    (s.get VIN.ANC_FILT_ACTION i k = 1 → s.ancPacket i p = s) ∧
      (s.get VIN.ANC_FILT_ACTION i k = 0 → s.get VIN.HID_ANCBYTES i + p.bytes ≤ ancBuffer →
        NTable.getD (s.ancPacket i p).ess.ancFill i [] = NTable.getD s.ess.ancFill i [] ++ [p])) ∧
  (∀ (i : Fin 192) (p : AncPacket) (s : State),
    (∀ j : Fin 16, ¬ s.ancMatches i p j) →
    p.bad = false →
    p.kind = 0 →
    s.get VIN.HID_ANCBYTES i + p.bytes ≤ ancBuffer →
    NTable.getD (s.ancPacket i p).ess.ancFill i [] = NTable.getD s.ess.ancFill i [] ++ [p])

/-- A write that the bus matrix turns away changes nothing but the error record, its counter and its event. With PD25 up, a write that the
bus answers with an error changes only the error record, its counters and what any command may show; and the counter of its kind rises
with the event, and where the record is free it takes the kind, the master, the direction and the address. (R506; R499; R507; R514;
R526; R523; Table 19.11.) -/
def Obligations.RefusedWrites : Prop :=
  (∀ (m : Fin 7) (addr : Nat) (bytes : Nat) (data : Nat) (w : WriteFacts) (k : Nat) (s : State),
    s.busUp = true →
    s.busKind m addr true bytes data = k →
    k ≠ 0 →
    Completes (exec (.registerWrite m addr bytes data w) s) fun t =>
      OnlyRegs [⟨BUSMATRIX.ERR_ADDR_LO_ADDR, 0, 0⟩, ⟨BUSMATRIX.ERR_ADDR_HI_ADDR, 0, 0⟩, ⟨BUSMATRIX.ERR_INFO_MASTER, 0, 0⟩, ⟨BUSMATRIX.ERR_INFO_KIND, 0, 0⟩, ⟨BUSMATRIX.ERR_INFO_WRITE, 0, 0⟩, ⟨BUSMATRIX.ERR_INFO_VALID, 0, 0⟩, ⟨BUSMATRIX.CNT_DECODE_ERRS, 0, 0⟩, ⟨BUSMATRIX.CNT_WIN_DENIES, 0, 0⟩, ⟨BUSMATRIX.CNT_LOCK_DENIES, 0, 0⟩, ⟨BUSMATRIX.CNT_ACCESS_ERRS, 0, 0⟩] s t ∧
      (k = 1 → t.event .busmatrix 0 BUSMATRIX.EV_DECODE_ERR ∧ t.get BUSMATRIX.CNT_DECODE_ERRS = satAdd 32 (s.get BUSMATRIX.CNT_DECODE_ERRS) 1) ∧
      (k = 2 → t.event .busmatrix 0 BUSMATRIX.EV_WIN_DENY ∧ t.get BUSMATRIX.CNT_WIN_DENIES = satAdd 32 (s.get BUSMATRIX.CNT_WIN_DENIES) 1) ∧
      (k = 3 → t.event .busmatrix 0 BUSMATRIX.EV_LOCK_DENY ∧ t.get BUSMATRIX.CNT_LOCK_DENIES = satAdd 32 (s.get BUSMATRIX.CNT_LOCK_DENIES) 1) ∧
      (4 ≤ k → t.event .busmatrix 0 BUSMATRIX.EV_ACCESS_ERR ∧ t.get BUSMATRIX.CNT_ACCESS_ERRS = satAdd 32 (s.get BUSMATRIX.CNT_ACCESS_ERRS) 1) ∧
      (s.get BUSMATRIX.ERR_INFO_VALID = 0 → t.get BUSMATRIX.ERR_INFO_VALID = 1 ∧ t.get BUSMATRIX.ERR_INFO_KIND = k ∧
        t.get BUSMATRIX.ERR_INFO_MASTER = m ∧ t.get BUSMATRIX.ERR_INFO_WRITE = 1 ∧
        t.get BUSMATRIX.ERR_ADDR_LO_ADDR = bitsOf addr 0 32 ∧ t.get BUSMATRIX.ERR_ADDR_HI_ADDR = bitsOf addr 32 8))

/-- A write of the control SRAM or of the conversion store stores its bytes, least significant first, and nothing else. A taken write of the
control SRAM or of the LUT and filter store leaves its bytes, least significant first, at the address that decode gives and every other
byte of all three buffers as it was, changes no register but those that show the device's condition, and keeps the canonical form.
(R499; R504; R227; Table 19.3; Table 20.2.) -/
def Obligations.WindowWrites : Prop :=
  (∀ (m : Fin 7) (addr : Nat) (bytes : Nat) (data : Nat) (w : WriteFacts) (off : Nat) (s : State),
    s.busUp = true →
    s.busKind m addr true bytes data = 0 →
    s.decode m addr = .sram off →
    Completes (exec (.registerWrite m addr bytes data w) s) fun t =>
      (∀ k < bytes, t.buf.sram.read (off + k) = BitVec.ofNat 8 (bitsOf data (8 * k) 8)) ∧
      (∀ a, (a < off ∨ off + bytes ≤ a) → t.buf.sram.read a = s.buf.sram.read a) ∧
      t.buf.conv = s.buf.conv ∧ t.buf.bar2 = s.buf.bar2 ∧ FieldsKept [] s t ∧ (s.BuffersWf → t.BuffersWf)) ∧
  (∀ (m : Fin 7) (addr : Nat) (bytes : Nat) (data : Nat) (w : WriteFacts) (off : Nat) (s : State),
    s.busUp = true →
    s.busKind m addr true bytes data = 0 →
    s.decode m addr = .conv off →
    Completes (exec (.registerWrite m addr bytes data w) s) fun t =>
      (∀ k < bytes, t.buf.conv.read (off + k) = BitVec.ofNat 8 (bitsOf data (8 * k) 8)) ∧
      (∀ a, (a < off ∨ off + bytes ≤ a) → t.buf.conv.read a = s.buf.conv.read a) ∧
      t.buf.sram = s.buf.sram ∧ t.buf.bar2 = s.buf.bar2 ∧ FieldsKept [] s t ∧ (s.BuffersWf → t.BuffersWf))

/-- A write of a register without a row of its own follows its fields' access codes, and of RWS fields changes the shadow alone. A taken
write of a block register that starts no action and is not committed at once is the plain write of its fields by their access codes;
where every field is RWS it changes no register, buffer, path or pending commit but the shadow; where every field is RO it changes
nothing. (R508; R510; Table 19.4.) -/
def Obligations.PlainRegisterWrites : Prop :=
  (∀ (m : Fin 7) (addr : Nat) (bytes : Nat) (data : Nat) (w : WriteFacts) (p : Page) (i : Nat) (off : Nat) (s : State),
    s.busUp = true →
    s.busKind m addr true bytes data = 0 →
    s.decode m addr = .page p i off →
    0x040 ≤ off →
    s.writeSpecial m p i off (BitVec.ofNat 32 data) = none →
    blockActions m p i off (BitVec.ofNat 32 data) w = [] →
    s.get (HDR.COMMIT_MODE p) i ≠ 2 →
    exec (.registerWrite m addr bytes data w) s = .next (s.writePlain m p i off (BitVec.ofNat 32 data).toNat).settle ∧
      ((∀ r ∈ rowsAt p i off, r.1.acc = .rws) → After (exec (.registerWrite m addr bytes data w) s) fun t =>
        FieldsKept [] s t ∧ BuffersKept s t ∧ t.video = s.video ∧ t.commits = s.commits) ∧
      ((∀ r ∈ rowsAt p i off, r.1.acc = .ro) → After (exec (.registerWrite m addr bytes data w) s) fun t =>
        OnlyRegs [] s t))

/-- A commit of a QUAD page that would make a clock selector name a wrong synthesiser's output is not applied. A commit of a QUAD page,
applied at its point or at once, that would leave TXCLK_SEL naming an output outside TS0 to TS3 for V, TS4 to TS7 for F or TS8 and TS9
for E is not applied: no register but CFG_BLOCKED and those that show the device's condition changes, and no commit of the page is left
pending. (R54.) -/
def Obligations.ClockSelectorsGuarded : Prop :=
  (∀ (q : Fin 24) (f : List (Nat × TakeFacts)) (c : PendingCommit) (s : State) (t0 : State),
    s.pendingOf .quad q = some c →
    c.group = 0 →
    s.commitReady .quad q = true →
    (∀ e ∈ c.values, e.1.field.page = .quad ∧ e.1.inst = q) →
    (c.values.map (fun e => e.1)).Nodup →
    t0 = s.applyTable c.values →
    (4 ≤ t0.get QUAD.TXCLK_SEL_V_SYN q ∨ t0.get QUAD.TXCLK_SEL_F_SYN q < 4 ∨ 8 ≤ t0.get QUAD.TXCLK_SEL_F_SYN q ∨ t0.get QUAD.TXCLK_SEL_E_SYN q < 8 ∨ 10 ≤ t0.get QUAD.TXCLK_SEL_E_SYN q) →
    Completes (exec (.commitPoint .quad q f) s) fun t => FieldsKept [QUAD.QUAD_STAT_CFG_BLOCKED] s t ∧ t.pendingOf .quad q = none) ∧
  (∀ (m : Fin 7) (q : Fin 24) (f : List (Nat × TakeFacts)) (s : State) (t0 : State),
    s.takesWrite m .quad q 0x008 0 →
    s.commitReady .quad q = true →
    s.pendingOf .quad q = none →
    s.get (HDR.COMMIT_MODE .quad) q ≠ 1 →
    ((s.captured .quad q).map (fun e => e.1)).Nodup →
    t0 = s.applyTable (s.captured .quad q) →
    (4 ≤ t0.get QUAD.TXCLK_SEL_V_SYN q ∨ t0.get QUAD.TXCLK_SEL_F_SYN q < 4 ∨ 8 ≤ t0.get QUAD.TXCLK_SEL_F_SYN q ∨ t0.get QUAD.TXCLK_SEL_E_SYN q < 8 ∨ 10 ≤ t0.get QUAD.TXCLK_SEL_E_SYN q) →
    Completes (exec (.pageCommit m .quad q f) s) fun t => FieldsKept [QUAD.QUAD_STAT_CFG_BLOCKED] s t ∧ t.pendingOf .quad q = none)

/-- What the commands of a quad, an input and an output generator may change, and nothing else. The commands of the page drains, of quads
and their Ethernet ports, of SDI inputs and of output generators. Each command completes on every state and all operands, and from the
state before to the state after: every register field outside the clause's list (and, where the clause names an instance of a page,
every field of that page at any other instance) reads as before, but for those that show the device's condition (alwaysShown); every
part of the state outside the clause's list of parts is as before; and no page outside the clause's list, but for those of shownPages,
has an event bit changed. (R30; R58; R59; R60; R65; R66; R68; R70; R75; R82; R83; R91.) -/
def Obligations.FrameOfLanesInputsAndOutputs : Prop :=
  (∀ (m : Fin 7) (p : Page) (i : Nat) (s : State),
    Completes (exec (.isolateReq m p i) s) (Frame (errorFields ++ unitFields [p]) [] [] [] s)) ∧
  (∀ (m : Fin 7) (p : Page) (i : Nat) (s : State),
    Completes (exec (.pageEnableClear m p i) s) (Frame (errorFields ++ unitFields [p] ++ [HDR.ENABLE p, HDR.HELD_ENABLE p]) [] [] [] s)) ∧
  (∀ (q : Fin 24) (sl : Fin 5) (spareSees : Bool) (s : State),
    Completes (exec (.losDeclare q sl spareSees) s) (Frame (stepFields ++ unitFields [.quad] ++ [ETH.PORT_STAT_LINK_UP, QUAD.CNT_LOS_COUNT, QUAD.CNT_SUB_COUNT, QUAD.HID_ALIGNED, QUAD.HID_EXTENDED, QUAD.HID_FLIP, QUAD.HID_FORCED, QUAD.HID_LAST, QUAD.HID_SELFTEST, QUAD.QUAD_STAT_Q100_ALIGN, QUAD.RXSL_STAT_CDR_LOCK, QUAD.RXSL_STAT_FAM_DET, QUAD.RXSL_STAT_RATE_DET, QUAD.RX_FREQ_VALID, REPAIR.CNT_RETIREMENTS, QUAD.PADMAP_RX_MAP, QUAD.PADMAP_TX_MAP, QUAD.RXSL_STAT_PADLANE, QUAD.TXSL_STAT_PADLANE, QUAD.RXSL_STAT_STATE, QUAD.TXSL_STAT_STATE, QUAD.QUAD_STAT_RX_SPARE_BUSY, QUAD.QUAD_STAT_TX_SPARE_BUSY]) [(.quad, q), (.eth, q)] [.repair] [.eth, .quad, .repair] s)) ∧
  (∀ (q : Fin 24) (sl : Fin 5) (s : State),
    Completes (exec (.losExit q sl) s) (Frame [QUAD.HID_CLASS, QUAD.RXSL_STAT_STATE] [(.quad, q)] [] [.quad] s)) ∧
  (∀ (q : Fin 24) (sl : Fin 5) (s : State),
    Completes (exec (.acquireClassTimeout q sl) s) (Frame [QUAD.HID_CLASS] [(.quad, q)] [] [] s)) ∧
  (∀ (q : Fin 24) (sl : Fin 5) (fam : Bool) (s : State),
    Completes (exec (.cdrLockHeld q sl fam) s) (Frame [QUAD.HID_LAST, QUAD.RXSL_STAT_CDR_LOCK, QUAD.RXSL_STAT_FAM_DET, QUAD.RXSL_STAT_RATE_DET, QUAD.RXSL_STAT_STATE] [(.quad, q)] [] [.quad] s)) ∧
  (∀ (q : Fin 24) (n : Fin 4) (s : State),
    Completes (exec (.spareShadow q n) s) (Frame [QUAD.EYE_CTL_ABORTED, QUAD.HID_EYE, QUAD.HID_SELFTEST, QUAD.RXSL_STAT_PADLANE, QUAD.TXSL_STAT_PADLANE, QUAD.RXSL_STAT_STATE, QUAD.TXSL_STAT_STATE, QUAD.QUAD_STAT_RX_SPARE_BUSY, QUAD.QUAD_STAT_TX_SPARE_BUSY] [(.quad, q)] [] [.quad] s)) ∧
  (∀ (q : Fin 24) (activeErr : Bool) (spareErr : Bool) (sameLines : Bool) (s : State),
    Completes (exec (.shadowWindowEnd q activeErr spareErr sameLines) s) (Frame [QUAD.HID_ALIGNED, QUAD.HID_EXTENDED, QUAD.HID_FLIP, QUAD.HID_FORCED, QUAD.HID_SELFTEST, QUAD.RXSL_STAT_SUSPECT, QUAD.RXSL_STAT_PADLANE, QUAD.TXSL_STAT_PADLANE, QUAD.RXSL_STAT_STATE, QUAD.TXSL_STAT_STATE, QUAD.QUAD_STAT_RX_SPARE_BUSY, QUAD.QUAD_STAT_TX_SPARE_BUSY] [(.quad, q)] [] [.quad] s)) ∧
  (∀ (q : Fin 24) (tx : Bool) (s : State),
    Completes (exec (.sliceFlip q tx) s) (Frame (stepFields ++ unitFields [.quad] ++ [QUAD.CNT_SUB_COUNT, QUAD.HID_ALIGNED, QUAD.HID_EXTENDED, QUAD.HID_FLIP, QUAD.HID_FORCED, QUAD.HID_LAST, QUAD.RXSL_STAT_CDR_LOCK, QUAD.RXSL_STAT_FAM_DET, QUAD.RXSL_STAT_RATE_DET, REPAIR.CNT_RETIREMENTS, QUAD.PADMAP_RX_MAP, QUAD.PADMAP_TX_MAP, QUAD.RXSL_STAT_PADLANE, QUAD.TXSL_STAT_PADLANE, QUAD.RXSL_STAT_STATE, QUAD.TXSL_STAT_STATE, QUAD.QUAD_STAT_RX_SPARE_BUSY, QUAD.QUAD_STAT_TX_SPARE_BUSY]) [(.quad, q)] [.repair] [.quad, .repair] s)) ∧
  (∀ (q : Fin 24) (tx : Bool) (n : Fin 4) (s : State),
    Completes (exec (.hardFault q tx n) s) (Frame (stepFields ++ unitFields [.quad] ++ [ETH.PORT_STAT_LINK_UP, QUAD.CNT_SUB_COUNT, QUAD.HID_ALIGNED, QUAD.HID_EXTENDED, QUAD.HID_FLIP, QUAD.HID_FORCED, QUAD.HID_LAST, QUAD.HID_SELFTEST, QUAD.QUAD_STAT_Q100_ALIGN, QUAD.RXSL_STAT_CDR_LOCK, QUAD.RXSL_STAT_FAM_DET, QUAD.RXSL_STAT_RATE_DET, REPAIR.CNT_RETIREMENTS, QUAD.PADMAP_RX_MAP, QUAD.PADMAP_TX_MAP, QUAD.RXSL_STAT_PADLANE, QUAD.TXSL_STAT_PADLANE, QUAD.RXSL_STAT_STATE, QUAD.TXSL_STAT_STATE, QUAD.QUAD_STAT_RX_SPARE_BUSY, QUAD.QUAD_STAT_TX_SPARE_BUSY]) [(.quad, q), (.eth, q)] [.repair] [.eth, .quad, .repair] s)) ∧
  (∀ (q : Fin 24) (n : Fin 4) (s : State),
    Completes (exec (.txSpareShadow q n) s) (Frame [QUAD.EYE_CTL_ABORTED, QUAD.HID_EYE, QUAD.HID_FLIP, QUAD.HID_SELFTEST, QUAD.RXSL_STAT_PADLANE, QUAD.TXSL_STAT_PADLANE, QUAD.RXSL_STAT_STATE, QUAD.TXSL_STAT_STATE, QUAD.QUAD_STAT_RX_SPARE_BUSY, QUAD.QUAD_STAT_TX_SPARE_BUSY] [(.quad, q)] [] [.quad] s)) ∧
  (∀ (m : Fin 7) (q : Fin 24) (v : Word) (s : State),
    Completes (exec (.forceRx m q v) s) (Frame (errorFields ++ writtenAt .quad q 0x04C ++ [QUAD.EYE_CTL_ABORTED, QUAD.HID_EYE, QUAD.HID_FLIP, QUAD.HID_FORCED, QUAD.HID_SELFTEST, QUAD.RXSL_STAT_PADLANE, QUAD.TXSL_STAT_PADLANE, QUAD.RXSL_STAT_STATE, QUAD.TXSL_STAT_STATE, QUAD.QUAD_STAT_RX_SPARE_BUSY, QUAD.QUAD_STAT_TX_SPARE_BUSY]) [(.quad, q)] [] [.quad] s)) ∧
  (∀ (m : Fin 7) (q : Fin 24) (v : Word) (s : State),
    Completes (exec (.forceTx m q v) s) (Frame (errorFields ++ writtenAt .quad q 0x04C ++ [QUAD.EYE_CTL_ABORTED, QUAD.HID_EYE, QUAD.HID_FLIP, QUAD.HID_FORCED, QUAD.HID_SELFTEST, QUAD.RXSL_STAT_PADLANE, QUAD.TXSL_STAT_PADLANE, QUAD.RXSL_STAT_STATE, QUAD.TXSL_STAT_STATE, QUAD.QUAD_STAT_RX_SPARE_BUSY, QUAD.QUAD_STAT_TX_SPARE_BUSY]) [(.quad, q)] [] [.quad] s)) ∧
  (∀ (q : Fin 24) (tx : Bool) (s : State),
    Completes (exec (.spareSelftest q tx) s) (Frame [QUAD.HID_SELFTEST, QUAD.RXSL_STAT_STATE, QUAD.TXSL_STAT_STATE, QUAD.QUAD_STAT_RX_SPARE_BUSY, QUAD.QUAD_STAT_TX_SPARE_BUSY] [(.quad, q)] [] [] s)) ∧
  (∀ (q : Fin 24) (tx : Bool) (pass : Bool) (s : State),
    Completes (exec (.spareSelftestEnd q tx pass) s) (Frame (stepFields ++ unitFields [.quad] ++ [QUAD.HID_SELFTEST, REPAIR.CNT_RETIREMENTS, QUAD.RXSL_STAT_STATE, QUAD.TXSL_STAT_STATE, QUAD.QUAD_STAT_RX_SPARE_BUSY, QUAD.QUAD_STAT_TX_SPARE_BUSY]) [(.quad, q)] [.repair] [.quad, .repair] s)) ∧
  (∀ (m : Fin 7) (q : Fin 24) (n : Fin 4) (v : Word) (s : State),
    Completes (exec (.testCtlWrite m q n v) s) (Frame (errorFields ++ writtenAt .quad q (0x0D0 + 4 * n) ++ [QUAD.HID_CLASS, QUAD.QUAD_STAT_CFG_BLOCKED, QUAD.RXSL_STAT_STATE, QUAD.TEST_CTL_CHK_SYNC, QUAD.TXSL_STAT_STATE]) [(.quad, q)] [] [.quad] s)) ∧
  (∀ (m : Fin 7) (q : Fin 24) (v : Word) (s : State),
    Completes (exec (.eyeStart m q v) s) (Frame (errorFields ++ writtenAt .quad q 0x100 ++ [QUAD.EYE_CTL_ABORTED, QUAD.EYE_CTL_DONE, QUAD.HID_EYE]) [(.quad, q)] [] [] s)) ∧
  (∀ (q : Fin 24) (n : Fin 4) (f : EthFrame) (s : State),
    Completes (exec (.ethFrameReceived q n f) s) (Frame (referenceFields ++ [ETH.COUNT_FCS_ERR, ETH.COUNT_FEC_CORR, ETH.COUNT_FEC_UNCORR, ETH.COUNT_OVERSIZE, ETH.COUNT_RX_GOOD, FLOW.CNT_HOST_DROP, FLOW.CNT_RX_NOMATCH, FLOW.HQ_RX_HEAD, FLOW.HQ_RX_SIZE, FLOW.HQ_TX_HEAD, FLOW.HQ_TX_SIZE, REFMGR.ANN_RX_COUNT, REFMGR.GM_ID_HI_ID, REFMGR.GM_ID_LO_ID, REFMGR.MPD_NS, REFMGR.OFFSET_NS, REFMGR.PTP_STAT_GM_CLASS, REFMGR.PTP_STAT_SLAVE, REFMGR.PTP_STAT_SM_TLV, REFMGR.PTP_STAT_STEPS, REFMGR.PTP_STAT_TWO_STEP, REFMGR.SYNC_RX_COUNT, REFMGR.UTC_STAT_LEAP59, REFMGR.UTC_STAT_LEAP61, REFMGR.UTC_STAT_OFFSET, REFMGR.UTC_STAT_VALID]) [] [.flow] [.eth, .flow, .refmgr] s)) ∧
  (∀ (m : Fin 7) (q : Fin 24) (p : Fin 4) (k : Fin 8) (s : State),
    Completes (exec (.ethCountRead m q p k) s) (Frame (errorFields ++ [ETH.HID_LATCH]) [(.eth, q)] [] [] s)) ∧
  (∀ (q : Fin 24) (n : Fin 4) (up : Bool) (localFault : Bool) (remoteFault : Bool) (fecLock : Bool) (lockLost : Bool) (s : State),
    Completes (exec (.ethLinkChange q n up localFault remoteFault fecLock lockLost) s) (Frame [ETH.COUNT_LOCK_LOSS, ETH.PORT_STAT_FEC_LOCK, ETH.PORT_STAT_LINK_UP, ETH.PORT_STAT_LOCAL_FAULT, ETH.PORT_STAT_REMOTE_FAULT] [(.eth, q)] [.flow] [.eth] s)) ∧
  (∀ (i : Fin 192) (f : SdiLine) (s : State),
    Completes (exec (.sdiLineReceived i f) s) (Frame [VIN.CNT_ANC_DROP, VIN.CNT_AUD_UNCORR, VIN.CNT_CRC_FRAMES, VIN.CNT_CRC_LINES, VIN.FMT_VALID, VIN.HID_ANCBYTES, VIN.HID_BEGUN, VIN.HID_CRC, VIN.HID_EVER, VIN.HID_FRAME, VIN.HID_GOOD, VIN.HID_NOPID, VIN.HID_TAG, VIN.HID_TRS, VIN.PID_WORD, VIN.STAT_PID_SEEN, VIN.STAT_STATE, VIN.STAT_TRS_LOCK] [(.vin, i)] [.ess] [.vin] s)) ∧
  (∀ (i : Fin 192) (s : State),
    Completes (exec (.trsMissing i) s) (Frame [VIN.FMT_VALID, VIN.HID_BEGUN, VIN.HID_EVER, VIN.HID_FRAME, VIN.HID_GOOD, VIN.HID_NOPID, VIN.HID_TRS, VIN.STAT_PID_SEEN, VIN.STAT_STATE, VIN.STAT_TRS_LOCK] [(.vin, i)] [] [.vin] s)) ∧
  (∀ (i : Fin 192) (f : SdiFrame) (s : State),
    Completes (exec (.viFrameStart i f) s) (Frame (ipInputFields ++ [VIN.AUD_RATE_RATE, VIN.AUD_STAT_PRESENT, VIN.HID_ANCBYTES, VIN.HID_BLACK, VIN.HID_CAND, VIN.HID_CRC, VIN.HID_NOTBLACK, VIN.HID_SAME, VIN.HID_SIG, VIN.STAT_BLACK, VIN.STAT_FREEZE, VIN.STAT_SKEW, VIN.STAT_SKEW_ERR, VIN.TC_FRAMES, VIN.TC_HOURS, VIN.TC_MINUTES, VIN.TC_RUNNING, VIN.TC_SECONDS]) [(.vin, i)] [.ess] [.vin] s)) ∧
  (∀ (o : Fin 192) (f : LineFacts) (s : State),
    Completes (exec (.outputLineRead o f) s) (Frame [CE.ENG_STAT_SUSPECT, FABRIC.CNT_TAG_ERR, REPAIR.CNT_LINE_SWAPS, REPAIR.CNT_TWIN_MISMATCH, VOUT.HID_DEF, VOUT.HID_SELFAIL] [] [.repair] [.fabric, .repair] s)) ∧
  (∀ (o : Fin 192) (timedOut : Bool) (s : State),
    Completes (exec (.generatorStart o timedOut) s) (Frame [QUAD.TXSL_STAT_STATE, VOUT.FRAME_CNT_COUNT, VOUT.HID_DELTA, VOUT.HID_INSERVICE, VOUT.HID_PVALID, VOUT.HID_STEP, VOUT.PHASE_ERR_ERR, VOUT.STAT_STATE, VOUT.TIM_STAT_STATE] [(.vout, o), (.quad, o / 4)] [.video] [.vout] s)) ∧
  (∀ (o : Fin 192) (s : State),
    Completes (exec (.slewDone o) s) (Frame [VOUT.PHASE_ERR_ERR, VOUT.TIM_STAT_STATE] [(.vout, o)] [] [.vout] s)) ∧
  (∀ (o : Fin 192) (s : State),
    Completes (exec (.stepLinesSent o) s) (Frame [VOUT.HID_REST, VOUT.PHASE_ERR_ERR, VOUT.TIM_STAT_STATE] [(.vout, o)] [] [.vout] s))

/-- What a register command that asks the ledger, the engines, the store or the mesh may change, and nothing else. The register commands
that ask the ledger, the flow engine, the memory, the engines, Cicada, the port groups, the references, the synthesisers, the formation,
the supervisors, the store, the keys and the I2C buses for something. Each command completes on every state and all operands, and from
the state before to the state after: every register field outside the clause's list (and, where the clause names an instance of a page,
every field of that page at any other instance) reads as before, but for those that show the device's condition (alwaysShown); every
part of the state outside the clause's list of parts is as before; and no page outside the clause's list, but for those of shownPages,
has an event bit changed. (R123; R146; R167; R253; R275; R290; R292; R318; R360; R380; R418; R472.) -/
def Obligations.FrameOfRequests : Prop :=
  (∀ (m : Fin 7) (v : Word) (s : State),
    Completes (exec (.ctxReqAlloc m v) s) (Frame (errorFields ++ decisionFields ++ writtenAt .flow 0 0x080 ++ contextFields ++ [FC.W0_STATE, FLOW.CTX_RESP_BUSY, FLOW.CTX_RESP_CODE, FLOW.CTX_RESP_DONE, FLOW.FE_STAT_CONTEXTS]) [] [.video] [.ledger] s)) ∧
  (∀ (m : Fin 7) (v : Word) (s : State),
    Completes (exec (.ctxReqModify m v) s) (Frame (errorFields ++ decisionFields ++ ipInputFields ++ writtenAt .flow 0 0x080 ++ contextFields ++ [FLOW.CTX_RESP_BUSY, FLOW.CTX_RESP_CODE, FLOW.CTX_RESP_DONE, FLOW.FE_STAT_CONTEXTS]) [] [.flow, .video] Page.directory s)) ∧
  (∀ (m : Fin 7) (v : Word) (s : State),
    Completes (exec (.ctxReqActivate m v) s) (Frame (errorFields ++ decisionFields ++ ipInputFields ++ writtenAt .flow 0 0x080 ++ [FC.HID_GOOD, FC.HID_MISM, FC.HID_SEEN, FC.W0_STATE, FLOW.CTX_RESP_BUSY, FLOW.CTX_RESP_CODE, FLOW.CTX_RESP_DONE, FLOW.FE_STAT_CONTEXTS]) [] [.flow] Page.directory s)) ∧
  (∀ (m : Fin 7) (v : Word) (s : State),
    Completes (exec (.ctxReqDeactivate m v) s) (Frame (errorFields ++ decisionFields ++ ipInputFields ++ writtenAt .flow 0 0x080 ++ [FC.HID_GOOD, FC.HID_MISM, FC.W0_STATE, FLOW.CTX_RESP_BUSY, FLOW.CTX_RESP_CODE, FLOW.CTX_RESP_DONE, FLOW.FE_STAT_CONTEXTS, FLOW.FWD_RESP_PENDING]) [] [.flow] Page.directory s)) ∧
  (∀ (m : Fin 7) (v : Word) (s : State),
    Completes (exec (.ctxReqFree m v) s) (Frame (errorFields ++ decisionFields ++ ipInputFields ++ writtenAt .flow 0 0x080 ++ contextFields ++ [FLOW.CTX_RESP_BUSY, FLOW.CTX_RESP_CODE, FLOW.CTX_RESP_DONE, FLOW.FE_STAT_CONTEXTS, FLOW.FWD_RESP_PENDING]) [] [.flow, .video] Page.directory s)) ∧
  (∀ (m : Fin 7) (v : Word) (s : State),
    Completes (exec (.fwdTake m v) s) (Frame (errorFields ++ decisionFields ++ writtenAt .flow 0 0x08C ++ [FLOW.FWD_RESP_CODE, FLOW.FWD_RESP_DONE, FLOW.FWD_RESP_INDEX, FLOW.FWD_RESP_PENDING]) [] [.flow] [.ledger] s)) ∧
  (∀ (m : Fin 7) (v : Word) (s : State),
    Completes (exec (.fwdTakeBatch m v) s) (Frame (errorFields ++ decisionFields ++ writtenAt .flow 0 0x08C ++ [FLOW.FWD_RESP_CODE, FLOW.FWD_RESP_DONE, FLOW.FWD_RESP_INDEX]) [] [.flow] [.ledger] s)) ∧
  (∀ (m : Fin 7) (v : Word) (s : State),
    Completes (exec (.fwdGo m v) s) (Frame (errorFields ++ decisionFields ++ writtenAt .flow 0 0x090 ++ [FLOW.FWD_RESP_CODE, FLOW.FWD_RESP_DONE, FLOW.FWD_RESP_INDEX, FLOW.FWD_RESP_PENDING]) [] [.flow] [.ledger] s)) ∧
  (∀ (m : Fin 7) (k : Fin 4096) (wide : Bool) (hi : Bool) (data : Nat) (s : State),
    Completes (exec (.nextHopWrite m k wide hi data) s) (Frame (errorFields ++ [NH.E_MAC_HI, NH.E_MAC_LO, NH.E_VALID]) [] [] [.flow] s)) ∧
  (∀ (m : Fin 7) (q : Fin 16) (tx : Bool) (v : Word) (descs : List HostDesc) (s : State),
    Completes (exec (.hqTailWrite m q tx v descs) s) (Frame (errorFields ++ writtenAt .flow 3 ((if tx then 0x240 else 0x040) + 0x20 * q.val + 0x10) ++ [ETH.COUNT_TX_DROP, ETH.COUNT_TX_SENT, FLOW.HQ_RX_HEAD, FLOW.HQ_RX_SIZE, FLOW.HQ_TX_HEAD, FLOW.HQ_TX_SIZE]) [] [.flow] [.flow] s)) ∧
  (∀ (m : Fin 7) (v : Word) (f : TakeFacts) (s : State),
    Completes (exec (.take m v f) s) (Frame (errorFields ++ decisionFields ++ bookFields ++ writtenAt .route 0 0x048 ++ [MESHCTL.PEER_RELAY, MESHCTL.PEER_RELAY_VALID, MESHCTL.SALVO_MEMBER_MEMBER, ROUTE.CNT_REFUSALS, ROUTE.CNT_TAKES, ROUTE.RESP_BUSY, ROUTE.RESP_CODE, ROUTE.RESP_DONE, ROUTE.RESP_INDEX, RTE.W1_PENDING]) [] [.video] [.ledger, .meshctl] s)) ∧
  (∀ (m : Fin 7) (v : Word) (s : State),
    Completes (exec (.takeHold m v) s) (Frame (errorFields ++ decisionFields ++ writtenAt .route 0 0x048 ++ [ROUTE.CNT_REFUSALS, ROUTE.RESP_BUSY, ROUTE.RESP_CODE, ROUTE.RESP_DONE, ROUTE.RESP_INDEX, ROUTE.SALVO_CTL_HELD]) [] [.video] [.ledger] s)) ∧
  (∀ (m : Fin 7) (v : Word) (f : List TakeFacts) (s : State),
    Completes (exec (.salvoGo m v f) s) (Frame (errorFields ++ decisionFields ++ bookFields ++ writtenAt .route 0 0x04C ++ [MESHCTL.PEER_RELAY, MESHCTL.PEER_RELAY_VALID, MESHCTL.SALVO_MEMBER_MEMBER, ROUTE.CNT_REFUSALS, ROUTE.CNT_SALVOS, ROUTE.CNT_TAKES, ROUTE.RESP_BUSY, ROUTE.RESP_CODE, ROUTE.RESP_DONE, ROUTE.RESP_INDEX, ROUTE.RESP_WAITING, ROUTE.SALVO_CTL_HELD, RTE.W1_PENDING]) [] [.video] [.ledger, .meshctl, .route] s)) ∧
  (∀ (m : Fin 7) (s : State),
    Completes (exec (.salvoAbort m) s) (Frame (errorFields ++ [ROUTE.SALVO_CTL_HELD, ROUTE.SALVO_CTL_TIMED, ROUTE.TAKE_CTL_BATCH, ROUTE.TAKE_CTL_DMEMBER, ROUTE.TAKE_CTL_DM_VALID, ROUTE.TAKE_DST_SLOT, ROUTE.TAKE_ENTRY_W0]) [] [.video] [] s)) ∧
  (∀ (m : Fin 7) (c : Fin 32) (s : State),
    Completes (exec (.migrateOut m c) s) (Frame (errorFields ++ bookFields ++ stepFields ++ unitFields [.memch] ++ writtenAt .memch c 0x058 ++ [LEDGER.STAT_RESERVE_SPENT, MEMCH.CH_STAT_HEALTH, REPAIR.CNT_RETIREMENTS, SYNCMGR.EVAC_BUSY, SYNCMGR.EVAC_DONE, SYNCMGR.MIGR_STAT_ACTIVE, VOUT.HID_SHED]) [] [.repair, .video] [.ledger, .memch, .repair, .syncmgr] s)) ∧
  (∀ (m : Fin 7) (c : Fin 32) (failing : Nat) (s : State),
    Completes (exec (.channelSelftest m c failing) s) (Frame (errorFields ++ bookFields ++ stepFields ++ unitFields [.memch] ++ writtenAt .memch c 0x058 ++ [LEDGER.STAT_RESERVE_SPENT, MEMCH.CH_STAT_HEALTH, MEMCH.CH_STAT_SPARE_LEFT, MEMCH.CNT_REMAPPED, REPAIR.CNT_RETIREMENTS]) [] [.repair] [.ledger, .memch, .repair] s)) ∧
  (∀ (m : Fin 7) (v : Word) (s : State),
    Completes (exec (.syncEvacRelease m v) s) (Frame (errorFields ++ bookFields ++ writtenAt .syncmgr 0 0x070 ++ [SYNCMGR.EVAC_BUSY, SYNCMGR.QUAD_STAT_STATE]) [] [] [.ledger] s)) ∧
  (∀ (m : Fin 7) (v : Word) (f : TakeFacts) (s : State),
    Completes (exec (.profDstGo m v f) s) (Frame (errorFields ++ decisionFields ++ bookFields ++ writtenAt .ce 0 0x210 ++ [CE.PROF_MAP_PROFILE, CE.PROF_MAP_TT_PROFILE, CE.PROF_RESP_CODE, CE.PROF_RESP_DONE, MESHCTL.PEER_RELAY, MESHCTL.PEER_RELAY_VALID, RTE.W1_PENDING]) [] [.video] [.ledger, .meshctl] s)) ∧
  (∀ (m : Fin 7) (v : Word) (s : State),
    Completes (exec (.loadCommit m v) s) (Frame (errorFields ++ writtenAt .ce 0 0x200 ++ [CE.HID_LOADKIND, CE.HID_LOADTARGET, CE.LOAD_STAT_BUSY, CE.LOAD_STAT_DONE, CE.LOAD_STAT_ERR]) [] [] [.ce] s)) ∧
  (∀ (m : Fin 7) (v : Word) (s : State),
    Completes (exec (.ceEvacGo m v) s) (Frame (errorFields ++ decisionFields ++ bookFields ++ writtenAt .ce 0 0x218 ++ [CE.EVAC_BUSY, CE.EVAC_CODE, CE.EVAC_DONE, CE.HID_EVACC, CE.HID_EVACUATED]) [] [.video] [.ce, .ledger] s)) ∧
  (∀ (m : Fin 7) (v : Word) (s : State),
    Completes (exec (.ceEvacRelease m v) s) (Frame (errorFields ++ bookFields ++ writtenAt .ce 0 0x218 ++ [CE.EVAC_BUSY, CE.HID_EVACUATED]) [] [] [.ledger] s)) ∧
  (∀ (m : Fin 7) (v : Word) (s : State),
    Completes (exec (.xpReqGo m v) s) (Frame (errorFields ++ decisionFields ++ writtenAt .audio 0 0x060 ++ [AUDIO.ENG_STAT_POOL_USED, AUDIO.XP_RESP_CODE, AUDIO.XP_RESP_DONE, AUDIO.XP_RESP_INDEX]) [] [.audio, .video] [.ledger] s)) ∧
  (∀ (m : Fin 7) (v : Word) (s : State),
    Completes (exec (.xpReqBatch m v) s) (Frame (errorFields ++ decisionFields ++ writtenAt .audio 0 0x060 ++ [AUDIO.ENG_STAT_POOL_USED, AUDIO.XP_RESP_CODE, AUDIO.XP_RESP_DONE, AUDIO.XP_RESP_INDEX]) [] [.audio, .video] [.ledger] s)) ∧
  (∀ (m : Fin 7) (v : Word) (s : State),
    Completes (exec (.xpGo m v) s) (Frame (errorFields ++ decisionFields ++ writtenAt .audio 0 0x064 ++ [AUDIO.ENG_STAT_POOL_USED, AUDIO.XP_RESP_CODE, AUDIO.XP_RESP_DONE, AUDIO.XP_RESP_INDEX]) [] [.audio, .video] [.ledger] s)) ∧
  (∀ (m : Fin 7) (v : Word) (s : State),
    Completes (exec (.xpAbort m v) s) (Frame (errorFields ++ writtenAt .audio 0 0x064) [] [.audio] [] s)) ∧
  (∀ (m : Fin 7) (v : Word) (s : State),
    Completes (exec (.sruAlloc m v) s) (Frame (errorFields ++ decisionFields ++ writtenAt .audio 1 0x044 ++ [AUDIO.SRU_FAR_RATE, AUDIO.SRU_FIRST, AUDIO.SRU_HIRATE, AUDIO.SRU_MODE, AUDIO.SRU_NCH, AUDIO.SRU_RESP_CODE, AUDIO.SRU_RESP_DONE, AUDIO.SRU_RESP_INDEX, AUDIO.SRU_STATE, AUDIO.SRU_VALID]) [] [] [.audio, .ledger] s)) ∧
  (∀ (m : Fin 7) (v : Word) (s : State),
    Completes (exec (.sruModify m v) s) (Frame (errorFields ++ decisionFields ++ writtenAt .audio 1 0x044 ++ [AUDIO.SRU_FAR_RATE, AUDIO.SRU_FIRST, AUDIO.SRU_HIRATE, AUDIO.SRU_MODE, AUDIO.SRU_NCH, AUDIO.SRU_RESP_CODE, AUDIO.SRU_RESP_DONE, AUDIO.SRU_RESP_INDEX, AUDIO.SRU_STATE, AUDIO.SRU_VALID]) [] [] [.audio, .ledger] s)) ∧
  (∀ (m : Fin 7) (v : Word) (s : State),
    Completes (exec (.sruFree m v) s) (Frame (errorFields ++ decisionFields ++ writtenAt .audio 1 0x044 ++ [AUDIO.SRU_FAR_RATE, AUDIO.SRU_FIRST, AUDIO.SRU_HIRATE, AUDIO.SRU_MODE, AUDIO.SRU_NCH, AUDIO.SRU_RATIO, AUDIO.SRU_RESP_CODE, AUDIO.SRU_RESP_DONE, AUDIO.SRU_RESP_INDEX, AUDIO.SRU_STATE, AUDIO.SRU_VALID]) [] [] [.audio, .ledger] s)) ∧
  (∀ (m : Fin 7) (v : Word) (s : State),
    Completes (exec (.mixReq m v) s) (Frame (errorFields ++ decisionFields ++ writtenAt .audio 4 0x040 ++ [AUDIO.MB_FIRST, AUDIO.MB_NIN, AUDIO.MIX_RESP_CODE, AUDIO.MIX_RESP_DONE]) [] [] [.ledger] s)) ∧
  (∀ (m : Fin 7) (v : Word) (s : State),
    Completes (exec (.mixCommit m v) s) (Frame (errorFields ++ decisionFields ++ writtenAt .audio 4 0x048 ++ [AUDIO.MIX_RESP_CODE, AUDIO.MIX_RESP_DONE]) [] [.audio] [.ledger] s)) ∧
  (∀ (m : Fin 7) (g : Fin 8) (v : Word) (s : State),
    Completes (exec (.grpArm m g v) s) (Frame (errorFields ++ writtenAt .aport 0 (0x200 + 4 * g.val) ++ [APORT.GRP_CTL_ARMED]) [] [] [] s)) ∧
  (∀ (m : Fin 7) (g : Fin 8) (v : Word) (s : State),
    Completes (exec (.grpDisarm m g v) s) (Frame (errorFields ++ writtenAt .aport 0 (0x200 + 4 * g.val) ++ [APORT.GRP_CTL_ARMED]) [] [] [] s)) ∧
  (∀ (m : Fin 7) (g : Fin 8) (v : Word) (s : State),
    Completes (exec (.grpGo m g v) s) (Frame (errorFields ++ writtenAt .aport 0 (0x200 + 4 * g.val) ++ [APORT.HID_TRIGGERED]) [] [] [.aport] s)) ∧
  (∀ (m : Fin 7) (slot : Option (Fin 16)) (v : Word) (s : State),
    Completes (exec (.rmCfgWrite m slot v) s) (Frame (errorFields ++ writtenAt .refmgr 0 0x040 ++ writtenAt .refmgr 0 0x040 ++ [REFMGR.CNT_ABANDONS, REFMGR.EVT_SLOT_SLOT, REFMGR.HID_AWAIT, REFMGR.HID_REST, REFMGR.RC_CFG_RANK, REFMGR.RM_CFG_HOLDOFF, REFMGR.RM_STAT_PENDING, REFMGR.RM_STAT_PENDING_VALID, REFMGR.RM_STAT_STATE]) [] [.shadow] [.refmgr] s)) ∧
  (∀ (m : Fin 7) (s : State),
    Completes (exec (.systimeRead m) s) (Frame (errorFields ++ [REFMGR.SYSTIME_NS_NS, REFMGR.SYSTIME_S_HI_SECONDS, REFMGR.SYSTIME_S_LO_SECONDS]) [] [] [] s)) ∧
  (∀ (m : Fin 7) (k : Fin 20) (frac : Bool) (v : Word) (s : State),
    Completes (exec (.synNWrite m k frac v) s) (Frame (errorFields ++ writtenAt .synth k (if frac then 0x044 else 0x040) ++ [APORT.AMCLK_CFG_GATED, QUAD.TXSL_STAT_STATE, SYNTH.CNT_BAND_SEARCHES, SYNTH.OUT_CFG_RUN, SYNTH.SYN_STAT_STATE, SYNTH.SYN_STAT_STATE_B, SYNTHCTL.HID_GATED]) [] [] [.aport, .synthctl] s)) ∧
  (∀ (m : Fin 7) (v : Word) (s : State),
    Completes (exec (.syncArm m v) s) (Frame (errorFields ++ writtenAt .synthctl 0 0x040 ++ [SYNTH.HID_ARMED, SYNTHCTL.SYNC_ARM_ARMED]) [] [] [.synth, .synthctl] s)) ∧
  (∀ (m : Fin 7) (k : Fin 8) (v : Word) (s : State),
    Completes (exec (.ispSwap m k v) s) (Frame (errorFields ++ writtenAt .synth (12 + k) 0x080 ++ [SYNTH.CNT_HOLDS, SYNTH.SYN_STAT_SEL]) [(.synth, 12 + k)] [] [.synth] s)) ∧
  (∀ (m : Fin 7) (k : Fin 8) (v : Word) (s : State),
    Completes (exec (.ispTest m k v) s) (Frame (errorFields ++ unitFields [.synth] ++ writtenAt .synth (12 + k) 0x080) [(.synth, 12 + k)] [] [] s)) ∧
  (∀ (m : Fin 7) (v : Word) (s : State),
    Completes (exec (.pairGo m v) s) (Frame (errorFields ++ writtenAt .meshctl 0 0x080 ++ [MESHCTL.PAIR_BUSY, MESHCTL.PAIR_CODE, MESHCTL.PAIR_DONE]) [] [] [.meshctl] s)) ∧
  (∀ (m : Fin 7) (v : Word) (s : State),
    Completes (exec (.leaveGo m v) s) (Frame (errorFields ++ decisionFields ++ writtenAt .meshctl 0 0x088 ++ [MESHCTL.LEAVE_DONE, MESHCTL.STAT_STATE]) [] [] [.ledger] s)) ∧
  (∀ (m : Fin 7) (v : Word) (s : State),
    Completes (exec (.leaveForce m v) s) (Frame (errorFields ++ writtenAt .meshctl 0 0x088 ++ [MESHCTL.HID_SENT, MESHCTL.LEAVE_DONE, MESHCTL.STAT_STATE]) [] [] [] s)) ∧
  (∀ (m : Fin 7) (v : Word) (s : State),
    Completes (exec (.raGo m v) s) (Frame (errorFields ++ writtenAt .meshctl 0 0x098 ++ [MESHCTL.HID_RA, MESHCTL.RA_CTL_CODE, MESHCTL.RA_CTL_DONE]) [] [] [] s)) ∧
  (∀ (m : Fin 7) (s : State),
    Completes (exec (.switchover m) s) (Frame (errorFields ++ [LEDGER.STAT_SERVING, ROUTE.SALVO_CTL_HELD, ROUTE.SALVO_CTL_TIMED, ROUTE.TAKE_CTL_BATCH, ROUTE.TAKE_CTL_DMEMBER, ROUTE.TAKE_CTL_DM_VALID, ROUTE.TAKE_DST_SLOT, ROUTE.TAKE_ENTRY_W0, SUPERVISOR.HID_SWITCH, SUPERVISOR.HID_TAKE, SUPERVISOR.LAST_CAUSE_CAUSE, SUPERVISOR.LAST_CAUSE_WHO, SUPERVISOR.STAT_ACTIVE, SUPERVISOR.STAT_MODE]) [] [.audio, .video] [.supervisor] s)) ∧
  (∀ (m : Fin 7) (s : State),
    Completes (exec (.supRetry m) s) (Frame (errorFields ++ [SUPERVISOR.HID_BOOTFAIL, SUPERVISOR.HID_HOLD, SUPERVISOR.STAT_ATTEMPT, SUPERVISOR.STAT_BACKOFF, SUPERVISOR.STAT_MODE]) [] [] [] s)) ∧
  (∀ (m : Fin 7) (s : State),
    Completes (exec (.retestStandby m) s) (Frame (errorFields ++ [SUPERVISOR.JOURNAL_IN_SYNC, SUPERVISOR.JOURNAL_LAG, SUPERVISOR.STAT_DEIMOS, SUPERVISOR.STAT_PHOBOS]) [] [] [] s)) ∧
  (∀ (m : Fin 7) (v : Word) (s : State),
    Completes (exec (.availClrGo m v) s) (Frame (errorFields ++ writtenAt .repair 0 0x07C ++ [REPAIR.DEFECTIVE_COUNT, REPAIR.FRAMES_COUNT, REPAIR.LATE_COUNT]) [] [] [] s)) ∧
  (∀ (m : Fin 7) (v : Word) (s : State),
    Completes (exec (.availClrAll m v) s) (Frame (errorFields ++ writtenAt .repair 0 0x07C ++ [REPAIR.DEFECTIVE_COUNT, REPAIR.FRAMES_COUNT, REPAIR.LATE_COUNT]) [] [] [] s)) ∧
  (∀ (m : Fin 7) (v : Word) (s : State),
    Completes (exec (.stbyEnter m v) s) (Frame (errorFields ++ writtenAt .power 0 0x04C ++ [MESHCTL.LEAVE_DONE, MESHCTL.STAT_STATE, POWER.HID_LINKEN, POWER.HID_WAKE, POWER.STBY_BUSY]) [] [] [] s)) ∧
  (∀ (m : Fin 7) (s : State),
    Completes (exec (.nvmStore m) s) (Frame (errorFields ++ [NVM.CNT_TEMP_WAITS, NVM.HID_QSNAP, NVM.HID_SNAP, NVM.PROGRESS_WORDS, NVM.STAGE_AFTER_TST, NVM.STAGE_ENTRIES, NVM.STAT_QUEUED, NVM.STAT_RESULT, NVM.STAT_STATE]) [] [.nvm] [] s)) ∧
  (∀ (m : Fin 7) (v : Word) (s : State),
    Completes (exec (.nvmSnapshot m v) s) (Frame (errorFields ++ [NVM.CNT_TEMP_WAITS, NVM.HID_QSNAP, NVM.HID_SNAP, NVM.PROGRESS_WORDS, NVM.STAGE_AFTER_TST, NVM.STAGE_ENTRIES, NVM.STAT_QUEUED, NVM.STAT_RESULT, NVM.STAT_STATE]) [] [.nvm] [] s)) ∧
  (∀ (m : Fin 7) (s : State),
    Completes (exec (.nvmAbort m) s) (Frame (errorFields ++ [NVM.CNT_TEMP_WAITS, NVM.HID_QSNAP, NVM.HID_SCAN, NVM.HID_SNAP, NVM.PROGRESS_WORDS, NVM.STAGE_AFTER_TST, NVM.STAGE_ENTRIES, NVM.STAT_QUEUED, NVM.STAT_RESULT, NVM.STAT_STATE]) [] [.nvm] [] s)) ∧
  (∀ (m : Fin 7) (s : State),
    Completes (exec (.nvmSelftest m) s) (Frame (errorFields ++ [NVM.HID_SCAN, NVM.STAT_STATE]) [] [] [] s)) ∧
  (∀ (m : Fin 7) (err : Fin 3) (s : State),
    Completes (exec (.rawRead m err) s) (Frame (errorFields ++ [NVM.CNT_CORRECTED, NVM.CNT_UNCORRECTABLE, NVM.ERR_ADDR_KIND, NVM.ERR_ADDR_WORD, NVM.RAW_CTL_DONE, NVM.RAW_CTL_ERR, NVM.RAW_HI_DATA, NVM.RAW_LO_DATA]) [] [.nvm] [] s)) ∧
  (∀ (m : Fin 7) (s : State),
    Completes (exec (.rawWrite m) s) (Frame (errorFields ++ [NVM.RAW_CTL_DONE, NVM.RAW_CTL_ERR]) [] [.nvm] [] s)) ∧
  (∀ (m : Fin 7) (v : Word) (s : State),
    Completes (exec (.keysDerive m v) s) (Frame (errorFields ++ slotFields ++ writtenAt .keys 0 0x04C ++ [KEYS.CNT_DERIVES, KEYS.CNT_STALE_REFUSALS, KEYS.RESP_BUSY, KEYS.RESP_CODE, KEYS.RESP_DONE, MESH.HID_STALE]) [] [.keys] [.keys] s)) ∧
  (∀ (m : Fin 7) (v : Word) (s : State),
    Completes (exec (.keysDestroy m v) s) (Frame (errorFields ++ slotFields ++ writtenAt .keys 0 0x04C ++ [KEYS.RESP_BUSY, KEYS.RESP_CODE, KEYS.RESP_DONE, MESH.HID_STALE]) [] [.keys] [.keys] s)) ∧
  (∀ (m : Fin 7) (k : Fin 8) (v : Word) (s : State),
    Completes (exec (.i2cXferGo m k v) s) (Frame (errorFields ++ writtenAt .gpio 0 (0x084 + 0x10 * k.val) ++ [GPIO.HID_XWRITE, GPIO.I2C_STAT_BUSY, GPIO.I2C_STAT_DONE, GPIO.I2C_STAT_NACK, GPIO.I2C_STAT_TIMEOUT]) [] [] [] s))

/-- What the events of flows, memory channels, engines, audio and ports may change, and nothing else. The events of flows, memory channels,
conversion engines, Cicada and the serial audio ports. Each command completes on every state and all operands, and from the state before
to the state after: every register field outside the clause's list (and, where the clause names an instance of a page, every field of
that page at any other instance) reads as before, but for those that show the device's condition (alwaysShown); every part of the state
outside the clause's list of parts is as before; and no page outside the clause's list, but for those of shownPages, has an event bit
changed. (R128; R130; R133; R136; R139; R142; R145; R150; R187; R291; R309; R318.) -/
def Obligations.FrameOfEssenceEvents : Prop :=
  (∀ (fc : Fin 262144) (s : State),
    Completes (exec (.sendDeactivateEnd fc) s) (Frame (ipInputFields ++ [FC.HID_GOOD, FC.HID_MISM, FC.W0_STATE]) [] [.flow] Page.directory s)) ∧
  (∀ (d : Datagram) (s : State),
    Completes (exec (.flowDatagram d) s) (Frame (ipInputFields ++ contextFields ++ [ETH.COUNT_TX_DROP, ETH.COUNT_TX_SENT, FC.HID_AWAIT, FC.HID_BITS, FC.HID_GOOD, FC.HID_MISM, FC.HID_RAMP, FC.HID_SEEN, FC.HID_SEQ, FC.HID_TS, FC.HID_TXSEQ, FC.HID_WIN, FC.W0_STATE, FC.W10_PKTS, FC.W11_LATE, FC.W11_LOST, FLOW.CNT_ECC_CORR, FLOW.CNT_ECC_UNCORR, FLOW.EVT_FC_FC, VIN.CNT_ANC_DROP, VIN.CNT_CRC_FRAMES, VIN.CNT_CRC_LINES, VIN.HID_ANCBYTES, VIN.HID_CRC, VIN.HID_TAG, VIN.PID_WORD]) [] [.buf, .ess, .flow, .video] Page.directory s)) ∧
  (∀ (bank : Fin 16) (row : Nat) (s : State),
    Completes (exec (.flowRowRemap bank row) s) (Frame [] [] [.flow] [] s)) ∧
  (∀ (fc : Fin 262144) (s : State),
    Completes (exec (.flowLost fc) s) (Frame (ipInputFields ++ [FC.HID_GOOD, FC.HID_MISM, FC.HID_RAMP, FC.W0_STATE, FLOW.EVT_FC_FC]) [] [.ess, .flow] Page.directory s)) ∧
  (∀ (fc : Fin 262144) (s : State),
    Completes (exec (.legLost fc) s) (Frame (ipInputFields ++ [FC.HID_AWAIT, FC.HID_GOOD, FC.HID_MISM, FC.HID_RAMP, FC.W0_STATE, FLOW.EVT_FC_FC]) [] [.ess, .flow] Page.directory s)) ∧
  (∀ (fc : Fin 262144) (s : State),
    Completes (exec (.mergeRelease fc) s) (Frame (ipInputFields ++ contextFields ++ [ETH.COUNT_TX_DROP, ETH.COUNT_TX_SENT, FC.HID_AWAIT, FC.HID_BITS, FC.HID_MSEQ, FC.HID_RAMP, FC.HID_TS, FC.HID_TXSEQ, FC.HID_WIN, FC.W10_PKTS, FC.W11_LATE, FLOW.EVT_FC_FC, VIN.CNT_ANC_DROP, VIN.CNT_CRC_FRAMES, VIN.CNT_CRC_LINES, VIN.HID_ANCBYTES, VIN.HID_CRC, VIN.HID_TAG, VIN.PID_WORD]) [] [.ess, .flow, .video] Page.directory s)) ∧
  (∀ (fc : Fin 262144) (start : Bool) (bytes : Nat) (s : State),
    Completes (exec (.txPacketSend fc start bytes) s) (Frame (ipInputFields ++ contextFields ++ [ETH.COUNT_TX_DROP, ETH.COUNT_TX_SENT, FC.HID_TS, FC.HID_TXSEQ, FC.W0_PORT, FC.W0_VLAN_EN, FC.W10_PKTS, FC.W3_DPORT, FC.W3_SPORT, FC.W4_SSRC, FC.W5_DSCP, FC.W5_PT, FC.W5_VLAN, FC.W6_TTL]) [] [.flow, .video] Page.directory s)) ∧
  (∀ (p : Fin 96) (s : State),
    Completes (exec (.membershipReport p) s) (Frame [ETH.COUNT_TX_SENT] [] [.flow] [] s)) ∧
  (∀ (p : Fin 96) (s : State),
    Completes (exec (.reportRepeat p) s) (Frame [ETH.COUNT_TX_SENT] [] [.flow] [] s)) ∧
  (∀ (p : Fin 96) (s : State),
    Completes (exec (.queryResponse p) s) (Frame [ETH.COUNT_TX_SENT] [] [.flow] [] s)) ∧
  (∀ (fc : Fin 262144) (s : State),
    Completes (exec (.flowTakeSwitch fc) s) (Frame (ipInputFields ++ contextFields ++ [ETH.COUNT_TX_DROP, ETH.COUNT_TX_SENT, FC.HID_AWAIT, FC.HID_BITS, FC.HID_FROM, FC.HID_TXSEQ, FC.HID_WIN, FC.W10_PKTS, FC.W11_LATE, FC.W7_LINK, FC.W8_RAW, FLOW.EVT_FC_FC, FLOW.FWD_RESP_PENDING]) [] [.flow, .video] Page.directory s)) ∧
  (∀ (fc : Fin 262144) (s : State),
    Completes (exec (.holdTrunc fc) s) (Frame (ipInputFields ++ contextFields ++ [ETH.COUNT_TX_DROP, ETH.COUNT_TX_SENT, FC.HID_AWAIT, FC.HID_BITS, FC.HID_FROM, FC.HID_TXSEQ, FC.HID_WIN, FC.W10_PKTS, FC.W11_LATE, FC.W7_LINK, FC.W8_RAW, FLOW.EVT_FC_FC, FLOW.FWD_RESP_PENDING]) [] [.flow, .video] Page.directory s)) ∧
  (∀ (m : Fin 7) (late : List Nat) (s : State),
    Completes (exec (.timedSalvoCommit m late) s) (Frame (bookFields ++ [ROUTE.CNT_TAKES, ROUTE.RESP_WAITING, RTE.W1_PENDING]) [] [.video] [.ledger] s)) ∧
  (∀ (c : Fin 32) (sector : Nat) (s : State),
    Completes (exec (.sectorCorrected c sector) s) (Frame (bookFields ++ stepFields ++ unitFields [.memch] ++ [LEDGER.STAT_RESERVE_SPENT, MEMCH.CE_RATE_COUNT, MEMCH.CH_STAT_HEALTH, MEMCH.CH_STAT_SPARE_LEFT, MEMCH.CNT_CORR, MEMCH.CNT_REMAPPED, MEMCH.ERR_ADDR_KIND, MEMCH.ERR_ADDR_SECTOR, REPAIR.CNT_RETIREMENTS, SYNCMGR.EVAC_BUSY, SYNCMGR.EVAC_DONE, SYNCMGR.MIGR_STAT_ACTIVE, VOUT.HID_SHED]) [] [.repair, .video] [.ledger, .memch, .repair, .syncmgr] s)) ∧
  (∀ (c : Fin 32) (sector : Nat) (alloc : Bool) (s : State),
    Completes (exec (.sectorUncorrectable c sector alloc) s) (Frame (bookFields ++ stepFields ++ unitFields [.memch] ++ [LEDGER.STAT_RESERVE_SPENT, MEMCH.CH_STAT_HEALTH, MEMCH.CNT_UNCORR, MEMCH.ERR_ADDR_KIND, MEMCH.ERR_ADDR_SECTOR, REPAIR.CNT_RETIREMENTS, SYNCMGR.EVAC_BUSY, SYNCMGR.EVAC_DONE, SYNCMGR.MIGR_STAT_ACTIVE, VOUT.HID_SHED]) [] [.repair, .video] [.ledger, .memch, .repair, .syncmgr] s)) ∧
  (∀ (c : Fin 32) (s : State),
    Completes (exec (.channelDead c) s) (Frame (bookFields ++ stepFields ++ unitFields [.memch] ++ [LEDGER.STAT_RESERVE_SPENT, MEMCH.CH_STAT_HEALTH, REPAIR.CNT_RETIREMENTS, REPAIR.PROT_CFG_SEL, SYNCMGR.EVAC_BUSY, SYNCMGR.EVAC_DONE, SYNCMGR.MIGR_STAT_ACTIVE, VOUT.HID_SELRUN, VOUT.HID_SHED]) [] [.buf, .repair, .video] [.ledger, .memch, .repair, .syncmgr] s)) ∧
  (∀ (q : Fin 4) (s : State),
    Completes (exec (.retrainEnd q) s) (Frame (bookFields ++ [MEMCH.CH_STAT_TRAINED, SYNCMGR.QUAD_STAT_STATE]) [] [] [.ledger] s)) ∧
  (∀ (o : Fin 192) (s : State),
    Completes (exec (.holdMaxExpire o) s) (Frame [SYNCMGR.FS_STAT_MODE] [] [] [] s)) ∧
  (∀ (s : State),
    Completes (exec .loadDone s) (Frame [CE.HID_LUTPAIR, CE.LOAD_STAT_BUSY, CE.LOAD_STAT_DONE] [] [.buf] [.ce] s)) ∧
  (∀ (ce : Fin 36) (cause : Nat) (s : State),
    Completes (exec (.engineHardFault ce cause) s) (Frame (bookFields ++ stepFields ++ unitFields [.ce] ++ [CE.ENG_STAT_SUSPECT, REPAIR.CNT_RETIREMENTS, REPAIR.PROT_CFG_SEL, VOUT.HID_SELRUN, VOUT.HID_SHED]) [] [.repair, .video] [.ce, .ledger, .repair] s)) ∧
  (∀ (ce : Fin 36) (st : Fin 4) (s : State),
    Completes (exec (.vectorFault ce st) s) (Frame [CE.CNT_VEC_FAULTS, CE.ENG_STAT_SUSPECT] [] [.repair, .video] [.ce] s)) ∧
  (∀ (ce : Fin 36) (pass : Bool) (s : State),
    Completes (exec (.ceSpareSelftest ce pass) s) (Frame (bookFields ++ stepFields ++ unitFields [.ce] ++ [CE.CNT_SELFTESTS, REPAIR.CNT_RETIREMENTS]) [] [.repair, .video] [.ce, .ledger, .repair] s)) ∧
  (∀ (ch : Fin 32768) (s : State),
    Completes (exec (.zcTimeout ch) s) (Frame [AUDIO.CNT_ZC_TIMEOUTS, AUDIO.EVT_CH_CH, AUDIO.EVT_CH_SIDE, XPT.W2_DELAY, XPT.W2_LONG] [] [.audio] [.audio] s)) ∧
  (∀ (ch : Fin 32768) (s : State),
    Completes (exec (.poolDelayAct ch) s) (Frame [XPT.W2_DELAY, XPT.W2_LONG] [] [.audio] [] s)) ∧
  (∀ (k : Fin 256) (ratio : BitVec 32) (s : State),
    Completes (exec (.sruLock k ratio) s) (Frame [AUDIO.SRU_RATIO, AUDIO.SRU_STATE] [] [] [.audio] s)) ∧
  (∀ (k : Fin 256) (s : State),
    Completes (exec (.sruLost k) s) (Frame [AUDIO.SRU_STATE] [] [] [.audio] s)) ∧
  (∀ (half : Bool) (s : State),
    Completes (exec (.halfSwap half) s) (Frame (stepFields ++ unitFields [.audio] ++ [AUDIO.CNT_HALF_SWAPS, AUDIO.ENG_STAT_A_RUN, AUDIO.ENG_STAT_B_RUN, AUDIO.ENG_STAT_SEL, REPAIR.CNT_RETIREMENTS]) [] [.repair] [.audio, .repair] s)) ∧
  (∀ (p : Fin 16) (tx : Bool) (s : State),
    Completes (exec (.portFadeEnd p tx) s) (Frame [APORT.HID_CLEAN, APORT.HID_STARTING, APORT.HID_STEP, APORT.PORT_STAT_RX_STATE, APORT.PORT_STAT_TX_STATE] [(.aport, p)] [] [] s)) ∧
  (∀ (p : Fin 16) (tx : Bool) (s : State),
    Completes (exec (.portRejoin p tx) s) (Frame [APORT.HID_CLEAN, APORT.HID_STARTING, APORT.HID_STEP, APORT.HID_WAIT, APORT.LAST_REALIGN_RX, APORT.LAST_REALIGN_TX, APORT.PORT_STAT_RX_FILL, APORT.PORT_STAT_TX_FILL, APORT.PORT_STAT_RX_STATE, APORT.PORT_STAT_TX_STATE] [] [.ports] [.aport] s)) ∧
  (∀ (p : Fin 16) (tx : Bool) (s : State),
    Completes (exec (.portRampEnd p tx) s) (Frame [APORT.HID_CLEAN, APORT.HID_STEP, APORT.HID_WAIT, APORT.PORT_STAT_RX_STATE, APORT.PORT_STAT_TX_STATE] [(.aport, p)] [] [] s)) ∧
  (∀ (p : Fin 16) (tx : Bool) (s : State),
    Completes (exec (.portStopDone p tx) s) (Frame [APORT.GRP_CTL_RUNNING, APORT.HID_CLEAN, APORT.HID_STARTING, APORT.HID_STEP, APORT.HID_WAIT, APORT.PORT_CFG_RX_EN, APORT.PORT_CFG_TX_EN, APORT.PORT_STAT_RX_FILL, APORT.PORT_STAT_TX_FILL, APORT.PORT_STAT_RX_STATE, APORT.PORT_STAT_TX_STATE] [] [.ess, .ports] [] s)) ∧
  (∀ (p : Fin 16) (s : State),
    Completes (exec (.portClkLost p) s) (Frame [APORT.CNT_CLK_LOSSES, APORT.FS_MEAS_VALID, APORT.HID_CLEAN, APORT.HID_STEP, APORT.PORT_STAT_CLK_OK, APORT.PORT_STAT_RX_STATE, APORT.PORT_STAT_TX_STATE] [] [] [.aport] s)) ∧
  (∀ (p : Fin 16) (s : State),
    Completes (exec (.syncConfirm p) s) (Frame [APORT.HID_SYNC, APORT.PORT_STAT_SYNC] [(.aport, p)] [] [.aport] s)) ∧
  (∀ (p : Fin 16) (s : State),
    Completes (exec (.syncWithdraw p) s) (Frame [APORT.HID_SYNC, APORT.PORT_STAT_SYNC] [(.aport, p)] [] [.aport] s)) ∧
  (∀ (gpio : Option (Fin 32)) (s : State),
    Completes (exec (.apstartEdge gpio) s) (Frame [APORT.HID_TRIGGERED] [] [] [.aport] s)) ∧
  (∀ (g : Fin 8) (s : State),
    Completes (exec (.groupStartFrame g) s) (Frame [APORT.GRP_CTL_ARMED, APORT.GRP_CTL_RUNNING, APORT.GRP_IDX_INDEX, APORT.HID_CLEAN, APORT.HID_STEP, APORT.HID_TRIGGERED, APORT.PORT_STAT_RX_STATE, APORT.PORT_STAT_TX_STATE] [] [] [] s))

/-- What the events of references, synthesisers, mesh links and supervisors may change, and nothing else. The events of reference
candidates, synthesisers, mesh links, the formation and the supervisors. Each command completes on every state and all operands, and
from the state before to the state after: every register field outside the clause's list (and, where the clause names an instance of a
page, every field of that page at any other instance) reads as before, but for those that show the device's condition (alwaysShown);
every part of the state outside the clause's list of parts is as before; and no page outside the clause's list, but for those of
shownPages, has an event bit changed. (R329; R330; R331; R338; R339; R347; R375; R376; R384; R407; R409; R411.) -/
def Obligations.FrameOfReferenceAndMeshEvents : Prop :=
  (∀ (k : Fin 16) (f : RcMeas) (s : State),
    Completes (exec (.candidatePresent k f) s) (Frame [REFMGR.CNT_ABANDONS, REFMGR.EVT_SLOT_SLOT, REFMGR.HID_AWAIT, REFMGR.RC_DETECT_AMPL, REFMGR.RC_DETECT_RASTER, REFMGR.RC_DETECT_RATE, REFMGR.RC_DETECT_TENFIELD, REFMGR.RC_DETECT_TRILEVEL, REFMGR.RC_FREQ_OFFSET, REFMGR.RC_FREQ_VALID, REFMGR.RC_PHASE_NS, REFMGR.RC_STAT_PHASE_VALID, REFMGR.RC_STAT_RETURN, REFMGR.RC_STAT_STATE, REFMGR.RC_STAT_TIME, REFMGR.RM_STAT_PENDING_VALID, REFMGR.RM_STAT_STATE] [] [] [.refmgr] s)) ∧
  (∀ (k : Fin 16) (gm : Bool) (s : State),
    Completes (exec (.candidateAbsent k gm) s) (Frame referenceFields [] [] [.refmgr] s)) ∧
  (∀ (k : Fin 16) (s : State),
    Completes (exec (.qualTestFail k) s) (Frame [REFMGR.EVT_SLOT_SLOT, REFMGR.HID_AWAIT, REFMGR.HID_HOLDOFF, REFMGR.HID_REST, REFMGR.RC_STAT_RETURN, REFMGR.RC_STAT_STATE, REFMGR.RM_STAT_PENDING, REFMGR.RM_STAT_PENDING_VALID, REFMGR.RM_STAT_STATE] [] [] [.refmgr] s)) ∧
  (∀ (k : Fin 16) (f : RcMeas) (s : State),
    Completes (exec (.qualifyEnd k f) s) (Frame [REFMGR.EVT_SLOT_SLOT, REFMGR.HID_AWAIT, REFMGR.HID_REST, REFMGR.RC_DETECT_AMPL, REFMGR.RC_DETECT_RASTER, REFMGR.RC_DETECT_RATE, REFMGR.RC_DETECT_TENFIELD, REFMGR.RC_DETECT_TRILEVEL, REFMGR.RC_FREQ_OFFSET, REFMGR.RC_FREQ_VALID, REFMGR.RC_PHASE_NS, REFMGR.RC_STAT_PHASE_VALID, REFMGR.RC_STAT_STATE, REFMGR.RC_STAT_TIME, REFMGR.RM_STAT_PENDING, REFMGR.RM_STAT_PENDING_VALID, REFMGR.RM_STAT_STATE] [] [] [.refmgr] s)) ∧
  (∀ (s : State),
    Completes (exec .holdoffExpire s) (Frame [REFMGR.HID_AWAIT, REFMGR.HID_HOLDOFF, REFMGR.HID_REST, REFMGR.RM_STAT_PENDING, REFMGR.RM_STAT_PENDING_VALID, REFMGR.RM_STAT_STATE] [] [] [] s)) ∧
  (∀ (diff : Int) (ptpCap : Nat) (s : State),
    Completes (exec (.prepareEnd diff ptpCap) s) (Frame [REFMGR.BW_NOW_BW, REFMGR.CNT_SWITCHES, REFMGR.EVT_SLOT_SLOT, REFMGR.HID_CAP, REFMGR.HID_HOLDOFF, REFMGR.LAST_STEP_NS_NS, REFMGR.LAST_STEP_S_SECONDS, REFMGR.RC_STAT_RETURN, REFMGR.RC_STAT_STATE, REFMGR.RM_STAT_ACTIVE, REFMGR.RM_STAT_ACTIVE_VALID, REFMGR.RM_STAT_PENDING_VALID, REFMGR.RM_STAT_STATE, VOUT.HID_DELTA, VOUT.HID_STEP] [] [.clk] [.refmgr] s)) ∧
  (∀ (s : State),
    Completes (exec .loopStep s) (Frame [REFMGR.BW_NOW_BW, REFMGR.HID_REST, REFMGR.RM_STAT_STATE] [] [] [] s)) ∧
  (∀ (a : Fin 16) (b : Fin 16) (fa : Int) (fb : Int) (s : State),
    Completes (exec (.dispute a b fa fb) s) (Frame (referenceFields ++ [REFMGR.CNT_DISPUTES, REFMGR.HID_DISPUTE, REFMGR.RC_FREQ_OFFSET]) [] [] [.refmgr] s)) ∧
  (∀ (a : Fin 16) (b : Fin 16) (fa : Int) (fb : Int) (s : State),
    Completes (exec (.disputeEnd a b fa fb) s) (Frame (referenceFields ++ [REFMGR.CNT_DISPUTES, REFMGR.HID_DISPUTE, REFMGR.RC_FREQ_OFFSET]) [] [] [.refmgr] s)) ∧
  (∀ (s : State),
    Completes (exec .rtcCopy s) (Frame [] [] [.clk] [] s)) ∧
  (∀ (s : State),
    Completes (exec .leapSecond s) (Frame [REFMGR.UTC_STAT_LEAP59, REFMGR.UTC_STAT_LEAP61, REFMGR.UTC_STAT_OFFSET] [] [] [.refmgr] s)) ∧
  (∀ (k : Fin 20) (b : Bool) (band : BitVec 6) (s : State),
    Completes (exec (.bandFound k b band) s) (Frame [SYNTH.SYN_STAT_BAND, SYNTH.SYN_STAT_BAND_B, SYNTH.SYN_STAT_STATE, SYNTH.SYN_STAT_STATE_B] [(.synth, k)] [] [] s)) ∧
  (∀ (k : Fin 20) (b : Bool) (s : State),
    Completes (exec (.synLocked k b) s) (Frame [APORT.AMCLK_CFG_GATED, QUAD.TXSL_STAT_STATE, SYNTH.HID_DOUBLE, SYNTH.HID_WASLOCKED, SYNTH.OUT_CFG_RUN, SYNTH.SYN_STAT_FALLBACK, SYNTH.SYN_STAT_SEL, SYNTH.SYN_STAT_STATE, SYNTH.SYN_STAT_STATE_B, SYNTHCTL.HID_GATED] [] [] [.aport, .synth, .synthctl] s)) ∧
  (∀ (k : Fin 20) (b : Bool) (s : State),
    Completes (exec (.lossOfLock k b) s) (Frame (bookFields ++ stepFields ++ unitFields [.synth, .memch] ++ [APORT.AMCLK_CFG_GATED, QUAD.TXSL_STAT_STATE, REPAIR.CNT_RETIREMENTS, SYNCMGR.EVAC_BUSY, SYNCMGR.EVAC_DONE, SYNCMGR.MIGR_STAT_ACTIVE, SYNCMGR.QUAD_STAT_STATE, SYNTH.CNT_HOLDS, SYNTH.CNT_LOCK_LOSSES, SYNTH.HID_DOUBLE, SYNTH.OUT_CFG_RUN, SYNTH.SYN_STAT_FALLBACK, SYNTH.SYN_STAT_SEL, SYNTH.SYN_STAT_STATE, SYNTH.SYN_STAT_STATE_B, SYNTHCTL.HID_GATED, VOUT.HID_SHED]) [] [.repair, .video] [.aport, .ledger, .memch, .repair, .syncmgr, .synth, .synthctl] s)) ∧
  (∀ (k : Fin 12) (ok : Bool) (s : State),
    Completes (exec (.holdReacquire k ok) s) (Frame [APORT.AMCLK_CFG_GATED, QUAD.TXSL_STAT_STATE, SYNTH.HID_DOUBLE, SYNTH.HID_WASLOCKED, SYNTH.OUT_CFG_RUN, SYNTH.SYN_STAT_FALLBACK, SYNTH.SYN_STAT_SEL, SYNTH.SYN_STAT_STATE, SYNTH.SYN_STAT_STATE_B, SYNTHCTL.HID_GATED] [] [] [.aport, .synth, .synthctl] s)) ∧
  (∀ (k : Fin 12) (s : State),
    Completes (exec (.holdTimeout k) s) (Frame (stepFields ++ unitFields [.synth] ++ [APORT.AMCLK_CFG_GATED, QUAD.TXCLK_SEL_E_OUT, QUAD.TXCLK_SEL_E_SYN, QUAD.TXCLK_SEL_F_OUT, QUAD.TXCLK_SEL_F_SYN, QUAD.TXCLK_SEL_V_OUT, QUAD.TXCLK_SEL_V_SYN, QUAD.TXSL_STAT_STATE, SYNTH.OUT_CFG_RUN, SYNTH.SYN_STAT_STATE, SYNTH.SYN_STAT_STATE_B, SYNTHCTL.HID_GATED]) [] [.repair] [.aport, .repair, .synth, .synthctl] s)) ∧
  (∀ (s : State),
    Completes (exec .syncInEdge s) (Frame [SYNTH.HID_ARMED, SYNTH.HID_RESTART, SYNTHCTL.SYNC_ARM_ARMED] [] [] [.synthctl] s)) ∧
  (∀ (n : Fin 8) (ok : Bool) (peer : BitVec 64) (s : State),
    Completes (exec (.linkAuth n ok peer) s) (Frame (slotFields ++ [MESH.HID_STALE, MESH.LINK_STAT_STATE, MESH.PEER_ID_HI_ID, MESH.PEER_ID_LO_ID, MESHCTL.CNT_ELECTIONS, MESHCTL.HID_RECONF, MESHCTL.STAT_STATE]) [] [] [.mesh] s)) ∧
  (∀ (n : Fin 8) (s : State),
    Completes (exec (.linkDown n) s) (Frame (bookFields ++ referenceFields ++ slotFields ++ [MESH.CHMAP_MEMBER, MESH.CHMAP_PLANE_B, MESH.CHMAP_SRC, MESH.CHMAP_VALID, MESH.HID_SEES, MESH.HID_STALE, MESH.HID_WAIT, MESH.LINK_STAT_PEER_VALID, MESH.LINK_STAT_STATE, MESH.LOAD_CHANNELS, MESH.LOAD_CHARGED, MESHCTL.PEER_LINK, MESHCTL.PEER_LINK_VALID, MESHCTL.PEER_SECOND, MESHCTL.PEER_SECOND_VALID, MESHCTL.STAT_ID_VALID, MESHCTL.STAT_MEMBERS, MESHCTL.STAT_SELF_ID, MESHCTL.STAT_STATE, REPAIR.PROT_CFG_P2_DEGRADED, RTE.W0_MEMBER, RTE.W0_VALID, RTE.W1_CE, RTE.W1_KIND, RTE.W1_LEAD, RTE.W1_PLANE]) [] [.video] [.ledger, .mesh, .refmgr] s)) ∧
  (∀ (n : Fin 8) (s : State),
    Completes (exec (.keyStaleTimeout n) s) (Frame (bookFields ++ referenceFields ++ slotFields ++ [MESH.CHMAP_MEMBER, MESH.CHMAP_PLANE_B, MESH.CHMAP_SRC, MESH.CHMAP_VALID, MESH.HID_SEES, MESH.HID_STALE, MESH.HID_WAIT, MESH.LINK_STAT_PEER_VALID, MESH.LINK_STAT_STATE, MESH.LOAD_CHANNELS, MESH.LOAD_CHARGED, MESHCTL.PEER_LINK, MESHCTL.PEER_LINK_VALID, MESHCTL.PEER_SECOND, MESHCTL.PEER_SECOND_VALID, MESHCTL.STAT_ID_VALID, MESHCTL.STAT_MEMBERS, MESHCTL.STAT_SELF_ID, MESHCTL.STAT_STATE, REPAIR.PROT_CFG_P2_DEGRADED, RTE.W0_MEMBER, RTE.W0_VALID, RTE.W1_CE, RTE.W1_KIND, RTE.W1_LEAD, RTE.W1_PLANE]) [] [.video] [.ledger, .mesh, .refmgr] s)) ∧
  (∀ (n : Fin 8) (s : State),
    Completes (exec (.linkRekey n) s) (Frame (bookFields ++ slotFields ++ [MESH.CHMAP_MEMBER, MESH.CHMAP_PLANE_B, MESH.CHMAP_SRC, MESH.CHMAP_VALID, MESH.CNT_REKEYS, MESH.HID_STALE, MESH.HID_WAIT, MESH.LOAD_CHANNELS, MESH.LOAD_CHARGED, REPAIR.PROT_CFG_P2_DEGRADED]) [] [.video] [.ledger, .mesh] s)) ∧
  (∀ (mem : Fin 8) (s : State),
    Completes (exec (.memberLost mem) s) (Frame (bookFields ++ referenceFields ++ [MESH.CHMAP_MEMBER, MESH.CHMAP_PLANE_B, MESH.CHMAP_SRC, MESH.CHMAP_VALID, MESH.LINK_STAT_PEER_VALID, MESH.LOAD_CHANNELS, MESH.LOAD_CHARGED, MESHCTL.CNT_LOSSES, MESHCTL.HID_LEAVING, MESHCTL.HID_VACANT, MESHCTL.PEER_LINK, MESHCTL.PEER_LINK_VALID, MESHCTL.PEER_RELAY_VALID, MESHCTL.PEER_SECOND, MESHCTL.PEER_SECOND_VALID, MESHCTL.STAT_MEMBERS, REPAIR.PROT_CFG_P2_DEGRADED, RTE.W0_VALID, RTE.W1_CE, RTE.W1_KIND, RTE.W1_LEAD, RTE.W1_PLANE]) [] [.video] [.ledger, .meshctl, .refmgr] s)) ∧
  (∀ (n : Fin 8) (code : Nat) (check : BitVec 24) (joining : Bool) (s : State),
    Completes (exec (.pairDone n code check joining) s) (Frame [MESHCTL.PAIR_BUSY, MESHCTL.PAIR_CHECK_CODE, MESHCTL.PAIR_CODE, MESHCTL.PAIR_DONE, MESHCTL.STAT_PAIRED] [] [] [.meshctl] s)) ∧
  (∀ (mem : Fin 8) (s : State),
    Completes (exec (.leaveInstant mem) s) (Frame (bookFields ++ referenceFields ++ slotFields ++ [MESH.CHMAP_MEMBER, MESH.CHMAP_PLANE_B, MESH.CHMAP_SRC, MESH.CHMAP_VALID, MESH.HID_SEES, MESH.HID_STALE, MESH.HID_WAIT, MESH.LINK_STAT_PEER_VALID, MESH.LINK_STAT_STATE, MESH.LOAD_CHANNELS, MESH.LOAD_CHARGED, MESHCTL.CNT_LOSSES, MESHCTL.HID_LEAVING, MESHCTL.HID_SENT, MESHCTL.HID_VACANT, MESHCTL.LEAVE_DONE, MESHCTL.PEER_LINK, MESHCTL.PEER_LINK_VALID, MESHCTL.PEER_RELAY_VALID, MESHCTL.PEER_SECOND, MESHCTL.PEER_SECOND_VALID, MESHCTL.STAT_ID_VALID, MESHCTL.STAT_MEMBERS, MESHCTL.STAT_SELF_ID, MESHCTL.STAT_STATE, REPAIR.PROT_CFG_P2_DEGRADED, RTE.W0_MEMBER, RTE.W0_VALID, RTE.W1_CE, RTE.W1_KIND, RTE.W1_LEAD, RTE.W1_PLANE]) [] [.video] [.ledger, .mesh, .meshctl, .refmgr] s)) ∧
  (∀ (who : Fin 2) (cause : Fin 16) (s : State),
    Completes (exec (.heartbeatMiss who cause) s) (Frame (stepFields ++ [GLOBAL.FW_VER_MAJOR, GLOBAL.FW_VER_MINOR, GLOBAL.FW_VER_PATCH, LEDGER.STAT_REBUILDING, LEDGER.STAT_SERVING, ROUTE.SALVO_CTL_HELD, ROUTE.SALVO_CTL_TIMED, ROUTE.TAKE_CTL_BATCH, ROUTE.TAKE_CTL_DMEMBER, ROUTE.TAKE_CTL_DM_VALID, ROUTE.TAKE_DST_SLOT, ROUTE.TAKE_ENTRY_W0, SUPERVISOR.CNT_FLYWHEELS, SUPERVISOR.CNT_HB_MISSES, SUPERVISOR.CNT_RESTARTS, SUPERVISOR.HID_FLY, SUPERVISOR.HID_HOLD, SUPERVISOR.HID_REBUILDER, SUPERVISOR.HID_SWITCH, SUPERVISOR.HID_TAKE, SUPERVISOR.LAST_CAUSE_CAUSE, SUPERVISOR.LAST_CAUSE_WHO, SUPERVISOR.STAT_ACTIVE, SUPERVISOR.STAT_ATTEMPT, SUPERVISOR.STAT_BACKOFF, SUPERVISOR.STAT_DEIMOS, SUPERVISOR.STAT_MODE, SUPERVISOR.STAT_PHOBOS]) [] [.audio, .repair, .video] [.repair, .supervisor] s)) ∧
  (∀ (s : State),
    Completes (exec .failoverActive s) (Frame (stepFields ++ [LEDGER.STAT_SERVING, SUPERVISOR.CNT_FAILOVERS, SUPERVISOR.HID_SWITCH, SUPERVISOR.HID_TAKE, SUPERVISOR.STAT_ACTIVE, SUPERVISOR.STAT_MODE, SUPERVISOR.STAT_DEIMOS, SUPERVISOR.STAT_PHOBOS]) [] [.repair] [.repair, .supervisor] s)) ∧
  (∀ (pass : Bool) (s : State),
    Completes (exec (.standbyRestore pass) s) (Frame (stepFields ++ [REPAIR.CNT_RETIREMENTS, SUPERVISOR.CNT_RESTARTS, SUPERVISOR.LAST_CAUSE_CAUSE, SUPERVISOR.LAST_CAUSE_WHO, SUPERVISOR.STAT_MODE, SUPERVISOR.STAT_DEIMOS, SUPERVISOR.STAT_PHOBOS]) [] [.repair] [.repair, .supervisor] s)) ∧
  (∀ (s : State),
    Completes (exec .restartAttempt s) (Frame (stepFields ++ [SUPERVISOR.CNT_RESTARTS, SUPERVISOR.HID_HOLD, SUPERVISOR.STAT_ATTEMPT, SUPERVISOR.STAT_BACKOFF, SUPERVISOR.STAT_MODE, SUPERVISOR.STAT_DEIMOS, SUPERVISOR.STAT_PHOBOS]) [] [.repair] [.repair, .supervisor] s)) ∧
  (∀ (s : State),
    Completes (exec .restartAttemptFail s) (Frame (stepFields ++ [LEDGER.STAT_REBUILDING, SUPERVISOR.CNT_RESTARTS, SUPERVISOR.HID_HOLD, SUPERVISOR.HID_REBUILDER, SUPERVISOR.STAT_BACKOFF, SUPERVISOR.STAT_MODE, SUPERVISOR.STAT_DEIMOS, SUPERVISOR.STAT_PHOBOS]) [] [.repair] [.repair, .supervisor] s))

/-- What the events of the store, the keys, the domains, the host link and the console may change, and nothing else. The events of power-up,
thermal stages, the store, life cycle and keys, the PCIe link and the console. Each command completes on every state and all operands,
and from the state before to the state after: every register field outside the clause's list (and, where the clause names an instance of
a page, every field of that page at any other instance) reads as before, but for those that show the device's condition (alwaysShown);
every part of the state outside the clause's list of parts is as before; and no page outside the clause's list, but for those of
shownPages, has an event bit changed. The clauses of console commands suppose the console free or serving (consoleFree, consoleServes),
those of a confirmation the held command. (R423; R426; R431; R433; R436; R445; R465; R468; R498; R501; R544; R545.) -/
def Obligations.FrameOfControlPlaneEvents : Prop :=
  (∀ (io3a : Bool) (io3b : Bool) (mode : BitVec 4) (member : BitVec 3) (s : State),
    Completes (exec (.powerGoodFilterEnd io3a io3b mode member) s) (Frame [MESHCTL.STAT_STRAP, POWER.RAIL_STAT_GOOD, POWER.RAIL_STAT_IO_A_3V3, POWER.RAIL_STAT_IO_B_3V3, RESET.BKP_STAT_LOST_AT_START, RESET.BOOT_STAT_BOOTMODE, RESET.BOOT_STAT_STRAP, RESET.CAUSE_STAMP_HI_STAMP, RESET.CAUSE_STAMP_LO_STAMP, RESET.DOM_STAT_HELD, RESET.HID_BKPNEW, RESET.HID_OFFREQ, RESET.HID_PON, RESET.HID_SRC, RESET.HID_UNCOUNTED, RESET.HID_WAIT, RESET.LAST_CAUSE_CAUSE, RESET.RST_COUNT_COUNT, RESET.SEQ_STAT_BUSY, RESET.SEQ_STAT_NEXT] [] [] [.reset] s)) ∧
  (∀ (v : Word) (s : State),
    Completes (exec (.domPulseEnd v) s) (Frame [RESET.DOM_STAT_HELD, RESET.HID_CTLTEST, RESET.HID_OFFREQ, RESET.HID_PON, RESET.HID_PULSE, RESET.HID_SRC, RESET.HID_WAIT, RESET.SEQ_STAT_BUSY, RESET.SEQ_STAT_NEXT] [] [] [] s)) ∧
  (∀ (ok : Bool) (last : Bool) (s : State),
    Completes (exec (.imageSectionHash ok last) s) (Frame [GLOBAL.FW_VER_MAJOR, GLOBAL.FW_VER_MINOR, GLOBAL.FW_VER_PATCH, KEYS.IMAGE_STAT_A_BAD, KEYS.IMAGE_STAT_B_BAD, LEDGER.STAT_REBUILDING, SUPERVISOR.HID_BOOTFAIL, SUPERVISOR.HID_FLY, SUPERVISOR.HID_HOLD, SUPERVISOR.HID_REBUILDER, SUPERVISOR.JOURNAL_IN_SYNC, SUPERVISOR.JOURNAL_LAG, SUPERVISOR.STAT_ACTIVE, SUPERVISOR.STAT_MODE, SUPERVISOR.STAT_DEIMOS, SUPERVISOR.STAT_PHOBOS] [] [.keys] [.reset] s)) ∧
  (∀ (s : State),
    Completes (exec .offsetUpdate s) (Frame [THERMAL.THS_OFFSET] [] [.thermal] [] s)) ∧
  (∀ (s : State),
    Completes (exec .stageLower s) (Frame [RESET.DOM_STAT_HELD, RESET.HID_DRAINOFF, RESET.HID_OFFREQ, RESET.HID_PON, RESET.HID_WAIT, RESET.SEQ_STAT_BUSY, RESET.SEQ_STAT_NEXT, THERMAL.HID_PLANEOFF, THERMAL.STAT_RISE_ACTIVE, THERMAL.STAT_STAGE] [] [] [.thermal] s)) ∧
  (∀ (s : State),
    Completes (exec .riseEnter s) (Frame [THERMAL.CNT_RISE_ENTRIES, THERMAL.CNT_STAGE_ENTRIES, THERMAL.STAT_RISE_ACTIVE, THERMAL.STAT_STAGE] [] [] [.thermal] s)) ∧
  (∀ (mem : Fin 8) (cool : Bool) (accepted : Bool) (s : State),
    Completes (exec (.offload mem cool accepted) s) (Frame bookFields [] [.video] [.ledger, .thermal] s)) ∧
  (∀ (s : State),
    Completes (exec .tempWindowOpen s) (Frame [NVM.CNT_TEMP_WAITS, NVM.HID_QSNAP, NVM.HID_SCAN, NVM.HID_SNAP, NVM.PROGRESS_WORDS, NVM.STAGE_AFTER_TST, NVM.STAGE_ENTRIES, NVM.STAT_QUEUED, NVM.STAT_RESULT, NVM.STAT_STATE] [] [.nvm] [] s)) ∧
  (∀ (ok : Bool) (s : State),
    Completes (exec (.nvmWordWrite ok) s) (Frame [NVM.BANK_STAT_A_CHECK, NVM.BANK_STAT_B_CHECK, NVM.CNT_TEMP_WAITS, NVM.CNT_WRITE_FAILS, NVM.ERR_ADDR_KIND, NVM.ERR_ADDR_WORD, NVM.HID_QSNAP, NVM.HID_SCAN, NVM.HID_SNAP, NVM.PROGRESS_WORDS, NVM.STAGE_AFTER_TST, NVM.STAGE_ENTRIES, NVM.STAT_QUEUED, NVM.STAT_RESULT, NVM.STAT_STATE] [] [.nvm] [] s)) ∧
  (∀ (s : State),
    Completes (exec .commitWriteDone s) (Frame [NVM.BANK_STAT_A_CHECK, NVM.BANK_STAT_B_CHECK, NVM.CNT_STORES, NVM.CNT_TEMP_WAITS, NVM.HID_QSNAP, NVM.HID_SCAN, NVM.HID_SNAP, NVM.HID_TIE, NVM.LENGTH, NVM.PROGRESS_WORDS, NVM.SEQ, NVM.STAGE_AFTER_TST, NVM.STAGE_ENTRIES, NVM.STAMP_HI_STAMP, NVM.STAMP_LO_STAMP, NVM.STAT_QUEUED, NVM.STAT_RESULT, NVM.STAT_STAGE_OVF, NVM.STAT_STATE, NVM.STAT_VALID] [] [.nvm] [] s)) ∧
  (∀ (s : State),
    Completes (exec .lcChange s) (Frame (bookFields ++ referenceFields ++ slotFields ++ [KEYS.ATTEST_PUB_KEY, KEYS.CNT_LC_CHANGES, KEYS.HID_ENTRY, KEYS.HID_LCREQ, KEYS.LC_STAT_ROOT_VALID, KEYS.LC_STAT_SERVICE_LEFT, KEYS.LC_STAT_STATE, MESH.CHMAP_MEMBER, MESH.CHMAP_PLANE_B, MESH.CHMAP_SRC, MESH.CHMAP_VALID, MESH.HID_SEES, MESH.HID_STALE, MESH.HID_WAIT, MESH.LINK_STAT_PEER_VALID, MESH.LINK_STAT_STATE, MESH.LOAD_CHANNELS, MESH.LOAD_CHARGED, MESHCTL.PEER_LINK, MESHCTL.PEER_LINK_VALID, MESHCTL.PEER_SECOND, MESHCTL.PEER_SECOND_VALID, MESHCTL.STAT_ID_VALID, MESHCTL.STAT_MEMBERS, MESHCTL.STAT_PAIRED, MESHCTL.STAT_SELF_ID, MESHCTL.STAT_STATE, NVM.BANK_STAT_A_CHECK, NVM.BANK_STAT_B_CHECK, NVM.HID_TIE, NVM.LENGTH, NVM.SEQ, NVM.STAMP_HI_STAMP, NVM.STAMP_LO_STAMP, NVM.STAT_VALID, REPAIR.PROT_CFG_P2_DEGRADED, RTE.W0_MEMBER, RTE.W0_VALID, RTE.W1_CE, RTE.W1_KIND, RTE.W1_LEAD, RTE.W1_PLANE]) [] [.keys, .nvm, .video] [.keys, .ledger, .mesh, .refmgr] s)) ∧
  (∀ (n : Fin 8) (s : State),
    Completes (exec (.staleKeyZeroise n) s) (Frame slotFields [] [.keys] [] s)) ∧
  (∀ (s : State),
    Completes (exec .serviceTimeout s) (Frame [KEYS.HID_LCREQ, KEYS.LC_STAT_SERVICE_LEFT] [] [.console] [] s)) ∧
  (∀ (source : Fin 4) (inKeyOp : Bool) (s : State),
    Completes (exec (.tamperAlarm source inKeyOp) s) (Frame (bookFields ++ referenceFields ++ slotFields ++ [KEYS.CNT_TAMPERS, KEYS.HID_LCREQ, KEYS.LC_STAT_ROOT_VALID, KEYS.LC_STAT_SEALED, KEYS.LC_STAT_TAMPER_HOLD, KEYS.TAMPER_STAT_IN_KEY_OP, KEYS.TAMPER_STAT_ROOT_LOST, KEYS.TAMPER_STAT_SOURCE, MESH.CHMAP_MEMBER, MESH.CHMAP_PLANE_B, MESH.CHMAP_SRC, MESH.CHMAP_VALID, MESH.HID_SEES, MESH.HID_STALE, MESH.HID_WAIT, MESH.LINK_STAT_PEER_VALID, MESH.LINK_STAT_STATE, MESH.LOAD_CHANNELS, MESH.LOAD_CHARGED, MESHCTL.PEER_LINK, MESHCTL.PEER_LINK_VALID, MESHCTL.PEER_SECOND, MESHCTL.PEER_SECOND_VALID, MESHCTL.STAT_ID_VALID, MESHCTL.STAT_MEMBERS, MESHCTL.STAT_SELF_ID, MESHCTL.STAT_STATE, REPAIR.PROT_CFG_P2_DEGRADED, RESET.BKP_STAT_TAMPER_LATCHED, RTE.W0_MEMBER, RTE.W0_VALID, RTE.W1_CE, RTE.W1_KIND, RTE.W1_LEAD, RTE.W1_PLANE]) [] [.keys, .video] [.keys, .ledger, .mesh, .refmgr] s)) ∧
  (∀ (s : State),
    Completes (exec .tamperConfirm s) (Frame (slotFields ++ [KEYS.ATTEST_PUB_KEY, KEYS.CNT_LC_CHANGES, KEYS.LC_STAT_ROOT_VALID, KEYS.LC_STAT_SEALED, KEYS.LC_STAT_STATE, KEYS.LC_STAT_TAMPER_HOLD, KEYS.TAMPER_STAT_IN_KEY_OP, KEYS.TAMPER_STAT_ROOT_LOST, KEYS.TAMPER_STAT_SOURCE, MESH.HID_OFFREQ, MESH.HID_STALE, MESH.LINK_STAT_STATE, MESHCTL.PEER_LINK, MESHCTL.PEER_LINK_VALID, MESHCTL.PEER_SECOND, MESHCTL.PEER_SECOND_VALID, MESHCTL.STAT_PAIRED, MESHCTL.STAT_STATE, NVM.BANK_STAT_A_CHECK, NVM.BANK_STAT_B_CHECK, NVM.HID_TIE, NVM.LENGTH, NVM.SEQ, NVM.STAMP_HI_STAMP, NVM.STAMP_LO_STAMP, NVM.STAT_AUTH_UNVERIFIED, NVM.STAT_VALID, RESET.BKP_STAT_TAMPER_LATCHED]) [] [.console, .keys, .nvm] [.keys] s)) ∧
  (∀ (word : Nat) (both : Bool) (s : State),
    Completes (exec (.keyRegionFail word both) s) (Frame (bookFields ++ referenceFields ++ slotFields ++ [KEYS.HID_LCREQ, KEYS.LC_STAT_ROOT_VALID, KEYS.LC_STAT_SEALED, KEYS.LC_STAT_TAMPER_HOLD, KEYS.TAMPER_STAT_ROOT_LOST, KEYS.TAMPER_STAT_SOURCE, MESH.CHMAP_MEMBER, MESH.CHMAP_PLANE_B, MESH.CHMAP_SRC, MESH.CHMAP_VALID, MESH.HID_SEES, MESH.HID_STALE, MESH.HID_WAIT, MESH.LINK_STAT_PEER_VALID, MESH.LINK_STAT_STATE, MESH.LOAD_CHANNELS, MESH.LOAD_CHARGED, MESHCTL.PEER_LINK, MESHCTL.PEER_LINK_VALID, MESHCTL.PEER_SECOND, MESHCTL.PEER_SECOND_VALID, MESHCTL.STAT_ID_VALID, MESHCTL.STAT_MEMBERS, MESHCTL.STAT_SELF_ID, MESHCTL.STAT_STATE, NVM.CNT_UNCORRECTABLE, NVM.ERR_ADDR_KIND, NVM.ERR_ADDR_WORD, REPAIR.PROT_CFG_P2_DEGRADED, RESET.BKP_STAT_TAMPER_LATCHED, RTE.W0_MEMBER, RTE.W0_VALID, RTE.W1_CE, RTE.W1_KIND, RTE.W1_LEAD, RTE.W1_PLANE]) [] [.keys, .video] [.ledger, .mesh, .refmgr] s)) ∧
  (∀ (s : State),
    Completes (exec .measRewrite s) (Frame [NVM.BANK_STAT_A_CHECK, NVM.BANK_STAT_B_CHECK, NVM.HID_TIE, NVM.LENGTH, NVM.SEQ, NVM.STAMP_HI_STAMP, NVM.STAMP_LO_STAMP, NVM.STAT_VALID] [] [.keys, .nvm] [] s)) ∧
  (∀ (speed : Fin 4) (width : Fin 3) (s : State),
    Completes (exec (.pcieLinkUp speed width) s) (Frame [BUSMATRIX.HID_SUBSYS, BUSMATRIX.PCIE_STAT_LINK_UP, BUSMATRIX.PCIE_STAT_SPEED, BUSMATRIX.PCIE_STAT_WIDTH] [] [] [] s)) ∧
  (∀ (s : State),
    Completes (exec .pcieLinkDown s) (Frame [BUSMATRIX.CNT_LINK_DOWNS, BUSMATRIX.PCIE_STAT_FN_MASK, BUSMATRIX.PCIE_STAT_LINK_UP, BUSMATRIX.PCIE_STAT_MSIX_EN, BUSMATRIX.PCIE_STAT_SPEED, BUSMATRIX.PCIE_STAT_WIDTH, FLOW.HQ_RX_EN, FLOW.HQ_TX_EN, ROUTE.SALVO_CTL_HELD, ROUTE.SALVO_CTL_TIMED, ROUTE.TAKE_CTL_BATCH, ROUTE.TAKE_CTL_DMEMBER, ROUTE.TAKE_CTL_DM_VALID, ROUTE.TAKE_DST_SLOT, ROUTE.TAKE_ENTRY_W0] [] [.audio, .video] [] s)) ∧
  (∀ (s : State),
    Completes (exec .hotReset s) (Frame [BUSMATRIX.CNT_LINK_DOWNS, BUSMATRIX.PCIE_STAT_FN_MASK, BUSMATRIX.PCIE_STAT_LINK_UP, BUSMATRIX.PCIE_STAT_MSIX_EN, BUSMATRIX.PCIE_STAT_SPEED, BUSMATRIX.PCIE_STAT_WIDTH, FLOW.HQ_RX_EN, FLOW.HQ_TX_EN, ROUTE.SALVO_CTL_HELD, ROUTE.SALVO_CTL_TIMED, ROUTE.TAKE_CTL_BATCH, ROUTE.TAKE_CTL_DMEMBER, ROUTE.TAKE_CTL_DM_VALID, ROUTE.TAKE_DST_SLOT, ROUTE.TAKE_ENTRY_W0] [] [.audio, .video] [] s)) ∧
  (∀ (s : State),
    Completes (exec .linkDisable s) (Frame [BUSMATRIX.CNT_LINK_DOWNS, BUSMATRIX.PCIE_STAT_FN_MASK, BUSMATRIX.PCIE_STAT_LINK_UP, BUSMATRIX.PCIE_STAT_MSIX_EN, BUSMATRIX.PCIE_STAT_SPEED, BUSMATRIX.PCIE_STAT_WIDTH, FLOW.HQ_RX_EN, FLOW.HQ_TX_EN, ROUTE.SALVO_CTL_HELD, ROUTE.SALVO_CTL_TIMED, ROUTE.TAKE_CTL_BATCH, ROUTE.TAKE_CTL_DMEMBER, ROUTE.TAKE_CTL_DM_VALID, ROUTE.TAKE_DST_SLOT, ROUTE.TAKE_ENTRY_W0] [] [.audio, .video] [] s)) ∧
  (∀ (s : State),
    Completes (exec .functionLevelReset s) (Frame [BUSMATRIX.PCIE_STAT_FN_MASK, BUSMATRIX.PCIE_STAT_MSIX_EN, FLOW.HQ_RX_EN, FLOW.HQ_TX_EN, ROUTE.SALVO_CTL_HELD, ROUTE.SALVO_CTL_TIMED, ROUTE.TAKE_CTL_BATCH, ROUTE.TAKE_CTL_DMEMBER, ROUTE.TAKE_CTL_DM_VALID, ROUTE.TAKE_DST_SLOT, ROUTE.TAKE_ENTRY_W0] [] [.audio, .video] [] s)) ∧
  (∀ (early : Bool) (msix : Option (Bool × Bool)) (s : State),
    Completes (exec (.configRequest early msix) s) (Frame [BUSMATRIX.PCIE_STAT_FN_MASK, BUSMATRIX.PCIE_STAT_MSIX_EN] [] [] [] s)) ∧
  (∀ (addr : Nat) (s : State),
    Completes (exec (.poisonedTlp addr) s) (Frame errorFields [] [] [] s)) ∧
  (∀ (corrected : List Nat) (bad : List Nat) (s : State),
    Completes (exec (.arrayScanEnd corrected bad) s) (Frame [NVM.BANK_STAT_A_CHECK, NVM.BANK_STAT_B_CHECK, NVM.CNT_CORRECTED, NVM.CNT_TEMP_WAITS, NVM.CNT_UNCORRECTABLE, NVM.ERR_ADDR_KIND, NVM.ERR_ADDR_WORD, NVM.HID_QSNAP, NVM.HID_SCAN, NVM.HID_SNAP, NVM.PROGRESS_WORDS, NVM.STAGE_AFTER_TST, NVM.STAGE_ENTRIES, NVM.STAT_QUEUED, NVM.STAT_RESULT, NVM.STAT_STATE] [] [.nvm, .repair] [] s)) ∧
  (∀ (s : State),
    Completes (exec .consoleStart s) (Frame [] [] [.console] [] s)) ∧
  (∀ (s : State),
    Completes (exec .consoleBreak s) (Frame [] [] [.console] [] s)) ∧
  (∀ (s : State),
    Completes (exec .confirmTimeout s) (Frame [] [] [.console] [] s)) ∧
  (∀ (s : State),
    Completes (exec .consoleIdleTimeout s) (Frame [] [] [.console] [] s)) ∧
  (∀ (n : Option Nat) (s : State),
    s.consoleFree →
    Completes (exec (.log n) s) (Frame [SERVICE.CNT_LINES] [] [.console] [] s)) ∧
  (∀ (n : Option Nat) (s : State),
    s.consoleFree →
    Completes (exec (.steps n) s) (Frame [SERVICE.CNT_LINES] [] [.console] [] s)) ∧
  (∀ (s : State),
    s.consoleFree →
    Completes (exec .auth s) (Frame [SERVICE.CNT_LINES] [] [.console] [] s)) ∧
  (∀ (tag : Bool) (s : State),
    s.consoleServes →
    Completes (exec (.exit tag) s) (Frame [SERVICE.CNT_LINES, SERVICE.CNT_TAG_FAILS] [] [.console] [] s)) ∧
  (∀ (lane : Nat) (hoff : Nat) (voff : Nat) (dwell : Nat) (s : State),
    s.consoleServes →
    Completes (exec (.testEye lane hoff voff dwell true) s) (Frame [SERVICE.CNT_LINES, QUAD.EYE_CTL_ABORTED, QUAD.EYE_CTL_DONE, QUAD.EYE_CTL_DWELL, QUAD.EYE_CTL_HOFF, QUAD.EYE_CTL_SLICE, QUAD.EYE_CTL_VOFF, QUAD.HID_EYE] [(.quad, lane / 4)] [.console] [] s)) ∧
  (∀ (s : State),
    s.consoleFree →
    Completes (exec .clearTamper s) (Frame [SERVICE.CNT_LINES] [] [.console] [] s)) ∧
  (∀ (s : State),
    s.consoleServes →
    Completes (exec (.retire true) s) (Frame [SERVICE.CNT_LINES] [] [.console] [] s)) ∧
  (∀ (h : Nat) (s : State),
    s.consoleServes →
    Completes (exec (.fuseMakerImage h true) s) (Frame [SERVICE.CNT_LINES] [] [.console] [] s)) ∧
  (∀ (h : Nat) (s : State),
    s.consoleServes →
    Completes (exec (.fuseMakerService h true) s) (Frame [SERVICE.CNT_LINES] [] [.console] [] s)) ∧
  (∀ (h : Nat) (s : State),
    s.console.held = some (.fuseImage h true) →
    Completes (exec .confirmGpio s) (Frame [KEYS.IMAGE_STAT_MAKER_SET] [] [.console, .keys] [] s)) ∧
  (∀ (h : Nat) (s : State),
    s.console.held = some (.fuseService h true) →
    Completes (exec .confirmGpio s) (Frame [] [] [.console, .keys] [] s))

/-- What the commands that reach whole units and domains leave alone. The commands that reach many units or whole domains complete on every
state and all operands. Most leave every register field of the pages outside the clause's list as it was, but for the header's STATE,
DRAIN, START and ENABLE and the fields that show the device's condition, and every part of the state outside the clause's list; those
that reset or start domains or move every unit leave the parts that their clause names as they were. (R20; R26; R30; R31; R33; R391;
R407; R420; R422; R429; R430; R441.) -/
def Obligations.FrameOfUnitsAndDomains : Prop :=
  (∀ (u : UnitId) (s : State),
    Completes (exec (.channelStall u) s) (PagesKept [.global, .keys, .supervisor, .repair, .ledger, .route, .refmgr, .synthctl, .quad, .vin, .vout, .ce, .memch, .fabric, .syncmgr, .audio, .aport, .mesh, .meshctl, .synth, .eth, .rte] [.video, .repair, .ess, .buf, .audio, .ports] s)) ∧
  (∀ (m : Fin 7) (p : Page) (i : Nat) (s : State),
    Completes (exec (.pageEnableSet m p i) s) (PagesKept [.busmatrix, .supervisor, .repair, .ledger, .synthctl, .quad, .vin, .vout, .fabric, .syncmgr, .audio, .aport, .mesh, .meshctl, .synth, .rte] [.video, .repair, .ports] s)) ∧
  (∀ (u : UnitId) (s : State),
    Completes (exec (.drainComplete u) s) fun t => ∀ p ∈ [Part.clk, Part.jtag, Part.thermal], Part.same p s t) ∧
  (∀ (u : UnitId) (s : State),
    Completes (exec (.drainTimeout u) s) fun t => ∀ p ∈ [Part.clk, Part.jtag, Part.thermal], Part.same p s t) ∧
  (∀ (req : Option (Fin 7)) (u : UnitId) (s : State),
    Completes (exec (.unitReset req u) s) (PagesKept [.reset, .keys, .busmatrix, .supervisor, .repair, .ledger, .refmgr, .synthctl, .quad, .vin, .vout, .ce, .fabric, .syncmgr, .audio, .aport, .mesh, .meshctl, .synth, .eth, .rte] [.video, .repair, .ess, .buf, .ports] s)) ∧
  (∀ (u : UnitId) (pass : Bool) (s : State),
    Completes (exec (.unitSelftestEnd u pass) s) (PagesKept [.supervisor, .repair, .ledger, .synthctl, .quad, .vin, .vout, .ce, .memch, .fabric, .syncmgr, .audio, .aport, .mesh, .meshctl, .synth, .rte] [.video, .repair, .ports] s)) ∧
  (∀ (o : Fin 512) (f : BoundaryFacts) (s : State),
    Completes (exec (.switchingLine o f) s) (PagesKept [.supervisor, .repair, .ledger, .route, .quad, .vout, .ce, .fabric, .syncmgr, .meshctl, .rte, .xpt] [.video, .repair] s)) ∧
  (∀ (f : List (Nat × LockFacts)) (s : State),
    Completes (exec (.ledgerRebuildEnd f) s) fun t => ∀ p ∈ [Part.clk, Part.jtag, Part.thermal], Part.same p s t) ∧
  (∀ (mode : BitVec 4) (member : BitVec 3) (s : State),
    Completes (exec (.resetNRelease mode member) s) fun t => ∀ p ∈ [Part.jtag, Part.thermal], Part.same p s t) ∧
  (∀ (mode : BitVec 4) (member : BitVec 3) (s : State),
    Completes (exec (.heldNvm mode member) s) fun t => ∀ p ∈ [Part.jtag, Part.thermal], Part.same p s t) ∧
  (∀ (s : State),
    Completes (exec .supplyLoss s) fun t => ∀ p ∈ [Part.jtag], Part.same p s t) ∧
  (∀ (f : BootFacts) (s : State),
    Completes (exec (.bootCheck f) s) fun t => ∀ p ∈ [Part.clk, Part.jtag, Part.thermal], Part.same p s t) ∧
  (∀ (mode : BitVec 4) (member : BitVec 3) (s : State),
    Completes (exec (.wakeEdge mode member) s) fun t => ∀ p ∈ [Part.jtag, Part.thermal], Part.same p s t) ∧
  (∀ (g : Fin 32) (mode : BitVec 4) (member : BitVec 3) (s : State),
    Completes (exec (.wakeGpio g mode member) s) fun t => ∀ p ∈ [Part.jtag, Part.thermal], Part.same p s t) ∧
  (∀ (n : Fin 8) (mode : BitVec 4) (member : BitVec 3) (s : State),
    Completes (exec (.linkWake n mode member) s) fun t => ∀ p ∈ [Part.jtag, Part.thermal], Part.same p s t) ∧
  (∀ (f : SensorFacts) (s : State),
    Completes (exec (.sensorSample f) s) fun t => ∀ p ∈ [Part.clk, Part.jtag], Part.same p s t) ∧
  (∀ (s : State),
    Completes (exec .t4PlaneOff s) fun t => ∀ p ∈ [Part.clk, Part.jtag, Part.thermal], Part.same p s t) ∧
  (∀ (mode : BitVec 4) (member : BitVec 3) (s : State),
    Completes (exec (.thermalRestart mode member) s) fun t => ∀ p ∈ [Part.jtag], Part.same p s t) ∧
  (∀ (s : State),
    Completes (exec .loaderDone s) fun t => ∀ p ∈ [Part.shadow, Part.commits, Part.clk, Part.video, Part.repair, Part.ess, Part.buf, Part.flow, Part.audio, Part.ports, Part.keys, Part.console, Part.jtag, Part.thermal], Part.same p s t)
end

