-- ==== Sys2Proof/Laws/Tables.lean ====
section
/-! SUPPORT. The laws of the sparse tables: a value written is read back, every other value stays, and each operation keeps the
canonical form. -/
namespace Sys2Proof.Machine

/-! ## Tables by number -/

@[simp] theorem NTable.find_nil {α : Type} (n : Nat) : NTable.find ([] : NTable α) n = none := rfl

theorem NTable.find_erase_same {α : Type} (t : NTable α) (n : Nat) : NTable.find (NTable.erase t n) n = none := by
  induction t with
  | nil => rfl
  | cons e t ih => obtain ⟨k, v⟩ := e; by_cases h : k = n <;> simp [NTable.erase, NTable.find, h, ih]

theorem NTable.find_erase_ne {α : Type} (t : NTable α) {n m : Nat} (h : m ≠ n) : NTable.find (NTable.erase t n) m = NTable.find t m := by
  induction t with
  | nil => rfl
  | cons e t ih =>
    obtain ⟨k, v⟩ := e
    by_cases hk : k = n
    · subst hk; simp [NTable.erase, NTable.find, ih, Ne.symm h]
    · by_cases hm : k = m
      · subst hm; simp [NTable.erase, NTable.find, hk]
      · simp [NTable.erase, NTable.find, hk, hm, ih]

theorem NTable.find_insert_same {α : Type} (t : NTable α) (n : Nat) (a : α) (h : NTable.find t n = none) :
    NTable.find (NTable.insert t n a) n = some a := by
  induction t with
  | nil => simp [NTable.insert, NTable.find]
  | cons e t ih =>
    obtain ⟨k, v⟩ := e
    by_cases hk : k = n
    · simp [NTable.find, hk] at h
    · simp only [NTable.find, hk, if_false] at h
      by_cases hl : n < k <;> simp [NTable.insert, NTable.find, hl, hk, ih h]

theorem NTable.find_insert_ne {α : Type} (t : NTable α) {n m : Nat} (a : α) (h : m ≠ n) :
    NTable.find (NTable.insert t n a) m = NTable.find t m := by
  induction t with
  | nil => simp [NTable.insert, NTable.find, Ne.symm h]
  | cons e t ih =>
    obtain ⟨k, v⟩ := e
    by_cases hm : k = m
    · subst hm; by_cases hl : n < k <;> simp [NTable.insert, NTable.find, hl, Ne.symm h]
    · by_cases hl : n < k <;> simp [NTable.insert, NTable.find, hl, hm, ih, Ne.symm h]

/-- A value put is found. -/
@[simp] theorem NTable.find_put_same {α : Type} (t : NTable α) (n : Nat) (a : α) : NTable.find (NTable.put t n a) n = some a :=
  NTable.find_insert_same _ _ _ (NTable.find_erase_same t n)

/-- A value put leaves every other number alone. -/
theorem NTable.find_put_ne {α : Type} (t : NTable α) {n m : Nat} (a : α) (h : m ≠ n) : NTable.find (NTable.put t n a) m = NTable.find t m := by
  rw [NTable.put, NTable.find_insert_ne _ _ h, NTable.find_erase_ne _ h]

/-- A value put over a default is read back. -/
@[simp] theorem NTable.getD_putD_same {α : Type} [DecidableEq α] (t : NTable α) (n : Nat) (a d : α) :
    NTable.getD (NTable.putD t n a d) n d = a := by
  unfold NTable.putD NTable.getD
  split
  · next h => simp [NTable.find_erase_same, h]
  · simp

/-- A value put over a default leaves every other number alone. -/
theorem NTable.getD_putD_ne {α : Type} [DecidableEq α] (t : NTable α) {n m : Nat} (a d : α) (h : m ≠ n) :
    NTable.getD (NTable.putD t n a d) m d = NTable.getD t m d := by
  unfold NTable.putD NTable.getD
  split
  · rw [NTable.find_erase_ne _ h]
  · rw [NTable.find_put_ne _ _ h]

theorem NTable.mem_erase {α : Type} {t : NTable α} {n : Nat} {e : Nat × α} (h : e ∈ NTable.erase t n) : e ∈ t ∧ e.1 ≠ n := by
  induction t with
  | nil => simp [NTable.erase] at h
  | cons x t ih =>
    obtain ⟨k, v⟩ := x
    by_cases hk : k = n
    · simp only [NTable.erase, hk, if_true] at h
      exact ⟨List.mem_cons_of_mem _ (ih h).1, (ih h).2⟩
    · simp only [NTable.erase, hk, if_false, List.mem_cons] at h
      rcases h with rfl | h
      · exact ⟨List.mem_cons_self, hk⟩
      · exact ⟨List.mem_cons_of_mem _ (ih h).1, (ih h).2⟩

theorem NTable.erase_wf {α : Type} {t : NTable α} (n : Nat) (h : NTable.wf t) : NTable.wf (NTable.erase t n) := by
  induction t with
  | nil => exact h
  | cons x t ih =>
    obtain ⟨k, v⟩ := x
    unfold NTable.wf at h ih ⊢
    rw [List.pairwise_cons] at h
    by_cases hk : k = n
    · simp only [NTable.erase, hk, if_true]; exact ih h.2
    · simp only [NTable.erase, hk, if_false]
      exact List.pairwise_cons.mpr ⟨fun e he => h.1 e (NTable.mem_erase he).1, ih h.2⟩

theorem NTable.mem_insert {α : Type} {t : NTable α} {n : Nat} {a : α} {e : Nat × α} (h : e ∈ NTable.insert t n a) : e = (n, a) ∨ e ∈ t := by
  induction t with
  | nil => simpa [NTable.insert] using h
  | cons x t ih =>
    obtain ⟨k, v⟩ := x
    by_cases hl : n < k
    · simpa [NTable.insert, hl] using h
    · simp only [NTable.insert, hl, if_false, List.mem_cons] at h
      rcases h with rfl | h
      · exact Or.inr List.mem_cons_self
      · rcases ih h with h | h
        · exact Or.inl h
        · exact Or.inr (List.mem_cons_of_mem _ h)

theorem NTable.insert_wf {α : Type} {t : NTable α} {n : Nat} (a : α) (h : NTable.wf t) (hn : ∀ e ∈ t, e.1 ≠ n) :
    NTable.wf (NTable.insert t n a) := by
  induction t with
  | nil => exact List.pairwise_singleton _ _
  | cons x t ih =>
    obtain ⟨k, v⟩ := x
    unfold NTable.wf at h ih ⊢
    have hp := List.pairwise_cons.mp h
    by_cases hl : n < k
    · simp only [NTable.insert, hl, if_true]
      refine List.pairwise_cons.mpr ⟨fun e he => ?_, h⟩
      rcases List.mem_cons.mp he with rfl | he
      · exact hl
      · exact Nat.lt_trans hl (hp.1 e he)
    · simp only [NTable.insert, hl, if_false]
      have hk : k ≠ n := hn (k, v) List.mem_cons_self
      refine List.pairwise_cons.mpr ⟨fun e he => ?_, ih hp.2 (fun e he => hn e (List.mem_cons_of_mem _ he))⟩
      rcases NTable.mem_insert he with rfl | he
      · show k < n; omega
      · exact hp.1 e he

/-- Putting a value keeps the canonical form. -/
theorem NTable.put_wf {α : Type} {t : NTable α} (n : Nat) (a : α) (h : NTable.wf t) : NTable.wf (NTable.put t n a) :=
  NTable.insert_wf a (NTable.erase_wf n h) (fun _ he => (NTable.mem_erase he).2)

/-! ## Field tables -/

@[simp] theorem RTable.find_nil (n : RegKey) : RTable.find [] n = none := rfl

theorem RTable.find_erase_same (t : RTable) (n : RegKey) : RTable.find (RTable.erase t n) n = none := by
  induction t with
  | nil => rfl
  | cons e t ih => obtain ⟨k, v⟩ := e; by_cases h : k = n <;> simp [RTable.erase, RTable.find, h, ih]

theorem RTable.find_erase_ne (t : RTable) {n m : RegKey} (h : m ≠ n) : RTable.find (RTable.erase t n) m = RTable.find t m := by
  induction t with
  | nil => rfl
  | cons e t ih =>
    obtain ⟨k, v⟩ := e
    by_cases hk : k = n
    · subst hk; simp [RTable.erase, RTable.find, ih, Ne.symm h]
    · by_cases hm : k = m
      · subst hm; simp [RTable.erase, RTable.find, hk]
      · simp [RTable.erase, RTable.find, hk, hm, ih]

theorem RTable.find_insert_same (t : RTable) (n : RegKey) (a : Nat) (h : RTable.find t n = none) :
    RTable.find (RTable.insert t n a) n = some a := by
  induction t with
  | nil => simp [RTable.insert, RTable.find]
  | cons e t ih =>
    obtain ⟨k, v⟩ := e
    by_cases hk : k = n
    · simp [RTable.find, hk] at h
    · simp only [RTable.find, hk, if_false] at h
      by_cases hl : lexLt n.code k.code = true <;> simp [RTable.insert, RTable.find, hl, hk, ih h]

theorem RTable.find_insert_ne (t : RTable) {n m : RegKey} (a : Nat) (h : m ≠ n) :
    RTable.find (RTable.insert t n a) m = RTable.find t m := by
  induction t with
  | nil => simp [RTable.insert, RTable.find, Ne.symm h]
  | cons e t ih =>
    obtain ⟨k, v⟩ := e
    by_cases hm : k = m
    · subst hm; by_cases hl : lexLt n.code k.code = true <;> simp [RTable.insert, RTable.find, hl, Ne.symm h]
    · by_cases hl : lexLt n.code k.code = true <;> simp [RTable.insert, RTable.find, hl, hm, ih, Ne.symm h]

/-- A field set is read back, cut to its width. -/
@[simp] theorem RTable.get_set_same (t : RTable) (n : RegKey) (a : Nat) : (RTable.set t n a).get n = a % 2 ^ n.field.width := by
  unfold RTable.set RTable.get
  split
  · next h => simp [RTable.find_erase_same, h]
  · simp [RTable.put, RTable.find_insert_same, RTable.find_erase_same]

/-- A field set leaves every other field alone. -/
theorem RTable.get_set_ne (t : RTable) {n m : RegKey} (a : Nat) (h : m ≠ n) : (RTable.set t n a).get m = t.get m := by
  unfold RTable.set RTable.get
  split
  · rw [RTable.find_erase_ne _ h]
  · rw [RTable.put, RTable.find_insert_ne _ _ h, RTable.find_erase_ne _ h]

theorem RTable.mem_erase {t : RTable} {n : RegKey} {e : RegKey × Nat} (h : e ∈ RTable.erase t n) : e ∈ t ∧ e.1 ≠ n := by
  induction t with
  | nil => simp [RTable.erase] at h
  | cons x t ih =>
    obtain ⟨k, v⟩ := x
    by_cases hk : k = n
    · simp only [RTable.erase, hk, if_true] at h
      exact ⟨List.mem_cons_of_mem _ (ih h).1, (ih h).2⟩
    · simp only [RTable.erase, hk, if_false, List.mem_cons] at h
      rcases h with rfl | h
      · exact ⟨List.mem_cons_self, hk⟩
      · exact ⟨List.mem_cons_of_mem _ (ih h).1, (ih h).2⟩

theorem RTable.mem_insert {t : RTable} {n : RegKey} {a : Nat} {e : RegKey × Nat} (h : e ∈ RTable.insert t n a) :
    e = (n, a) ∨ e ∈ t := by
  induction t with
  | nil => simpa [RTable.insert] using h
  | cons x t ih =>
    obtain ⟨k, v⟩ := x
    by_cases hl : lexLt n.code k.code = true
    · simpa [RTable.insert, hl] using h
    · rw [RTable.insert, if_neg hl, List.mem_cons] at h
      rcases h with rfl | h
      · exact Or.inr List.mem_cons_self
      · rcases ih h with h | h
        · exact Or.inl h
        · exact Or.inr (List.mem_cons_of_mem _ h)

/-- Setting a field keeps every listed value within its field and off its reset value. -/
theorem RTable.set_values {t : RTable} (n : RegKey) (a : Nat) (h : ∀ e ∈ t, e.2 ≠ e.1.default ∧ e.2 < 2 ^ e.1.field.width) :
    ∀ e ∈ RTable.set t n a, e.2 ≠ e.1.default ∧ e.2 < 2 ^ e.1.field.width := by
  intro e he
  unfold RTable.set at he
  split at he
  · exact h e (RTable.mem_erase he).1
  · next hne =>
    rcases RTable.mem_insert he with rfl | he
    · exact ⟨hne, Nat.mod_lt _ (Nat.two_pow_pos _)⟩
    · exact h e (RTable.mem_erase he).1

/-! ## The order of keys -/

theorem lexLt_trans : ∀ {a b c : List Nat}, lexLt a b = true → lexLt b c = true → lexLt a c = true
  | [], _ :: _, _ :: _, _, _ => rfl
  | _ :: _, [], _, h, _ => by simp [lexLt] at h
  | [], [], _, h, _ => by simp [lexLt] at h
  | _, _ :: _, [], _, h => by simp [lexLt] at h
  | x :: a, y :: b, z :: c, h, g => by
    simp only [lexLt] at h g ⊢
    by_cases hxy : x < y <;> by_cases hyz : y < z
    · rw [if_pos (Nat.lt_trans hxy hyz)]
    · have : y = z := by by_cases e : y = z <;> simp_all
      subst this; rw [if_pos hxy]
    · have : x = y := by by_cases e : x = y <;> simp_all
      subst this; rw [if_pos hyz]
    · have e1 : x = y := by by_cases e : x = y <;> simp_all
      have e2 : y = z := by by_cases e : y = z <;> simp_all
      subst e1; subst e2
      simp only [Nat.lt_irrefl, if_false, if_true] at h g ⊢
      exact lexLt_trans h g

theorem lexLt_total : ∀ a b : List Nat, lexLt a b = true ∨ a = b ∨ lexLt b a = true
  | [], [] => Or.inr (Or.inl rfl)
  | [], _ :: _ => Or.inl rfl
  | _ :: _, [] => Or.inr (Or.inr rfl)
  | x :: a, y :: b => by
    rcases Nat.lt_trichotomy x y with h | h | h
    · exact Or.inl (by simp [lexLt, h])
    · subst h
      rcases lexLt_total a b with g | g | g
      · exact Or.inl (by simp [lexLt, g])
      · exact Or.inr (Or.inl (by rw [g]))
      · exact Or.inr (Or.inr (by simp [lexLt, g]))
    · exact Or.inr (Or.inr (by simp [lexLt, h]))

theorem Page.code_inj {p q : Page} (h : p.code = q.code) : p = q := by
  cases p <;> cases q <;> first | rfl | (simp [Page.code] at h)

theorem Reset.code_inj {a b : Reset} (h : a.code = b.code) : a = b := by
  cases a <;> cases b <;> simp_all [Reset.code]

theorem RegKey.code_inj {a b : RegKey} (h : a.code = b.code) : a = b := by
  obtain ⟨⟨p, o, l, w, r⟩, i, k⟩ := a
  obtain ⟨⟨p', o', l', w', r'⟩, i', k'⟩ := b
  simp only [RegKey.code, List.cons.injEq] at h
  obtain ⟨h1, h2, h3, h4, h5, h6, h7⟩ := h
  rw [Page.code_inj h1, h2, h3, h4, h5, h6, Reset.code_inj h7]

/-- Two keys that differ stand in the order one way or the other. -/
theorem RegKey.lt_or_gt {a b : RegKey} (h : a ≠ b) : lexLt a.code b.code = true ∨ lexLt b.code a.code = true := by
  rcases lexLt_total a.code b.code with g | g | g
  · exact Or.inl g
  · exact absurd (RegKey.code_inj g) h
  · exact Or.inr g

theorem RTable.erase_sorted {t : RTable} (n : RegKey) (h : t.Pairwise (fun a b => lexLt a.1.code b.1.code = true)) :
    (RTable.erase t n).Pairwise (fun a b => lexLt a.1.code b.1.code = true) := by
  induction t with
  | nil => exact h
  | cons x t ih =>
    obtain ⟨k, v⟩ := x
    have hp := List.pairwise_cons.mp h
    by_cases hk : k = n
    · rw [RTable.erase, if_pos hk]; exact ih hp.2
    · rw [RTable.erase, if_neg hk]
      exact List.pairwise_cons.mpr ⟨fun e he => hp.1 e (RTable.mem_erase he).1, ih hp.2⟩

theorem RTable.insert_sorted {t : RTable} {n : RegKey} (a : Nat) (h : t.Pairwise (fun a b => lexLt a.1.code b.1.code = true))
    (hn : ∀ e ∈ t, e.1 ≠ n) : (RTable.insert t n a).Pairwise (fun a b => lexLt a.1.code b.1.code = true) := by
  induction t with
  | nil => exact List.pairwise_singleton _ _
  | cons x t ih =>
    obtain ⟨k, v⟩ := x
    have hp := List.pairwise_cons.mp h
    by_cases hl : lexLt n.code k.code = true
    · rw [RTable.insert, if_pos hl]
      refine List.pairwise_cons.mpr ⟨fun e he => ?_, h⟩
      rcases List.mem_cons.mp he with rfl | he
      · exact hl
      · exact lexLt_trans hl (hp.1 e he)
    · rw [RTable.insert, if_neg hl]
      have hk : lexLt k.code n.code = true := (RegKey.lt_or_gt (hn (k, v) List.mem_cons_self)).resolve_right hl
      refine List.pairwise_cons.mpr ⟨fun e he => ?_, ih hp.2 (fun e he => hn e (List.mem_cons_of_mem _ he))⟩
      rcases RTable.mem_insert he with rfl | he
      · exact hk
      · exact hp.1 e he

/-- Setting a field keeps the canonical form. -/
theorem RTable.set_wf {t : RTable} (n : RegKey) (a : Nat) (h : RTable.wf t) : RTable.wf (RTable.set t n a) := by
  refine ⟨?_, RTable.set_values n a h.2⟩
  unfold RTable.set
  split
  · exact RTable.erase_sorted n h.1
  · exact RTable.insert_sorted _ (RTable.erase_sorted n h.1) (fun _ he => (RTable.mem_erase he).2)

end Sys2Proof.Machine
end

