-- ==== Sys2Proof/Laws/State.lean ====
section
/-! SUPPORT. What each update of the state changes and what it leaves, and the memory of the buffers. -/
namespace Sys2Proof.Machine

/-! ## One field set -/

/-- A field set is read back, cut to its width. -/
@[simp] theorem State.get_set_same (s : State) (f : Field) (v i k : Nat) : (s.set f v i k).get f i k = v % 2 ^ f.width := by
  simp [State.get, State.set]

/-- Another field reads as before. -/
theorem State.get_set_ne (s : State) {f g : Field} (v i k j n : Nat) (h : g ≠ f) : (s.set f v i k).get g j n = s.get g j n := by
  unfold State.get State.set
  exact RTable.get_set_ne _ _ (fun e => h (congrArg (fun x : RegKey => x.field) e))

/-- The same field of another instance or index reads as before. -/
theorem State.get_set_at (s : State) (f : Field) (v i k j n : Nat) :
    (s.set f v i k).get f j n = if j = i ∧ n = k then v % 2 ^ f.width else s.get f j n := by
  split
  · next h => obtain ⟨rfl, rfl⟩ := h; simp
  · next h =>
    unfold State.get State.set
    refine RTable.get_set_ne _ _ (fun e => h ?_)
    exact ⟨congrArg RegKey.inst e, congrArg RegKey.idx e⟩

@[simp] theorem State.set_shadow (s : State) (f : Field) (v i k : Nat) : (s.set f v i k).shadow = s.shadow := rfl
@[simp] theorem State.set_commits (s : State) (f : Field) (v i k : Nat) : (s.set f v i k).commits = s.commits := rfl
@[simp] theorem State.set_evt (s : State) (f : Field) (v i k : Nat) : (s.set f v i k).evt = s.evt := rfl
@[simp] theorem State.set_clk (s : State) (f : Field) (v i k : Nat) : (s.set f v i k).clk = s.clk := rfl
@[simp] theorem State.set_video (s : State) (f : Field) (v i k : Nat) : (s.set f v i k).video = s.video := rfl
@[simp] theorem State.set_repair (s : State) (f : Field) (v i k : Nat) : (s.set f v i k).repair = s.repair := rfl
@[simp] theorem State.set_ess (s : State) (f : Field) (v i k : Nat) : (s.set f v i k).ess = s.ess := rfl
@[simp] theorem State.set_buf (s : State) (f : Field) (v i k : Nat) : (s.set f v i k).buf = s.buf := rfl
@[simp] theorem State.set_flow (s : State) (f : Field) (v i k : Nat) : (s.set f v i k).flow = s.flow := rfl
@[simp] theorem State.set_audio (s : State) (f : Field) (v i k : Nat) : (s.set f v i k).audio = s.audio := rfl
@[simp] theorem State.set_ports (s : State) (f : Field) (v i k : Nat) : (s.set f v i k).ports = s.ports := rfl
@[simp] theorem State.set_nvm (s : State) (f : Field) (v i k : Nat) : (s.set f v i k).nvm = s.nvm := rfl
@[simp] theorem State.set_keys (s : State) (f : Field) (v i k : Nat) : (s.set f v i k).keys = s.keys := rfl
@[simp] theorem State.set_console (s : State) (f : Field) (v i k : Nat) : (s.set f v i k).console = s.console := rfl
@[simp] theorem State.set_jtag (s : State) (f : Field) (v i k : Nat) : (s.set f v i k).jtag = s.jtag := rfl
@[simp] theorem State.set_thermal (s : State) (f : Field) (v i k : Nat) : (s.set f v i k).thermal = s.thermal := rfl
@[simp] theorem State.set_freeCtr (s : State) (f : Field) (v i k : Nat) : (s.set f v i k).freeCtr = s.freeCtr := rfl
@[simp] theorem State.set_pending (s : State) (f : Field) (v i k : Nat) : (s.set f v i k).pending = s.pending := rfl

/-! ## The console -/

@[simp] theorem State.con_regs (s : State) (g : ConsoleState → ConsoleState) : (s.con g).regs = s.regs := rfl
@[simp] theorem State.con_shadow (s : State) (g : ConsoleState → ConsoleState) : (s.con g).shadow = s.shadow := rfl
@[simp] theorem State.con_commits (s : State) (g : ConsoleState → ConsoleState) : (s.con g).commits = s.commits := rfl
@[simp] theorem State.con_evt (s : State) (g : ConsoleState → ConsoleState) : (s.con g).evt = s.evt := rfl
@[simp] theorem State.con_clk (s : State) (g : ConsoleState → ConsoleState) : (s.con g).clk = s.clk := rfl
@[simp] theorem State.con_video (s : State) (g : ConsoleState → ConsoleState) : (s.con g).video = s.video := rfl
@[simp] theorem State.con_repair (s : State) (g : ConsoleState → ConsoleState) : (s.con g).repair = s.repair := rfl
@[simp] theorem State.con_ess (s : State) (g : ConsoleState → ConsoleState) : (s.con g).ess = s.ess := rfl
@[simp] theorem State.con_buf (s : State) (g : ConsoleState → ConsoleState) : (s.con g).buf = s.buf := rfl
@[simp] theorem State.con_flow (s : State) (g : ConsoleState → ConsoleState) : (s.con g).flow = s.flow := rfl
@[simp] theorem State.con_audio (s : State) (g : ConsoleState → ConsoleState) : (s.con g).audio = s.audio := rfl
@[simp] theorem State.con_ports (s : State) (g : ConsoleState → ConsoleState) : (s.con g).ports = s.ports := rfl
@[simp] theorem State.con_nvm (s : State) (g : ConsoleState → ConsoleState) : (s.con g).nvm = s.nvm := rfl
@[simp] theorem State.con_keys (s : State) (g : ConsoleState → ConsoleState) : (s.con g).keys = s.keys := rfl
@[simp] theorem State.con_jtag (s : State) (g : ConsoleState → ConsoleState) : (s.con g).jtag = s.jtag := rfl
@[simp] theorem State.con_thermal (s : State) (g : ConsoleState → ConsoleState) : (s.con g).thermal = s.thermal := rfl
@[simp] theorem State.con_freeCtr (s : State) (g : ConsoleState → ConsoleState) : (s.con g).freeCtr = s.freeCtr := rfl
@[simp] theorem State.con_pending (s : State) (g : ConsoleState → ConsoleState) : (s.con g).pending = s.pending := rfl
@[simp] theorem State.con_console (s : State) (g : ConsoleState → ConsoleState) : (s.con g).console = g s.console := rfl
@[simp] theorem State.con_get (s : State) (g : ConsoleState → ConsoleState) (f : Field) (i k : Nat) : (s.con g).get f i k = s.get f i k := rfl

/-! ## Buffers -/

/-- A byte written is read back. -/
@[simp] theorem Memory.read_write_same (m : Memory) (a : Nat) (b : BitVec 8) : (m.write a b).read a = b := by
  simp [Memory.read, Memory.write]

/-- A byte written leaves every other byte alone. -/
theorem Memory.read_write_ne (m : Memory) {a c : Nat} (b : BitVec 8) (h : c ≠ a) : (m.write a b).read c = m.read c := by
  simp only [Memory.read, Memory.write]; exact NTable.getD_putD_ne _ _ _ h

/-- A write keeps the canonical form. -/
theorem Memory.write_wf {m : Memory} (a : Nat) (b : BitVec 8) (h : m.wf) : (m.write a b).wf := by
  have hs : NTable.wf m := h.1
  unfold Memory.write NTable.putD
  split
  · exact ⟨NTable.erase_wf a hs, fun e he => h.2 e (NTable.mem_erase he).1⟩
  · next hb =>
    refine ⟨NTable.put_wf a b hs, fun e he => ?_⟩
    rcases NTable.mem_insert he with rfl | he
    · exact hb
    · exact h.2 e (NTable.mem_erase he).1

/-- A run of bytes written keeps the canonical form. -/
theorem Memory.writeBytes_wf (a data : Nat) (skip : Nat → Bool) : ∀ (l : List Nat) {m : Memory}, m.wf → (m.writeBytes a data skip l).wf
  | [], _, h => h
  | k :: t, m, h => by
    rw [Memory.writeBytes]
    split
    · exact Memory.writeBytes_wf a data skip t h
    · exact Memory.writeBytes_wf a data skip t (Memory.write_wf _ _ h)

/-- Bytes outside a run written read as before. -/
theorem Memory.read_writeBytes (a data : Nat) (skip : Nat → Bool) (c : Nat) :
    ∀ (l : List Nat) (m : Memory), (∀ k ∈ l, c ≠ a + k) → (m.writeBytes a data skip l).read c = m.read c
  | [], _, _ => rfl
  | k :: t, m, h => by
    rw [Memory.writeBytes, Memory.read_writeBytes a data skip c t _ (fun x hx => h x (List.mem_cons_of_mem _ hx))]
    split
    · rfl
    · exact Memory.read_write_ne _ _ (h k List.mem_cons_self)

/-- The buffers at power-up are in their canonical form. -/
theorem State.reset_buffersWf : State.reset.BuffersWf := by
  refine ⟨?_, ?_, ?_⟩ <;> exact ⟨List.Pairwise.nil, fun _ h => absurd h List.not_mem_nil⟩

end Sys2Proof.Machine
end

