-- ==== Sys2Proof/Laws/Ops.lean ====
section
/-! SUPPORT. What the shared operations do and leave: events and routes change the event core only, and what every command shows at its
end leaves every other field alone. -/
namespace Sys2Proof.Machine

/-! ## Events -/

/-- Two states that differ in the event core only. -/
def EvtOnly (s t : State) : Prop := t = { s with evt := t.evt }

theorem EvtOnly.refl (s : State) : EvtOnly s s := rfl

theorem EvtOnly.trans {s t u : State} (h : EvtOnly s t) (g : EvtOnly t u) : EvtOnly s u := by
  unfold EvtOnly at *; rw [g]; rw [h]

theorem EvtOnly.evt (s : State) (e : EventState) : EvtOnly s { s with evt := e } := rfl

theorem EvtOnly.get {s t : State} (h : EvtOnly s t) (f : Field) (i k : Nat) : t.get f i k = s.get f i k := by
  unfold EvtOnly at h; rw [h]; rfl

theorem State.msixTry_only (s : State) (v : Nat) : EvtOnly s (s.msixTry v) := by
  unfold State.msixTry; split <;> first | exact EvtOnly.evt _ _ | exact EvtOnly.refl _

theorem State.msixDue_only (s : State) (v : Nat) : EvtOnly s (s.msixDue v) :=
  (EvtOnly.evt s _).trans (State.msixTry_only _ v)

theorem State.supInterrupt_only (s : State) (src : Nat) : EvtOnly s (s.supInterrupt src) := by
  unfold State.supInterrupt; split <;> exact EvtOnly.evt _ _

theorem State.routeDirect_only (s : State) (src : Nat) : EvtOnly s (s.routeDirect src) := by
  unfold State.routeDirect
  dsimp only
  split
  · split
    · exact (State.msixDue_only _ _).trans (State.supInterrupt_only _ _)
    · exact State.supInterrupt_only _ _
  · split
    · exact State.msixDue_only _ _
    · exact EvtOnly.refl _

theorem State.logPut_only (s : State) (e : LogEntry) : EvtOnly s (s.logPut e) := by
  unfold State.logPut
  split
  · exact EvtOnly.evt _ _
  · dsimp only
    split
    · exact (EvtOnly.evt s _).trans (State.routeDirect_only _ _)
    · exact EvtOnly.evt s _

theorem State.rising_only (s : State) (src : Nat) : EvtOnly s (s.rising src) := by
  unfold State.rising
  dsimp only
  have h1 := (EvtOnly.evt s { s.evt with risings := NTable.put s.evt.risings src (NTable.getD s.evt.risings src 0 + 1) }).trans
    (State.routeDirect_only _ src)
  split
  · exact h1.trans (State.logPut_only _ _)
  · exact h1

theorem State.putStat_only (s : State) (src v : Nat) : EvtOnly s (s.putStat src v) := by
  unfold State.putStat
  dsimp only
  split
  · exact (EvtOnly.evt s _).trans (State.rising_only _ _)
  · exact EvtOnly.evt s _

/-- Raising an event changes the event core only. -/
theorem State.raise_only (s : State) (p : Page) (i bit : Nat) : EvtOnly s (s.raise p i bit) := State.putStat_only _ _ _

theorem State.raiseIf_only (s : State) (c : Bool) (p : Page) (i bit : Nat) : EvtOnly s (s.raiseIf c p i bit) := by
  unfold State.raiseIf; split
  · exact State.raise_only _ _ _ _
  · exact EvtOnly.refl _

theorem State.levelRisings_only (old new : Nat) : ∀ (l : List Nat) (s : State), EvtOnly s (s.levelRisings old new l)
  | [], s => EvtOnly.refl s
  | k :: t, s => by
    unfold State.levelRisings
    dsimp only
    split
    · exact (State.rising_only _ _).trans (State.levelRisings_only old new t _)
    · exact State.levelRisings_only old new t _

theorem State.settleLevels_only (s : State) : EvtOnly s s.settleLevels :=
  (EvtOnly.evt s _).trans (State.levelRisings_only _ _ _ _)

theorem State.settleSummary_only (s : State) : EvtOnly s s.settleSummary := by
  unfold State.settleSummary
  split
  · exact EvtOnly.refl _
  · exact (EvtOnly.evt s _).trans (State.raise_only _ _ _ _)

theorem EvtOnly.regs {s t : State} (h : EvtOnly s t) : t.regs = s.regs := by unfold EvtOnly at h; rw [h]
theorem EvtOnly.shadow {s t : State} (h : EvtOnly s t) : t.shadow = s.shadow := by unfold EvtOnly at h; rw [h]
theorem EvtOnly.commits {s t : State} (h : EvtOnly s t) : t.commits = s.commits := by unfold EvtOnly at h; rw [h]
theorem EvtOnly.clk {s t : State} (h : EvtOnly s t) : t.clk = s.clk := by unfold EvtOnly at h; rw [h]
theorem EvtOnly.video {s t : State} (h : EvtOnly s t) : t.video = s.video := by unfold EvtOnly at h; rw [h]
theorem EvtOnly.repair {s t : State} (h : EvtOnly s t) : t.repair = s.repair := by unfold EvtOnly at h; rw [h]
theorem EvtOnly.ess {s t : State} (h : EvtOnly s t) : t.ess = s.ess := by unfold EvtOnly at h; rw [h]
theorem EvtOnly.buf {s t : State} (h : EvtOnly s t) : t.buf = s.buf := by unfold EvtOnly at h; rw [h]
theorem EvtOnly.flow {s t : State} (h : EvtOnly s t) : t.flow = s.flow := by unfold EvtOnly at h; rw [h]
theorem EvtOnly.audio {s t : State} (h : EvtOnly s t) : t.audio = s.audio := by unfold EvtOnly at h; rw [h]
theorem EvtOnly.ports {s t : State} (h : EvtOnly s t) : t.ports = s.ports := by unfold EvtOnly at h; rw [h]
theorem EvtOnly.nvm {s t : State} (h : EvtOnly s t) : t.nvm = s.nvm := by unfold EvtOnly at h; rw [h]
theorem EvtOnly.keys {s t : State} (h : EvtOnly s t) : t.keys = s.keys := by unfold EvtOnly at h; rw [h]
theorem EvtOnly.console {s t : State} (h : EvtOnly s t) : t.console = s.console := by unfold EvtOnly at h; rw [h]
theorem EvtOnly.jtag {s t : State} (h : EvtOnly s t) : t.jtag = s.jtag := by unfold EvtOnly at h; rw [h]
theorem EvtOnly.thermal {s t : State} (h : EvtOnly s t) : t.thermal = s.thermal := by unfold EvtOnly at h; rw [h]
theorem EvtOnly.freeCtr {s t : State} (h : EvtOnly s t) : t.freeCtr = s.freeCtr := by unfold EvtOnly at h; rw [h]
theorem EvtOnly.pending {s t : State} (h : EvtOnly s t) : t.pending = s.pending := by unfold EvtOnly at h; rw [h]

@[simp] theorem State.raise_regs (s : State) (p : Page) (i bit : Nat) : (s.raise p i bit).regs = s.regs := (State.raise_only s p i bit).regs
@[simp] theorem State.raise_shadow (s : State) (p : Page) (i bit : Nat) : (s.raise p i bit).shadow = s.shadow := (State.raise_only s p i bit).shadow
@[simp] theorem State.raise_commits (s : State) (p : Page) (i bit : Nat) : (s.raise p i bit).commits = s.commits := (State.raise_only s p i bit).commits
@[simp] theorem State.raise_clk (s : State) (p : Page) (i bit : Nat) : (s.raise p i bit).clk = s.clk := (State.raise_only s p i bit).clk
@[simp] theorem State.raise_video (s : State) (p : Page) (i bit : Nat) : (s.raise p i bit).video = s.video := (State.raise_only s p i bit).video
@[simp] theorem State.raise_repair (s : State) (p : Page) (i bit : Nat) : (s.raise p i bit).repair = s.repair := (State.raise_only s p i bit).repair
@[simp] theorem State.raise_ess (s : State) (p : Page) (i bit : Nat) : (s.raise p i bit).ess = s.ess := (State.raise_only s p i bit).ess
@[simp] theorem State.raise_buf (s : State) (p : Page) (i bit : Nat) : (s.raise p i bit).buf = s.buf := (State.raise_only s p i bit).buf
@[simp] theorem State.raise_flow (s : State) (p : Page) (i bit : Nat) : (s.raise p i bit).flow = s.flow := (State.raise_only s p i bit).flow
@[simp] theorem State.raise_audio (s : State) (p : Page) (i bit : Nat) : (s.raise p i bit).audio = s.audio := (State.raise_only s p i bit).audio
@[simp] theorem State.raise_ports (s : State) (p : Page) (i bit : Nat) : (s.raise p i bit).ports = s.ports := (State.raise_only s p i bit).ports
@[simp] theorem State.raise_nvm (s : State) (p : Page) (i bit : Nat) : (s.raise p i bit).nvm = s.nvm := (State.raise_only s p i bit).nvm
@[simp] theorem State.raise_keys (s : State) (p : Page) (i bit : Nat) : (s.raise p i bit).keys = s.keys := (State.raise_only s p i bit).keys
@[simp] theorem State.raise_console (s : State) (p : Page) (i bit : Nat) : (s.raise p i bit).console = s.console := (State.raise_only s p i bit).console
@[simp] theorem State.raise_jtag (s : State) (p : Page) (i bit : Nat) : (s.raise p i bit).jtag = s.jtag := (State.raise_only s p i bit).jtag
@[simp] theorem State.raise_thermal (s : State) (p : Page) (i bit : Nat) : (s.raise p i bit).thermal = s.thermal := (State.raise_only s p i bit).thermal
@[simp] theorem State.raise_freeCtr (s : State) (p : Page) (i bit : Nat) : (s.raise p i bit).freeCtr = s.freeCtr := (State.raise_only s p i bit).freeCtr
@[simp] theorem State.raise_pending (s : State) (p : Page) (i bit : Nat) : (s.raise p i bit).pending = s.pending := (State.raise_only s p i bit).pending
@[simp] theorem State.raise_get (s : State) (p : Page) (i bit : Nat) (f : Field) (j k : Nat) : (s.raise p i bit).get f j k = s.get f j k :=
  (State.raise_only s p i bit).get f j k
@[simp] theorem State.raiseIf_regs (s : State) (c : Bool) (p : Page) (i bit : Nat) : (s.raiseIf c p i bit).regs = s.regs := (State.raiseIf_only s c p i bit).regs
@[simp] theorem State.raiseIf_shadow (s : State) (c : Bool) (p : Page) (i bit : Nat) : (s.raiseIf c p i bit).shadow = s.shadow := (State.raiseIf_only s c p i bit).shadow
@[simp] theorem State.raiseIf_commits (s : State) (c : Bool) (p : Page) (i bit : Nat) : (s.raiseIf c p i bit).commits = s.commits := (State.raiseIf_only s c p i bit).commits
@[simp] theorem State.raiseIf_clk (s : State) (c : Bool) (p : Page) (i bit : Nat) : (s.raiseIf c p i bit).clk = s.clk := (State.raiseIf_only s c p i bit).clk
@[simp] theorem State.raiseIf_video (s : State) (c : Bool) (p : Page) (i bit : Nat) : (s.raiseIf c p i bit).video = s.video := (State.raiseIf_only s c p i bit).video
@[simp] theorem State.raiseIf_repair (s : State) (c : Bool) (p : Page) (i bit : Nat) : (s.raiseIf c p i bit).repair = s.repair := (State.raiseIf_only s c p i bit).repair
@[simp] theorem State.raiseIf_ess (s : State) (c : Bool) (p : Page) (i bit : Nat) : (s.raiseIf c p i bit).ess = s.ess := (State.raiseIf_only s c p i bit).ess
@[simp] theorem State.raiseIf_buf (s : State) (c : Bool) (p : Page) (i bit : Nat) : (s.raiseIf c p i bit).buf = s.buf := (State.raiseIf_only s c p i bit).buf
@[simp] theorem State.raiseIf_flow (s : State) (c : Bool) (p : Page) (i bit : Nat) : (s.raiseIf c p i bit).flow = s.flow := (State.raiseIf_only s c p i bit).flow
@[simp] theorem State.raiseIf_audio (s : State) (c : Bool) (p : Page) (i bit : Nat) : (s.raiseIf c p i bit).audio = s.audio := (State.raiseIf_only s c p i bit).audio
@[simp] theorem State.raiseIf_ports (s : State) (c : Bool) (p : Page) (i bit : Nat) : (s.raiseIf c p i bit).ports = s.ports := (State.raiseIf_only s c p i bit).ports
@[simp] theorem State.raiseIf_nvm (s : State) (c : Bool) (p : Page) (i bit : Nat) : (s.raiseIf c p i bit).nvm = s.nvm := (State.raiseIf_only s c p i bit).nvm
@[simp] theorem State.raiseIf_keys (s : State) (c : Bool) (p : Page) (i bit : Nat) : (s.raiseIf c p i bit).keys = s.keys := (State.raiseIf_only s c p i bit).keys
@[simp] theorem State.raiseIf_console (s : State) (c : Bool) (p : Page) (i bit : Nat) : (s.raiseIf c p i bit).console = s.console := (State.raiseIf_only s c p i bit).console
@[simp] theorem State.raiseIf_jtag (s : State) (c : Bool) (p : Page) (i bit : Nat) : (s.raiseIf c p i bit).jtag = s.jtag := (State.raiseIf_only s c p i bit).jtag
@[simp] theorem State.raiseIf_thermal (s : State) (c : Bool) (p : Page) (i bit : Nat) : (s.raiseIf c p i bit).thermal = s.thermal := (State.raiseIf_only s c p i bit).thermal
@[simp] theorem State.raiseIf_freeCtr (s : State) (c : Bool) (p : Page) (i bit : Nat) : (s.raiseIf c p i bit).freeCtr = s.freeCtr := (State.raiseIf_only s c p i bit).freeCtr
@[simp] theorem State.raiseIf_pending (s : State) (c : Bool) (p : Page) (i bit : Nat) : (s.raiseIf c p i bit).pending = s.pending := (State.raiseIf_only s c p i bit).pending
@[simp] theorem State.raiseIf_get (s : State) (c : Bool) (p : Page) (i bit : Nat) (f : Field) (j k : Nat) : (s.raiseIf c p i bit).get f j k = s.get f j k :=
  (State.raiseIf_only s c p i bit).get f j k
@[simp] theorem State.putStat_regs (s : State) (src v : Nat) : (s.putStat src v).regs = s.regs := (State.putStat_only s src v).regs
@[simp] theorem State.putStat_shadow (s : State) (src v : Nat) : (s.putStat src v).shadow = s.shadow := (State.putStat_only s src v).shadow
@[simp] theorem State.putStat_commits (s : State) (src v : Nat) : (s.putStat src v).commits = s.commits := (State.putStat_only s src v).commits
@[simp] theorem State.putStat_clk (s : State) (src v : Nat) : (s.putStat src v).clk = s.clk := (State.putStat_only s src v).clk
@[simp] theorem State.putStat_video (s : State) (src v : Nat) : (s.putStat src v).video = s.video := (State.putStat_only s src v).video
@[simp] theorem State.putStat_repair (s : State) (src v : Nat) : (s.putStat src v).repair = s.repair := (State.putStat_only s src v).repair
@[simp] theorem State.putStat_ess (s : State) (src v : Nat) : (s.putStat src v).ess = s.ess := (State.putStat_only s src v).ess
@[simp] theorem State.putStat_buf (s : State) (src v : Nat) : (s.putStat src v).buf = s.buf := (State.putStat_only s src v).buf
@[simp] theorem State.putStat_flow (s : State) (src v : Nat) : (s.putStat src v).flow = s.flow := (State.putStat_only s src v).flow
@[simp] theorem State.putStat_audio (s : State) (src v : Nat) : (s.putStat src v).audio = s.audio := (State.putStat_only s src v).audio
@[simp] theorem State.putStat_ports (s : State) (src v : Nat) : (s.putStat src v).ports = s.ports := (State.putStat_only s src v).ports
@[simp] theorem State.putStat_nvm (s : State) (src v : Nat) : (s.putStat src v).nvm = s.nvm := (State.putStat_only s src v).nvm
@[simp] theorem State.putStat_keys (s : State) (src v : Nat) : (s.putStat src v).keys = s.keys := (State.putStat_only s src v).keys
@[simp] theorem State.putStat_console (s : State) (src v : Nat) : (s.putStat src v).console = s.console := (State.putStat_only s src v).console
@[simp] theorem State.putStat_jtag (s : State) (src v : Nat) : (s.putStat src v).jtag = s.jtag := (State.putStat_only s src v).jtag
@[simp] theorem State.putStat_thermal (s : State) (src v : Nat) : (s.putStat src v).thermal = s.thermal := (State.putStat_only s src v).thermal
@[simp] theorem State.putStat_freeCtr (s : State) (src v : Nat) : (s.putStat src v).freeCtr = s.freeCtr := (State.putStat_only s src v).freeCtr
@[simp] theorem State.putStat_pending (s : State) (src v : Nat) : (s.putStat src v).pending = s.pending := (State.putStat_only s src v).pending
@[simp] theorem State.putStat_get (s : State) (src v : Nat) (f : Field) (j k : Nat) : (s.putStat src v).get f j k = s.get f j k :=
  (State.putStat_only s src v).get f j k
@[simp] theorem State.rising_regs (s : State) (src : Nat) : (s.rising src).regs = s.regs := (State.rising_only s src).regs
@[simp] theorem State.rising_shadow (s : State) (src : Nat) : (s.rising src).shadow = s.shadow := (State.rising_only s src).shadow
@[simp] theorem State.rising_commits (s : State) (src : Nat) : (s.rising src).commits = s.commits := (State.rising_only s src).commits
@[simp] theorem State.rising_clk (s : State) (src : Nat) : (s.rising src).clk = s.clk := (State.rising_only s src).clk
@[simp] theorem State.rising_video (s : State) (src : Nat) : (s.rising src).video = s.video := (State.rising_only s src).video
@[simp] theorem State.rising_repair (s : State) (src : Nat) : (s.rising src).repair = s.repair := (State.rising_only s src).repair
@[simp] theorem State.rising_ess (s : State) (src : Nat) : (s.rising src).ess = s.ess := (State.rising_only s src).ess
@[simp] theorem State.rising_buf (s : State) (src : Nat) : (s.rising src).buf = s.buf := (State.rising_only s src).buf
@[simp] theorem State.rising_flow (s : State) (src : Nat) : (s.rising src).flow = s.flow := (State.rising_only s src).flow
@[simp] theorem State.rising_audio (s : State) (src : Nat) : (s.rising src).audio = s.audio := (State.rising_only s src).audio
@[simp] theorem State.rising_ports (s : State) (src : Nat) : (s.rising src).ports = s.ports := (State.rising_only s src).ports
@[simp] theorem State.rising_nvm (s : State) (src : Nat) : (s.rising src).nvm = s.nvm := (State.rising_only s src).nvm
@[simp] theorem State.rising_keys (s : State) (src : Nat) : (s.rising src).keys = s.keys := (State.rising_only s src).keys
@[simp] theorem State.rising_console (s : State) (src : Nat) : (s.rising src).console = s.console := (State.rising_only s src).console
@[simp] theorem State.rising_jtag (s : State) (src : Nat) : (s.rising src).jtag = s.jtag := (State.rising_only s src).jtag
@[simp] theorem State.rising_thermal (s : State) (src : Nat) : (s.rising src).thermal = s.thermal := (State.rising_only s src).thermal
@[simp] theorem State.rising_freeCtr (s : State) (src : Nat) : (s.rising src).freeCtr = s.freeCtr := (State.rising_only s src).freeCtr
@[simp] theorem State.rising_pending (s : State) (src : Nat) : (s.rising src).pending = s.pending := (State.rising_only s src).pending
@[simp] theorem State.rising_get (s : State) (src : Nat) (f : Field) (j k : Nat) : (s.rising src).get f j k = s.get f j k :=
  (State.rising_only s src).get f j k
@[simp] theorem State.msixTry_regs (s : State) (v : Nat) : (s.msixTry v).regs = s.regs := (State.msixTry_only s v).regs
@[simp] theorem State.msixTry_shadow (s : State) (v : Nat) : (s.msixTry v).shadow = s.shadow := (State.msixTry_only s v).shadow
@[simp] theorem State.msixTry_commits (s : State) (v : Nat) : (s.msixTry v).commits = s.commits := (State.msixTry_only s v).commits
@[simp] theorem State.msixTry_clk (s : State) (v : Nat) : (s.msixTry v).clk = s.clk := (State.msixTry_only s v).clk
@[simp] theorem State.msixTry_video (s : State) (v : Nat) : (s.msixTry v).video = s.video := (State.msixTry_only s v).video
@[simp] theorem State.msixTry_repair (s : State) (v : Nat) : (s.msixTry v).repair = s.repair := (State.msixTry_only s v).repair
@[simp] theorem State.msixTry_ess (s : State) (v : Nat) : (s.msixTry v).ess = s.ess := (State.msixTry_only s v).ess
@[simp] theorem State.msixTry_buf (s : State) (v : Nat) : (s.msixTry v).buf = s.buf := (State.msixTry_only s v).buf
@[simp] theorem State.msixTry_flow (s : State) (v : Nat) : (s.msixTry v).flow = s.flow := (State.msixTry_only s v).flow
@[simp] theorem State.msixTry_audio (s : State) (v : Nat) : (s.msixTry v).audio = s.audio := (State.msixTry_only s v).audio
@[simp] theorem State.msixTry_ports (s : State) (v : Nat) : (s.msixTry v).ports = s.ports := (State.msixTry_only s v).ports
@[simp] theorem State.msixTry_nvm (s : State) (v : Nat) : (s.msixTry v).nvm = s.nvm := (State.msixTry_only s v).nvm
@[simp] theorem State.msixTry_keys (s : State) (v : Nat) : (s.msixTry v).keys = s.keys := (State.msixTry_only s v).keys
@[simp] theorem State.msixTry_console (s : State) (v : Nat) : (s.msixTry v).console = s.console := (State.msixTry_only s v).console
@[simp] theorem State.msixTry_jtag (s : State) (v : Nat) : (s.msixTry v).jtag = s.jtag := (State.msixTry_only s v).jtag
@[simp] theorem State.msixTry_thermal (s : State) (v : Nat) : (s.msixTry v).thermal = s.thermal := (State.msixTry_only s v).thermal
@[simp] theorem State.msixTry_freeCtr (s : State) (v : Nat) : (s.msixTry v).freeCtr = s.freeCtr := (State.msixTry_only s v).freeCtr
@[simp] theorem State.msixTry_pending (s : State) (v : Nat) : (s.msixTry v).pending = s.pending := (State.msixTry_only s v).pending
@[simp] theorem State.msixTry_get (s : State) (v : Nat) (f : Field) (j k : Nat) : (s.msixTry v).get f j k = s.get f j k :=
  (State.msixTry_only s v).get f j k
@[simp] theorem State.logPut_regs (s : State) (e : LogEntry) : (s.logPut e).regs = s.regs := (State.logPut_only s e).regs
@[simp] theorem State.logPut_shadow (s : State) (e : LogEntry) : (s.logPut e).shadow = s.shadow := (State.logPut_only s e).shadow
@[simp] theorem State.logPut_commits (s : State) (e : LogEntry) : (s.logPut e).commits = s.commits := (State.logPut_only s e).commits
@[simp] theorem State.logPut_clk (s : State) (e : LogEntry) : (s.logPut e).clk = s.clk := (State.logPut_only s e).clk
@[simp] theorem State.logPut_video (s : State) (e : LogEntry) : (s.logPut e).video = s.video := (State.logPut_only s e).video
@[simp] theorem State.logPut_repair (s : State) (e : LogEntry) : (s.logPut e).repair = s.repair := (State.logPut_only s e).repair
@[simp] theorem State.logPut_ess (s : State) (e : LogEntry) : (s.logPut e).ess = s.ess := (State.logPut_only s e).ess
@[simp] theorem State.logPut_buf (s : State) (e : LogEntry) : (s.logPut e).buf = s.buf := (State.logPut_only s e).buf
@[simp] theorem State.logPut_flow (s : State) (e : LogEntry) : (s.logPut e).flow = s.flow := (State.logPut_only s e).flow
@[simp] theorem State.logPut_audio (s : State) (e : LogEntry) : (s.logPut e).audio = s.audio := (State.logPut_only s e).audio
@[simp] theorem State.logPut_ports (s : State) (e : LogEntry) : (s.logPut e).ports = s.ports := (State.logPut_only s e).ports
@[simp] theorem State.logPut_nvm (s : State) (e : LogEntry) : (s.logPut e).nvm = s.nvm := (State.logPut_only s e).nvm
@[simp] theorem State.logPut_keys (s : State) (e : LogEntry) : (s.logPut e).keys = s.keys := (State.logPut_only s e).keys
@[simp] theorem State.logPut_console (s : State) (e : LogEntry) : (s.logPut e).console = s.console := (State.logPut_only s e).console
@[simp] theorem State.logPut_jtag (s : State) (e : LogEntry) : (s.logPut e).jtag = s.jtag := (State.logPut_only s e).jtag
@[simp] theorem State.logPut_thermal (s : State) (e : LogEntry) : (s.logPut e).thermal = s.thermal := (State.logPut_only s e).thermal
@[simp] theorem State.logPut_freeCtr (s : State) (e : LogEntry) : (s.logPut e).freeCtr = s.freeCtr := (State.logPut_only s e).freeCtr
@[simp] theorem State.logPut_pending (s : State) (e : LogEntry) : (s.logPut e).pending = s.pending := (State.logPut_only s e).pending
@[simp] theorem State.logPut_get (s : State) (e : LogEntry) (f : Field) (j k : Nat) : (s.logPut e).get f j k = s.get f j k :=
  (State.logPut_only s e).get f j k

/-! ## Event bits -/

/-- Every event bit set in one state is set in another. -/
def StatLe (s t : State) : Prop :=
  ∀ src b, bitOf (NTable.getD s.evt.stat src 0) b = true → bitOf (NTable.getD t.evt.stat src 0) b = true

theorem StatLe.refl (s : State) : StatLe s s := fun _ _ h => h
theorem StatLe.trans {s t u : State} (h : StatLe s t) (g : StatLe t u) : StatLe s u := fun a b x => g a b (h a b x)
theorem StatLe.of_eq {s t : State} (h : t.evt.stat = s.evt.stat) : StatLe s t := fun _ _ x => by rw [h]; exact x

theorem State.msixTry_stat (s : State) (v : Nat) : (s.msixTry v).evt.stat = s.evt.stat := by unfold State.msixTry; split <;> rfl
theorem State.msixDue_stat (s : State) (v : Nat) : (s.msixDue v).evt.stat = s.evt.stat := State.msixTry_stat _ _
theorem State.supInterrupt_stat (s : State) (v : Nat) : (s.supInterrupt v).evt.stat = s.evt.stat := by
  unfold State.supInterrupt; split <;> rfl
theorem State.routeDirect_stat (s : State) (src : Nat) : (s.routeDirect src).evt.stat = s.evt.stat := by
  unfold State.routeDirect
  dsimp only
  split <;> split <;> simp only [State.supInterrupt_stat, State.msixDue_stat]

theorem bitOf_setBit (n k b : Nat) : bitOf (setBit n k) b = (bitOf n b || decide (k = b)) := by
  simp [bitOf, setBit, Nat.testBit_or, Nat.testBit_two_pow]

theorem NTable.getD_put {α : Type} (t : NTable α) (n m : Nat) (a d : α) :
    NTable.getD (NTable.put t n a) m d = if m = n then a else NTable.getD t m d := by
  unfold NTable.getD
  split
  · next h => subst h; simp
  · next h => rw [NTable.find_put_ne _ _ h]

theorem State.logPut_le (s : State) (e : LogEntry) : StatLe s (s.logPut e) := by
  unfold State.logPut
  split
  · exact StatLe.of_eq rfl
  · dsimp only
    have h1 : ∀ src b, bitOf (NTable.getD s.evt.stat src 0) b = true → bitOf (NTable.getD (NTable.put s.evt.stat (Page.busmatrix.source 0)
        (setBit (NTable.getD s.evt.stat (Page.busmatrix.source 0) 0) BUSMATRIX.EV_LOG_LOST)) src 0) b = true := by
      intro src b h
      rw [NTable.getD_put]
      split
      · next he => subst he; rw [bitOf_setBit, h]; rfl
      · exact h
    split
    · intro src b h
      rw [State.routeDirect_stat]
      exact h1 src b h
    · exact h1

theorem State.rising_le (s : State) (src : Nat) : StatLe s (s.rising src) := by
  unfold State.rising
  dsimp only
  generalize hg : State.routeDirect { s with evt := { s.evt with risings := NTable.put s.evt.risings src (NTable.getD s.evt.risings src 0 + 1) } } src = t
  have h1 : StatLe s t := by
    refine StatLe.of_eq ?_
    rw [← hg, State.routeDirect_stat]
  split
  · exact h1.trans (State.logPut_le _ _)
  · exact h1

/-- Setting EVT_STAT to a value leaves at least that value's bits. -/
theorem State.putStat_ge (s : State) (src v b : Nat) (h : bitOf v b = true) : bitOf (NTable.getD (s.putStat src v).evt.stat src 0) b = true := by
  unfold State.putStat
  dsimp only
  have hv : bitOf (NTable.getD (NTable.putD s.evt.stat src v 0) src 0) b = true := by rw [NTable.getD_putD_same]; exact h
  split
  · exact State.rising_le _ _ _ _ hv
  · exact hv

theorem State.raise_le (s : State) (p : Page) (i bit : Nat) : StatLe s (s.raise p i bit) := by
  intro src b h
  by_cases hs : src = p.source i
  · subst hs
    exact State.putStat_ge _ _ _ _ (by rw [bitOf_setBit, h]; rfl)
  · unfold State.raise State.putStat
    dsimp only
    have hv : bitOf (NTable.getD (NTable.putD s.evt.stat (p.source i) (setBit (NTable.getD s.evt.stat (p.source i) 0) bit) 0) src 0) b = true := by
      rw [NTable.getD_putD_ne _ _ _ hs]; exact h
    split
    · exact State.rising_le _ _ _ _ hv
    · exact hv

/-- A raised event reads 1 in its page's EVT_STAT. -/
@[simp] theorem State.raise_stat (s : State) (p : Page) (i bit : Nat) : bitOf ((s.raise p i bit).evtStat p i) bit = true :=
  State.putStat_ge _ _ _ _ (by rw [bitOf_setBit]; simp)

theorem State.raiseIf_le (s : State) (c : Bool) (p : Page) (i bit : Nat) : StatLe s (s.raiseIf c p i bit) := by
  unfold State.raiseIf; split
  · exact State.raise_le _ _ _ _
  · exact StatLe.refl _

theorem State.levelRisings_le (old new : Nat) : ∀ (l : List Nat) (s : State), StatLe s (s.levelRisings old new l)
  | [], s => StatLe.refl s
  | k :: t, s => by
    unfold State.levelRisings
    dsimp only
    split
    · exact (State.rising_le _ _).trans (State.levelRisings_le old new t _)
    · exact State.levelRisings_le old new t _

/-! ## What every command shows at its end -/

/-- One state follows from another by what a command shows: the fields named in `alwaysShown`, events, staging and the console. -/
structure Shown (s t : State) : Prop where
  get : ∀ f i k, alwaysShown f = false → t.get f i k = s.get f i k
  stat : StatLe s t
  shadow : t.shadow = s.shadow
  commits : t.commits = s.commits
  clk : t.clk = s.clk
  video : t.video = s.video
  repair : t.repair = s.repair
  ess : t.ess = s.ess
  buf : t.buf = s.buf
  flow : t.flow = s.flow
  audio : t.audio = s.audio
  ports : t.ports = s.ports
  keys : t.keys = s.keys
  jtag : t.jtag = s.jtag
  thermal : t.thermal = s.thermal
  freeCtr : t.freeCtr = s.freeCtr
  pending : t.pending = s.pending

theorem Shown.refl (s : State) : Shown s s := ⟨fun _ _ _ _ => rfl, StatLe.refl s, rfl, rfl, rfl, rfl, rfl, rfl, rfl, rfl, rfl, rfl, rfl, rfl, rfl, rfl, rfl⟩

theorem Shown.trans {s t u : State} (a : Shown s t) (b : Shown t u) : Shown s u :=
  ⟨fun f i k h => (b.get f i k h).trans (a.get f i k h), a.stat.trans b.stat, b.shadow.trans a.shadow, b.commits.trans a.commits,
   b.clk.trans a.clk, b.video.trans a.video, b.repair.trans a.repair, b.ess.trans a.ess, b.buf.trans a.buf, b.flow.trans a.flow,
   b.audio.trans a.audio, b.ports.trans a.ports, b.keys.trans a.keys, b.jtag.trans a.jtag, b.thermal.trans a.thermal,
   b.freeCtr.trans a.freeCtr, b.pending.trans a.pending⟩

theorem Shown.evt {s t : State} (h : EvtOnly s t) (g : StatLe s t) : Shown s t :=
  ⟨fun f i k _ => h.get f i k, g, h.shadow, h.commits, h.clk, h.video, h.repair, h.ess, h.buf, h.flow, h.audio, h.ports, h.keys,
   h.jtag, h.thermal, h.freeCtr, h.pending⟩

/-- Setting a shown field. -/
theorem Shown.set (s : State) (f : Field) (v i k : Nat) (h : alwaysShown f = true) : Shown s (s.set f v i k) :=
  ⟨fun g j n hg => State.get_set_ne s v i k j n (fun e => by subst e; rw [h] at hg; exact Bool.noConfusion hg),
   StatLe.refl _, rfl, rfl, rfl, rfl, rfl, rfl, rfl, rfl, rfl, rfl, rfl, rfl, rfl, rfl, rfl⟩

theorem Shown.raise (s : State) (p : Page) (i bit : Nat) : Shown s (s.raise p i bit) := Shown.evt (State.raise_only _ _ _ _) (State.raise_le _ _ _ _)

theorem Shown.nvm (s : State) (n : NvmState) : Shown s { s with nvm := n } :=
  ⟨fun _ _ _ _ => rfl, StatLe.refl _, rfl, rfl, rfl, rfl, rfl, rfl, rfl, rfl, rfl, rfl, rfl, rfl, rfl, rfl, rfl⟩

theorem Shown.console (s : State) (c : ConsoleState) : Shown s { s with console := c } :=
  ⟨fun _ _ _ _ => rfl, StatLe.refl _, rfl, rfl, rfl, rfl, rfl, rfl, rfl, rfl, rfl, rfl, rfl, rfl, rfl, rfl, rfl⟩

theorem Shown.foldl {α : Type} (f : State → α → State) (h : ∀ s x, Shown s (f s x)) : ∀ (l : List α) (s : State), Shown s (l.foldl f s)
  | [], s => Shown.refl s
  | x :: t, s => (h s x).trans (Shown.foldl f h t (f s x))

theorem State.stageOne_shown (s : State) (e : RegKey × Nat) : Shown s (s.stageOne e) := by
  unfold State.stageOne
  split
  · exact Shown.nvm _ _
  · refine Shown.trans (Shown.set _ _ _ _ _ ?_) (Shown.raise _ _ _ _)
    decide

theorem State.showStage_shown (s : State) : Shown s s.showStage := by
  unfold State.showStage
  refine Shown.trans (Shown.set _ _ _ _ _ ?_) (Shown.set _ _ _ _ _ ?_) <;> decide

theorem State.settleStage_shown (s : State) : Shown s s.settleStage := by
  unfold State.settleStage
  dsimp only
  split
  · exact Shown.refl s
  · split
    · exact (Shown.nvm s _).trans ((Shown.foldl _ State.stageOne_shown _ _).trans (State.showStage_shown _))
    · exact Shown.nvm s _

theorem State.reply_shown (s : State) (code text : Nat) (data : List Nat) : Shown s (s.reply code text data) := Shown.console _ _

theorem State.startSession_shown (s : State) : Shown s s.startSession := by
  unfold State.startSession
  dsimp only
  refine Shown.trans (s.reply_shown 0 0 []) (Shown.trans (Shown.set _ SERVICE.CMD_CTR_COUNT 0 0 0 ?_) (Shown.trans (Shown.console _ _)
    (Shown.raise _ _ _ _)))
  decide

theorem State.endSession_shown (s : State) (cause : Nat) : Shown s (s.endSession cause) := by
  have h1 : Shown s (if s.console.held.isSome ∧ cause ≠ ceTAMPER then s.reply 3 else s) := by
    split
    · exact State.reply_shown _ _ _ _
    · exact Shown.refl _
  unfold State.endSession
  dsimp only
  generalize (if s.console.held.isSome = true ∧ cause ≠ ceTAMPER then s.reply 3 else s) = t at h1 ⊢
  have h2 : ∀ c : ConsoleState, Shown t ((State.set { t with console := c } SERVICE.FF_CTL_OVERRIDE 0).raise .service 0 SERVICE.EV_SESSION_END) := by
    intro c
    refine Shown.trans (Shown.console t c) (Shown.trans (Shown.set _ _ _ _ _ ?_) (Shown.raise _ _ _ _))
    decide
  repeat' split
  all_goals first
    | exact h1.trans (h2 _)
    | refine h1.trans (Shown.trans (h2 _) (Shown.set _ _ _ _ _ ?_)); decide

theorem State.settleReplies_shown (s : State) : Shown s s.settleReplies := by
  unfold State.settleReplies
  split
  · exact State.reply_shown _ _ _ _
  · split
    · exact State.startSession_shown s
    · split
      · exact State.reply_shown _ _ _ _
      · exact Shown.refl s

theorem State.settleEnd_shown (s : State) : Shown s s.settleEnd := by
  unfold State.settleEnd
  repeat' split
  all_goals first | exact Shown.refl s | exact State.endSession_shown s _

theorem State.showSession_shown (s : State) : Shown s s.showSession := by
  unfold State.showSession
  refine Shown.trans (Shown.set _ _ _ _ _ ?_) (Shown.set _ _ _ _ _ ?_) <;> decide

theorem State.settleConsole_shown (s : State) : Shown s s.settleConsole := by
  unfold State.settleConsole
  split
  · exact (State.settleReplies_shown s).trans ((State.settleEnd_shown _).trans (State.showSession_shown _))
  · exact Shown.refl s

theorem State.settleAna_shown (s : State) : Shown s s.settleAna := by
  have h (v : Nat) : Shown s (s.set SYNTHCTL.LOCKANA_CODE v) := by refine Shown.set _ _ _ _ _ ?_; decide
  unfold State.settleAna
  dsimp only
  repeat' split
  all_goals first
    | exact Shown.refl s
    | exact h _
    | refine (h _).trans (Shown.set _ _ _ _ _ ?_); decide

theorem State.ffEnter_shown (s : State) (row : Nat) : Shown s (s.ffEnter row) := by
  have h : Shown s ((s.set GPIO.HID_FFROW row).set GPIO.HID_FFHOLD (flag (row != 0))) := by
    refine Shown.trans (Shown.set _ _ _ _ _ ?_) (Shown.set _ _ _ _ _ ?_) <;> decide
  unfold State.ffEnter State.raiseIf
  dsimp only
  generalize (s.set GPIO.HID_FFROW row).set GPIO.HID_FFHOLD (flag (row != 0)) = t at h ⊢
  have g : Shown s (t.set SERVICE.FF_CTL_OVERRIDE 0) := by
    refine h.trans (Shown.set _ _ _ _ _ ?_); decide
  split <;> split
  · exact g.trans (Shown.raise _ _ _ _)
  · exact g
  · exact h.trans (Shown.raise _ _ _ _)
  · exact h

theorem State.showFirefly_shown (s : State) : Shown s s.showFirefly := by
  unfold State.showFirefly
  split
  · exact Shown.refl s
  · refine Shown.trans (Shown.trans (Shown.trans (Shown.set _ _ _ _ _ ?_) (Shown.set _ _ _ _ _ ?_)) (Shown.set _ _ _ _ _ ?_))
      (Shown.set _ _ _ _ _ ?_) <;> decide

theorem State.settleFirefly_shown (s : State) : Shown s s.settleFirefly := by
  unfold State.settleFirefly
  dsimp only
  split
  · exact State.showFirefly_shown s
  · split
    · exact State.showFirefly_shown s
    · exact (State.ffEnter_shown s _).trans (State.showFirefly_shown _)

theorem State.settleLevels_shown (s : State) : Shown s s.settleLevels := by
  refine Shown.evt (State.settleLevels_only s) ?_
  unfold State.settleLevels
  exact StatLe.trans (t := { s with evt := { s.evt with level := s.levelNow } }) (StatLe.of_eq rfl) (State.levelRisings_le _ _ _ _)

theorem State.settleSummary_shown (s : State) : Shown s s.settleSummary := by
  refine Shown.evt (State.settleSummary_only s) ?_
  unfold State.settleSummary
  split
  · exact StatLe.refl s
  · exact StatLe.trans (t := s.noteSummary s.summaryNow) (StatLe.of_eq rfl) (State.raise_le _ _ _ _)

/-- Everything that a command shows at its end. -/
theorem State.settle_shown (s : State) : Shown s s.settle :=
  ((((s.settleStage_shown.trans (State.settleConsole_shown _)).trans (State.settleAna_shown _)).trans (State.settleFirefly_shown _)).trans
    (State.settleLevels_shown _)).trans (State.settleSummary_shown _)

/-- A field that is not shown reads as the command left it. -/
theorem State.settle_get (s : State) (f : Field) (i k : Nat) (h : alwaysShown f = false) : s.settle.get f i k = s.get f i k :=
  s.settle_shown.get f i k h

/-- An event bit that a command set stands. -/
theorem State.settle_stat (s : State) (p : Page) (i b : Nat) (h : bitOf (s.evtStat p i) b = true) : bitOf (s.settle.evtStat p i) b = true :=
  s.settle_shown.stat _ _ h

@[simp] theorem State.settle_shadow (s : State) : s.settle.shadow = s.shadow := s.settle_shown.shadow
@[simp] theorem State.settle_commits (s : State) : s.settle.commits = s.commits := s.settle_shown.commits
@[simp] theorem State.settle_clk (s : State) : s.settle.clk = s.clk := s.settle_shown.clk
@[simp] theorem State.settle_video (s : State) : s.settle.video = s.video := s.settle_shown.video
@[simp] theorem State.settle_repair (s : State) : s.settle.repair = s.repair := s.settle_shown.repair
@[simp] theorem State.settle_ess (s : State) : s.settle.ess = s.ess := s.settle_shown.ess
@[simp] theorem State.settle_buf (s : State) : s.settle.buf = s.buf := s.settle_shown.buf
@[simp] theorem State.settle_flow (s : State) : s.settle.flow = s.flow := s.settle_shown.flow
@[simp] theorem State.settle_audio (s : State) : s.settle.audio = s.audio := s.settle_shown.audio
@[simp] theorem State.settle_ports (s : State) : s.settle.ports = s.ports := s.settle_shown.ports
@[simp] theorem State.settle_keys (s : State) : s.settle.keys = s.keys := s.settle_shown.keys
@[simp] theorem State.settle_jtag (s : State) : s.settle.jtag = s.jtag := s.settle_shown.jtag
@[simp] theorem State.settle_thermal (s : State) : s.settle.thermal = s.thermal := s.settle_shown.thermal
@[simp] theorem State.settle_freeCtr (s : State) : s.settle.freeCtr = s.freeCtr := s.settle_shown.freeCtr
@[simp] theorem State.settle_pending (s : State) : s.settle.pending = s.pending := s.settle_shown.pending

end Sys2Proof.Machine
end

