-- ==== Sys2Proof/Laws/Bus.lean ====
section
/-! SUPPORT. What a master's access does: taken, it acts; turned away, it leaves the error record; and what the plain fields of a word
leave alone. -/
namespace Sys2Proof.Machine

/-- A write that is taken writes its plain fields and acts. -/
theorem State.withWrite_taken {s : State} {m : Nat} {p : Page} {i off v : Nat} (h : s.takesWrite m p i off v) (act : State → State) :
    s.withWrite m p i off v act = act (s.writePlain m p i off v) := by
  unfold State.withWrite
  simp [h.1, h.2]

/-- A write that is taken, of a register whose command decides on its fields. -/
theorem State.withCheck_taken {s : State} {m : Nat} {p : Page} {i off v : Nat} (h : s.takesWrite m p i off v) (act : State → State) :
    s.withCheck m p i off v act = act s := by
  unfold State.withCheck
  simp [h.1, h.2]

/-- A read that is taken. -/
theorem State.withRead_taken {s : State} {m : Nat} {p : Page} {i off : Nat} (h : s.takesRead m p i off) (act : State → State) :
    s.withRead m p i off act = act s := by
  unfold State.withRead
  simp [h.1, h.2]

/-- A write of an action bit of PAGE_CTRL that is taken in a domain that is up. -/
theorem State.withCtrl_taken {s : State} {m : Nat} {p : Page} {i : Nat} (hi : i < p.instances) (hp : p.code < 0x80)
    (h : s.takesWrite m p i 0x008 0) (hd : s.domUp (p.domain i) = true) (act : State → State) : s.withCtrl m p i act = act s := by
  unfold State.withCtrl
  rw [if_neg (by omega), State.withCheck_taken h, if_pos hd]

/-- A write that a check turns away leaves only the error record (R506). -/
theorem State.withWrite_refused {s : State} {m : Nat} {p : Page} {i off v : Nat} (hb : s.busUp = true)
    (h : s.busKind m (p.base + 0x1000 * i + off) true 4 v ≠ 0) (act : State → State) :
    s.withWrite m p i off v act = s.busError m (p.base + 0x1000 * i + off) true (s.busKind m (p.base + 0x1000 * i + off) true 4 v) := by
  unfold State.withWrite
  simp [hb, h]

/-- One plain field written leaves every other field alone. -/
theorem State.writeField_get (s : State) (acc : Access) {f g : Field} (i k v j n : Nat) (h : g ≠ f) :
    (s.writeField acc f i k v).get g j n = s.get g j n := by
  unfold State.writeField
  split <;> first | rfl | exact State.get_set_ne s _ _ _ _ _ h

theorem State.writeRows_get (f : Field) (i v j n : Nat) : ∀ (l : List (LayoutRow × Nat)) (s : State), (∀ e ∈ l, e.1.field ≠ f) →
    (s.writeRows i v l).get f j n = s.get f j n
  | [], _, _ => rfl
  | (r, k) :: t, s, h => by
    unfold State.writeRows
    dsimp only
    rw [State.writeRows_get f i v j n t _ (fun e he => h e (List.mem_cons_of_mem _ he))]
    split
    · rfl
    · exact State.writeField_get s _ _ _ _ _ _ (fun e => h _ List.mem_cons_self e.symm)

/-- The plain fields of a word leave every field alone that its register does not hold. -/
theorem State.writePlain_get (s : State) {m : Nat} {p : Page} {i off v : Nat} {f : Field} (j n : Nat)
    (h : (p.layout.all fun r => r.field != f || (r.index off).isNone) = true) : (s.writePlain m p i off v).get f j n = s.get f j n := by
  refine State.writeRows_get f _ _ _ _ _ _ (fun e he hf => ?_)
  unfold rowsAt at he
  rw [List.mem_filterMap] at he
  obtain ⟨r, hr, he⟩ := he
  have hx := List.all_eq_true.mp h r hr
  split at he
  · rw [Option.map_eq_some_iff] at he
    obtain ⟨k, hk, rfl⟩ := he
    have hf : r.field = f := hf
    rw [hk, hf] at hx
    simp at hx
  · cases he

/-- Everything but the fields and the shadow. -/
theorem State.writeField_rest (s : State) (acc : Access) (f : Field) (i k v : Nat) :
    s.writeField acc f i k v = { s with regs := (s.writeField acc f i k v).regs, shadow := (s.writeField acc f i k v).shadow } := by
  unfold State.writeField
  split <;> rfl

theorem State.writeRows_rest (i v : Nat) : ∀ (l : List (LayoutRow × Nat)) (s : State),
    s.writeRows i v l = { s with regs := (s.writeRows i v l).regs, shadow := (s.writeRows i v l).shadow }
  | [], _ => rfl
  | (r, k) :: t, s => by
    unfold State.writeRows
    dsimp only
    split
    · exact State.writeRows_rest i v t s
    · rw [State.writeRows_rest i v t, State.writeField_rest]

/-- The plain fields of a word change fields and their shadows only. -/
theorem State.writePlain_rest (s : State) (m : Nat) (p : Page) (i off v : Nat) :
    s.writePlain m p i off v = { s with regs := (s.writePlain m p i off v).regs, shadow := (s.writePlain m p i off v).shadow } :=
  State.writeRows_rest _ _ _ _

@[simp] theorem State.writePlain_evt (s : State) (m : Nat) (p : Page) (i off v : Nat) : (s.writePlain m p i off v).evt = s.evt := by
  rw [State.writePlain_rest]
@[simp] theorem State.writePlain_video (s : State) (m : Nat) (p : Page) (i off v : Nat) : (s.writePlain m p i off v).video = s.video := by
  rw [State.writePlain_rest]
@[simp] theorem State.writePlain_buf (s : State) (m : Nat) (p : Page) (i off v : Nat) : (s.writePlain m p i off v).buf = s.buf := by
  rw [State.writePlain_rest]
@[simp] theorem State.writePlain_clk (s : State) (m : Nat) (p : Page) (i off v : Nat) : (s.writePlain m p i off v).clk = s.clk := by
  rw [State.writePlain_rest]
@[simp] theorem State.writePlain_audio (s : State) (m : Nat) (p : Page) (i off v : Nat) : (s.writePlain m p i off v).audio = s.audio := by
  rw [State.writePlain_rest]
@[simp] theorem State.writePlain_flow (s : State) (m : Nat) (p : Page) (i off v : Nat) : (s.writePlain m p i off v).flow = s.flow := by
  rw [State.writePlain_rest]
@[simp] theorem State.writePlain_nvm (s : State) (m : Nat) (p : Page) (i off v : Nat) : (s.writePlain m p i off v).nvm = s.nvm := by
  rw [State.writePlain_rest]
@[simp] theorem State.writePlain_keys (s : State) (m : Nat) (p : Page) (i off v : Nat) : (s.writePlain m p i off v).keys = s.keys := by
  rw [State.writePlain_rest]
@[simp] theorem State.writePlain_pending (s : State) (m : Nat) (p : Page) (i off v : Nat) :
    (s.writePlain m p i off v).pending = s.pending := by
  rw [State.writePlain_rest]

end Sys2Proof.Machine
end

