-- ==== Sys2Proof/Laws/Units.lean ====
section
/-! SUPPORT. What the ladder's shared operations leave alone: an entry of the step log, an isolation, a retirement. -/
namespace Sys2Proof.Machine

/-- The fields in which the device keeps its books: the heads and counts of the step log, the journal, the totals and the last refusal
of the ledger. -/
def booked (f : Field) : Bool :=
  [REPAIR.LOG_HEAD_NEXT, REPAIR.LOG_HEAD_SEQ, REPAIR.CNT_LADDER_STEPS, REPAIR.CNT_RETIREMENTS, REPAIR.STAT_QUEUE, SUPERVISOR.JOURNAL_LAG,
   SUPERVISOR.JOURNAL_IN_SYNC, LEDGER.LAST_REF_CODE, LEDGER.LAST_REF_INDEX, LEDGER.LAST_REF_MEMBER, LEDGER.LAST_REF_MASTER,
   LEDGER.LAST_REF_PAGE_PAGE_ID, LEDGER.LAST_REF_STAMP_LO_STAMP, LEDGER.HID_REFSTAMP, LEDGER.CNT_REFUSED, LEDGER.CNT_ADMITTED,
   LEDGER.FAB_L0_L0, LEDGER.FAB_AB_LA, LEDGER.FAB_AB_LB, LEDGER.MEM_BW, LEDGER.MEM_CAP, LEDGER.ENGINES_SHARES, LEDGER.ENGINES_FREE,
   LEDGER.ENGINES_SPARES, LEDGER.LINKS_MAX, LEDGER.STAT_PRESSURE].contains f

/-- One state follows from another by what the device books: fields of those pages, the step log, events. -/
structure Logged (s t : State) : Prop where
  get : ∀ f i k, booked f = false → t.get f i k = s.get f i k
  stat : StatLe s t
  video : t.video = s.video
  buf : t.buf = s.buf
  flow : t.flow = s.flow
  audio : t.audio = s.audio
  ports : t.ports = s.ports
  nvm : t.nvm = s.nvm
  keys : t.keys = s.keys
  console : t.console = s.console
  clk : t.clk = s.clk
  pending : t.pending = s.pending

theorem Logged.refl (s : State) : Logged s s := ⟨fun _ _ _ _ => rfl, StatLe.refl s, rfl, rfl, rfl, rfl, rfl, rfl, rfl, rfl, rfl, rfl⟩

theorem Logged.trans {s t u : State} (a : Logged s t) (b : Logged t u) : Logged s u :=
  ⟨fun f i k h => (b.get f i k h).trans (a.get f i k h), a.stat.trans b.stat, b.video.trans a.video, b.buf.trans a.buf,
   b.flow.trans a.flow, b.audio.trans a.audio, b.ports.trans a.ports, b.nvm.trans a.nvm, b.keys.trans a.keys,
   b.console.trans a.console, b.clk.trans a.clk, b.pending.trans a.pending⟩

theorem Logged.set (s : State) (f : Field) (v i k : Nat) (h : booked f = true) : Logged s (s.set f v i k) :=
  ⟨fun g j n hg => State.get_set_ne s v i k j n (fun e => by subst e; rw [h] at hg; cases hg), StatLe.refl _, rfl, rfl, rfl, rfl, rfl,
   rfl, rfl, rfl, rfl, rfl⟩

theorem Logged.raise (s : State) (p : Page) (i bit : Nat) : Logged s (s.raise p i bit) :=
  ⟨fun _ _ _ _ => State.raise_get _ _ _ _ _ _ _, State.raise_le _ _ _ _, State.raise_video _ _ _ _, State.raise_buf _ _ _ _,
   State.raise_flow _ _ _ _, State.raise_audio _ _ _ _, State.raise_ports _ _ _ _, State.raise_nvm _ _ _ _, State.raise_keys _ _ _ _,
   State.raise_console _ _ _ _, State.raise_clk _ _ _ _, State.raise_pending _ _ _ _⟩

theorem Logged.repair (s : State) (r : RepairState) : Logged s { s with repair := r } :=
  ⟨fun _ _ _ _ => rfl, StatLe.refl _, rfl, rfl, rfl, rfl, rfl, rfl, rfl, rfl, rfl, rfl⟩

theorem State.journal_logged (s : State) : Logged s s.journal := by
  unfold State.journal State.bump
  dsimp only
  split
  · exact (Logged.set _ _ _ _ _ rfl).trans (Logged.set _ _ _ _ _ rfl)
  · exact Logged.refl s

theorem State.stepWrite_logged (s : State) (e : StepEntry) : Logged s (s.stepWrite e) := by
  unfold State.stepWrite State.bump
  dsimp only
  exact ((((Logged.repair s _).trans (Logged.set _ _ _ _ _ rfl)).trans (Logged.set _ _ _ _ _ rfl)).trans
    ((Logged.set _ _ _ _ _ rfl).trans (Logged.raise _ _ _ _))).trans (State.journal_logged _)

theorem State.stepQueue_logged (s : State) (e : StepEntry) : Logged s (s.stepQueue e) := by
  unfold State.stepQueue
  split
  · exact (Logged.repair s _).trans (Logged.set _ _ _ _ _ rfl)
  · exact (Logged.repair s _).trans (Logged.raise _ _ _ _)

theorem State.stepEntry_logged (s : State) (e : StepEntry) : Logged s (s.stepEntry e) := by
  unfold State.stepEntry
  split
  · exact s.stepQueue_logged e
  · exact s.stepWrite_logged e

/-- All that an entry of the step log does. -/
theorem State.logStep_logged (s : State) (u : UnitId) (step outcome detector cause slot frames detail : Nat) :
    Logged s (s.logStep u step outcome detector cause slot frames detail) := State.stepEntry_logged _ _

theorem State.retireEntry_logged (s : State) (u : UnitId) : Logged s (s.retireEntry u) := by
  unfold State.retireEntry
  split
  · exact Logged.repair s _
  · exact Logged.raise _ _ _ _

/-- The fields that hold the state and drain of a page's repair units. -/
abbrev unitField (p : Page) (f : Field) : Prop :=
  f = QUAD.RXSL_STAT_STATE ∨ f = QUAD.TXSL_STAT_STATE ∨ f = HDR.STATE p ∨ f = HDR.DRAIN p

theorem State.setUnit_get (s : State) (u : UnitId) (v : Nat) (f : Field) (i k : Nat) (h : ¬unitField u.page f) :
    (s.setUnit u v).get f i k = s.get f i k := by
  unfold State.setUnit
  split
  · exact State.get_set_ne _ _ _ _ _ _ (fun e => h (.inl e))
  · split
    · exact State.get_set_ne _ _ _ _ _ _ (fun e => h (.inr (.inl e)))
    · exact State.get_set_ne _ _ _ _ _ _ (fun e => h (.inr (.inr (.inl e))))

theorem State.setUnit_evt (s : State) (u : UnitId) (v : Nat) : (s.setUnit u v).evt = s.evt := by
  unfold State.setUnit; split
  · rfl
  · split <;> rfl

/-- An isolation leaves every field but the unit's own and those of the log. -/
theorem State.isolateUnit_get (s : State) (u : UnitId) (d c : Nat) (f : Field) (i k : Nat) (h : ¬unitField u.page f) (hb : booked f = false) : (s.isolateUnit u d c).get f i k = s.get f i k := by
  unfold State.isolateUnit
  split
  · rfl
  · dsimp only
    rw [(State.logStep_logged _ _ _ _ _ _ _ _ _).get f i k hb, State.get_set_ne _ _ _ _ _ _ (fun e => h (.inr (.inr (.inr e)))),
      State.setUnit_get _ _ _ _ _ _ h]
    rfl

/-- An isolation of a unit that is neither retired nor isolated leaves it ISOLATED and not draining (R26). Lane slices have their own
state register. -/
theorem State.isolateUnit_state (s : State) (u : UnitId) (d c : Nat) (hp : u.page ≠ .quad) (hr : s.unit u ≠ uRETIRED) (hi : s.unit u ≠ uISOLATED) :
    (s.isolateUnit u d c).get (HDR.STATE u.page) u.inst u.sub = uISOLATED ∧ (s.isolateUnit u d c).get (HDR.DRAIN u.page) u.inst u.sub = 0 := by
  have h1 : ∀ p : Page, booked (HDR.STATE p) = false := fun p => by cases p <;> decide
  have h2 : ∀ p : Page, booked (HDR.DRAIN p) = false := fun p => by cases p <;> decide
  have h3 : HDR.STATE u.page ≠ HDR.DRAIN u.page := fun e => by simp [HDR.STATE, HDR.DRAIN] at e
  unfold State.isolateUnit
  rw [if_neg (by intro h; exact h.elim hr hi)]
  dsimp only
  constructor
  · rw [(State.logStep_logged _ _ _ _ _ _ _ _ _).get _ _ _ (h1 _), State.get_set_ne _ _ _ _ _ _ h3]
    unfold State.setUnit
    rw [if_neg (by simp [hp]), if_neg (by simp [hp]), State.get_set_same]
    rfl
  · rw [(State.logStep_logged _ _ _ _ _ _ _ _ _).get _ _ _ (h2 _), State.get_set_same]
    rfl

/-- While the repair policy is off nothing is retired at its limit (R392). -/
theorem State.retireIfLimit_off (s : State) (u : UnitId) (h : s.get REPAIR.CFG_AUTO = 0) : s.retireIfLimit u = s := by
  unfold State.retireIfLimit State.policy
  simp [h]

theorem State.isolateUnit_le (s : State) (u : UnitId) (d c : Nat) : StatLe s (s.isolateUnit u d c) := by
  unfold State.isolateUnit
  split
  · exact StatLe.refl s
  · dsimp only
    refine StatLe.trans ?_ (State.logStep_logged _ _ _ _ _ _ _ _ _).stat
    refine StatLe.of_eq ?_
    show (State.setUnit _ _ _).evt.stat = _
    rw [State.setUnit_evt]

/-- A retirement leaves every field but the unit's own and those of the log. -/
theorem State.retire_get (s : State) (u : UnitId) (d c : Nat) (f : Field) (i k : Nat) (h : ¬unitField u.page f) (hb : booked f = false) : (s.retire u d c).get f i k = s.get f i k := by
  unfold State.retire State.bump
  dsimp only
  rw [(State.logStep_logged _ _ _ _ _ _ _ _ _).get f i k hb, (Logged.raise _ _ _ _).get f i k hb,
    (Logged.set _ _ _ _ _ rfl).get f i k hb, (State.retireEntry_logged _ _).get f i k hb,
    State.get_set_ne _ _ _ _ _ _ (fun e => h (.inr (.inr (.inr e)))), State.setUnit_get _ _ _ _ _ _ h]

theorem State.retire_le (s : State) (u : UnitId) (d c : Nat) : StatLe s (s.retire u d c) := by
  unfold State.retire State.bump
  dsimp only
  refine StatLe.trans ?_ (State.logStep_logged _ _ _ _ _ _ _ _ _).stat
  refine StatLe.trans ?_ (State.raise_le _ _ _ _)
  refine StatLe.trans ?_ ((State.retireEntry_logged _ _).trans (Logged.set _ _ _ _ _ rfl)).stat
  refine StatLe.of_eq ?_
  show (State.setUnit _ _ _).evt.stat = _
  rw [State.setUnit_evt]

theorem State.retireIfLimit_get (s : State) (u : UnitId) (f : Field) (i k : Nat) (h : ¬unitField u.page f) (hb : booked f = false) : (s.retireIfLimit u).get f i k = s.get f i k := by
  unfold State.retireIfLimit
  split
  · exact State.retire_get _ _ _ _ _ _ _ h hb
  · rfl

theorem State.retireIfLimit_le (s : State) (u : UnitId) : StatLe s (s.retireIfLimit u) := by
  unfold State.retireIfLimit
  split
  · exact State.retire_le _ _ _ _
  · exact StatLe.refl s

/-! ## The ledger's books -/

/-- A booked field set. -/
theorem Logged.step {s t : State} (h : Logged s t) (f : Field) (v i k : Nat) (hf : booked f = true) : Logged s (t.set f v i k) :=
  h.trans (Logged.set t f v i k hf)

theorem State.noteRefusal_logged (s : State) (code index m : Nat) (p : Page) (i : Nat) : Logged s (s.noteRefusal code index m p i) := by
  unfold State.noteRefusal State.bump
  refine Logged.trans ?_ (Logged.raise _ _ _ _)
  iterate 8 with_reducible refine Logged.step ?_ _ _ _ _ rfl
  exact Logged.refl s

theorem State.noteDecision_logged (s : State) (code index m : Nat) (p : Page) (i : Nat) : Logged s (s.noteDecision code index m p i) := by
  unfold State.noteDecision State.bump
  split
  · exact (Logged.set _ _ _ _ _ rfl).trans (State.journal_logged _)
  · exact (State.noteRefusal_logged _ _ _ _ _ _).trans (State.journal_logged _)

theorem State.raiseIf_logged (s : State) (c : Bool) (p : Page) (i bit : Nat) : Logged s (s.raiseIf c p i bit) := by
  unfold State.raiseIf
  split
  · exact Logged.raise _ _ _ _
  · exact Logged.refl s

theorem State.showTotals_logged (s : State) (a b c d e f g h i j : Nat) : Logged s (s.showTotals a b c d e f g h i j) := by
  unfold State.showTotals
  with_reducible refine Logged.trans ?_ (State.raiseIf_logged _ _ _ _ _)
  with_reducible refine Logged.trans ?_ (State.raiseIf_logged _ _ _ _ _)
  iterate 10 with_reducible refine Logged.step ?_ _ _ _ _ rfl
  exact Logged.refl s

/-- All that bringing the totals up to date does. -/
theorem State.recount_logged (s : State) : Logged s s.recount := by
  unfold State.recount
  split
  · exact Logged.refl s
  · exact State.showTotals_logged _ _ _ _ _ _ _ _ _ _ _

theorem State.release_get (s : State) (f : Field) (i k : Nat) (h : booked f = false) : s.release.get f i k = s.get f i k :=
  (State.recount_logged { s with video := s.video.collect }).get f i k h
theorem State.release_le (s : State) : StatLe s s.release := (State.recount_logged { s with video := s.video.collect }).stat
@[simp] theorem State.release_video (s : State) : s.release.video = s.video.collect := (State.recount_logged { s with video := s.video.collect }).video
@[simp] theorem State.recount_video (s : State) : s.recount.video = s.video := s.recount_logged.video
theorem State.recount_get (s : State) (f : Field) (i k : Nat) (h : booked f = false) : s.recount.get f i k = s.get f i k :=
  s.recount_logged.get f i k h
theorem State.logStep_get (s : State) (u : UnitId) (step outcome detector cause slot frames detail : Nat) (f : Field) (i k : Nat)
    (h : booked f = false) : (s.logStep u step outcome detector cause slot frames detail).get f i k = s.get f i k :=
  (State.logStep_logged _ _ _ _ _ _ _ _ _).get f i k h
theorem State.noteDecision_get (s : State) (code index m : Nat) (p : Page) (j : Nat) (f : Field) (i k : Nat) (h : booked f = false) :
    (s.noteDecision code index m p j).get f i k = s.get f i k := (State.noteDecision_logged _ _ _ _ _ _).get f i k h
theorem State.noteRefusal_get (s : State) (code index m : Nat) (p : Page) (j : Nat) (f : Field) (i k : Nat) (h : booked f = false) :
    (s.noteRefusal code index m p j).get f i k = s.get f i k := (State.noteRefusal_logged _ _ _ _ _ _).get f i k h
@[simp] theorem State.logStep_video (s : State) (u : UnitId) (step outcome detector cause slot frames detail : Nat) :
    (s.logStep u step outcome detector cause slot frames detail).video = s.video := (State.logStep_logged _ _ _ _ _ _ _ _ _).video
@[simp] theorem State.noteDecision_video (s : State) (code index m : Nat) (p : Page) (j : Nat) :
    (s.noteDecision code index m p j).video = s.video := (State.noteDecision_logged _ _ _ _ _ _).video

end Sys2Proof.Machine
end

