-- ==== Sys2Proof/Laws/Clocks.lean ====
section
/-! SUPPORT. What the followers of a synthesiser's clock leave alone. -/
namespace Sys2Proof.Machine

/-- The fields that follow a clock: the transmit slices of the lanes, the outputs' run marks, and the gates. -/
def clocked (f : Field) : Bool :=
  [QUAD.TXSL_STAT_STATE, SYNTH.OUT_CFG_RUN, APORT.AMCLK_CFG_GATED, SYNTHCTL.HID_GATED].contains f

/-- One state follows from another by what follows a clock. -/
structure Clocked (s t : State) : Prop where
  get : ∀ f i k, clocked f = false → t.get f i k = s.get f i k
  stat : StatLe s t

theorem Clocked.refl (s : State) : Clocked s s := ⟨fun _ _ _ _ => rfl, StatLe.refl s⟩
theorem Clocked.trans {s t u : State} (a : Clocked s t) (b : Clocked t u) : Clocked s u :=
  ⟨fun f i k h => (b.get f i k h).trans (a.get f i k h), a.stat.trans b.stat⟩

theorem Clocked.set {s t : State} (a : Clocked s t) (f : Field) (v i k : Nat) (h : clocked f = true) : Clocked s (t.set f v i k) :=
  a.trans ⟨fun g j n hg => State.get_set_ne _ _ _ _ _ _ (fun e => by rw [e, h] at hg; cases hg), StatLe.of_eq rfl⟩

theorem Clocked.raise {s t : State} (a : Clocked s t) (p : Page) (i b : Nat) : Clocked s (t.raise p i b) :=
  a.trans ⟨fun f j k _ => (State.raise_only t p i b).get f j k, State.raise_le _ _ _ _⟩

theorem Clocked.foldl {α : Type} {s t : State} (a : Clocked s t) (g : State → α → State) (h : ∀ u x, Clocked u (g u x)) :
    ∀ l : List α, Clocked s (l.foldl g t) := by
  intro l
  induction l generalizing t with
  | nil => exact a
  | cons x l ih => exact ih (a.trans (h t x))

theorem Clocked.ite {s t u : State} {c : Prop} [Decidable c] (a : Clocked s t) (b : Clocked s u) : Clocked s (if c then t else u) := by
  split
  · exact a
  · exact b

theorem Clocked.voSlice {s t : State} (a : Clocked s t) (o : Nat) (r : Bool) : Clocked s (t.voSlice o r) := by
  unfold State.voSlice
  dsimp only
  repeat' split
  all_goals first | exact a | exact a.set _ _ _ _ rfl

theorem Clocked.portSlice {s t : State} (a : Clocked s t) (q n : Nat) : Clocked s (t.portSlice q n) := by
  unfold State.portSlice
  dsimp only
  repeat' split
  all_goals first | exact a | exact a.set _ _ _ _ rfl

theorem Clocked.laneFollow {s t : State} (a : Clocked s t) (k q n : Nat) : Clocked s (t.laneFollow k q n) := by
  unfold State.laneFollow
  dsimp only
  repeat' split
  all_goals first | exact a | exact a.set _ _ _ _ rfl | exact a.voSlice _ _ | exact a.portSlice _ _

theorem Clocked.amclkFollow {s t : State} (a : Clocked s t) (n : Nat) : Clocked s (t.amclkFollow n) := by
  unfold State.amclkFollow
  dsimp only
  repeat' split
  all_goals first | exact a | exact a.set _ _ _ _ rfl | exact (a.set _ _ _ _ rfl).raise _ _ _

theorem Clocked.syncOutFollow {s t : State} (a : Clocked s t) : Clocked s t.syncOutFollow := by
  unfold State.syncOutFollow
  dsimp only
  repeat' split
  all_goals first | exact a | exact a.set _ _ _ _ rfl | exact (a.set _ _ _ _ rfl).raise _ _ _

/-- All that follows a clock changes those fields only, and clears no event (R53, R343, R357). -/
theorem Clocked.clocksFollow {s t : State} (a : Clocked s t) (k : Nat) : Clocked s (t.clocksFollow k) := by
  unfold State.clocksFollow
  dsimp only
  split
  · exact a
  · refine Clocked.syncOutFollow ?_
    unfold State.lanesFollow
    refine Clocked.foldl ?_ _ (fun u q => Clocked.foldl (Clocked.refl u) _ (fun w n => (Clocked.refl w).laneFollow k q n) _) _
    have h := Clocked.foldl a (fun (u : State) j => u.set SYNTH.OUT_CFG_RUN (flag (u.outRuns k j)) k j)
      (fun u j => (Clocked.refl u).set _ _ _ _ rfl) (List.range 6)
    exact Clocked.ite (Clocked.foldl h _ (fun u n => (Clocked.refl u).amclkFollow n) _) h

theorem State.clocksFollow_get (s : State) (n : Nat) (f : Field) (i k : Nat) (h : clocked f = false) :
    (s.clocksFollow n).get f i k = s.get f i k := ((Clocked.refl s).clocksFollow n).get f i k h
theorem State.clocksFollow_stat (s : State) (n : Nat) (p : Page) (i b : Nat) (h : bitOf (s.evtStat p i) b = true) :
    bitOf ((s.clocksFollow n).evtStat p i) b = true := ((Clocked.refl s).clocksFollow n).stat _ _ h

end Sys2Proof.Machine
end

