-- ==== Sys2Proof/Laws/Kept.lean ====
section
/-! SUPPORT. A relation for operations that write a known list of fields and raise events, and the reference manager's selection in its
terms. -/
namespace Sys2Proof.Machine

/-- One state follows from another by writes of listed fields and by events raised. -/
structure Kept (l : List Field) (s t : State) : Prop where
  get : ∀ f i k, l.contains f = false → t.get f i k = s.get f i k
  stat : StatLe s t

variable {l : List Field} {s t : State}

theorem Kept.refl (l : List Field) (s : State) : Kept l s s := ⟨fun _ _ _ _ => rfl, StatLe.refl s⟩
theorem Kept.trans {u : State} (a : Kept l s t) (b : Kept l t u) : Kept l s u :=
  ⟨fun f i k h => (b.get f i k h).trans (a.get f i k h), a.stat.trans b.stat⟩

theorem Kept.set (a : Kept l s t) (f : Field) (v i k : Nat) (h : l.contains f = true) : Kept l s (t.set f v i k) :=
  a.trans ⟨fun g j n hg => State.get_set_ne _ _ _ _ _ _ (fun e => by rw [e, h] at hg; cases hg), StatLe.of_eq rfl⟩

theorem Kept.bump (a : Kept l s t) (f : Field) (i k : Nat) (h : l.contains f = true) : Kept l s (t.bump f i k) := a.set f _ i k h

theorem Kept.raise (a : Kept l s t) (p : Page) (i b : Nat) : Kept l s (t.raise p i b) :=
  a.trans ⟨fun f j k _ => (State.raise_only t p i b).get f j k, State.raise_le _ _ _ _⟩

theorem Kept.ite {u : State} {c : Prop} [Decidable c] (a : Kept l s t) (b : Kept l s u) : Kept l s (if c then t else u) := by
  split
  · exact a
  · exact b

theorem Kept.foldl {α : Type} (a : Kept l s t) (g : State → α → State) (h : ∀ u x, Kept l u (g u x)) :
    ∀ m : List α, Kept l s (m.foldl g t) := by
  intro m
  induction m generalizing t with
  | nil => exact a
  | cons x m ih => exact ih (a.trans (h t x))

/-- The fields of the reference manager that a selection may write. -/
abbrev selecting : List Field :=
  [REFMGR.RM_STAT_STATE, REFMGR.RM_STAT_PENDING, REFMGR.RM_STAT_PENDING_VALID, REFMGR.HID_REST, REFMGR.HID_AWAIT]

/-- With the holdover that a loss begins. -/
abbrev losing : List Field :=
  selecting ++ [REFMGR.RM_STAT_ACTIVE_VALID, REFMGR.HOLD_STAT_AGE, REFMGR.HOLD_STAT_ERR, REFMGR.CNT_HOLDOVERS, REFMGR.HID_HOLDOFF,
    REFMGR.CNT_ABANDONS, REFMGR.EVT_SLOT_SLOT]

theorem Kept.more {m : List Field} (a : Kept l s t) (h : ∀ f, m.contains f = false → l.contains f = false) : Kept m s t :=
  ⟨fun f i k hf => a.get f i k (h f hf), a.stat⟩

theorem losing_selecting (f : Field) (h : losing.contains f = false) : selecting.contains f = false := by
  simp only [losing, List.contains_eq_mem, List.mem_append, decide_eq_false_iff_not] at h ⊢
  exact fun e => h (.inl e)

theorem Kept.endPrepare (a : Kept selecting s t) : Kept selecting s t.endPrepare := by
  unfold State.endPrepare
  exact Kept.ite a ((a.set _ _ _ _ rfl).set _ _ _ _ rfl)

theorem Kept.beginPrepare (a : Kept selecting s t) (k : Nat) : Kept selecting s (t.beginPrepare k) := by
  unfold State.beginPrepare
  dsimp only
  exact ((((Kept.ite a (a.set _ _ _ _ rfl)).set _ _ _ _ rfl).set _ _ _ _ rfl).set _ _ _ _ rfl).set _ _ _ _ rfl

/-- A selection writes the manager's state and its pending candidate only (R316). -/
theorem Kept.select (a : Kept selecting s t) : Kept selecting s t.select := by
  unfold State.select
  repeat' split
  all_goals first | exact a | exact a.endPrepare | exact a.beginPrepare _

theorem Kept.select' (a : Kept losing s t) : Kept losing s t.select :=
  a.trans ((Kept.refl selecting t).select.more losing_selecting)

theorem Kept.endPrepare' (a : Kept losing s t) : Kept losing s t.endPrepare :=
  a.trans ((Kept.refl selecting t).endPrepare.more losing_selecting)

theorem Kept.enterHoldover (a : Kept losing s t) : Kept losing s t.enterHoldover := by
  unfold State.enterHoldover
  dsimp only
  exact (((((Kept.ite (a.set _ _ _ _ rfl) (a.set _ _ _ _ rfl)).set _ _ _ _ rfl).set _ _ _ _ rfl).set _ _ _ _ rfl).bump _ _ _ rfl).raise _ _ _

theorem Kept.startHoldoff (a : Kept losing s t) : Kept losing s t.startHoldoff := a.set _ _ _ _ rfl

theorem Kept.loseRc (a : Kept losing s t) (k : Nat) : Kept losing s (t.loseRc k) := by
  unfold State.loseRc
  dsimp only
  have h : Kept losing s (if t.pendingRc = some k then t.endPrepare.startHoldoff else t) := Kept.ite a.endPrepare'.startHoldoff a
  exact Kept.ite h.enterHoldover.startHoldoff h

theorem Kept.abandonFor (a : Kept losing s t) (k : Nat) : Kept losing s (t.abandonFor k) := by
  unfold State.abandonFor
  split
  · exact a
  · exact Kept.ite ((((a.endPrepare').set _ _ _ _ rfl).bump _ _ _ rfl).set _ _ _ _ rfl |>.raise _ _ _) a

theorem Kept.reselect (a : Kept losing s t) : Kept losing s t.reselect := by
  have h := Kept.foldl a (fun (u : State) k => if u.rc k = rcQUALIFYING then u.abandonFor k else u)
    (fun u k => Kept.ite ((Kept.refl losing u).abandonFor k) (Kept.refl losing u)) rcSlots
  unfold State.reselect
  dsimp only
  split
  · exact Kept.ite h (h.abandonFor _).select'
  · exact h.select'

/-! What these leave alone, field by field. -/

theorem State.select_get (s : State) (f : Field) (i k : Nat) (h : selecting.contains f = false) : s.select.get f i k = s.get f i k :=
  ((Kept.refl selecting s).select).get f i k h
theorem State.endPrepare_get (s : State) (f : Field) (i k : Nat) (h : selecting.contains f = false) :
    s.endPrepare.get f i k = s.get f i k := ((Kept.refl selecting s).endPrepare).get f i k h
theorem State.beginPrepare_get (s : State) (c : Nat) (f : Field) (i k : Nat) (h : selecting.contains f = false) :
    (s.beginPrepare c).get f i k = s.get f i k := ((Kept.refl selecting s).beginPrepare c).get f i k h
theorem State.loseRc_get (s : State) (c : Nat) (f : Field) (i k : Nat) (h : losing.contains f = false) :
    (s.loseRc c).get f i k = s.get f i k := ((Kept.refl losing s).loseRc c).get f i k h
theorem State.enterHoldover_get (s : State) (f : Field) (i k : Nat) (h : losing.contains f = false) :
    s.enterHoldover.get f i k = s.get f i k := ((Kept.refl losing s).enterHoldover).get f i k h
theorem State.startHoldoff_get (s : State) (f : Field) (i k : Nat) (h : losing.contains f = false) :
    s.startHoldoff.get f i k = s.get f i k := ((Kept.refl losing s).startHoldoff).get f i k h
theorem State.abandonFor_get (s : State) (c : Nat) (f : Field) (i k : Nat) (h : losing.contains f = false) :
    (s.abandonFor c).get f i k = s.get f i k := ((Kept.refl losing s).abandonFor c).get f i k h
theorem State.reselect_get (s : State) (f : Field) (i k : Nat) (h : losing.contains f = false) : s.reselect.get f i k = s.get f i k :=
  ((Kept.refl losing s).reselect).get f i k h
theorem State.select_stat (s : State) (p : Page) (i b : Nat) (h : bitOf (s.evtStat p i) b = true) :
    bitOf (s.select.evtStat p i) b = true := ((Kept.refl selecting s).select).stat _ _ h
theorem State.beginPrepare_stat (s : State) (c : Nat) (p : Page) (i b : Nat) (h : bitOf (s.evtStat p i) b = true) :
    bitOf ((s.beginPrepare c).evtStat p i) b = true := ((Kept.refl selecting s).beginPrepare c).stat _ _ h
theorem State.abandonFor_stat (s : State) (c : Nat) (p : Page) (i b : Nat) (h : bitOf (s.evtStat p i) b = true) :
    bitOf ((s.abandonFor c).evtStat p i) b = true := ((Kept.refl losing s).abandonFor c).stat _ _ h

/-- A candidate's state set. -/
theorem State.setRc_same (s : State) (k st : Nat) (h : st < 8) : (s.setRc k st).get REFMGR.RC_STAT_STATE 0 k = st := by
  unfold State.setRc State.rc
  split
  · assumption
  · rw [(State.raise_only _ _ _ _).get, State.get_set_ne _ _ _ _ _ _ (by decide), State.get_set_same]
    exact Nat.mod_eq_of_lt h
theorem State.setRc_get (s : State) (k st : Nat) (f : Field) (i n : Nat) (h : f ≠ REFMGR.RC_STAT_STATE) (h' : f ≠ REFMGR.EVT_SLOT_SLOT) :
    (s.setRc k st).get f i n = s.get f i n := by
  unfold State.setRc
  split
  · rfl
  · rw [(State.raise_only _ _ _ _).get, State.get_set_ne _ _ _ _ _ _ h', State.get_set_ne _ _ _ _ _ _ h]
theorem State.setRc_stat (s : State) (c st : Nat) (p : Page) (i b : Nat) (h : bitOf (s.evtStat p i) b = true) :
    bitOf ((s.setRc c st).evtStat p i) b = true := by
  unfold State.setRc
  split
  · exact h
  · exact State.raise_le _ _ _ _ _ _ h

end Sys2Proof.Machine
end

