-- ==== Sys2Proof/Laws/Flows.lean ====
section
/-! SUPPORT. What a context's state, its group and its VI leave alone. -/
namespace Sys2Proof.Machine

/-- A field of another page reads as before. -/
theorem State.get_set_page (s : State) {f g : Field} (v i k j n : Nat) (h : g.page ≠ f.page) : (s.set f v i k).get g j n = s.get g j n :=
  State.get_set_ne _ _ _ _ _ _ (fun e => h (by rw [e]))

theorem StatLe.set {s t : State} (a : StatLe s t) (f : Field) (v i k : Nat) : StatLe s (t.set f v i k) := a.trans (StatLe.of_eq rfl)

theorem StatLe.ite {s t u : State} {c : Prop} [Decidable c] (a : StatLe s t) (b : StatLe s u) : StatLe s (if c then t else u) := by
  split
  · exact a
  · exact b

theorem State.reportChange_get (s : State) (g : Group) (leave : Bool) (f : Field) (i k : Nat) :
    (s.reportChange g leave).get f i k = s.get f i k := rfl

/-- What is sent to the groups changes no field. -/
theorem State.withGroup_get (s : State) (fc : Nat) (act : State → State) (f : Field) (i k : Nat) :
    (s.withGroup fc act).get f i k = (act s).get f i k := by
  unfold State.withGroup
  dsimp only
  repeat' split
  all_goals rfl

theorem State.withGroup_evt (s : State) (fc : Nat) (act : State → State) : (s.withGroup fc act).evt = (act s).evt := by
  unfold State.withGroup
  dsimp only
  repeat' split
  all_goals rfl

theorem State.viEnter_get (s : State) (n st : Nat) (f : Field) (i k : Nat) (h : f.page ≠ .vin) : (s.viEnter n st).get f i k = s.get f i k := by
  have p : ∀ (t : State) (g : Field) (v a b : Nat), g.page = .vin → (t.set g v a b).get f i k = t.get f i k :=
    fun t g v a b e => State.get_set_page t v a b i k (by rw [e]; exact h)
  unfold State.viEnter
  dsimp only
  split
  · rfl
  · rw [(State.raiseIf_only _ _ _ _ _).get, p _ _ _ _ _ rfl]
    repeat' split
    all_goals repeat rw [p _ _ _ _ _ rfl]

theorem State.viEnter_le (s : State) (n st : Nat) : StatLe s (s.viEnter n st) := by
  unfold State.viEnter
  dsimp only
  split
  · exact StatLe.refl s
  · refine StatLe.trans ?_ (State.raiseIf_le _ _ _ _ _)
    repeat' split
    all_goals exact StatLe.of_eq rfl

theorem State.takeDesc_get (s : State) (n : Nat) (d : Fmt) (f : Field) (i k : Nat) (h : f.page ≠ .vin) :
    (s.takeDesc n d).get f i k = s.get f i k := by
  have p : ∀ (t : State) (g : Field) (v a b : Nat), g.page = .vin → (t.set g v a b).get f i k = t.get f i k :=
    fun t g v a b e => State.get_set_page t v a b i k (by rw [e]; exact h)
  unfold State.takeDesc State.setViFmt State.bump
  split
  · rfl
  · rw [(State.raise_only _ _ _ _).get]
    repeat rw [p _ _ _ _ _ rfl]

theorem State.takeDesc_le (s : State) (n : Nat) (d : Fmt) : StatLe s (s.takeDesc n d) := by
  unfold State.takeDesc
  split
  · exact StatLe.refl s
  · refine StatLe.trans (t := (s.setViFmt n d).bump VIN.CNT_FMT_CHANGES n) (StatLe.set ?_ _ _ _ _) (State.raise_le _ _ _ _)
    unfold State.setViFmt
    iterate 8 with_reducible refine StatLe.set ?_ _ _ _ _
    exact StatLe.refl s

/-- The VI of a context changes fields of its own page only. -/
theorem State.viIpSettle_get (s : State) (n : Nat) (f : Field) (i k : Nat) (h : f.page ≠ .vin) :
    (s.viIpSettle n).get f i k = s.get f i k := by
  unfold State.viIpSettle
  split
  · rfl
  · dsimp only
    rw [State.get_set_page _ _ _ _ _ _ h, State.viEnter_get _ _ _ _ _ _ h]
    split
    · exact State.takeDesc_get _ _ _ _ _ _ h
    · rfl

theorem State.viIpSettle_le (s : State) (n : Nat) : StatLe s (s.viIpSettle n) := by
  unfold State.viIpSettle
  split
  · exact StatLe.refl s
  · dsimp only
    refine StatLe.trans ?_ (StatLe.trans (State.viEnter_le _ _ _) (StatLe.of_eq rfl))
    split
    · exact State.takeDesc_le _ _ _
    · exact StatLe.refl s

/-- A context's state set reads back. -/
theorem State.setFcState_state (s : State) (fc st : Nat) (h : st < 8) : (s.setFcState fc st).get FC.W0_STATE fc = st := by
  have e : (s.withGroup fc (fun t => t.set FC.W0_STATE st fc)).get FC.W0_STATE fc = st := by
    rw [State.withGroup_get, State.get_set_same]; exact Nat.mod_eq_of_lt (Nat.lt_of_lt_of_le h (by decide))
  unfold State.setFcState
  dsimp only
  repeat' split
  all_goals first
    | exact e
    | (rw [State.viIpSettle_get _ _ _ _ _ (by decide)]; exact e)
    | (rw [State.get_set_ne _ _ _ _ _ _ (by decide), State.get_set_ne _ _ _ _ _ _ (by decide)]; exact e)
    | (rw [State.viIpSettle_get _ _ _ _ _ (by decide), State.get_set_ne _ _ _ _ _ _ (by decide), State.get_set_ne _ _ _ _ _ _ (by decide)]
       exact e)

/-- It leaves every field alone but those of the context's own state, of a VI, and the two marks of its detection. -/
theorem State.setFcState_get (s : State) (fc st : Nat) (f : Field) (i k : Nat) (h : f.page ≠ .vin) (h1 : f ≠ FC.W0_STATE)
    (h2 : f ≠ FC.HID_GOOD) (h3 : f ≠ FC.HID_MISM) : (s.setFcState fc st).get f i k = s.get f i k := by
  have e : (s.withGroup fc (fun t => t.set FC.W0_STATE st fc)).get f i k = s.get f i k := by
    rw [State.withGroup_get, State.get_set_ne _ _ _ _ _ _ h1]
  unfold State.setFcState
  dsimp only
  repeat' split
  all_goals first
    | exact e
    | (rw [State.viIpSettle_get _ _ _ _ _ h]; exact e)
    | (rw [State.get_set_ne _ _ _ _ _ _ h3, State.get_set_ne _ _ _ _ _ _ h2]; exact e)
    | (rw [State.viIpSettle_get _ _ _ _ _ h, State.get_set_ne _ _ _ _ _ _ h3, State.get_set_ne _ _ _ _ _ _ h2]; exact e)

theorem State.setFcState_le (s : State) (fc st : Nat) : StatLe s (s.setFcState fc st) := by
  have e : StatLe s (s.withGroup fc (fun t => t.set FC.W0_STATE st fc)) := StatLe.of_eq (by rw [State.withGroup_evt]; rfl)
  unfold State.setFcState
  dsimp only
  have e2 := StatLe.ite (c := st = fcDETECT ∨ st = fcWAIT) ((e.set FC.HID_GOOD 0 fc 0).set FC.HID_MISM 0 fc 0) e
  with_reducible refine StatLe.ite ?_ ?_
  · exact e2.trans (State.viIpSettle_le _ _)
  · exact e2

end Sys2Proof.Machine
end

