-- ==== Sys2Proof/Laws/Frames.lean ====
section
/-! SUPPORT. What a command leaves alone, built up write by write: the relation `OnlyRegs` and what keeps it. -/
namespace Sys2Proof.Machine

theorem OnlyRegs.refl (l : List RegKey) (s : State) : OnlyRegs l s s :=
  ⟨fun _ _ _ _ _ => rfl, fun _ => ⟨rfl, rfl, rfl⟩, rfl, rfl, rfl, rfl, rfl, rfl, rfl, rfl, rfl, rfl, rfl, rfl⟩

/-- One register more is written, one of the list. -/
theorem OnlyRegs.set {l : List RegKey} {s t : State} (h : OnlyRegs l s t) (f : Field) (v i k : Nat) (m : (⟨f, i, k⟩ : RegKey) ∈ l) :
    OnlyRegs l s (t.set f v i k) := by
  refine ⟨fun g j n hn hs => ?_, h.2⟩
  rw [← h.1 g j n hn hs]
  unfold State.get State.set
  exact RTable.get_set_ne _ _ (fun e => hn (e ▸ m))

/-- One register that every command may show is written. -/
theorem OnlyRegs.set_shown {l : List RegKey} {s t : State} (h : OnlyRegs l s t) (f : Field) (v i k : Nat) (m : alwaysShown f = true) :
    OnlyRegs l s (t.set f v i k) := by
  refine ⟨fun g j n hn hs => ?_, h.2⟩
  rw [← h.1 g j n hn hs]
  exact State.get_set_ne _ _ _ _ _ _ (fun e => by rw [e, m] at hs; cases hs)

theorem OnlyRegs.bump {l : List RegKey} {s t : State} (h : OnlyRegs l s t) (f : Field) (i k : Nat) (m : (⟨f, i, k⟩ : RegKey) ∈ l) :
    OnlyRegs l s (t.bump f i k) := h.set f _ i k m

theorem OnlyRegs.bumpBy {l : List RegKey} {s t : State} (h : OnlyRegs l s t) (f : Field) (n i k : Nat) (m : (⟨f, i, k⟩ : RegKey) ∈ l) :
    OnlyRegs l s (t.bumpBy f n i k) := h.set f _ i k m

theorem OnlyRegs.incr {l : List RegKey} {s t : State} (h : OnlyRegs l s t) (f : Field) (i k : Nat) (m : (⟨f, i, k⟩ : RegKey) ∈ l) :
    OnlyRegs l s (t.incr f i k) := h.set f _ i k m

/-- A change of the event core alone. -/
theorem OnlyRegs.evt {l : List RegKey} {s t u : State} (h : OnlyRegs l s t) (e : EvtOnly t u) : OnlyRegs l s u := by
  obtain ⟨a, b, c⟩ := h
  refine ⟨fun f i k hn hs => (e.get f i k).trans (a f i k hn hs), fun x => ?_, ?_⟩
  · rw [e.buf]; exact b x
  · rw [e.shadow, e.commits, e.clk, e.video, e.repair, e.ess, e.flow, e.audio, e.ports, e.keys, e.jtag, e.thermal]; exact c

theorem OnlyRegs.raise {l : List RegKey} {s t : State} (h : OnlyRegs l s t) (p : Page) (i b : Nat) : OnlyRegs l s (t.raise p i b) :=
  h.evt (State.raise_only _ _ _ _)

theorem OnlyRegs.raiseIf {l : List RegKey} {s t : State} (h : OnlyRegs l s t) (c : Bool) (p : Page) (i b : Nat) :
    OnlyRegs l s (t.raiseIf c p i b) := h.evt (State.raiseIf_only _ _ _ _ _)

/-- What every command shows at its end. -/
theorem OnlyRegs.settle {l : List RegKey} {s t : State} (h : OnlyRegs l s t) : OnlyRegs l s t.settle := by
  obtain ⟨a, b, c⟩ := h
  have e := t.settle_shown
  refine ⟨fun f i k hn hs => (e.get f i k hs).trans (a f i k hn hs), fun x => ?_, ?_⟩
  · rw [e.buf]; exact b x
  · rw [e.shadow, e.commits, e.clk, e.video, e.repair, e.ess, e.flow, e.audio, e.ports, e.keys, e.jtag, e.thermal]; exact c

/-- A command's answer leaves alone what the state it settles leaves alone. -/
theorem OnlyRegs.after {l : List RegKey} {s t : State} (h : OnlyRegs l s t) : After (done t) (OnlyRegs l s) := by
  intro u hu
  cases hu
  exact h.settle

/-- A state put together by a choice. -/
theorem OnlyRegs.ite {l : List RegKey} {s a b : State} (c : Prop) [Decidable c] (h : OnlyRegs l s a) (g : OnlyRegs l s b) :
    OnlyRegs l s (if c then a else b) := by
  split
  · exact h
  · exact g

end Sys2Proof.Machine
end

