-- ==== Sys2Proof/Laws/Upkeep.lean ====
section
/-! SUPPORT. What the device's upkeep of its stores and engines leaves alone: moves, layouts, relief, the ladder's substitutions. -/
namespace Sys2Proof.Machine

/-- The fields that upkeep may write: the books, the states and drains of repair units, the counts of moves, the selection of a
protected destination, the sheds, an engine's suspicion, and the mark that the reserve is spent. -/
def upkeep (f : Field) : Bool :=
  booked f || f = QUAD.RXSL_STAT_STATE || f = QUAD.TXSL_STAT_STATE || f = HDR.STATE f.page || f = HDR.DRAIN f.page ||
  [SYNCMGR.MIGR_STAT_ACTIVE, SYNCMGR.CNT_MIGRATIONS, SYNCMGR.CNT_PROVE_FAIL, SYNCMGR.EVAC_BUSY, SYNCMGR.EVAC_DONE, CE.EVAC_BUSY,
   CE.EVAC_DONE, CE.CNT_STEPS, CE.ENG_STAT_SUSPECT, VOUT.HID_SHED, VOUT.HID_SELRUN, REPAIR.PROT_CFG_SEL, LEDGER.STAT_RESERVE_SPENT].contains f

/-- One state follows from another by upkeep: no other field changes, and no event bit is cleared. -/
structure Upkeep (s t : State) : Prop where
  get : ∀ f i k, upkeep f = false → t.get f i k = s.get f i k
  stat : StatLe s t

theorem Upkeep.refl (s : State) : Upkeep s s := ⟨fun _ _ _ _ => rfl, StatLe.refl s⟩
theorem Upkeep.trans {s t u : State} (a : Upkeep s t) (b : Upkeep t u) : Upkeep s u :=
  ⟨fun f i k h => (b.get f i k h).trans (a.get f i k h), a.stat.trans b.stat⟩

theorem Upkeep.logged {s t u : State} (a : Upkeep s t) (b : Logged t u) : Upkeep s u :=
  a.trans ⟨fun f i k h => b.get f i k (by
    unfold upkeep at h; simp only [Bool.or_eq_false_iff] at h; exact h.1.1.1.1.1), b.stat⟩

/-- Any part of the state but the fields and the events may differ. -/
theorem Upkeep.plain {s t : State} (a : Upkeep s t) (u : State) (hr : u.regs = t.regs) (he : u.evt = t.evt) : Upkeep s u :=
  a.trans ⟨fun f i k _ => by unfold State.get; rw [hr], StatLe.of_eq (by rw [he])⟩

theorem Upkeep.set {s t : State} (a : Upkeep s t) (f : Field) (v i k : Nat) (h : upkeep f = true) : Upkeep s (t.set f v i k) :=
  a.trans ⟨fun g j n hg => State.get_set_ne _ _ _ _ _ _ (fun e => by rw [e, h] at hg; cases hg), StatLe.of_eq rfl⟩

theorem Upkeep.raise {s t : State} (a : Upkeep s t) (p : Page) (i b : Nat) : Upkeep s (t.raise p i b) :=
  a.logged (Logged.raise t p i b)

theorem Upkeep.raiseIf {s t : State} (a : Upkeep s t) (c : Bool) (p : Page) (i b : Nat) : Upkeep s (t.raiseIf c p i b) :=
  a.logged (State.raiseIf_logged t c p i b)

theorem Upkeep.bump {s t : State} (a : Upkeep s t) (f : Field) (i k : Nat) (h : upkeep f = true) : Upkeep s (t.bump f i k) :=
  a.set f _ i k h

theorem Upkeep.logStep {s t : State} (a : Upkeep s t) (u : UnitId) (step outcome detector cause slot frames detail : Nat) :
    Upkeep s (t.logStep u step outcome detector cause slot frames detail) := a.logged (State.logStep_logged _ _ _ _ _ _ _ _ _)

theorem upkeep_unit {p : Page} {f : Field} (h : upkeep f = false) : ¬unitField p f := by
  unfold upkeep at h
  simp only [Bool.or_eq_false_iff, decide_eq_false_iff_not] at h
  rintro (e | e | e | e)
  · exact h.1.1.1.1.2 e
  · exact h.1.1.1.2 e
  · exact h.1.1.2 (by rw [e]; rfl)
  · exact h.1.2 (by rw [e]; rfl)

theorem upkeep_booked {f : Field} (h : upkeep f = false) : booked f = false := by
  unfold upkeep at h; simp only [Bool.or_eq_false_iff] at h; exact h.1.1.1.1.1

theorem Upkeep.setUnit {s t : State} (a : Upkeep s t) (u : UnitId) (v : Nat) : Upkeep s (t.setUnit u v) :=
  a.trans ⟨fun _ _ _ h => State.setUnit_get _ _ _ _ _ _ (upkeep_unit h), StatLe.of_eq (by rw [State.setUnit_evt])⟩

theorem Upkeep.isolateUnit {s t : State} (a : Upkeep s t) (u : UnitId) (d c : Nat) : Upkeep s (t.isolateUnit u d c) :=
  a.trans ⟨fun _ _ _ h => State.isolateUnit_get _ _ _ _ _ _ _ (upkeep_unit h) (upkeep_booked h), State.isolateUnit_le _ _ _ _⟩

theorem Upkeep.retire {s t : State} (a : Upkeep s t) (u : UnitId) (d c : Nat) : Upkeep s (t.retire u d c) :=
  a.trans ⟨fun _ _ _ h => State.retire_get _ _ _ _ _ _ _ (upkeep_unit h) (upkeep_booked h), State.retire_le _ _ _ _⟩

theorem Upkeep.retireIfLimit {s t : State} (a : Upkeep s t) (u : UnitId) : Upkeep s (t.retireIfLimit u) :=
  a.trans ⟨fun _ _ _ h => State.retireIfLimit_get _ _ _ _ _ (upkeep_unit h) (upkeep_booked h), State.retireIfLimit_le _ _⟩

theorem Upkeep.recount {s t : State} (a : Upkeep s t) : Upkeep s t.recount := a.logged t.recount_logged

theorem Upkeep.release {s t : State} (a : Upkeep s t) : Upkeep s t.release :=
  (a.plain { t with video := t.video.collect } rfl rfl).recount

theorem Upkeep.noteDecision {s t : State} (a : Upkeep s t) (code index m : Nat) (p : Page) (i : Nat) :
    Upkeep s (t.noteDecision code index m p i) := a.logged (State.noteDecision_logged _ _ _ _ _ _)

theorem Upkeep.ite {s t u : State} {c : Prop} [Decidable c] (a : Upkeep s t) (b : Upkeep s u) : Upkeep s (if c then t else u) := by
  split
  · exact a
  · exact b

/-- A loop of upkeep is upkeep. -/
theorem Upkeep.foldl {α : Type} {s t : State} (a : Upkeep s t) (g : State → α → State) (h : ∀ u x, Upkeep u (g u x)) :
    ∀ l : List α, Upkeep s (l.foldl g t) := by
  intro l
  induction l generalizing t with
  | nil => exact a
  | cons x l ih => exact ih (a.trans (h t x))

/-! ## Moves of stores -/

theorem Upkeep.setAlloc {s t : State} (a : Upkeep s t) (id : Nat) (x : Alloc) : Upkeep s (t.setAlloc id x) := a.plain _ rfl rfl
theorem Upkeep.setStream {s t : State} (a : Upkeep s t) (n : Nat) (x : Stream) : Upkeep s (t.setStream n x) := a.plain _ rfl rfl

theorem Upkeep.flipAlloc {s t : State} (a : Upkeep s t) (id : Nat) : Upkeep s (t.flipAlloc id) := by
  unfold State.flipAlloc
  split
  · exact a
  · split
    · exact a
    · exact ((a.setAlloc _ _).bump _ _ _ rfl).raise _ _ _

theorem Upkeep.startMoves : ∀ (l : List (Nat × Nat)) {s t : State}, Upkeep s t → Upkeep s (t.startMoves l)
  | [], _, _, a => a
  | (id, q) :: l, s, t, a => by
    unfold State.startMoves
    split
    · exact Upkeep.startMoves l a
    · dsimp only
      split
      · exact Upkeep.startMoves l (a.setAlloc _ _)
      · exact Upkeep.startMoves l ((a.setAlloc _ _).flipAlloc _)

theorem Upkeep.relayout {s t : State} (a : Upkeep s t) (c : Nat) : Upkeep s (t.relayout c) := a.plain _ rfl rfl

theorem Upkeep.emptyChannel {s t : State} (a : Upkeep s t) (c : Nat) : Upkeep s (t.emptyChannel c) := by
  unfold State.emptyChannel
  split
  · dsimp only
    split
    · exact ((a.raise _ _ _).isolateUnit _ _ _).retireIfLimit _
    · exact (((a.raise _ _ _).isolateUnit _ _ _).retireIfLimit _).setUnit _ _
  · exact a

theorem Upkeep.settleMoves {s t : State} (a : Upkeep s t) : Upkeep s t.settleMoves := by
  unfold State.settleMoves
  refine Upkeep.foldl ?_ _ (fun u c => (Upkeep.refl u).emptyChannel c) _
  have h : Upkeep s t.countMoves := a.set _ _ _ _ rfl
  unfold State.evacDone
  dsimp only
  split
  · exact ((h.set _ _ _ _ rfl).set _ _ _ _ rfl).raise _ _ _
  · exact h

/-! ## Relief and sheds -/

theorem Upkeep.admitStep {s t : State} (a : Upkeep s t) (n : Nat) (x : Stream) (q : Nat) : Upkeep s (t.admitStep n x q) := by
  unfold State.admitStep
  dsimp only
  split
  · exact a.setStream _ _
  · exact (a.setAlloc _ _).setStream _ _

theorem Upkeep.shedOne {s t : State} (a : Upkeep s t) (ok : Nat → Path → Bool) : Upkeep s (t.shedOne ok) := by
  unfold State.shedOne
  split
  · exact a
  · exact a.set _ _ _ _ rfl

theorem Upkeep.relieve : ∀ (k : Nat) {s t : State}, Upkeep s t → Upkeep s (t.relieve k)
  | 0, _, _, a => a
  | k + 1, s, t, a => by
    unfold State.relieve
    split
    · exact a
    · split
      · exact Upkeep.relieve k (a.admitStep _ _ _)
      · split
        · exact a
        · split
          · exact a.set _ _ _ _ rfl
          · split
            · exact Upkeep.relieve k (a.admitStep _ _ _)
            · exact a

theorem Upkeep.relief {s t : State} (a : Upkeep s t) : Upkeep s t.relief := (Upkeep.relieve _ a).recount

/-! ## Channels -/

theorem Upkeep.noteReserve {s t : State} (a : Upkeep s t) : Upkeep s t.noteReserve := a.set _ _ _ _ rfl

/-- A plan carried out is upkeep (R208, R210). -/
theorem Upkeep.runPlan {s t : State} (a : Upkeep s t) (c n : Nat) : Upkeep s (t.runPlan c n) := by
  unfold State.runPlan
  dsimp only
  refine Upkeep.recount ?_
  have h := ((Upkeep.startMoves (t.plan t.video.allocs (c / 8) n).1 a).relayout c).settleMoves
  split
  · exact h.relief.raise _ _ _
  · exact h

/-- The moves toward a lost channel begun again elsewhere are upkeep (Table 6.9). -/
theorem Upkeep.replanInto {s t : State} (a : Upkeep s t) (c : Nat) : Upkeep s (t.replanInto c) := by
  unfold State.replanInto State.countMoves
  exact Upkeep.set (Upkeep.foldl (a.plain (t.abandonMoves (c / 8)) rfl rfl) _ (fun u h => Upkeep.startMoves _ (Upkeep.refl u)) _)
    SYNCMGR.MIGR_STAT_ACTIVE _ _ _ rfl

theorem Upkeep.selAway {s t : State} (a : Upkeep s t) (x : UnitId) (on : Path → Nat → Bool) : Upkeep s (t.selAway x on) := by
  unfold State.selAway
  refine Upkeep.foldl a _ (fun u e => ?_) _
  dsimp only
  split
  · exact (((Upkeep.refl u).set _ _ _ _ rfl).set _ _ _ _ rfl).logStep _ _ _ _ _ _ _ _
  · exact Upkeep.refl u

theorem Upkeep.loseStills {s t : State} (a : Upkeep s t) (c : Nat) : Upkeep s (t.loseStills c) := by
  unfold State.loseStills
  dsimp only
  split
  · exact a
  · refine Upkeep.raise ?_ _ _ _
    exact a.plain _ rfl rfl

/-! ## Streams -/

theorem Upkeep.renumber {s t : State} (a : Upkeep s t) (old new : Nat) : Upkeep s (t.renumber old new) := by
  unfold State.renumber
  split
  · exact a
  · exact a.plain _ rfl rfl

theorem Upkeep.moveStream {s t : State} (a : Upkeep s t) (n ce : Nat) : Upkeep s (t.moveStream n ce) := by
  unfold State.moveStream
  split
  · exact a
  · exact a.renumber _ _

theorem Upkeep.migrated {s t : State} (a : Upkeep s t) (ce : Nat) : Upkeep s (t.migrated ce) := a.raise _ _ _

theorem Upkeep.flipStream {s t : State} (a : Upkeep s t) (n ce : Nat) : Upkeep s (t.flipStream n ce) := by
  have h1 : ∀ u, Upkeep s u → Upkeep s (if u.unit ⟨.ce, ce, 0⟩ = uSPARE then u.setUnit ⟨.ce, ce, 0⟩ uRUN else u) := by
    intro u h; split
    · exact h.setUnit _ _
    · exact h
  have h2 : Upkeep s (match NTable.find t.video.streams n with
      | none => t
      | some x => if x.moveGang = [] then t else t.setStream n { x with gang := x.moveGang.map (fun e => if e = ce then n / 4 else e) }) := by
    split
    · exact a
    · split
      · exact a
      · exact a.setStream _ _
  unfold State.flipStream
  dsimp only
  have h3 := (((h1 _ (h2.moveStream n ce)).migrated (n / 4)).migrated ce).logStep ⟨.ce, ce, 0⟩ stMIGRATE 0 0 0 noSlot 0 (n / 4)
  exact Upkeep.ite ((h3.set _ _ _ _ rfl).setUnit _ _) h3

theorem Upkeep.takeOver {s t : State} (a : Upkeep s t) (ce sp : Nat) : Upkeep s (t.takeOver ce sp) := by
  unfold State.takeOver
  dsimp only
  have h : Upkeep s ((t.gangReplace ce sp).setUnit ⟨.ce, sp, 0⟩ uRUN) := Upkeep.setUnit (a.plain (t.gangReplace ce sp) rfl rfl) _ _
  exact (((h.foldl _ (fun u x => (Upkeep.refl u).moveStream x sp) _).migrated _).migrated _).logStep _ _ _ _ _ _ _ _

theorem Upkeep.fallBack {s t : State} (a : Upkeep s t) (ce : Nat) (failed : Bool) : Upkeep s (t.fallBack ce failed) := by
  unfold State.fallBack
  dsimp only
  refine Upkeep.foldl a _ (fun u n => ?_) _
  split
  · exact Upkeep.refl u
  · exact ((Upkeep.refl u).setStream _ _).raiseIf _ _ _ _

theorem Upkeep.softMove {s t : State} (a : Upkeep s t) (n ce : Nat) (g : List Nat) : Upkeep s (t.softMove n ce g) := by
  unfold State.softMove
  split
  · exact a
  · exact a.setStream _ _

theorem Upkeep.softMoves {s t : State} (a : Upkeep s t) (ce : Nat) : Upkeep s (t.softMoves ce) := by
  unfold State.softMoves
  dsimp only
  split
  · exact a
  · exact Upkeep.foldl a _ (fun u n => (Upkeep.refl u).softMove n _ []) _

theorem Upkeep.resumeOne {s t : State} (a : Upkeep s t) (shed : Bool) (n : Nat) : Upkeep s (t.resumeOne shed n) := by
  unfold State.resumeOne
  split
  · exact a
  · split
    · exact a
    · split
      · dsimp only
        split
        · exact a.setStream _ _
        · split
          · exact a
          · exact (a.setStream _ _).takeOver _ _
        · exact a
      · split
        · exact a.setStream _ _
        · split
          · split
            · exact (a.moveStream _ _).migrated _
            · exact a
          · split
            · exact a
            · dsimp only
              split
              · exact a
              · refine Upkeep.raiseIf (Upkeep.migrated (Upkeep.moveStream ?_ _ _) _) _ _ _ _
                split
                · exact a.setUnit _ _
                · exact a

theorem Upkeep.resumeStreams {s t : State} (a : Upkeep s t) (shed : Bool) : Upkeep s (t.resumeStreams shed) :=
  Upkeep.foldl a _ (fun u n => (Upkeep.refl u).resumeOne shed n) _

theorem Upkeep.loseEngine {s t : State} (a : Upkeep s t) (ce : Nat) : Upkeep s (t.loseEngine ce) := by
  unfold State.loseEngine
  dsimp only
  have h := Upkeep.foldl a (fun u (e : Nat × Nat) => u.flipStream e.1 e.2) (fun u e => (Upkeep.refl u).flipStream e.1 e.2)
    (t.video.streams.filterMap (fun e => if e.1 / 4 = ce then e.2.moveTo.map (fun sp => (e.1, sp)) else none))
  split
  · exact h
  · split
    · exact h.takeOver _ _
    · exact (h.fallBack ce true).shedOne _

theorem Upkeep.retrySoft {s t : State} (a : Upkeep s t) : Upkeep s t.retrySoft :=
  Upkeep.foldl a _ (fun u ce => Upkeep.ite ((Upkeep.refl u).softMoves ce) (Upkeep.refl u)) _

theorem Upkeep.noteNoSpare {s t : State} (a : Upkeep s t) (ce : Nat) : Upkeep s (t.noteNoSpare ce) := a.raiseIf _ _ _ _

/-- An engine's loss is upkeep of the engines' page and of the paths on it (R237, R241). -/
theorem Upkeep.engineFault {s t : State} (a : Upkeep s t) (ce cause : Nat) : Upkeep s (t.engineFault ce cause) := by
  unfold State.engineFault
  split
  · exact ((((a.isolateUnit _ _ _).selAway _ _).loseEngine _).retireIfLimit _ |>.raiseIf _ _ _ _).release
  · exact a

end Sys2Proof.Machine
end

