-- ==== Sys2Proof/Tests/States.lean ====
section
/-! SUPPORT. The small states and facts that the tests and the witnesses are about. -/
namespace Sys2Proof.Machine

/-- Every domain powered and out of reset, the configuration loaded, Charon ACTIVE and serving. -/
def Tests.up : State :=
  (((((State.reset.set RESET.HID_SRC 0).set POWER.DOM_STAT_POWERED 0x1FFFFFF).set RESET.DOM_STAT_HELD 0).set
    RESET.SEQ_STAT_LOADED 1).set SUPERVISOR.STAT_ACTIVE 0).set LEDGER.STAT_SERVING 1

def Tests.sdiLine : SdiLine :=
  { line := 1, trs := true, fits := true, crcErr := false, crc := 0, active := true, packets := [], samples := [], audioBad := 0 }

def Tests.sdiFrame : SdiFrame :=
  { complete := true, valid := true, raster := 3, rate := 3, scan := 0, mapping := 1, pid := none, contradicts := false, skew := 3000,
    mean := 100, peak := 100, sigExact := 1, sigCoarse := 1, ltc := none, vitc := none, tcAdvances := false, audio := 0, audioRate := 48000 }

def Tests.view : PathView :=
  { lead := 2, traces := true, relocked := true, next := true, drop := false, newest := some 7, latency := 10 }

def Tests.boundary : BoundaryFacts :=
  { main := Tests.view, take := Tests.view, fb := Tests.view, tokenLost := false, proof := 0, ancDropped := 0, audDropped := 0, reply := 0 }

def Tests.facts : TakeFacts := noFacts

def Tests.fmt : Fmt := { raster := 3, rate := 3, scan := 0, sampling := 0, depth := 0, color := 1, transfer := 0, mapping := 1 }

/-- A P0 path of source slot 3 on plane A. -/
def Tests.path : Path :=
  { src := 3, mem := 0, w0 := 0x80000003, kind := 0, plane := 0, store := none, store2 := none, stream := none, stream2 := none,
    srcFmt := Tests.fmt, dstFmt := Tests.fmt, links := [], twin := false }

/-- The same path protected, with both halves. -/
def Tests.twin : Path := { Tests.path with plane := 2, twin := true, w0 := 0x80010003 }

def Tests.unroute : PendingTake := { path := none, w0 := 0, frame := 0, origin := 0 }

def Tests.pending (o : Nat) (t : PendingTake) : State :=
  { Tests.up with video := { Tests.up.video with pend := [(o, t)], active := [(o, Tests.path)] } }

def Tests.routed (o : Nat) (p : Path) : State := { Tests.up with video := { Tests.up.video with active := [(o, p)] } }

def Tests.copy : LineCopy :=
  { arrived := true, slot := 3, member := 0, frame := 0, line := 9, hops := 133, crc := 0, crcOk := true, poison := false }

/-- A line whose plane A copy is missing. -/
def Tests.badLine : LineFacts := { line := 9, copyA := { Tests.copy with arrived := false }, copyB := Tests.copy }

/-- A master that holds one unrouting take of a destination. -/
def Tests.holding (m dst : Nat) : State :=
  { Tests.up with video := { Tests.up.video with held := [(m, [{ dst := dst, w0 := 0, dmember := localMember }])] } }

/-- A timed salvo of master 1 that is committed, with one unrouting take. -/
def Tests.timed : TimedSalvo := { master := 1, seconds := 0, ns := 0, takes := [(5, Tests.unroute)] }

def Tests.timedUp : State :=
  State.set { Tests.up with video := { Tests.up.video with timed := [Tests.timed] } } ROUTE.RESP_WAITING 1 1

/-- A stream of destination 5 that runs on an engine. -/
def Tests.stream : Stream :=
  { src := 3, mem := 0, dst := 5, timing := 0, profile := 0, inFmt := Tests.fmt, outFmt := Tests.fmt, qreq := 0, qadm := 1, qnow := 1,
    shares := 1, stages := 0, store := 0, gang := [], vecFault := false, fallback := false, failed := false, latency := 0, frame := 0,
    moveTo := none, moveGang := [], proved := 0, disagree := false, vectors := 0 }

def Tests.streaming (n : Nat) (x : Stream) : State := { Tests.up with video := { Tests.up.video with streams := [(n, x)] } }

def Tests.meas : RcMeas :=
  { freq := -5, phase := 40, predicted := true, raster := 3, rate := 3, trilevel := false, tenfield := false, ampl := 0 }

/-- Two qualified references of one rank, and a third whose frequency agrees with the second. -/
def Tests.disputed : State :=
  [2, 3, 4].foldl (fun (s : State) k => (((s.set REFMGR.RC_CFG_EN 1 0 k).set REFMGR.RC_CFG_KIND 4 0 k).set REFMGR.RC_STAT_STATE 3 0 k).set
    REFMGR.RC_CFG_RANK (if k = 4 then 9 else 1) 0 k) Tests.up

/-- The flow engine and bank 0 in service, and a context of a kind in a state. -/
def Tests.flowing (kind st : Nat) : State :=
  (((Tests.up.set (HDR.STATE .flow) uRUN 0 0).set (HDR.STATE .flow) uRUN 0 1).set FC.W0_TYPE kind 7).set FC.W0_STATE st 7

def Tests.datagram : Datagram :=
  { port := 0, v6 := false, dst := 0, src := 0, dport := 0, sport := 0, vlan := none, ttl := 9, ssrc := 0, pt := 0, seq := 41, ts := 0,
    bytes := 1000, start := true, frame := none, lines := [], packets := [], samples := [], corrected := false, uncorrectable := false }

def Tests.group : Group := { port := 4, v6 := false, addr := 0xE0000001, source := none }
def Tests.report : Report := { group := Tests.group, leave := false, due := true, repeats := 0 }
def Tests.reporting (r : Report) : State := { Tests.up with flow := { Tests.up.flow with reports := [r] } }

def Tests.desc : HostDesc := { own := true, int := true, length := 100, port := 0 }
def Tests.frame : EthFrame :=
  { kind := .other 0x88B5, bytes := 100, fcsOk := true, fecCorrected := 0, fecUncorrectable := false, toPort := false, desc := Tests.desc }

/-- Two RXV contexts that are a pair, in RUN. -/
def Tests.paired : State :=
  ((((((((Tests.flowing 1 4).set FC.W7_PAIRED 1 7).set FC.W7_LINK 20000 7).set FC.W0_TYPE 1 20000).set FC.W0_STATE 4 20000).set
    FC.W7_PAIRED 1 20000).set FC.W7_LINK 7 20000).set FC.W7_LEG 1 20000)

/-- Port 0 of quad 0 as an enabled 10G Ethernet port. -/
def Tests.ported : State :=
  (((Tests.up.set QUAD.LANE_CFG_RXMODE 2 0 0).set QUAD.LANE_CFG_TXMODE 2 0 0).set ETH.PORT_CFG_EN 1 0 0).set ETH.PORT_CFG_MAX_FRAME 9212 0 0

def Tests.portFrame : PortFrame :=
  { samples := [1, 2], framing := false, clock := true, offset := some 5, preambles := [] }

/-- Member 1 of a formation, member 0 on link 2, each of them seen. -/
def Tests.formed : State :=
  (((((((((Tests.up.set MESHCTL.STAT_STATE msMEMBER).set MESHCTL.STAT_SELF_ID 1).set MESHCTL.STAT_ID_VALID 1).set
    MESHCTL.STAT_MEMBERS 3).set MESHCTL.CFG_FORM_EN 1).set MESHCTL.STAT_PAIRED 1).set MESH.LINK_STAT_STATE lkUP 2).set
    MESH.LINK_STAT_PEER_VALID 1 2).set MESH.LINK_CFG_ROLE 0 2).showPeers

/-- A link in a state. -/
def Tests.linked (st : Nat) : State := (Tests.up.set MESH.LINK_STAT_STATE st 2).set MESHCTL.STAT_PAIRED 1

def Tests.memberView : MemberView :=
  { sender := 0, member := true, strapped := false, sees := 1, leaving := 0, ends := false, sources := [] }

/-- A device in FIELD with a root secret, nothing sealed. -/
def Tests.keyed : State :=
  State.set { ((Tests.up.set KEYS.LC_STAT_STATE 1).set KEYS.LC_STAT_SEALED 0) with keys := { Tests.up.keys with root := some 5 } }
    KEYS.LC_STAT_ROOT_VALID 1

def Tests.boot : BootFacts := { manA := none, manB := none, corrected := [], bad := [], keyLost := false }

def Tests.sensors : SensorFacts := { readings := List.replicate 32 300, models := List.replicate 32 300 }

def Tests.record : NvmRecord := { seq := 4, length := 3, stamp := 0, snapshot := false, body := [], check := 0, sealNo := 0 }

/-- A store that writes a record. -/
def Tests.storing (st j : Nat) : State :=
  (State.set { Tests.keyed with nvm := { Tests.keyed.nvm with writing := some Tests.record } } NVM.STAT_STATE st).set NVM.PROGRESS_WORDS j

/-- The console with a session in SERVICE. -/
def Tests.session : State :=
  { (Tests.keyed.set KEYS.LC_STAT_STATE 2) with console := { Tests.keyed.console with started := true, session := true } }

def Tests.con (f : ConsoleState → ConsoleState) : State := Tests.session.con f

end Sys2Proof.Machine
end

