-- ==== Sys2Proof/Tests/Slice0.lean ====
section
/-! SUPPORT. Tests: the ill-formed commands that WellFormed refuses, figures of the spec's worked examples, and for every obligation with
hypotheses a state and operands that meet them. -/
open Sys2Proof Sys2Proof.Machine

set_option Elab.async false

/-- Whether a command ends in a next state of which a property holds. -/
def Tests.next (c : Instr) (s : State) (p : State → Bool) : Bool :=
  match exec c s with
  | .next t => p t
  | _ => false

/-! ## WellFormed -/

theorem test_wf_access :
    (Instr.registerWrite 0 0 4 7 plainFacts).wf = true ∧ (Instr.registerWrite 0 (2 ^ 40) 4 7 plainFacts).wf = false ∧
    (Instr.registerWrite 0 0 0 0 plainFacts).wf = false ∧ (Instr.registerWrite 0 0 257 0 plainFacts).wf = false ∧
    (Instr.registerWrite 0 0 1 256 plainFacts).wf = false := by decide +kernel

theorem test_wf_page :
    (Instr.isolateReq 0 .memch 31).wf = true ∧ (Instr.isolateReq 0 .memch 32).wf = false ∧ (Instr.pageLockOpen 0 .rte 0 0).wf = false ∧
    (Instr.lockTimeout .vin 192).wf = false ∧ (Instr.commitPoint .vin 192 []).wf = false := by decide +kernel

theorem test_wf_unit :
    (Instr.channelStall ⟨.flow, 0, 16⟩).wf = true ∧ (Instr.channelStall ⟨.flow, 0, 17⟩).wf = false ∧
    (Instr.drainComplete ⟨.memch, 32, 0⟩).wf = false ∧ (Instr.unitSelftestEnd ⟨.memch, 0, 1⟩ true).wf = false := by decide +kernel

theorem test_wf_ranges :
    (Instr.timedSalvoCommit 0 [512]).wf = false ∧ (Instr.sectorCorrected 0 (2 ^ 24)).wf = false ∧
    (Instr.sectorUncorrectable 0 (2 ^ 24) true).wf = false ∧ (Instr.engineHardFault 0 256).wf = false ∧
    (Instr.nextHopWrite 0 0 false true (2 ^ 32)).wf = false ∧ (Instr.nextHopWrite 0 0 true true (2 ^ 64)).wf = false ∧
    (Instr.pairDone 0 256 0 false).wf = false ∧ (Instr.raComplete 256 0).wf = false ∧ (Instr.keyRegionFail (2 ^ 19) false).wf = false ∧
    (Instr.arrayScanEnd [2 ^ 19] []).wf = false ∧ (Instr.arrayScanEnd [] [2 ^ 19]).wf = false ∧ (Instr.poisonedTlp (2 ^ 40)).wf = false ∧
    (Instr.fuseMakerImage (2 ^ 384) true).wf = false ∧ (Instr.fuseMakerService (2 ^ 384) true).wf = false := by decide +kernel

/-! ## Figures of the spec -/

/-- R525: the QUAD pages take event sources 16 to 39. -/
theorem test_quad_sources : Page.source .quad 0 = 16 ∧ Page.source .quad 23 = 39 := by decide +kernel

/-- R447: THS12 has the neighbours THS4, THS11, THS13 and THS20. -/
theorem test_neighbours_of_12 : (sensorNeighbours 12).length = 4 ∧ ∀ k ∈ [4, 11, 13, 20], k ∈ sensorNeighbours 12 := by decide +kernel

/-- Table 20.3: where the worked example's offsets lead, and the decode miss past the route table. -/
theorem test_window_addresses :
    decodeBar0 1 0xD27C00 = .entry .fc 200000 0 ∧ decodeBar0 0 0x400E20 = .entry .rte 452 0 ∧
    decodeBar0 0 0x5018E0 = .entry .xpt 398 0 ∧ decodeBar0 0 0x582B40 = .astat 0x2B40 ∧ decodeBar0 0 0x780000 = .conv 0x180000 ∧
    decodeBar0 0 0x401000 = .none := by decide +kernel

/-- The fabric charges 8.405 and 2.101 Gbit/s, and the store of 16.589 Gbit/s, of the worked example of section 5. -/
theorem test_charges_of_2160p50 :
    ({ Tests.fmt with raster := 4, rate := 5 } : Fmt).fabricCharge / bwUnit = 8404992000 ∧
    ({ Tests.fmt with raster := 3, rate := 5 } : Fmt).fabricCharge / bwUnit = 2101248000 ∧
    ({ Tests.fmt with raster := 4, rate := 5 } : Fmt).syncBw / bwUnit = 16588800000 := by decide +kernel

/-- The crossings of 8.337 and 2.110 Gbit/s, each with 16 channels of audio, of the worked example of section 13. -/
theorem test_charges_of_crossings :
    ({ Tests.fmt with raster := 4, rate := 5 } : Fmt).linkCharge 16 / bwUnit / 1000000 = 8336 ∧
    ({ Tests.fmt with raster := 3, rate := 5 } : Fmt).linkCharge 16 / bwUnit / 1000000 = 2109 := by decide +kernel

/-- The ceilings of 331.3 Gbit/s for seven channels and 378.6 for eight. -/
theorem test_quadrant_ceilings :
    ceilBw 7 / bwUnit / 100000000 = 3313 ∧ ceilBw 8 / bwUnit / 100000000 = 3786 := by decide +kernel

/-- The step of 410 lines that leaves 11.1 us of 7.3 ms at 1080p50. -/
theorem test_step_lines :
    (stepLines 20000000000000 1125 7300000000000).1 = 410 ∧ (stepLines 20000000000000 1125 7300000000000).2 / 100000000 = 111 := by
  decide +kernel

/-- The estimate of 107.4 degrees C for THS12 from its neighbours, its offset of 3.4 and the guard of 3.0. -/
theorem test_sensor_estimate :
    (Tests.up.set THERMAL.THS_OFFSET 34 0 12).estimate
      { readings := List.replicate 4 0 ++ [992] ++ List.replicate 6 0 ++ [1010, 921, 998] ++ List.replicate 6 0 ++ [1005], models := [] }
      12 = 1074 := by decide +kernel

/-- The reset values of TS10: N 303 and FRAC 0x0684_BDA1; and of PADMAP: 0x0688 each way. -/
theorem test_reset_values :
    State.reset.get SYNTH.SYN_N_N 10 = 303 ∧ State.reset.get SYNTH.SYN_FRAC_FRAC 10 = 0x0684BDA1 ∧
    State.reset.get QUAD.PADMAP_RX_MAP 5 = 0x688 ∧ State.reset.get QUAD.PADMAP_TX_MAP 5 = 0x688 := by decide +kernel

/-! ## Single commands -/

/-- A write of DOM_HOLD bit 18 holds PD19. -/
theorem test_dom_hold : Tests.next (.domHoldWrite 0 (BitVec.ofNat 32 (2 ^ 18))) Tests.up (fun t =>
    t.domUp 19 = false && t.get RESET.DOM_HOLD_MASK = 2 ^ 18) = true := by decide +kernel

/-- W1C clears the bits written 1 and leaves the others. -/
theorem test_evt_w1c : Tests.next (.evtW1c 0 .vin 5 4) (Tests.up.putStat (Page.source .vin 5) 6) (fun t =>
    t.evtStat .vin 5 = 2) = true := by decide +kernel

/-- A master whose writes the window does not admit is turned away, and ERR_INFO records it. -/
theorem test_refused_write : Tests.next (.evtW1c 0 .vin 5 4) ((((Tests.up.putStat (Page.source .vin 5) 6).set
    BUSMATRIX.WIN_LIMIT 0xFFFFF).set BUSMATRIX.WIN_WR 0).set BUSMATRIX.WIN_VALID 1)
    (fun t => t.evtStat .vin 5 = 6 && t.get BUSMATRIX.ERR_INFO_VALID = 1) = true := by decide +kernel

/-- The queue is served first in, first out. -/
theorem test_queue_order : step { Tests.up with pending := [.bypass, .idcode] } = exec .bypass { Tests.up with pending := [.idcode] } := rfl

/-! ## Witnesses of the invariants -/

theorem witness_DisplayAgreesKept : ∃ s s' : State, s.DisplayAgrees ∧ step s = .next s' :=
  ⟨{ State.reset with pending := [] }, _, ⟨by decide +kernel, by decide +kernel, by decide +kernel⟩, rfl⟩

theorem witness_BuffersStayCanonical : ∃ s s' : State, s.BuffersWf ∧ step s = .next s' :=
  ⟨{ Tests.up with buf := { Tests.up.buf with sram := [(5, 7)] } }, _, ⟨by decide +kernel, by decide +kernel, by decide +kernel⟩, rfl⟩

/-! ## Witnesses of the hypotheses -/

theorem witness_PageControlActs :
    (∃ (m : Fin 7) (c : Fin 32) (s : State), s.takesWrite m .memch c 0x008 0 ∧ s.domUp (Page.memch.domain c) = true
      ∧ s.get (HDR.DRAIN .memch) c = 0 ∧ s.get (HDR.STATE .memch) c = uRUN) ∧
    (∃ (m : Fin 7) (p : Page) (i : Nat) (s : State), s.takesWrite m p i 0x008 0 ∧ i < p.instances ∧ p.code < 0x80
      ∧ s.domUp (p.domain i) = true ∧ s.draining p i = true) ∧
    (∃ (k : Fin 16) (s : State), s.get (HDR.DRAIN .flow) 0 (k + 1) = 1 ∧ s.get (HDR.HELD_ENABLE .flow) = 0
      ∧ bitOf (s.get RESET.HID_DRAINOFF) 16 = false) ∧
    (∃ (k : Fin 16) (s : State), s.get (HDR.DRAIN .flow) 0 (k + 1) = 2 ∧ s.get (HDR.STATE .flow) 0 (k + 1) = uRUN
      ∧ s.get (HDR.HELD_ENABLE .flow) = 0 ∧ s.get REPAIR.CFG_AUTO = 0 ∧ bitOf (s.get RESET.HID_DRAINOFF) 16 = false) ∧
    (∃ (k : Fin 16) (s : State), s.get (HDR.STATE .flow) 0 (k + 1) = uRUN ∧ s.get REPAIR.CFG_AUTO = 0) ∧
    (∃ (k : Fin 16) (s : State), s.get (HDR.STATE .flow) 0 (k + 1) = uISOLATED ∧ s.domUp 17 = true) ∧
    (∃ (k : Fin 16) (s : State), s.get (HDR.STATE .flow) 0 (k + 1) = uTEST ∧ s.get (HDR.START .flow) 0 (k + 1) = 1) ∧
    (∃ (k : Fin 16) (s : State), s.get (HDR.STATE .flow) 0 (k + 1) = uTEST ∧ s.get (HDR.START .flow) 0 (k + 1) = 0
      ∧ s.get REPAIR.CFG_AUTO = 0) := by
  refine
    ⟨⟨0, 3, Tests.up.set (HDR.STATE .memch) uRUN 3, ?_, ?_, ?_, ?_⟩,
    ⟨0, .memch, 3, (Tests.up.set (HDR.STATE .memch) uRUN 3).set (HDR.DRAIN .memch) 1 3, ?_, ?_, ?_, ?_, ?_⟩,
    ⟨3, Tests.up.set (HDR.DRAIN .flow) 1 0 4, ?_, ?_, ?_⟩,
    ⟨3, ((Tests.up.set REPAIR.CFG_AUTO 0).set (HDR.DRAIN .flow) 2 0 4).set (HDR.STATE .flow) uRUN 0 4, ?_, ?_, ?_, ?_, ?_⟩,
    ⟨3, ((Tests.up.set REPAIR.CFG_AUTO 0).set (HDR.STATE .flow) uRUN 0 4), ?_, ?_⟩,
    ⟨3, (Tests.up.set (HDR.STATE .flow) uISOLATED 0 4), ?_, ?_⟩,
    ⟨3, (Tests.up.set (HDR.STATE .flow) uTEST 0 4).set (HDR.START .flow) 1 0 4, ?_, ?_⟩,
    ⟨3, ((Tests.up.set REPAIR.CFG_AUTO 0).set (HDR.STATE .flow) uTEST 0 4), ?_, ?_, ?_⟩⟩
    <;> first | with_reducible rfl | decide +kernel

theorem witness_LaneReceiveStates :
    (∃ (q : Fin 24) (sl : Fin 5) (n : Nat) (s : State), s.laneOf false q sl = some n ∧ s.spareOf false q = none
      ∧ s.get QUAD.RXSL_STAT_STATE q sl = slRUN) ∧
    (∃ (q : Fin 24) (sl : Fin 5) (n : Nat) (s : State), s.laneOf false q sl = some n ∧ s.get QUAD.RXSL_STAT_STATE q sl = slLOS
      ∧ s.get QUAD.HID_SIGDET q sl = 1) ∧
    (∃ (q : Fin 24) (sl : Fin 5) (n : Nat) (s : State), s.laneOf false q sl = some n ∧ s.get QUAD.RXSL_STAT_STATE q sl = slACQUIRE
      ∧ s.laneEth q n = false) ∧
    (∃ (q : Fin 24) (sl : Fin 5) (n : Nat) (s : State), s.laneOf false q sl = some n ∧ s.get QUAD.RXSL_STAT_STATE q sl = slACQUIRE
      ∧ s.laneEth q n = false ∧ s.get QUAD.LANE_CFG_RX_RATE_MASK q n = 0x1F ∧ s.get QUAD.HID_LAST q sl = 0
      ∧ s.get QUAD.HID_CLASS q sl = 0) ∧
    (∃ (q : Fin 24) (n : Fin 4) (s : State), s.sliceOf false q n < 5 ∧ s.get QUAD.RXSL_STAT_STATE q (s.sliceOf false q n) = slRUN) := by
  refine
    ⟨⟨0, 0, 0, Tests.up.set QUAD.RXSL_STAT_STATE slRUN 0 0, ?_, ?_, ?_⟩,
    ⟨0, 0, 0, (Tests.up.set QUAD.RXSL_STAT_STATE slLOS 0 0).set QUAD.HID_SIGDET 1 0 0, ?_, ?_, ?_⟩,
    ⟨0, 0, 0, (Tests.up.set QUAD.RXSL_STAT_STATE slACQUIRE 0 0).set QUAD.LANE_CFG_RXMODE 1 0 0, ?_, ?_, ?_⟩,
    ⟨0, 0, 0, ((Tests.up.set QUAD.RXSL_STAT_STATE slACQUIRE 0 0).set QUAD.LANE_CFG_RXMODE 1 0 0).set QUAD.LANE_CFG_RX_RATE_MASK 0x1F 0 0,
      ?_, ?_, ?_, ?_, ?_, ?_⟩,
    ⟨0, 0, Tests.up.set QUAD.RXSL_STAT_STATE slRUN 0 0, ?_, ?_⟩⟩
    <;> first | with_reducible rfl | decide +kernel

theorem witness_LaneSpareSlices :
    (∃ (q : Fin 24) (n : Fin 4) (sl : Nat) (s : State), s.spareOf false q = some sl ∧ s.get QUAD.QUAD_CFG_SPARE_AUTO q = 1
      ∧ s.shadowed false q = none ∧ s.sliceOf false q n < 5) ∧
    (∃ (q : Fin 24) (n : Fin 4) (sl : Nat) (s : State), s.spareOf true q = some sl ∧ s.get QUAD.QUAD_CFG_SPARE_AUTO q = 1
      ∧ s.shadowed true q = none ∧ s.sliceOf true q n < 5) ∧
    (∃ (q : Fin 24) (n : Nat) (s : State), s.shadowed false q = some n) ∧
    (∃ (q : Fin 24) (sl n : Nat) (s : State), s.spareOf false q = some sl ∧ s.shadowed false q = some n ∧ s.get QUAD.HID_FORCED q 0 = 0) ∧
    (∃ (q : Fin 24) (sl n : Nat) (s : State), s.spareOf false q = some sl ∧ s.shadowed false q = some n ∧ s.get QUAD.HID_FLIP q 0 = 1) ∧
    (∃ (q : Fin 24) (n : Fin 4) (s : State), s.spareOf false q = none ∧ s.sliceOf false q n < 5) ∧
    (∃ (m : Fin 7) (q : Fin 24) (v : Word) (sl : Nat) (s : State), s.takesWrite m .quad q 0x04C v.toNat
      ∧ (s.writePlain m .quad q 0x04C v.toNat).spareOf false q = some sl ∧ (s.writePlain m .quad q 0x04C v.toNat).shadowed false q = none
      ∧ 1 ≤ bitsOf v.toNat 16 3 ∧ bitsOf v.toNat 16 3 ≤ 4) ∧
    (∃ (m : Fin 7) (q : Fin 24) (v : Word) (sl : Nat) (s : State), s.takesWrite m .quad q 0x04C v.toNat
      ∧ (s.writePlain m .quad q 0x04C v.toNat).spareOf true q = some sl ∧ (s.writePlain m .quad q 0x04C v.toNat).shadowed true q = none
      ∧ 1 ≤ bitsOf v.toNat 20 3 ∧ bitsOf v.toNat 20 3 ≤ 4) ∧
    (∃ (q : Fin 24) (sl : Nat) (s : State), s.spareOf false q = some sl ∧ s.get QUAD.SPARE_CTL_SELFTEST_EN q = 1
      ∧ s.get THERMAL.STAT_STAGE = 0 ∧ s.get QUAD.RXSL_STAT_STATE q sl = slSPARE) ∧
    (∃ (q : Fin 24) (sl : Nat) (s : State), s.spareOf false q = some sl ∧ s.get QUAD.HID_SELFTEST q 0 = 1) := by
  refine
    ⟨⟨0, 0, 4, Tests.up.set QUAD.RXSL_STAT_STATE slSPARE 0 4, ?_, ?_, ?_, ?_⟩,
    ⟨0, 0, 4, Tests.up.set QUAD.TXSL_STAT_STATE slSPARE 0 4, ?_, ?_, ?_, ?_⟩,
    ⟨0, 2, (Tests.up.set QUAD.RXSL_STAT_STATE slSHADOW 0 4).set QUAD.RXSL_STAT_PADLANE 2 0 4, ?_⟩,
    ⟨0, 4, 2, (Tests.up.set QUAD.RXSL_STAT_STATE slSHADOW 0 4).set QUAD.RXSL_STAT_PADLANE 2 0 4, ?_, ?_, ?_⟩,
    ⟨0, 4, 2, ((Tests.up.set QUAD.RXSL_STAT_STATE slSHADOW 0 4).set QUAD.RXSL_STAT_PADLANE 2 0 4).set QUAD.HID_FLIP 1, ?_, ?_, ?_⟩,
    ⟨0, 1, Tests.up, ?_, ?_⟩,
    ⟨0, 0, 0x20000, 4, Tests.up.set QUAD.RXSL_STAT_STATE slSPARE 0 4, ?_, ?_, ?_, ?_, ?_⟩,
    ⟨0, 0, 0x200000, 4, Tests.up.set QUAD.TXSL_STAT_STATE slSPARE 0 4, ?_, ?_, ?_, ?_, ?_⟩,
    ⟨0, 4, (Tests.up.set QUAD.RXSL_STAT_STATE slSPARE 0 4).set QUAD.SPARE_CTL_SELFTEST_EN 1, ?_, ?_, ?_, ?_⟩,
    ⟨0, 4, (Tests.up.set QUAD.RXSL_STAT_STATE slTEST 0 4).set QUAD.HID_SELFTEST 1, ?_, ?_⟩⟩
    <;> first | with_reducible rfl | decide +kernel

theorem witness_LaneTests :
    (∃ (m : Fin 7) (q : Fin 24) (n : Fin 4) (s : State), s.takesWrite m .quad q (0x0D0 + 4 * n) 0x100
      ∧ s.get QUAD.TEST_CTL_PRBS_GEN q n ≠ 0) ∧
    (∃ (m : Fin 7) (q : Fin 24) (n : Fin 4) (s : State), s.takesWrite m .quad q (0x0D0 + 4 * n) 0x400) ∧
    (∃ (m : Fin 7) (q : Fin 24) (n : Fin 4) (v : Word) (s : State), s.takesWrite m .quad q (0x0D0 + 4 * n) v.toNat
      ∧ (s.laneFree q n && !s.laneShadowed q n) = false) ∧
    (∃ (m : Fin 7) (q : Fin 24) (n : Fin 4) (v : Word) (s : State), s.takesWrite m .quad q (0x0D0 + 4 * n) v.toNat ∧ s.laneFree q n = true
      ∧ s.laneShadowed q n = false) ∧
    (∃ (m : Fin 7) (q : Fin 24) (v : Word) (s : State), s.takesWrite m .quad q 0x100 v.toNat ∧ s.get QUAD.HID_EYE q = 0) ∧
    (∃ (q : Fin 24) (s : State), s.get QUAD.HID_EYE q = 1) ∧
    (∃ (q : Fin 24) (n : Fin 4) (errors : Nat) (s : State), s.get QUAD.TEST_CTL_PRBS_CHK q n ≠ 0 ∧ errors ≠ 0) ∧
    (∃ (m : Fin 7) (q : Fin 24) (p : Fin 4) (k : Fin 8) (s : State), s.takesRead m .eth q (0x100 + 0x40 * p + 8 * k)
      ∧ s.get QUAD.QUAD_CFG_Q100 q = 0) ∧
    (∃ (q : Fin 24) (p : Fin 4) (high : Bool) (s : State), flag high ≠ s.get ETH.PORT_STAT_HI_BER q p) := by
  refine
    ⟨⟨0, 0, 0, Tests.up.set QUAD.TEST_CTL_PRBS_GEN 1 0 0, ?_, ?_⟩,
    ⟨0, 0, 0, Tests.up, ?_⟩,
    ⟨0, 0, 0, 1, (Tests.up.set QUAD.LANE_CFG_RXMODE 2 0 0).set ETH.PORT_CFG_EN 1 0 0, ?_, ?_⟩,
    ⟨0, 0, 0, 0, Tests.up, ?_, ?_, ?_⟩,
    ⟨0, 0, 1, Tests.up, ?_, ?_⟩,
    ⟨0, Tests.up.set QUAD.HID_EYE 1, ?_⟩,
    ⟨0, 0, 3, Tests.up.set QUAD.TEST_CTL_PRBS_CHK 1 0 0, ?_, ?_⟩,
    ⟨0, 0, 0, 1, Tests.up, ?_, ?_⟩,
    ⟨0, 0, true, Tests.up, ?_⟩⟩
    <;> first | with_reducible rfl | decide +kernel

theorem witness_SdiInputs :
    (∃ (i : Fin 192) (s : State), s.laneSdi false i = true ∧ s.get VIN.STAT_STATE i = viDETECT) ∧
    (∃ (i : Fin 192) (s : State), s.laneSdi false i = true ∧ s.get VIN.STAT_STATE i = viPRESENT) ∧
    (∃ (i : Fin 192) (f : SdiLine) (s : State), s.laneSdi false i = true ∧ s.get VIN.STAT_STATE i = viSEARCH ∧ f.trs = true
      ∧ s.viSlicesRun i = true ∧ s.get VIN.HID_TRS i = 0) ∧
    (∃ (i : Fin 192) (f : SdiLine) (s : State), s.laneSdi false i = true ∧ s.get VIN.STAT_STATE i = viSEARCH ∧ f.trs = true
      ∧ s.viSlicesRun i = true ∧ s.get VIN.HID_TRS i = 3) ∧
    (∃ (i : Fin 192) (f : SdiFrame) (s : State), s.laneSdi false i = false ∧ s.get VIN.STAT_STATE i = viPRESENT ∧ f.ltc = none
      ∧ s.get VIN.TC_SRC_SEL i = 0) ∧
    (∃ (i : Fin 192) (f : SdiFrame) (s : State), s.laneSdi false i = true ∧ s.get VIN.STAT_STATE i = viPRESENT ∧ s.viLinks i ≠ 1
      ∧ 2000 < f.skew) := by
  refine
    ⟨⟨3, (Tests.up.set QUAD.LANE_CFG_RXMODE 1 0 3).set VIN.STAT_STATE viDETECT 3, ?_, ?_⟩,
    ⟨3, (Tests.up.set QUAD.LANE_CFG_RXMODE 1 0 3).set VIN.STAT_STATE viPRESENT 3, ?_, ?_⟩,
    ⟨3, Tests.sdiLine, ((Tests.up.set QUAD.LANE_CFG_RXMODE 1 0 3).set VIN.STAT_STATE viSEARCH 3).set QUAD.RXSL_STAT_STATE slRUN 0 3, ?_,
      ?_, ?_, ?_, ?_⟩,
    ⟨3, Tests.sdiLine, (((Tests.up.set QUAD.LANE_CFG_RXMODE 1 0 3).set VIN.STAT_STATE viSEARCH 3).set QUAD.RXSL_STAT_STATE slRUN 0 3).set
      VIN.HID_TRS 3 3, ?_, ?_, ?_, ?_, ?_⟩,
    ⟨100, Tests.sdiFrame, Tests.up.set VIN.STAT_STATE viPRESENT 100, ?_, ?_, ?_, ?_⟩,
    ⟨3, Tests.sdiFrame, ((Tests.up.set QUAD.LANE_CFG_RXMODE 1 0 3).set VIN.CFG_MAPPING 8 3).set VIN.STAT_STATE viPRESENT 3, ?_, ?_, ?_,
      ?_⟩⟩
    <;> first | with_reducible rfl | decide +kernel

theorem witness_OutputBoundaries :
    (∃ (o : Fin 512) (p : PendingTake) (s : State), 452 ≤ o.val ∧ o.val < 468 ∧ NTable.find s.video.pend o = some p ∧ p.path = none) ∧
    (∃ (o : Fin 512) (s : State), o.val < 192 ∧ s.tgRuns o = true ∧ s.domUp (Page.vout.domain o) = true ∧ s.get POWER.STBY_BUSY = 1) ∧
    (∃ (o : Fin 192) (p : Path) (f : LineFacts) (s : State), NTable.find s.video.active o = some p ∧ s.get VOUT.STAT_STATE o = 3
      ∧ p.plane = 0 ∧ f.copyA.arrived = false) ∧
    (∃ (o : Fin 192) (p : Path) (f : LineFacts) (s : State), NTable.find s.video.active o = some p ∧ s.get VOUT.STAT_STATE o = 3
      ∧ p.plane = 2 ∧ p.twin = true ∧ s.get REPAIR.PROT_CFG_SEL 0 o = 0 ∧ f.copyA.arrived = false ∧ f.copyB.poison = false
      ∧ s.lineCheckOut o p f.line true f.copyB = true) ∧
    (∃ (o : Fin 192) (s : State), s.get VOUT.TIM_STAT_STATE o = tgSLEW ∧ s.get REFMGR.RM_STAT_ACTIVE_VALID = 0) ∧
    (∃ (o : Fin 192) (s : State), s.get VOUT.TIM_STAT_STATE o = tgSTEP) ∧
    (∃ (o : Fin 192) (s : State), s.get SYNCMGR.FS_STAT_MODE 0 o = fsHOLD ∧ s.get SYNCMGR.FS_CFG_HOLD_MAX 0 o ≠ 0) ∧
    (∃ (o : Fin 192) (s : State), s.get SYNCMGR.FS_STAT_MODE 0 o = fsFALLBACK ∧ s.get SYNCMGR.FS_CFG_AUTO_RETURN 0 o = 1) := by
  refine
    ⟨⟨452, Tests.unroute, Tests.pending 452 Tests.unroute, ?_, ?_, ?_, ?_⟩,
    ⟨5, (Tests.up.set VOUT.TIM_STAT_STATE tgLOCKED 5).set POWER.STBY_BUSY 1, ?_, ?_, ?_, ?_⟩,
    ⟨5, Tests.path, Tests.badLine, (Tests.routed 5 Tests.path).set VOUT.STAT_STATE 3 5, ?_, ?_, ?_, ?_⟩,
    ⟨5, Tests.twin, Tests.badLine, (Tests.routed 5 Tests.twin).set VOUT.STAT_STATE 3 5, ?_, ?_, ?_, ?_, ?_, ?_, ?_, ?_⟩,
    ⟨5, Tests.up.set VOUT.TIM_STAT_STATE tgSLEW 5, ?_, ?_⟩,
    ⟨5, Tests.up.set VOUT.TIM_STAT_STATE tgSTEP 5, ?_⟩,
    ⟨5, (Tests.up.set SYNCMGR.FS_STAT_MODE fsHOLD 0 5).set SYNCMGR.FS_CFG_HOLD_MAX 9 0 5, ?_, ?_⟩,
    ⟨5, (Tests.up.set SYNCMGR.FS_STAT_MODE fsFALLBACK 0 5).set SYNCMGR.FS_CFG_AUTO_RETURN 1 0 5, ?_, ?_⟩⟩
    <;> first | with_reducible rfl | decide +kernel

theorem witness_TakesCommit :
    (∃ (m : Fin 7) (v : Word) (f : TakeFacts) (s t0 : State), s.takesWrite m .route 0 0x048 v.toNat
      ∧ t0 = s.writePlain m .route 0 0x048 v.toNat ∧ bitOf v.toNat 0 = true ∧ bitOf v.toNat 1 = false ∧ t0.gate .route 0 = 0
      ∧ t0.takeMember m = localMember
      ∧ (t0.decideTake (t0.get ROUTE.TAKE_DST_SLOT m) (t0.get ROUTE.TAKE_ENTRY_W0 m) localMember (t0.takeFrame (t0.get ROUTE.TAKE_DST_SLOT m) f.pastCut) f).1 = 0) ∧
    (∃ (m : Fin 7) (v : Word) (f : TakeFacts) (s t0 : State) (r : Nat), s.takesWrite m .route 0 0x048 v.toNat
      ∧ t0 = s.writePlain m .route 0 0x048 v.toNat ∧ bitOf v.toNat 0 = true ∧ bitOf v.toNat 1 = false ∧ t0.gate .route 0 = 0
      ∧ (t0.decideTake (t0.get ROUTE.TAKE_DST_SLOT m) (t0.get ROUTE.TAKE_ENTRY_W0 m) (t0.takeMember m) (t0.takeFrame (t0.get ROUTE.TAKE_DST_SLOT m) f.pastCut) f).1 = r
      ∧ r ≠ 0) ∧
    (∃ (m : Fin 7) (v : Word) (s t0 : State), s.takesWrite m .route 0 0x048 v.toNat ∧ t0 = s.writePlain m .route 0 0x048 v.toNat
      ∧ bitOf v.toNat 0 = true ∧ bitOf v.toNat 1 = true ∧ (t0.heldTakes m).length < 512) ∧
    (∃ (m : Fin 7) (v : Word) (f : List TakeFacts) (s t0 : State), s.takesWrite m .route 0 0x04C v.toNat
      ∧ t0 = s.writePlain m .route 0 0x04C v.toNat ∧ bitOf v.toNat 0 = true ∧ bitOf v.toNat 2 = false ∧ t0.heldTakes m ≠ []
      ∧ t0.salvoCode m false (t0.heldTakes m) = 0 ∧ (t0.decideSalvo 0 (t0.heldTakes m) f).1 = 0) ∧
    (∃ (m : Fin 7) (v : Word) (f : List TakeFacts) (s t0 : State) (r : Nat), s.takesWrite m .route 0 0x04C v.toNat
      ∧ t0 = s.writePlain m .route 0 0x04C v.toNat ∧ bitOf v.toNat 0 = true ∧ t0.heldTakes m ≠ []
      ∧ t0.salvoCode m (bitOf v.toNat 2) (t0.heldTakes m) = 0 ∧ (t0.decideSalvo 0 (t0.heldTakes m) f).1 = r ∧ r ≠ 0) ∧
    (∃ (m : Fin 7) (s : State), s.takesWrite m .route 0 0x04C 2) ∧
    (∃ (m : Fin 7) (z : TimedSalvo) (s : State), s.video.timed.find? (fun x => x.master = m.val) = some z) ∧
    (∃ (g : Fin 32) (s : State), bitOf (s.get GPIO.DIR_OUT_EN) g = false ∧ s.get ROUTE.SALVO_TRIG_EN 1 = 1
      ∧ s.get ROUTE.SALVO_TRIG_GPIO 1 = g ∧ (∀ m : Fin 7, m.val ≠ 1 → s.get ROUTE.SALVO_TRIG_EN m = 0) ∧ s.get ROUTE.RESP_BUSY 1 = 0) := by
  refine
    ⟨⟨1, 1, Tests.facts, (Tests.up.set ROUTE.TAKE_DST_SLOT 5 1).set ROUTE.TAKE_ENTRY_W0 0 1, _, ?_, rfl, ?_, ?_, ?_, ?_, ?_⟩,
    ⟨1, 1, Tests.facts, (Tests.up.set ROUTE.TAKE_DST_SLOT 300 1).set ROUTE.TAKE_ENTRY_W0 0 1, _, _, ?_, rfl, ?_, ?_, ?_, rfl, ?_⟩,
    ⟨1, 3, (Tests.up.set ROUTE.TAKE_DST_SLOT 5 1).set ROUTE.TAKE_ENTRY_W0 0x80000003 1, _, ?_, rfl, ?_, ?_, ?_⟩,
    ⟨1, 1, [Tests.facts], Tests.holding 1 5, _, ?_, rfl, ?_, ?_, ?_, ?_, ?_⟩,
    ⟨1, 1, [Tests.facts], Tests.holding 1 300, _, _, ?_, rfl, ?_, ?_, ?_, rfl, ?_⟩,
    ⟨1, Tests.holding 1 5, ?_⟩,
    ⟨1, Tests.timed, Tests.timedUp, ?_⟩,
    ⟨4, (Tests.up.set ROUTE.SALVO_TRIG_EN 1 1).set ROUTE.SALVO_TRIG_GPIO 4 1, ?_, ?_, ?_, ?_, ?_⟩⟩
    <;> first | with_reducible rfl | decide +kernel

theorem witness_MemoryChannels :
    (∃ (c : Fin 32) (sector : Nat) (s : State), s.chanRun c = true
      ∧ (recent s.clk.uptime dayPeriods (NTable.getD s.repair.corrections (sectorKey c sector) [])).length < 2
      ∧ s.get MEMCH.CH_STAT_HEALTH c ≠ chGOOD
      ∧ (recent s.clk.uptime (s.get MEMCH.CH_CFG_CE_WINDOW c * xtalPerSecond) (NTable.getD s.repair.corrections (channelKey c) [])).length + 1 < s.get MEMCH.CH_CFG_CE_LIMIT c) ∧
    (∃ (c : Fin 32) (s : State), s.chanRun c = true) ∧
    (∃ (c : Fin 32) (s : State), s.chanRun c = true ∧ s.get SYNCMGR.SCRUB_CFG_EN = 1 ∧ s.get THERMAL.STAT_STAGE = 0) ∧
    (∃ (c : Fin 32) (s : State), s.get MEMCH.CH_STAT_HEALTH c = chWATCH) ∧
    (∃ (m : Fin 7) (c : Fin 32) (s : State), s.takesWrite m .memch c 0x058 1 ∧ (s.writePlain m .memch c 0x058 1).chanRun c = true
      ∧ s.get MEMCH.CH_STAT_HEALTH c < 2) ∧
    (∃ (m : Fin 7) (c : Fin 32) (s : State), s.takesWrite m .memch c 0x058 2 ∧ (s.writePlain m .memch c 0x058 2).channelEmpty c = true) ∧
    (∃ (q : Fin 4) (s : State), s.domUp (13 + q) = true) ∧
    (∃ (m : Fin 7) (v : Word) (s : State), s.takesWrite m .syncmgr 0 0x070 v.toNat ∧ bitOf v.toNat 4 = true
      ∧ (s.writePlain m .syncmgr 0 0x070 v.toNat).get SYNCMGR.EVAC_BUSY = 0) ∧
    (∃ (m : Fin 7) (v : Word) (s : State), s.takesWrite m .syncmgr 0 0x070 v.toNat ∧ bitOf v.toNat 5 = true
      ∧ (s.writePlain m .syncmgr 0 0x070 v.toNat).get SYNCMGR.QUAD_STAT_STATE 0 (bitsOf v.toNat 0 2) = quadEVACUATED) ∧
    (∃ (o : Fin 192) (s : State), s.mayStart o true = true ∧ NTable.find s.video.pend o = none) := by
  refine
    ⟨⟨5, 77, ((Tests.up.set (HDR.STATE .memch) uRUN 5).set MEMCH.CH_CFG_CE_LIMIT 100 5).set MEMCH.CH_STAT_HEALTH chWATCH 5, ?_, ?_, ?_, ?_⟩,
    ⟨5, Tests.up.set (HDR.STATE .memch) uRUN 5, ?_⟩,
    ⟨5, (Tests.up.set (HDR.STATE .memch) uRUN 5).set SYNCMGR.SCRUB_CFG_EN 1, ?_, ?_, ?_⟩,
    ⟨5, Tests.up.set MEMCH.CH_STAT_HEALTH chWATCH 5, ?_⟩,
    ⟨0, 5, Tests.up.set (HDR.STATE .memch) uRUN 5, ?_, ?_, ?_⟩,
    ⟨0, 5, Tests.up.set (HDR.STATE .memch) uRUN 5, ?_, ?_⟩,
    ⟨1, Tests.up.set SYNCMGR.QUAD_STAT_STATE quadDEGRADED 0 1, ?_⟩,
    ⟨0, 0x12, Tests.up, ?_, ?_, ?_⟩,
    ⟨0, 0x22, Tests.up.set SYNCMGR.QUAD_STAT_STATE quadEVACUATED 0 2, ?_, ?_, ?_⟩,
    ⟨5, ((((Tests.up.set (HDR.STATE .vout) uRUN 5).set (HDR.STATE .flow) uRUN 0).set VOUT.TIM_STAT_STATE tgWAIT 5).set VOUT.CFG_EN 1
      5).set VOUT.HID_INSERVICE 1 5, ?_, ?_⟩⟩
    <;> first | with_reducible rfl | decide +kernel

theorem witness_EngineCommands :
    (∃ (m : Fin 7) (v : Word) (s t0 : State), s.takesWrite m .ce 0 0x210 v.toNat ∧ t0 = s.writePlain m .ce 0 0x210 v.toNat
      ∧ bitOf v.toNat 31 = true ∧ t0.get CE.PROF_RESP_BUSY = 0 ∧ t0.gate .ce 0 = 0 ∧ bitsOf v.toNat 0 9 < 192
      ∧ t0.get CE.PROF0_VALID 0 (bitsOf v.toNat 16 6) ≠ 0 ∧ NTable.find t0.video.active (bitsOf v.toNat 0 9) = none) ∧
    (∃ (m : Fin 7) (v : Word) (s t0 : State) (e : Nat), s.takesWrite m .ce 0 0x200 v.toNat ∧ t0 = s.writePlain m .ce 0 0x200 v.toNat
      ∧ bitOf v.toNat 8 = true ∧ t0.get CE.LOAD_STAT_BUSY = 0 ∧ t0.loadError (bitOf v.toNat 0) (bitsOf v.toNat 1 4) = e) ∧
    (∃ (s : State), s.get CE.LOAD_STAT_BUSY = 1) ∧
    (∃ (m : Fin 7) (v : Word) (s t0 : State), s.takesWrite m .ce 0 0x218 v.toNat ∧ t0 = s.writePlain m .ce 0 0x218 v.toNat
      ∧ bitOf v.toNat 4 = true ∧ t0.get CE.EVAC_BUSY = 0 ∧ t0.gate .ce 0 = 0
      ∧ t0.video.streams.filter (fun e => clusterOf (e.1 / 4) = bitsOf v.toNat 0 2) = []) ∧
    (∃ (m : Fin 7) (v : Word) (s : State), s.takesWrite m .ce 0 0x218 v.toNat ∧ bitOf v.toNat 5 = true) ∧
    (∃ (ce : Fin 36) (s : State), s.unit (ceUnit ce) = uRUN ∧ s.video.streams = [] ∧ s.get REPAIR.CFG_AUTO = 0) ∧
    (∃ (ce : Fin 36) (st : Fin 4) (x : Stream) (s : State), NTable.find s.video.streams (4 * ce.val + st.val) = some x) ∧
    (∃ (ce : Fin 36) (s : State), s.unit (ceUnit ce) = uISOLATED) := by
  refine
    ⟨⟨0, 0x80030005, (Tests.up.set CE.PROF0_VALID 1 0 3), _, ?_, rfl, ?_, ?_, ?_, ?_, ?_, ?_⟩,
    ⟨0, 0x103, Tests.up, _, _, ?_, rfl, ?_, ?_, rfl⟩,
    ⟨Tests.up.set CE.LOAD_STAT_BUSY 1, ?_⟩,
    ⟨0, 0x11, Tests.up, _, ?_, rfl, ?_, ?_, ?_, ?_⟩,
    ⟨0, 0x21, Tests.up.set CE.HID_EVACUATED 1 9, ?_, ?_⟩,
    ⟨4, (Tests.up.set (HDR.STATE .ce) uRUN 4).set REPAIR.CFG_AUTO 0, ?_, ?_, ?_⟩,
    ⟨4, 1, Tests.stream, Tests.streaming 17 Tests.stream, ?_⟩,
    ⟨4, (Tests.up.set (HDR.STATE .ce) uISOLATED 4), ?_⟩⟩
    <;> first | with_reducible rfl | decide +kernel

theorem witness_Synthesisers :
    (∃ (m : Fin 7) (k : Fin 20) (v : Word) (s t0 : State), s.takesWrite m .synth k 0x040 v.toNat
      ∧ t0 = s.writePlain m .synth k 0x040 v.toNat ∧ k.val < 12 ∧ t0.synState k 0 ≠ syOFF) ∧
    (∃ (k : Fin 20) (s : State), s.get SYNTH.SYN_STAT_STATE k = syBAND) ∧
    (∃ (k : Fin 20) (s : State), k.val < 12 ∧ s.get SYNTH.SYN_STAT_STATE k = syACQUIRE) ∧
    (∃ (k : Fin 20) (s : State), k.val < 12 ∧ s.get SYNTH.SYN_STAT_STATE k = syLOCKED) ∧
    (∃ (k : Fin 12) (s : State), s.get SYNTH.SYN_STAT_STATE k = syHOLD) ∧
    (∃ (m : Fin 7) (v : Word) (s t0 : State), s.takesWrite m .synthctl 0 0x040 v.toNat ∧ t0 = s.writePlain m .synthctl 0 0x040 v.toNat
      ∧ bitOf v.toNat 0 = true ∧ t0.syncOutputs = []) ∧
    (∃ (m : Fin 7) (v : Word) (s t0 : State), s.takesWrite m .synthctl 0 0x040 v.toNat ∧ t0 = s.writePlain m .synthctl 0 0x040 v.toNat
      ∧ bitOf v.toNat 0 = true ∧ t0.syncOutputs.filter (fun e => t0.get SYNTH.OUT_CFG_EN e.1 e.2 = 1) ≠ []) ∧
    (∃ (s : State), s.get SYNTHCTL.SYNC_ARM_ARMED = 1 ∧ s.domUp 22 = true) ∧
    (∃ (m : Fin 7) (k : Fin 8) (v : Word) (s t0 : State), s.takesWrite m .synth (12 + k) 0x080 v.toNat
      ∧ t0 = s.writePlain m .synth (12 + k) 0x080 v.toNat ∧ bitOf v.toNat 0 = true
      ∧ t0.synState (12 + k) (1 - t0.get SYNTH.SYN_STAT_SEL (12 + k)) = syLOCKED) ∧
    (∃ (m : Fin 7) (k : Fin 8) (v : Word) (s t0 : State), s.takesWrite m .synth (12 + k) 0x080 v.toNat
      ∧ t0 = s.writePlain m .synth (12 + k) 0x080 v.toNat ∧ bitOf v.toNat 1 = true
      ∧ t0.get (HDR.STATE .synth) (12 + k) (1 - t0.get SYNTH.SYN_STAT_SEL (12 + k)) = uRUN) := by
  refine
    ⟨⟨0, 3, 100, Tests.up.set SYNTH.SYN_STAT_STATE syLOCKED 3, _, ?_, rfl, ?_, ?_⟩,
    ⟨3, Tests.up.set SYNTH.SYN_STAT_STATE syBAND 3, ?_⟩,
    ⟨3, Tests.up.set SYNTH.SYN_STAT_STATE syACQUIRE 3, ?_, ?_⟩,
    ⟨3, Tests.up.set SYNTH.SYN_STAT_STATE syLOCKED 3, ?_, ?_⟩,
    ⟨3, Tests.up.set SYNTH.SYN_STAT_STATE syHOLD 3, ?_⟩,
    ⟨0, 1, Tests.up, _, ?_, rfl, ?_, ?_⟩,
    ⟨0, 1, (Tests.up.set SYNTH.OUT_CFG_SYNC_EN 1 3 2).set SYNTH.OUT_CFG_EN 1 3 2, _, ?_, rfl, ?_, ?_⟩,
    ⟨Tests.up.set SYNTHCTL.SYNC_ARM_ARMED 1, ?_, ?_⟩,
    ⟨0, 1, 1, Tests.up.set SYNTH.SYN_STAT_STATE_B syLOCKED 13, _, ?_, rfl, ?_, ?_⟩,
    ⟨0, 1, 2, Tests.up.set (HDR.STATE .synth) uRUN 13 1, _, ?_, rfl, ?_, ?_⟩⟩
    <;> first | with_reducible rfl | decide +kernel

theorem witness_ReferenceManager :
    (∃ (k : Fin 16) (s : State), s.rc k = rcABSENT ∧ s.get REFMGR.RM_STAT_PENDING_VALID = 0) ∧
    (∃ (k : Fin 16) (s : State), s.rc k = rcQUALIFYING ∧ s.rcKind k ≠ 9) ∧
    (∃ (k : Fin 16) (s : State), s.rc k = rcQUALIFIED) ∧
    (∃ (k : Fin 16) (s : State), s.rc k = rcQUALIFYING) ∧
    (∃ (s : State), s.get REFMGR.HID_HOLDOFF = 1) ∧
    (∃ (k : Nat) (s : State), s.pendingRc = some k ∧ k < 16) ∧
    (∃ (s : State), s.get REFMGR.RM_STAT_STATE = rmACQUIRE ∧ s.bwTrack < s.get REFMGR.BW_NOW_BW / 10) ∧
    (∃ (s : State), s.get REFMGR.RM_STAT_STATE = rmACQUIRE ∧ s.get REFMGR.BW_NOW_BW / 10 ≤ s.bwTrack) ∧
    (∃ (a b : Fin 16) (fa fb : Int) (w : Nat) (s : State), a ≠ b ∧ s.selectable a = true ∧ s.selectable b = true ∧ s.bestRc.isSome = true
      ∧ s.rcRank a = s.rcRank (s.bestRc.getD 0) ∧ s.rcRank b = s.rcRank (s.bestRc.getD 0)
      ∧ 100 < freqGap (signedOf 24 (ofSigned 24 fa % 2 ^ 24)) (signedOf 24 (ofSigned 24 fb % 2 ^ 24))
      ∧ ((s.set REFMGR.RC_FREQ_OFFSET (ofSigned 24 fa) 0 a).set REFMGR.RC_FREQ_OFFSET (ofSigned 24 fb) 0 b).arbiter a b = some w) ∧
    (∃ (a b : Fin 16) (fa fb : Int), a ≠ b ∧ freqGap (signedOf 24 (ofSigned 24 fa % 2 ^ 24)) (signedOf 24 (ofSigned 24 fb % 2 ^ 24)) < 50) ∧
    (∃ (m : Fin 7) (k : Fin 16) (v : Word) (s : State), s.takesWrite m .refmgr 0 (0x100 + 0x20 * k.val) v.toNat) ∧
    (∃ (k : Nat) (s : State), s.activeRc = some k ∧ kindTime (s.rcKind k) = true) ∧
    (∃ (k : Nat) (s : State), s.activeRc = some k ∧ s.rcKind k = 6 ∧ s.get REFMGR.UTC_STAT_LEAP61 0 (s.get REFMGR.RC_CFG_SOURCE 0 k) = 1
      ∧ s.get REFMGR.UTC_STAT_LEAP59 0 (s.get REFMGR.RC_CFG_SOURCE 0 k) = 0) ∧
    (∃ (m : Fin 7) (s : State), s.takesRead m .refmgr 0 0x050) := by
  refine
    ⟨⟨2, Tests.up.set REFMGR.RC_STAT_STATE rcABSENT 0 2, ?_, ?_⟩,
    ⟨2, (Tests.up.set REFMGR.RC_STAT_STATE rcQUALIFYING 0 2).set REFMGR.RC_CFG_KIND 4 0 2, ?_, ?_⟩,
    ⟨2, Tests.up.set REFMGR.RC_STAT_STATE rcQUALIFIED 0 2, ?_⟩,
    ⟨2, Tests.up.set REFMGR.RC_STAT_STATE rcQUALIFYING 0 2, ?_⟩,
    ⟨Tests.up.set REFMGR.HID_HOLDOFF 1, ?_⟩,
    ⟨2, (Tests.up.set REFMGR.RM_STAT_PENDING 2).set REFMGR.RM_STAT_PENDING_VALID 1, ?_, ?_⟩,
    ⟨(Tests.up.set REFMGR.RM_STAT_STATE rmACQUIRE).set REFMGR.BW_NOW_BW 1000000, ?_, ?_⟩,
    ⟨(Tests.up.set REFMGR.RM_STAT_STATE rmACQUIRE).set REFMGR.BW_NOW_BW 1, ?_, ?_⟩,
    ⟨2, 3, 300, 0, 3, Tests.disputed, ?_, ?_, ?_, ?_, ?_, ?_, ?_, ?_⟩,
    ⟨2, 3, 0, 0, ?_, ?_⟩,
    ⟨0, 2, 0x35, Tests.up, ?_⟩,
    ⟨2, ((Tests.up.set REFMGR.RM_STAT_ACTIVE 2).set REFMGR.RM_STAT_ACTIVE_VALID 1).set REFMGR.RC_CFG_KIND 6 0 2, ?_, ?_⟩,
    ⟨2, (((Tests.up.set REFMGR.RM_STAT_ACTIVE 2).set REFMGR.RM_STAT_ACTIVE_VALID 1).set REFMGR.RC_CFG_KIND 6 0 2).set
      REFMGR.UTC_STAT_LEAP61 1 0 0, ?_, ?_, ?_, ?_⟩,
    ⟨0, Tests.up, ?_⟩⟩
    <;> first | with_reducible rfl | decide +kernel

theorem witness_FlowContextRequests_1 :
    (∃ (m : Fin 7) (v : Word) (s t0 : State), s.takesWrite m .flow 0 0x080 v.toNat ∧ t0 = s.writePlain m .flow 0 0x080 v.toNat
      ∧ bitOf v.toNat 31 = true ∧ bitsOf v.toNat 20 3 = 1 ∧ t0.get FLOW.CTX_RESP_BUSY = 0 ∧ t0.gate .flow 0 = 0
      ∧ t0.fcType (bitsOf v.toNat 0 18) = 0 ∧ t0.ctxCheck (bitsOf v.toNat 0 18) t0.ctxImg = 0) ∧
    (∃ (m : Fin 7) (v : Word) (s t0 : State), s.takesWrite m .flow 0 0x080 v.toNat ∧ t0 = s.writePlain m .flow 0 0x080 v.toNat
      ∧ bitOf v.toNat 31 = true ∧ bitsOf v.toNat 20 3 = 2 ∧ t0.get FLOW.CTX_RESP_BUSY = 0 ∧ t0.gate .flow 0 = 0
      ∧ t0.fcType (bitsOf v.toNat 0 18) ≠ 0 ∧ t0.fcState (bitsOf v.toNat 0 18) = fcRUN ∧ t0.ctxCheck (bitsOf v.toNat 0 18) t0.ctxImg = 0) ∧
    (∃ (m : Fin 7) (v : Word) (s t0 : State), s.takesWrite m .flow 0 0x080 v.toNat ∧ t0 = s.writePlain m .flow 0 0x080 v.toNat
      ∧ bitOf v.toNat 31 = true ∧ bitsOf v.toNat 20 3 = 3 ∧ t0.get FLOW.CTX_RESP_BUSY = 0 ∧ t0.gate .flow 0 = 0
      ∧ t0.unitCode ⟨.flow, 0, 0⟩ = 0 ∧ t0.unitCode ⟨.flow, 0, 1 + bitsOf v.toNat 0 18 / 16384⟩ = 0 ∧ t0.fcType (bitsOf v.toNat 0 18) ≠ 0
      ∧ t0.nhBad (t0.imageOf (bitsOf v.toNat 0 18)) = false ∧ t0.fcState (bitsOf v.toNat 0 18) = fcIDLE) ∧
    (∃ (m : Fin 7) (v : Word) (s t0 : State), s.takesWrite m .flow 0 0x080 v.toNat ∧ t0 = s.writePlain m .flow 0 0x080 v.toNat
      ∧ bitOf v.toNat 31 = true ∧ bitsOf v.toNat 20 3 = 4 ∧ t0.get FLOW.CTX_RESP_BUSY = 0 ∧ t0.gate .flow 0 = 0
      ∧ t0.feeds (bitsOf v.toNat 0 18) = false ∧ t0.fcType (bitsOf v.toNat 0 18) ≠ 0 ∧ fcWAIT ≤ t0.fcState (bitsOf v.toNat 0 18)
      ∧ t0.fcState (bitsOf v.toNat 0 18) ≠ fcDRAIN) := by
  refine
    ⟨⟨0, 0x80100007, (Tests.flowing 0 0).set FLOW.CTX_IMG_WORD 4 0 0, _, ?_, rfl, ?_, ?_, ?_, ?_, ?_, ?_⟩,
    ⟨0, 0x80200007, (Tests.flowing 4 4).set FLOW.CTX_IMG_WORD 4 0 0, _, ?_, rfl, ?_, ?_, ?_, ?_, ?_, ?_, ?_⟩,
    ⟨0, 0x80300007, Tests.flowing 4 1, _, ?_, rfl, ?_, ?_, ?_, ?_, ?_, ?_, ?_, ?_, ?_⟩,
    ⟨0, 0x80400007, Tests.flowing 4 4, _, ?_, rfl, ?_, ?_, ?_, ?_, ?_, ?_, ?_, ?_⟩⟩
    <;> first | with_reducible rfl | decide +kernel

theorem witness_FlowContextRequests_2 :
    (∃ (m : Fin 7) (v : Word) (s t0 : State), s.takesWrite m .flow 0 0x080 v.toNat ∧ t0 = s.writePlain m .flow 0 0x080 v.toNat
      ∧ bitOf v.toNat 31 = true ∧ bitsOf v.toNat 20 3 = 5 ∧ t0.get FLOW.CTX_RESP_BUSY = 0 ∧ t0.gate .flow 0 = 0
      ∧ t0.feeds (bitsOf v.toNat 0 18) = false ∧ t0.fcType (bitsOf v.toNat 0 18) ≠ 0) ∧
    (∃ (fc : Fin 262144) (s : State), kindSends (s.fcType fc) = true ∧ s.fcState fc = fcDRAIN) ∧
    (∃ (m : Fin 7) (k : Fin 4096) (data : Nat) (s : State), s.busUp = true ∧ s.busKind m (Page.nh.base + 8 * k.val) true 8 data = 0
      ∧ s.get NH.E_VALID k = 0) ∧
    (∃ (bank : Fin 16) (row : Nat) (s : State), (bank.val, row) ∉ s.flow.rows) := by
  refine
    ⟨⟨0, 0x80500007, Tests.flowing 4 1, _, ?_, rfl, ?_, ?_, ?_, ?_, ?_, ?_⟩,
    ⟨7, Tests.flowing 8 6, ?_, ?_⟩,
    ⟨0, 9, 0x80000000000000020000000000000001, Tests.up, ?_, ?_, ?_⟩,
    ⟨2, 11, Tests.up, ?_⟩⟩
    <;> first | with_reducible rfl | decide +kernel

theorem witness_FlowTraffic_1 :
    (∃ (d : Datagram) (fc : Fin 262144) (s : State), s.unit ⟨.flow, 0, 0⟩ = uRUN ∧ s.contexts.filter (fun c => s.matches d c) = [fc.val]
      ∧ s.fcType fc = fcRXV ∧ s.fcState fc = fcWAIT ∧ s.unit ⟨.flow, 0, 1 + fc.val / 16384⟩ = uRUN ∧ s.partner fc = none
      ∧ NTable.find s.flow.images fc = none ∧ d.uncorrectable = false ∧ d.start = true ∧ d.frame = none) ∧
    (∃ (d : Datagram) (fc : Fin 262144) (s : State), s.unit ⟨.flow, 0, 0⟩ = uRUN ∧ s.contexts.filter (fun c => s.matches d c) = [fc.val]
      ∧ fcWAIT ≤ s.fcState fc ∧ s.fcState fc ≠ fcDRAIN ∧ s.unit ⟨.flow, 0, 1 + fc.val / 16384⟩ = uRUN ∧ d.corrected = false
      ∧ d.uncorrectable = true) ∧
    (∃ (fc : Fin 262144) (s : State), s.fcType fc = fcRXV ∧ s.fcState fc = fcRUN) ∧
    (∃ (fc : Fin 262144) (o : Nat) (s : State), s.partner fc = some o ∧ fcWAIT ≤ s.fcState fc ∧ s.fcState fc ≤ fcRUN ∧ o ≠ fc
      ∧ s.fcState o ≠ fcLOST) ∧
    (∃ (fc : Fin 262144) (o : Nat) (d : Datagram) (l : List Datagram) (s : State), s.partner fc = some o
      ∧ NTable.getD s.flow.merge (s.lead fc) [] = d :: l) ∧
    (∃ (fc : Fin 262144) (s : State), s.fcType fc = fcTXA30 ∧ s.fcState fc = fcRUN ∧ s.unit ⟨.flow, 0, 0⟩ = uRUN
      ∧ s.unit ⟨.flow, 0, 1 + fc.val / 16384⟩ = uRUN ∧ NTable.find s.flow.images fc = none) ∧
    (∃ (m : Fin 7) (v : Word) (s t0 : State), s.takesWrite m .flow 0 0x08C v.toNat ∧ t0 = s.writePlain m .flow 0 0x08C v.toNat
      ∧ bitOf v.toNat 31 = true ∧ bitOf v.toNat 30 = true ∧ t0.flow.held.length < 512) := by
  refine
    ⟨⟨Tests.datagram, 7, Tests.flowing 1 2, ?_, ?_, ?_, ?_, ?_, ?_, ?_, ?_, ?_, ?_⟩,
    ⟨{ Tests.datagram with uncorrectable := true }, 7, Tests.flowing 1 2, ?_, ?_, ?_, ?_, ?_, ?_, ?_⟩,
    ⟨7, Tests.flowing 1 4, ?_, ?_⟩,
    ⟨7, 20000, Tests.paired, ?_, ?_, ?_, ?_, ?_⟩,
    ⟨7, 20000, Tests.datagram, [], { Tests.paired with flow := { Tests.paired.flow with merge := [(7, [Tests.datagram])] } }, ?_, ?_⟩,
    ⟨7, (Tests.flowing 6 4), ?_, ?_, ?_, ?_, ?_⟩,
    ⟨0, 0xC0000007, (Tests.flowing 9 4).set FLOW.FWD_TAKE_OUT_FC 8, _, ?_, rfl, ?_, ?_, ?_⟩⟩
    <;> first | with_reducible rfl | decide +kernel

theorem witness_FlowTraffic_2 :
    (∃ (m : Fin 7) (v : Word) (s t0 : State), s.takesWrite m .flow 0 0x08C v.toNat ∧ t0 = s.writePlain m .flow 0 0x08C v.toNat
      ∧ bitOf v.toNat 31 = true ∧ bitOf v.toNat 30 = false ∧ t0.gate .flow 0 = 0
      ∧ t0.flowTakeCode (t0.get FLOW.FWD_TAKE_OUT_FC) (bitsOf v.toNat 0 18) = 0) ∧
    (∃ (m : Fin 7) (v : Word) (s t0 : State), s.takesWrite m .flow 0 0x090 v.toNat ∧ t0 = s.writePlain m .flow 0 0x090 v.toNat
      ∧ bitOf v.toNat 0 = true ∧ t0.gate .flow 0 = 0 ∧ (t0.heldCode 0 t0.flow.held).1 = 0) ∧
    (∃ (fc : Fin 262144) (x : FlowTake) (s : State), NTable.find s.flow.takes fc = some x ∧ s.fcType fc = fcFWDOUT ∧ x.src < 262144
      ∧ x.packets = []) ∧
    (∃ (fc : Fin 262144) (x : FlowTake) (s : State), NTable.find s.flow.takes fc = some x ∧ s.fcType fc = fcFWDOUT ∧ x.packets ≠ []) := by
  refine
    ⟨⟨0, 0x80000007, ((Tests.flowing 9 4).set FC.W0_TYPE 10 8).set FLOW.FWD_TAKE_OUT_FC 8, _, ?_, rfl, ?_, ?_, ?_, ?_⟩,
    ⟨0, 1, { (Tests.flowing 9 4).set FC.W0_TYPE 10 8 with flow := { (Tests.flowing 9 4).flow with held := [(8, 7)] } }, _, ?_, rfl, ?_,
      ?_, ?_⟩,
    ⟨8, { src := 7, ts := 0, packets := [] }, { (Tests.flowing 9 4).set FC.W0_TYPE 10 8 with flow := { (Tests.flowing 9 4).flow with takes
      := [(8, { src := 7, ts := 0, packets := [] })] } }, ?_, ?_, ?_, ?_⟩,
    ⟨8, { src := 7, ts := 0, packets := [Tests.datagram] }, { (Tests.flowing 9 4).set FC.W0_TYPE 10 8 with flow := { (Tests.flowing 9
      4).flow with takes := [(8, { src := 7, ts := 0, packets := [Tests.datagram] })] } }, ?_, ?_, ?_⟩⟩
    <;> first | with_reducible rfl | decide +kernel

theorem witness_EthernetPorts :
    (∃ (p : Fin 96) (r : Report) (s : State), s.flow.reports.find? (fun x => x.group.port = p.val && x.due) = some r) ∧
    (∃ (p : Fin 96) (r : Report) (s : State), s.flow.reports.find? (fun x => x.group.port = p.val && !x.due) = some r ∧ 1 < r.repeats) ∧
    (∃ (p : Fin 96) (s : State), s.flow.queries.contains p.val = true) ∧
    (∃ (q : Fin 24) (n : Fin 4) (f : EthFrame) (s : State), s.portEnabled q n = true ∧ s.get QUAD.QUAD_CFG_Q100 q = 0
      ∧ f.fecUncorrectable = false ∧ f.fcsOk = false) ∧
    (∃ (q : Fin 24) (n : Fin 4) (e : Nat) (f : EthFrame) (s : State), s.portEnabled q n = true ∧ s.get QUAD.QUAD_CFG_Q100 q = 0
      ∧ f.fecUncorrectable = false ∧ f.fcsOk = true ∧ f.bytes ≤ s.get ETH.PORT_CFG_MAX_FRAME q n ∧ f.kind = .other e
      ∧ (List.range 64).find? (fun k => s.filterHits (4 * q.val + n.val) f k) = none) ∧
    (∃ (q : Fin 24) (n : Fin 4) (s : State), s.portEnabled q n = true ∧ s.get QUAD.QUAD_CFG_Q100 q = 0
      ∧ s.get ETH.PORT_STAT_LINK_UP q n = 0) ∧
    (∃ (m : Fin 7) (q : Fin 16) (v : Word) (d : HostDesc) (s t0 : State), s.takesWrite m .flow 3 (0x240 + 0x20 * q.val + 0x10) v.toNat
      ∧ t0 = s.writePlain m .flow 3 (0x240 + 0x20 * q.val + 0x10) v.toNat ∧ t0.get FLOW.FE_CTL_HOST_EN = 1 ∧ t0.get FLOW.HQ_TX_EN 3 q = 1
      ∧ t0.get BUSMATRIX.PCIE_STAT_LINK_UP = 1 ∧ t0.get FLOW.HQ_TX_HEAD 3 q ≠ t0.get FLOW.HQ_TX_TAIL 3 q ∧ d.own = true) := by
  refine
    ⟨⟨4, Tests.report, Tests.reporting Tests.report, ?_⟩,
    ⟨4, { Tests.report with due := false, repeats := 2 }, Tests.reporting { Tests.report with due := false, repeats := 2 }, ?_, ?_⟩,
    ⟨4, { Tests.up with flow := { Tests.up.flow with queries := [4] } }, ?_⟩,
    ⟨0, 0, { Tests.frame with fcsOk := false }, Tests.ported, ?_, ?_, ?_, ?_⟩,
    ⟨0, 0, 0x88B5, Tests.frame, Tests.ported, ?_, ?_, ?_, ?_, ?_, ?_, ?_⟩,
    ⟨0, 0, Tests.ported, ?_, ?_, ?_⟩,
    ⟨0, 1, 5, Tests.desc, ((Tests.up.set FLOW.FE_CTL_HOST_EN 1).set FLOW.HQ_TX_EN 1 3 1).set BUSMATRIX.PCIE_STAT_LINK_UP 1, _, ?_, rfl,
      ?_, ?_, ?_, ?_, ?_⟩⟩
    <;> first | with_reducible rfl | decide +kernel

theorem witness_AudioCrosspoints :
    (∃ (m : Fin 7) (v : Word) (s t0 : State), s.takesWrite m .audio 0 0x060 v.toNat ∧ t0 = s.writePlain m .audio 0 0x060 v.toNat
      ∧ bitOf v.toNat 31 = true ∧ bitOf v.toNat 24 = false ∧ t0.get AUDIO.XP_RESP_BUSY = 0 ∧ t0.gate .audio 0 = 0
      ∧ (t0.xpOne (t0.xpRead m v.toNat)).1 = 0) ∧
    (∃ (m : Fin 7) (v : Word) (s t0 : State), s.takesWrite m .audio 0 0x060 v.toNat ∧ t0 = s.writePlain m .audio 0 0x060 v.toNat
      ∧ bitOf v.toNat 31 = true ∧ bitOf v.toNat 24 = false ∧ t0.get AUDIO.XP_RESP_BUSY = 0 ∧ t0.gate .audio 0 = 0 ∧ t0.audioCode = 0
      ∧ t0.xpForm (t0.xpRead m v.toNat) = 0 ∧ (t0.xpDecide (t0.xpRead m v.toNat) (t0.xpRead m v.toNat).targets).1 = 0
      ∧ (t0.xpDecide (t0.xpRead m v.toNat) (t0.xpRead m v.toNat).targets).2.audio = t0.audio) ∧
    (∃ (m : Fin 7) (v : Word) (s t0 : State), s.takesWrite m .audio 0 0x060 v.toNat ∧ t0 = s.writePlain m .audio 0 0x060 v.toNat
      ∧ bitOf v.toNat 31 = true ∧ bitOf v.toNat 24 = true ∧ t0.get AUDIO.XP_RESP_BUSY = 0 ∧ t0.audio.held.length < 4096) ∧
    (∃ (m : Fin 7) (v : Word) (s t0 : State), s.takesWrite m .audio 0 0x064 v.toNat ∧ t0 = s.writePlain m .audio 0 0x064 v.toNat
      ∧ bitOf v.toNat 0 = true ∧ t0.gate .audio 0 = 0 ∧ (t0.xpHeld 0 t0.audio.held).1 = 0) ∧
    (∃ (m : Fin 7) (v : Word) (s : State), s.takesWrite m .audio 0 0x064 v.toNat ∧ bitOf v.toNat 1 = true) := by
  refine
    ⟨⟨0, 0x80000005, (Tests.up.set (HDR.STATE .audio) uRUN 0 0), _, ?_, rfl, ?_, ?_, ?_, ?_, ?_⟩,
    ⟨0, 0x80000005, (Tests.up.set (HDR.STATE .audio) uRUN 0 0).set AUDIO.XP_IMG_WORD 0x8003 0 0, _, ?_, rfl, ?_, ?_, ?_, ?_, ?_, ?_, ?_,
      ?_⟩,
    ⟨0, 0x81000005, Tests.up, _, ?_, rfl, ?_, ?_, ?_, ?_⟩,
    ⟨0, 1, Tests.up.set (HDR.STATE .audio) uRUN 0 0, _, ?_, rfl, ?_, ?_, ?_⟩,
    ⟨0, 2, Tests.up, ?_, ?_⟩⟩
    <;> first | with_reducible rfl | decide +kernel

theorem witness_AudioProcessing_1 :
    (∃ (ch : Fin 32768) (w : Nat × Nat × Nat) (s : State), (s.chan ch).waiting = some w) ∧
    (∃ (pair : Fin 16384) (s : State), s.get ASTAT.SRC_NONPCM (2 * pair.val) = 1) ∧
    (∃ (ch : Fin 32768) (n : Nat) (s : State), NTable.find s.audio.poolWait ch = some n) ∧
    (∃ (m : Fin 7) (v : Word) (k : Nat) (s t0 : State), s.takesWrite m .audio 1 0x044 v.toNat ∧ t0 = s.writePlain m .audio 1 0x044 v.toNat
      ∧ bitOf v.toNat 31 = true ∧ bitsOf v.toNat 8 2 = 1 ∧ t0.get AUDIO.SRU_RESP_BUSY 1 = 0 ∧ t0.gate .audio 1 = 0 ∧ t0.audioCode = 0
      ∧ (List.range 256).find? (fun x => !t0.sruUsed x) = some k ∧ t0.sruImg.code = 0) ∧
    (∃ (m : Fin 7) (v : Word) (s t0 : State), s.takesWrite m .audio 1 0x044 v.toNat ∧ t0 = s.writePlain m .audio 1 0x044 v.toNat
      ∧ bitOf v.toNat 31 = true ∧ bitsOf v.toNat 8 2 = 2 ∧ t0.get AUDIO.SRU_RESP_BUSY 1 = 0 ∧ t0.gate .audio 1 = 0 ∧ t0.audioCode = 0
      ∧ t0.sruUsed (bitsOf v.toNat 0 8) = true ∧ t0.sruImg.code = 0 ∧ t0.get AUDIO.SRU_IMG_VALID 1 = 1) ∧
    (∃ (m : Fin 7) (v : Word) (s t0 : State), s.takesWrite m .audio 1 0x044 v.toNat ∧ t0 = s.writePlain m .audio 1 0x044 v.toNat
      ∧ bitOf v.toNat 31 = true ∧ bitsOf v.toNat 8 2 = 3 ∧ t0.get AUDIO.SRU_RESP_BUSY 1 = 0 ∧ t0.gate .audio 1 = 0 ∧ t0.audioCode = 0
      ∧ t0.sruUsed (bitsOf v.toNat 0 8) = true ∧ t0.sruRead (bitsOf v.toNat 0 8) = false) ∧
    (∃ (k : Fin 256) (s : State), s.get AUDIO.SRU_STATE (sruInst k) (sruIdx k) = 1) ∧
    (∃ (k : Fin 256) (s : State), s.get AUDIO.SRU_STATE (sruInst k) (sruIdx k) = 2) := by
  refine
    ⟨⟨40, (0, 0, 0), (Tests.up.setChan 40 { Chan.idle with waiting := some (0, 0, 0) }), ?_⟩,
    ⟨9, Tests.up.set ASTAT.SRC_NONPCM 1 18, ?_⟩,
    ⟨40, 1000, { Tests.up with audio := { Tests.up.audio with poolWait := [(40, 1000)] } }, ?_⟩,
    ⟨0, 0x80000100, 0, (((Tests.up.set (HDR.STATE .audio) uRUN 0 0).set AUDIO.SRU_IMG_MODE 1 1).set AUDIO.SRU_IMG_VALID 1 1).set
      AUDIO.SRU_IMG_NCH 7 1, _, ?_, rfl, ?_, ?_, ?_, ?_, ?_, ?_, ?_⟩,
    ⟨0, 0x80000203, (((Tests.up.set (HDR.STATE .audio) uRUN 0 0).set AUDIO.SRU_IMG_MODE 1 1).set AUDIO.SRU_IMG_VALID 1 1).set
      AUDIO.SRU_MODE 1 2 3, _, ?_, rfl, ?_, ?_, ?_, ?_, ?_, ?_, ?_, ?_⟩,
    ⟨0, 0x80000303, ((Tests.up.set (HDR.STATE .audio) uRUN 0 0)).set AUDIO.SRU_MODE 1 2 3, _, ?_, rfl, ?_, ?_, ?_, ?_, ?_, ?_, ?_⟩,
    ⟨3, Tests.up.set AUDIO.SRU_STATE 1 2 3, ?_⟩,
    ⟨3, Tests.up.set AUDIO.SRU_STATE 2 2 3, ?_⟩⟩
    <;> first | with_reducible rfl | decide +kernel

theorem witness_AudioProcessing_2 :
    (∃ (m : Fin 7) (v : Word) (f : Nat) (s t0 : State), s.takesWrite m .audio 4 0x040 v.toNat ∧ t0 = s.writePlain m .audio 4 0x040 v.toNat
      ∧ bitOf v.toNat 31 = true ∧ t0.get AUDIO.MIX_RESP_BUSY 4 = 0 ∧ t0.gate .audio 4 = 0 ∧ t0.audioCode = 0 ∧ bitsOf v.toNat 16 7 ≠ 0
      ∧ bitsOf v.toNat 16 7 ≤ 64 ∧ t0.mixRun (bitsOf v.toNat 0 9) (bitsOf v.toNat 16 7) = some f ∧ f < 8192) ∧
    (∃ (m : Fin 7) (v : Word) (s t0 : State), s.takesWrite m .audio 4 0x048 v.toNat ∧ t0 = s.writePlain m .audio 4 0x048 v.toNat
      ∧ bitOf v.toNat 0 = true ∧ t0.gate .audio 4 = 0 ∧ t0.audioCode = 0 ∧ t0.mixCode = 0) ∧
    (∃ (k : Fin 64) (s : State), s.get AUDIO.LM_EN 6 k = 1) ∧
    (∃ (m : Fin 7) (k : Fin 64) (v : Word) (s : State), s.takesWrite m .audio 6 (0x408 + 0x20 * k.val) v.toNat ∧ bitOf v.toNat 0 = true) ∧
    (∃ (ch : Fin 32768) (s : State), s.get ASTAT.SRC_SILENT ch = 0) ∧
    (∃ (half : Bool) (s : State), s.get (HDR.STATE .audio) 0 (flag half) = uRUN ∧ s.get (HDR.STATE .audio) 0 (1 - flag half) = uRUN
      ∧ s.get REPAIR.CFG_AUTO = 0 ∧ s.get AUDIO.ENG_STAT_SEL = flag half) := by
  refine
    ⟨⟨0, 0x80080003, 0, Tests.up.set (HDR.STATE .audio) uRUN 0 0, _, ?_, rfl, ?_, ?_, ?_, ?_, ?_, ?_, ?_, ?_⟩,
    ⟨0, 1, Tests.up.set (HDR.STATE .audio) uRUN 0 0, _, ?_, rfl, ?_, ?_, ?_, ?_⟩,
    ⟨3, Tests.up.set AUDIO.LM_EN 1 6 3, ?_⟩,
    ⟨0, 3, 1, Tests.up, ?_, ?_⟩,
    ⟨40, Tests.up, ?_⟩,
    ⟨false, (((Tests.up.set (HDR.STATE .audio) uRUN 0 0).set (HDR.STATE .audio) uRUN 0 1).set REPAIR.CFG_AUTO 0), ?_, ?_, ?_, ?_⟩⟩
    <;> first | with_reducible rfl | decide +kernel

theorem witness_SerialAudioPorts :
    (∃ (p : Fin 16) (tx : Bool) (s : State), s.ap p tx = apFADE) ∧
    (∃ (p : Fin 16) (tx : Bool) (s : State), s.ap p tx = apHOLD ∧ s.get APORT.HID_CLEAN p (flag tx) = 16) ∧
    (∃ (p : Fin 16) (tx : Bool) (s : State), s.ap p tx = apRAMP) ∧
    (∃ (p : Fin 16) (s : State), s.ap p true = apSTOP ∧ s.get APORT.PORT_CFG_TX_EN p = 0) ∧
    (∃ (p : Fin 16) (s : State), s.get APORT.PORT_STAT_CLK_OK p = 1 ∧ s.ap p false = apRUN) ∧
    (∃ (p : Fin 16) (tx : Bool) (c : Fin 32) (s : State), bitOf (s.get APORT.HID_WAIT p (flag tx)) c = true) ∧
    (∃ (p : Fin 16) (s : State), s.get APORT.PORT_CFG_SYNC_DECL p = 1 ∧ s.get APORT.HID_SYNC p = 0) ∧
    (∃ (p : Fin 16) (s : State), s.get APORT.PORT_CFG_SYNC_DECL p = 1 ∧ s.get APORT.HID_SYNC p = 1) ∧
    (∃ (p : Fin 16) (s : State), s.ap p false ≠ apOFF ∧ s.unit ⟨.aport, p, 0⟩ = uRUN) ∧
    (∃ (p : Fin 16) (s : State), s.ap p true ≠ apOFF ∧ s.unit ⟨.aport, p, 0⟩ = uRUN ∧ s.get APORT.PORT_CFG_MODE p ≠ 3) ∧
    (∃ (s : State), s.domUp 18 = true) := by
  refine
    ⟨⟨3, true, Tests.up.set APORT.PORT_STAT_TX_STATE apFADE 3, ?_⟩,
    ⟨3, true, (Tests.up.set APORT.PORT_STAT_TX_STATE apHOLD 3).set APORT.HID_CLEAN 16 3 1, ?_, ?_⟩,
    ⟨3, true, (Tests.up.set APORT.PORT_STAT_TX_STATE apRAMP 3), ?_⟩,
    ⟨3, (Tests.up.set APORT.PORT_STAT_TX_STATE apSTOP 3), ?_, ?_⟩,
    ⟨3, ((Tests.up.set APORT.PORT_STAT_CLK_OK 1 3).set APORT.PORT_STAT_RX_STATE apRUN 3).set APORT.PORT_CFG_MODE 1 3, ?_, ?_⟩,
    ⟨3, true, 6, Tests.up.set APORT.HID_WAIT 64 3 1, ?_⟩,
    ⟨3, Tests.up.set APORT.PORT_CFG_SYNC_DECL 1 3, ?_, ?_⟩,
    ⟨3, (Tests.up.set APORT.PORT_CFG_SYNC_DECL 1 3).set APORT.HID_SYNC 1 3, ?_, ?_⟩,
    ⟨3, (Tests.up.set APORT.PORT_STAT_RX_STATE apHOLD 3).set (HDR.STATE .aport) uRUN 3, ?_, ?_⟩,
    ⟨3, ((Tests.up.set APORT.PORT_STAT_TX_STATE apHOLD 3).set (HDR.STATE .aport) uRUN 3).set APORT.PORT_CFG_MODE 1 3, ?_, ?_, ?_⟩,
    ⟨Tests.up, ?_⟩⟩
    <;> first | with_reducible rfl | decide +kernel

theorem witness_PortGroups :
    (∃ (m : Fin 7) (g : Fin 8) (v : Word) (s : State), s.takesWrite m .aport 0 (0x200 + 4 * g.val) v.toNat ∧ bitOf v.toNat 16 = true) ∧
    (∃ (m : Fin 7) (g : Fin 8) (v : Word) (s : State), s.takesWrite m .aport 0 (0x200 + 4 * g.val) v.toNat ∧ bitOf v.toNat 17 = true) ∧
    (∃ (m : Fin 7) (g : Fin 8) (v : Word) (s t0 : State), s.takesWrite m .aport 0 (0x200 + 4 * g.val) v.toNat
      ∧ t0 = s.writePlain m .aport 0 (0x200 + 4 * g.val) v.toNat ∧ bitOf v.toNat 18 = true ∧ t0.get APORT.GRP_CTL_TRIG 0 g = 0
      ∧ t0.get APORT.GRP_CTL_ARMED 0 g = 1 ∧ t0.get APORT.GRP_CTL_RUNNING 0 g = 0) ∧
    (∃ (g : Nat) (s : State), (List.range 8).filter (fun k => s.get APORT.GRP_CTL_TRIG 0 k = 1) = [g] ∧ s.get APORT.GRP_CTL_ARMED 0 g = 1
      ∧ s.get APORT.GRP_CTL_RUNNING 0 g = 0) ∧
    (∃ (g : Fin 8) (s : State), s.get APORT.HID_TRIGGERED 0 g = 1 ∧ s.get APORT.GRP_CTL_ARMED 0 g = 1) := by
  refine
    ⟨⟨0, 2, 0x10000, Tests.up, ?_, ?_⟩,
    ⟨0, 2, 0x20000, Tests.up.set APORT.GRP_CTL_ARMED 1 0 2, ?_, ?_⟩,
    ⟨0, 2, 0x40000, Tests.up.set APORT.GRP_CTL_ARMED 1 0 2, _, ?_, rfl, ?_, ?_, ?_, ?_⟩,
    ⟨2, (Tests.up.set APORT.GRP_CTL_TRIG 1 0 2).set APORT.GRP_CTL_ARMED 1 0 2, ?_, ?_, ?_⟩,
    ⟨2, (Tests.up.set APORT.HID_TRIGGERED 1 0 2).set APORT.GRP_CTL_ARMED 1 0 2, ?_, ?_⟩⟩
    <;> first | with_reducible rfl | decide +kernel

theorem witness_MeshLinks :
    (∃ (n : Fin 8) (s : State), s.link n = lkDETECT) ∧
    (∃ (n : Fin 8) (s : State), s.link n = lkTRAIN) ∧
    (∃ (n : Fin 8) (s : State), s.link n = lkAUTH ∧ s.get MESHCTL.STAT_PAIRED = 1 ∧ s.get KEYS.LC_STAT_SEALED = 0) ∧
    (∃ (n : Fin 8) (s : State), s.link n = lkUP) ∧
    (∃ (n : Fin 8) (s : State), s.link n = lkUP ∧ s.get MESH.HID_STALE n = 1) ∧
    (∃ (n : Fin 8) (s : State), s.link n = lkDOWN) ∧
    (∃ (n : Fin 8) (s : State), s.link n = lkUP) := by
  refine
    ⟨⟨2, Tests.linked lkDETECT, ?_⟩,
    ⟨2, Tests.linked lkTRAIN, ?_⟩,
    ⟨2, (Tests.linked lkAUTH).set KEYS.LC_STAT_SEALED 0, ?_, ?_, ?_⟩,
    ⟨2, Tests.linked lkUP, ?_⟩,
    ⟨2, (Tests.linked lkUP).set MESH.HID_STALE 1 2, ?_, ?_⟩,
    ⟨2, Tests.linked lkDOWN, ?_⟩,
    ⟨2, (Tests.linked lkUP).set MESH.HID_STALE 1 2, ?_⟩⟩
    <;> first | with_reducible rfl | decide +kernel

theorem witness_FormationMembership_1 :
    (∃ (n : Fin 8) (s : State), s.link n = lkUP ∧ s.get MESHCTL.CFG_FORM_EN = 1) ∧
    (∃ (mem : Fin 8) (s : State), bitOf (s.get MESHCTL.STAT_MEMBERS) mem = true ∧ mem.val ≠ s.selfId ∧ s.seen mem = false) ∧
    (∃ (m : Fin 7) (v : Word) (s t0 : State), s.takesWrite m .meshctl 0 0x080 v.toNat ∧ t0 = s.writePlain m .meshctl 0 0x080 v.toNat
      ∧ bitOf v.toNat 8 = true ∧ t0.get MESHCTL.PAIR_BUSY = 0 ∧ t0.pairCode = 0 ∧ t0.link (t0.get MESHCTL.PAIR_LINK) = lkDOWN) ∧
    (∃ (n : Fin 8) (s : State), s.get MESHCTL.PAIR_BUSY = 1 ∧ s.get MESHCTL.PAIR_LINK = n.val) ∧
    (∃ (n : Fin 8) (s : State), s.link n ≠ lkOFF ∧ s.link n ≠ lkUP ∧ s.get MESHCTL.STAT_PAIRED = 0 ∧ s.get KEYS.LC_STAT_STATE = 1
      ∧ s.get KEYS.LC_STAT_TAMPER_HOLD = 0) ∧
    (∃ (f : FormPart) (slot mem : Nat) (b : Bool) (s : State), s.gate .route 0 = 0 ∧ f.kind = .source slot mem b ∧ f.all = true
      ∧ (s.sourcePart f.asker slot mem b).1 = 0) ∧
    (∃ (m : Fin 7) (v : Word) (s t0 : State), s.takesWrite m .meshctl 0 0x088 v.toNat ∧ t0 = s.writePlain m .meshctl 0 0x088 v.toNat
      ∧ bitOf v.toNat 0 = true ∧ t0.gate .meshctl 0 = 0 ∧ t0.member = msMEMBER) ∧
    (∃ (m : Fin 7) (v : Word) (s t0 : State), s.takesWrite m .meshctl 0 0x088 v.toNat ∧ t0 = s.writePlain m .meshctl 0 0x088 v.toNat
      ∧ bitOf v.toNat 1 = true ∧ t0.member = msMEMBER) ∧
    (∃ (s : State), s.member = msLEAVING ∧ s.get MESHCTL.HID_SENT = 0 ∧ s.channelsInUse = false) ∧
    (∃ (mem : Fin 8) (s : State), mem.val = s.selfId ∧ s.member = msLEAVING ∧ s.get MESHCTL.HID_SENT = 1 ∧ s.video.timed = []) := by
  refine
    ⟨⟨2, Tests.formed, ?_, ?_⟩,
    ⟨4, Tests.formed.set MESHCTL.STAT_MEMBERS 0x13, ?_, ?_, ?_⟩,
    ⟨0, 0x102, Tests.linked lkDOWN, _, ?_, rfl, ?_, ?_, ?_, ?_⟩,
    ⟨2, ((Tests.linked lkDOWN).set MESHCTL.PAIR_BUSY 1).set MESHCTL.PAIR_LINK 2, ?_, ?_⟩,
    ⟨2, ((Tests.linked lkDOWN).set MESHCTL.STAT_PAIRED 0).set KEYS.LC_STAT_STATE 1, ?_, ?_, ?_, ?_, ?_⟩,
    ⟨{ asker := 0, kind := .source 228 1 false, all := true, timed := none }, 228, 1, false, Tests.formed, ?_, ?_, ?_, ?_⟩,
    ⟨0, 1, Tests.formed, _, ?_, rfl, ?_, ?_, ?_⟩,
    ⟨0, 2, Tests.formed, _, ?_, rfl, ?_, ?_⟩,
    ⟨Tests.formed.set MESHCTL.STAT_STATE msLEAVING, ?_, ?_, ?_⟩,
    ⟨1, (Tests.formed.set MESHCTL.STAT_STATE msLEAVING).set MESHCTL.HID_SENT 1, ?_, ?_, ?_, ?_⟩⟩
    <;> first | with_reducible rfl | decide +kernel

theorem witness_FormationMembership_2 :
    (∃ (m : Fin 7) (v : Word) (s t0 : State), s.takesWrite m .meshctl 0 0x098 v.toNat ∧ t0 = s.writePlain m .meshctl 0 0x098 v.toNat
      ∧ bitOf v.toNat 8 = true ∧ t0.raCode (t0.get MESHCTL.RA_CTL_MEMBER) = 0) ∧
    (∃ (s : State), s.get MESHCTL.HID_RA = 1 ∧ s.get MESHCTL.RA_CTL_WRITE = 0) := by
  refine
    ⟨⟨0, 0x100, Tests.formed, _, ?_, rfl, ?_, ?_⟩,
    ⟨Tests.formed.set MESHCTL.HID_RA 1, ?_, ?_⟩⟩
    <;> first | with_reducible rfl | decide +kernel

theorem witness_Supervisor :
    (∃ (s : State), s.sup 0 = suACTIVE) ∧
    (∃ (s : State), s.sup 1 = suSTANDBY) ∧
    (∃ (who : Fin 2) (cause : Fin 16) (s : State), s.sup who = suSTANDBY ∧ s.flywheel = false ∧ s.get SUPERVISOR.HID_TAKE = 0 ∧ cause = 1) ∧
    (∃ (k : Fin 2) (s : State), s.get SUPERVISOR.HID_TAKE = k + 1) ∧
    (∃ (k : Nat) (s : State), s.restoring = some k ∧ s.domUp (23 + k) = true ∧ (s.recentIsolations (supUnit k)).length < s.retireLimit) ∧
    (∃ (k : Nat) (s : State), s.restoring = some k ∧ s.domUp (23 + k) = true) ∧
    (∃ (s : State), s.sup 1 = suSTANDBY) ∧
    (∃ (m : Fin 7) (s t0 : State), s.takesWrite m .supervisor 0 0x04C 1 ∧ t0 = s.writePlain m .supervisor 0 0x04C 1
      ∧ t0.get SUPERVISOR.JOURNAL_IN_SYNC = 1 ∧ t0.get SUPERVISOR.STAT_ACTIVE = 0) ∧
    (∃ (s : State), s.flywheel = true ∧ s.get SUPERVISOR.HID_HOLD = 0 ∧ s.attempting = none ∧ s.sup 0 = suFAILED ∧ s.domUp 23 = true) ∧
    (∃ (s : State), s.flywheel = true ∧ s.attempting = some 1 ∧ 3 ≤ s.get SUPERVISOR.STAT_ATTEMPT) ∧
    (∃ (m : Fin 7) (s t0 : State), s.takesWrite m .supervisor 0 0x04C 2 ∧ t0 = s.writePlain m .supervisor 0 0x04C 2 ∧ t0.flywheel = true) ∧
    (∃ (m : Fin 7) (s t0 : State), s.takesWrite m .supervisor 0 0x04C 4 ∧ t0 = s.writePlain m .supervisor 0 0x04C 4
      ∧ t0.get SUPERVISOR.HID_TAKE = 0 ∧ t0.sup 0 ≠ suSTANDBY ∧ t0.sup 1 = suSTANDBY) := by
  refine
    ⟨⟨Tests.up.set SUPERVISOR.STAT_PHOBOS suACTIVE, ?_⟩,
    ⟨Tests.up.set SUPERVISOR.STAT_DEIMOS suSTANDBY, ?_⟩,
    ⟨1, 1, (Tests.up.set SUPERVISOR.STAT_DEIMOS suSTANDBY).set SUPERVISOR.HID_FLY 0, ?_, ?_, ?_, ?_⟩,
    ⟨1, ((Tests.up.set SUPERVISOR.STAT_PHOBOS suFAILED).set SUPERVISOR.STAT_DEIMOS suSTANDBY).set SUPERVISOR.HID_TAKE 2, ?_⟩,
    ⟨1, (Tests.up.set SUPERVISOR.STAT_PHOBOS suACTIVE).set SUPERVISOR.STAT_DEIMOS suFAILED, ?_, ?_, ?_⟩,
    ⟨1, (Tests.up.set SUPERVISOR.STAT_PHOBOS suACTIVE).set SUPERVISOR.STAT_DEIMOS suFAILED, ?_, ?_⟩,
    ⟨(Tests.up.set SUPERVISOR.STAT_DEIMOS suSTANDBY).set SUPERVISOR.JOURNAL_LAG 65, ?_⟩,
    ⟨0, ((Tests.up.set SUPERVISOR.STAT_PHOBOS suACTIVE).set SUPERVISOR.STAT_DEIMOS suSTANDBY).set SUPERVISOR.JOURNAL_IN_SYNC 1, _, ?_,
      rfl, ?_, ?_⟩,
    ⟨(((Tests.up.set SUPERVISOR.HID_FLY 1).set SUPERVISOR.STAT_PHOBOS suFAILED).set SUPERVISOR.STAT_DEIMOS suFAILED).set
      SUPERVISOR.STAT_ATTEMPT 1, ?_, ?_, ?_, ?_, ?_⟩,
    ⟨(((Tests.up.set SUPERVISOR.HID_FLY 1).set SUPERVISOR.STAT_PHOBOS suFAILED).set SUPERVISOR.STAT_DEIMOS suBOOT).set
      SUPERVISOR.STAT_ATTEMPT 3, ?_, ?_, ?_⟩,
    ⟨0, (Tests.up.set SUPERVISOR.HID_FLY 1).set SUPERVISOR.HID_HOLD 1, _, ?_, rfl, ?_⟩,
    ⟨0, (Tests.up.set SUPERVISOR.STAT_PHOBOS suACTIVE).set SUPERVISOR.STAT_DEIMOS suSTANDBY, _, ?_, rfl, ?_, ?_, ?_⟩⟩
    <;> first | with_reducible rfl | decide +kernel

theorem witness_AvailabilityAndRestoration :
    (∃ (m : Fin 7) (v : Word) (s : State), s.takesWrite m .repair 0 0x07C v.toNat ∧ bitOf v.toNat 31 = true ∧ bitsOf v.toNat 0 8 < 192) ∧
    (∃ (m : Fin 7) (v : Word) (s : State), s.takesWrite m .repair 0 0x07C v.toNat ∧ bitOf v.toNat 30 = true) ∧
    (∃ (s : State), s.mayRestore = true) := by
  refine
    ⟨⟨0, 0x80000005, Tests.up.set REPAIR.FRAMES_COUNT 9 0 5, ?_, ?_, ?_⟩,
    ⟨0, 0x40000000, Tests.up.set REPAIR.FRAMES_COUNT 9 0 5, ?_, ?_⟩,
    ⟨Tests.routed 5 { Tests.path with w0 := 0x80010003 }, ?_⟩⟩
    <;> first | with_reducible rfl | decide +kernel

theorem witness_CommitsAndDiscards :
    (∃ (m : Fin 7) (p : Page) (i : Nat) (s : State), i < p.instances ∧ p.code < 0x80 ∧ s.takesWrite m p i 0x008 0
      ∧ s.domUp (p.domain i) = true) ∧
    (∃ (m : Fin 7) (s : State), s.takesWrite m .syncmgr 0 0x008 0 ∧ s.domUp (Page.syncmgr.domain 0) = true) ∧
    (∃ (p : Page) (i : Nat) (c : PendingCommit) (s : State), s.pendingOf p i = some c ∧ c.group = 0 ∧ s.commitReady p i = true) ∧
    (∃ (m : Fin 7) (v : Word) (s : State), s.takesWrite m .busmatrix 0 0x060 v.toNat) ∧
    (∃ (m : Fin 7) (p : Page) (i : Nat) (v : Word) (s : State), i < p.instances ∧ p.code < 0x80 ∧ s.takesWrite m p i 0x020 v.toNat
      ∧ bitOf v.toNat 1 = true) ∧
    (∃ (m : Fin 7) (v : Word) (s t0 : State), s.takesWrite m .power 0 0x040 v.toNat ∧ t0 = s.writePlain m .power 0 0x040 v.toNat) ∧
    (∃ (k : Fin 2) (s : State), s.get LEDGER.STAT_REBUILDING = 1 ∧ s.get SUPERVISOR.HID_REBUILDER = k + 1 ∧ s.commits = []
      ∧ s.flywheel = true) := by
  refine
    ⟨⟨0, .vin, 5, Tests.up, ?_, ?_, ?_, ?_⟩,
    ⟨0, Tests.up, ?_, ?_⟩,
    ⟨.vout, 5, { page := .vout, inst := 5, master := 0, group := 0, values := [] }, { (Tests.up.set (HDR.STATE .vout) uRUN 5) with commits
      := [{ page := .vout, inst := 5, master := 0, group := 0, values := [] }] }, ?_, ?_, ?_⟩,
    ⟨0, 0x2, Tests.up, ?_⟩,
    ⟨0, .vin, 5, 2, Tests.up, ?_, ?_, ?_, ?_⟩,
    ⟨0, 5, Tests.up, _, ?_, rfl⟩,
    ⟨1, ((Tests.up.set SUPERVISOR.HID_REBUILDER 2).set LEDGER.STAT_REBUILDING 1).set SUPERVISOR.HID_FLY 1, ?_, ?_, ?_, ?_⟩⟩
    <;> first | with_reducible rfl | decide +kernel

theorem witness_ResetSources :
    (∃ (s : State), s.resetBit RESET.HID_SRC srcRESETN = false ∧ s.storeWriting = false) ∧
    (∃ (s : State), s.get RESET.HID_DEFER ≠ 2 ∧ s.resetBit RESET.HID_SRC srcRESETN = true) ∧
    (∃ (s : State), s.get RESET.HID_DEFER ≠ 0) ∧
    (∃ (s : State), s.resetBit RESET.HID_SRC srcCOLD = false) ∧
    (∃ (s : State), s.resetBit RESET.HID_SRC srcCOLD = true) ∧
    (∃ (m : Fin 7) (v : Word) (s : State), s.takesWrite m .reset 0 0x048 v.toNat ∧ bitOf v.toNat 0 = true ∧ bitsOf v.toNat 16 16 = lockKey
      ∧ s.storeWriting = false) ∧
    (∃ (m : Fin 7) (v : Word) (s : State), s.takesWrite m .reset 0 0x048 v.toNat ∧ bitOf v.toNat 1 = true ∧ bitsOf v.toNat 16 16 = lockKey
      ∧ s.storeWriting = false) ∧
    (∃ (s : State), s.get RESET.HID_CTLTEST = 1 ∧ s.domUp 25 = true ∧ s.get RESET.HID_CTLFAILS < 2) := by
  refine
    ⟨⟨Tests.up, ?_, ?_⟩,
    ⟨Tests.up.set RESET.HID_SRC (2 ^ srcRESETN), ?_, ?_⟩,
    ⟨Tests.up.set RESET.HID_DEFER 5, ?_⟩,
    ⟨Tests.up, ?_⟩,
    ⟨State.reset, ?_⟩,
    ⟨0, 0x0A550001, Tests.up, ?_, ?_, ?_, ?_⟩,
    ⟨0, 0x0A550002, Tests.up, ?_, ?_, ?_, ?_⟩,
    ⟨(Tests.up.set RESET.HID_CTLTEST 1).set RESET.HID_CTLFAILS 1, ?_, ?_, ?_⟩⟩
    <;> first | with_reducible rfl | decide +kernel

theorem witness_DomainSequence :
    (∃ (m : Fin 7) (v : Word) (news : Nat) (s t0 : State), s.takesWrite m .reset 0 0x04C v.toNat
      ∧ t0 = s.writePlain m .reset 0 0x04C v.toNat ∧ maskOff (bitsOf v.toNat 0 22) (s.get RESET.DOM_HOLD_MASK) = news ∧ news ≠ 0) ∧
    (∃ (m : Fin 7) (v : Word) (s : State), s.takesWrite m .reset 0 0x050 v.toNat ∧ bitsOf v.toNat 0 22 ≠ 0 ∧ s.pulseCause m = 9) ∧
    (∃ (l : List Nat) (s t0 : State), releaseSteps.find? (fun x => x.filter (fun d => s.resetBit RESET.HID_WAIT (d - 1)) ≠ []) = some l
      ∧ t0 = ((l.filter (fun d => s.resetBit RESET.HID_WAIT (d - 1))).foldl (fun t d => t.releaseDomain d) s).showHeld) ∧
    (∃ (d : Fin 25) (s : State), s.resetBit RESET.HID_PON d = true) ∧
    (∃ (s : State), s.get RESET.HID_LOADER = 1 ∧ s.loaderOff = false) ∧
    (∃ (s : State), s.get RESET.BKP_STAT_SHUT_REC = 1 ∧ s.domUp 25 = true ∧ s.writesPermitted = true) := by
  refine
    ⟨⟨0, 0x4, 4, Tests.up, _, ?_, rfl, ?_, ?_⟩,
    ⟨0, 0x4, Tests.up, ?_, ?_, ?_⟩,
    ⟨[9, 10, 11, 12], Tests.up.set RESET.HID_WAIT 0x200, _, ?_, rfl⟩,
    ⟨8, Tests.up.set RESET.HID_PON 0x100, ?_⟩,
    ⟨(Tests.up.set RESET.HID_LOADER 1).set RESET.BOOT_STAT_BOOTMODE 0, ?_, ?_⟩,
    ⟨Tests.up.set RESET.BKP_STAT_SHUT_REC 1, ?_, ?_, ?_⟩⟩
    <;> first | with_reducible rfl | decide +kernel

theorem witness_StandbyAndWaking :
    (∃ (m : Fin 7) (v : Word) (s t0 : State), s.takesWrite m .power 0 0x04C v.toNat ∧ t0 = s.writePlain m .power 0 0x04C v.toNat
      ∧ bitOf v.toNat 0 = true ∧ bitsOf v.toNat 16 16 = lockKey ∧ t0.get POWER.STBY_BUSY = 0) ∧
    (∃ (l : List Nat) (s t0 : State), s.stbyReady = true
      ∧ releaseSteps.reverse.find? (fun x => x.filter (fun d => d ≤ 25 && s.domPowered d) ≠ []) = some l
      ∧ t0 = (l.filter (fun d => d ≤ 25 && s.domPowered d)).foldl (fun t d => t.powerOff d) s
      ∧ (List.range 25).any (fun k => t0.domPowered (k + 1)) = true) ∧
    (∃ (s : State), s.stbyReady = true ∧ s.get POWER.DOM_STAT_POWERED = 0 ∧ s.get POWER.HID_WAKE = 0) ∧
    (∃ (s : State), s.get POWER.STBY_WAKE_PIN_EN = 1 ∧ s.resetBit RESET.HID_SRC srcSTBY = true) ∧
    (∃ (g : Fin 32) (s : State), bitOf (s.get POWER.WAKE_GPIO_MASK) g = true ∧ s.resetBit RESET.HID_SRC srcSTBY = true) ∧
    (∃ (n : Fin 8) (s : State), s.get POWER.STBY_LINK_WAKE_EN = 1 ∧ bitOf (s.get POWER.HID_LINKEN) n = true
      ∧ s.resetBit RESET.HID_SRC srcSTBY = true) := by
  refine
    ⟨⟨0, 0x0A550001, Tests.up, _, ?_, rfl, ?_, ?_, ?_⟩,
    ⟨[20, 21], Tests.up.set POWER.STBY_BUSY 1, _, ?_, ?_, rfl, ?_⟩,
    ⟨(Tests.up.set POWER.STBY_BUSY 1).set POWER.DOM_STAT_POWERED 0, ?_, ?_, ?_⟩,
    ⟨(Tests.up.set POWER.STBY_WAKE_PIN_EN 1).set RESET.HID_SRC (2 ^ srcSTBY), ?_, ?_⟩,
    ⟨9, (Tests.up.set POWER.WAKE_GPIO_MASK 0x200).set RESET.HID_SRC (2 ^ srcSTBY), ?_, ?_⟩,
    ⟨5, ((Tests.up.set POWER.STBY_LINK_WAKE_EN 1).set POWER.HID_LINKEN 0x20).set RESET.HID_SRC (2 ^ srcSTBY), ?_, ?_, ?_⟩⟩
    <;> first | with_reducible rfl | decide +kernel

theorem witness_KeysAndLifeCycle_1 :
    (∃ (s : State), s.domUp 25 = true ∧ s.get RESET.HID_LOADER = 0 ∧ s.loaderOff = true) ∧
    (∃ (s : State), s.booting = some 0 ∧ s.get KEYS.IMAGE_STAT_SLOT ≠ 0 ∧ s.get RESET.BOOT_STAT_BOOTMODE ≠ 4 ∧ s.domUp 25 = true) ∧
    (∃ (dest : Fin 4) (s : State), s.get KEYS.HID_LCREQ = dest + 1 ∧ s.lcReady dest = true) ∧
    (∃ (n : Fin 8) (s : State), s.slot n = skSTALE) ∧
    (∃ (s : State), s.lc = lcSERVICE) ∧
    (∃ (m : Fin 7) (v : Word) (s : State), s.takesWrite m .keys 0 0x0B8 v.toNat ∧ bitsOf v.toNat 16 16 = lockKey ∧ bitOf v.toNat 1 = true
      ∧ s.lc = lcSERVICE) ∧
    (∃ (m : Fin 7) (v : Word) (s : State), s.takesWrite m .keys 0 0x0B8 v.toNat ∧ bitsOf v.toNat 16 16 = lockKey ∧ bitOf v.toNat 0 = true
      ∧ s.get KEYS.IMAGE_STAT_SLOT ≠ 0) ∧
    (∃ (m : Fin 7) (v : Word) (s t0 : State), s.takesWrite m .keys 0 0x04C v.toNat ∧ t0 = s.writePlain m .keys 0 0x04C v.toNat
      ∧ bitOf v.toNat 31 = true ∧ bitsOf v.toNat 8 2 = 1 ∧ t0.get KEYS.RESP_BUSY = 0 ∧ t0.deriveCode (bitsOf v.toNat 0 6) = 0) ∧
    (∃ (m : Fin 7) (v : Word) (s t0 : State), s.takesWrite m .keys 0 0x04C v.toNat ∧ t0 = s.writePlain m .keys 0 0x04C v.toNat
      ∧ bitOf v.toNat 31 = true ∧ bitsOf v.toNat 8 2 = 2 ∧ t0.get KEYS.RESP_BUSY = 0 ∧ 16 ≤ bitsOf v.toNat 0 6 ∧ t0.sealedStore = false) ∧
    (∃ (s : State), s.get KEYS.TAMPER_CFG_PIN_EN = 1 ∧ s.domUp 25 = true) ∧
    (∃ (word : Nat) (s : State), s.domUp 25 = true ∧ keyWord word = true) := by
  refine
    ⟨⟨(Tests.keyed.set RESET.HID_LOADER 0).set RESET.BOOT_STAT_BOOTMODE 5, ?_, ?_, ?_⟩,
    ⟨((Tests.keyed.set SUPERVISOR.STAT_PHOBOS suBOOT).set KEYS.IMAGE_STAT_SLOT 1).set KEYS.HID_VER 0x030201, ?_, ?_, ?_, ?_⟩,
    ⟨2, Tests.keyed.set KEYS.HID_LCREQ 3, ?_, ?_⟩,
    ⟨2, Tests.keyed.set KEYS.SLOT_STAT_STATE skSTALE 0 2, ?_⟩,
    ⟨Tests.keyed.set KEYS.LC_STAT_STATE 2, ?_⟩,
    ⟨0, 0x0A550002, Tests.keyed.set KEYS.LC_STAT_STATE 2, ?_, ?_, ?_, ?_⟩,
    ⟨0, 0x0A550001, (Tests.keyed.set KEYS.IMAGE_STAT_SLOT 1).set KEYS.IMAGE_STAT_SVN 9, ?_, ?_, ?_, ?_⟩,
    ⟨0, 0x80000114, (Tests.keyed.set KEYS.REQ_IMG_LCMASK 2).putKey 66 9 |>.set KEYS.REQ_IMG_PARENT 66, _, ?_, rfl, ?_, ?_, ?_, ?_⟩,
    ⟨0, 0x80000214, Tests.keyed.set KEYS.SLOT_STAT_STATE skLIVE 0 20, _, ?_, rfl, ?_, ?_, ?_, ?_, ?_⟩,
    ⟨Tests.keyed, ?_, ?_⟩,
    ⟨475200, Tests.keyed, ?_, ?_⟩⟩
    <;> first | with_reducible rfl | decide +kernel

theorem witness_KeysAndLifeCycle_2 :
    ∃ (s : State), s.keys.rewrite = true ∧ s.domUp 25 = true ∧ s.writesPermitted = true ∧ s.sealedStore = false
      ∧ s.get NVM.STAT_STATE < nvMERGE := by
  refine
    ⟨{ Tests.keyed with keys := { Tests.keyed.keys with rewrite := true } }, ?_, ?_, ?_, ?_, ?_⟩
    <;> first | with_reducible rfl | decide +kernel

theorem witness_Thermal :
    (∃ (f : SensorFacts) (s t0 : State) (hot : Nat), t0 = (List.range 32).foldl (fun t k => t.showSensor f k) ((List.range 32).foldl (fun t k => t.watchSensor f k) s)
      ∧ hot = hotSensor (fun k => signedOf 16 (t0.get THERMAL.THS_TEMP 0 k)) ∧ signedOf 16 (t0.get THERMAL.THS_TEMP 0 hot) < 1180) ∧
    (∃ (k : Fin 32) (s : State), s.sensor k = thSUSPECT) ∧
    (∃ (m : Fin 7) (v : Word) (s : State), s.takesWrite m .thermal 0 0x054 v.toNat ∧ bitOf v.toNat 8 = true) ∧
    (∃ (k : Fin 32) (l : List (Int × Nat)) (s : State), NTable.find s.thermal.sums k = some l ∧ (sumsTotal l).2 ≠ 0) ∧
    (∃ (s : State), s.mayLower = true) ∧
    (∃ (s : State), 500 ≤ s.get THERMAL.HID_RISING ∧ s.get THERMAL.STAT_STAGE = 0) ∧
    (∃ (s : State), 3 ≤ s.get THERMAL.STAT_STAGE ∧ ¬ s.tctl + 5 ≤ s.thermal.lastTick) ∧
    (∃ (s : State), s.get THERMAL.STAT_STAGE < 3) ∧
    (∃ (pl : Nat) (s : State), [0, 1].find? (fun x => s.get FABRIC.HID_EMPTY x = 1) = some pl ∧ s.planeEmpty pl = true
      ∧ 4 ≤ s.get THERMAL.STAT_STAGE) ∧
    (∃ (mem : Fin 8) (s : State), 5 ≤ s.get THERMAL.STAT_STAGE ∧ s.get THERMAL.CFG_OFFLOAD_EN = 1 ∧ s.member = msMEMBER
      ∧ s.streamsFor mem ≠ []) ∧
    (∃ (s : State), s.resetBit RESET.HID_SRC srcSHUT = true ∧ s.get THERMAL.CFG_RESTART_EN = 1 ∧ s.get THERMAL.RESTART_LOCKOUT = 0
      ∧ s.tctl ≤ 10 * (s.get THERMAL.CFG_RESTART_TEMP : Int)) := by
  refine
    ⟨⟨Tests.sensors, Tests.up, _, _, rfl, rfl, ?_⟩,
    ⟨9, Tests.up.set THERMAL.THS_STATE thSUSPECT 0 9, ?_⟩,
    ⟨0, 0x107, Tests.up, ?_, ?_⟩,
    ⟨9, [(50, 10)], { Tests.up with thermal := { Tests.up.thermal with sums := [(9, [(50, 10)])] } }, ?_, ?_⟩,
    ⟨Tests.up.set THERMAL.STAT_STAGE 2, ?_⟩,
    ⟨Tests.up.set THERMAL.HID_RISING 500, ?_, ?_⟩,
    ⟨{ (Tests.up.set THERMAL.STAT_STAGE 3) with thermal := { Tests.up.thermal with lastTick := -900 } }, ?_, ?_⟩,
    ⟨Tests.up.set THERMAL.HID_T3WAIT 1, ?_⟩,
    ⟨1, (Tests.up.set THERMAL.STAT_STAGE 4).set FABRIC.HID_EMPTY 1 1, ?_, ?_, ?_⟩,
    ⟨0, { ((Tests.formed.set THERMAL.STAT_STAGE 5).set THERMAL.CFG_OFFLOAD_EN 1) with video := { Tests.formed.video with streams := [(3, {
      Tests.stream with dst := 228 })] } }, ?_, ?_, ?_, ?_⟩,
    ⟨(Tests.up.set RESET.HID_SRC (2 ^ srcSHUT)).set THERMAL.CFG_RESTART_EN 1, ?_, ?_, ?_, ?_⟩⟩
    <;> first | with_reducible rfl | decide +kernel

theorem witness_NonVolatileStore_1 :
    (∃ (m : Fin 7) (s : State), s.takesWrite m .nvm 0 0x044 1 ∧ s.get NVM.STAT_STATE = nvIDLE ∧ s.sealedStore = false
      ∧ s.get NVM.CFG_PROTECT < 2 ∧ s.writesPermitted = true) ∧
    (∃ (m : Fin 7) (v : Word) (s : State), s.takesWrite m .nvm 0 0x044 v.toNat ∧ bitOf v.toNat 0 = true ∧ bitOf v.toNat 2 = true
      ∧ s.get NVM.STAT_STATE = nvIDLE ∧ s.sealedStore = false ∧ s.get NVM.CFG_PROTECT < 2 ∧ s.writesPermitted = true) ∧
    (∃ (m : Fin 7) (s : State), s.takesWrite m .nvm 0 0x044 2 ∧ s.get NVM.STAT_STATE = nvWAIT ∧ s.get NVM.HID_SCAN = 0) ∧
    (∃ (m : Fin 7) (s : State), s.takesWrite m .nvm 0 0x044 8 ∧ s.get NVM.STAT_STATE = nvIDLE) ∧
    (∃ (m : Fin 7) (s : State), s.takesWrite m .nvm 0 0x044 16 ∧ s.get NVM.STAT_STATE = nvIDLE) ∧
    (∃ (s : State), s.get NVM.STAT_STATE = nvWAIT ∧ s.tctl < 1030 ∧ -380 < s.tctl ∧ s.sealedStore = false ∧ s.get NVM.CFG_PROTECT < 2) ∧
    (∃ (r : NvmRecord) (s : State), s.nvm.writing = some r ∧ s.get NVM.STAT_STATE = nvMERGE ∧ s.get NVM.PROGRESS_WORDS < r.length + 8) ∧
    (∃ (r : NvmRecord) (s : State), s.nvm.writing = some r ∧ s.get NVM.STAT_STATE = nvWRITE) ∧
    (∃ (r : NvmRecord) (s : State), s.nvm.writing = some r ∧ s.get NVM.STAT_STATE = nvWRITE ∧ s.get NVM.PROGRESS_WORDS = r.length + 8) ∧
    (∃ (s : State), s.get NVM.STAT_STATE = nvTEST) ∧
    (∃ (m : Fin 7) (s : State), s.takesWrite m .nvm 0 0x080 1 ∧ keyWord (s.get NVM.RAW_ADDR_WORD) = false) ∧
    (∃ (m : Fin 7) (s : State), s.takesWrite m .nvm 0 0x080 2 ∧ s.rawWritable = true) ∧
    (∃ (s : State), s.domUp 25 = true ∧ s.writesPermitted = true) := by
  refine
    ⟨⟨0, Tests.keyed, ?_, ?_, ?_, ?_, ?_⟩,
    ⟨0, 5, Tests.keyed, ?_, ?_, ?_, ?_, ?_, ?_, ?_⟩,
    ⟨0, Tests.keyed.set NVM.STAT_STATE nvWAIT, ?_, ?_, ?_⟩,
    ⟨0, Tests.keyed, ?_, ?_⟩,
    ⟨0, Tests.keyed, ?_, ?_⟩,
    ⟨Tests.keyed.set NVM.STAT_STATE nvWAIT, ?_, ?_, ?_, ?_, ?_⟩,
    ⟨Tests.record, Tests.storing nvMERGE 0, ?_, ?_, ?_⟩,
    ⟨Tests.record, Tests.storing nvWRITE 2, ?_, ?_⟩,
    ⟨Tests.record, Tests.storing nvWRITE 11, ?_, ?_, ?_⟩,
    ⟨Tests.keyed.set NVM.STAT_STATE nvTEST, ?_⟩,
    ⟨0, Tests.keyed, ?_, ?_⟩,
    ⟨0, (Tests.keyed.set KEYS.LC_STAT_STATE 2).set NVM.RAW_ADDR_WORD 483400, ?_, ?_⟩,
    ⟨Tests.keyed, ?_, ?_⟩⟩
    <;> first | with_reducible rfl | decide +kernel

theorem witness_NonVolatileStore_2 :
    ∃ (s : State), s.domUp 25 = true ∧ s.writesPermitted = true := by
  refine
    ⟨{ Tests.keyed with nvm := { Tests.keyed.nvm with rewrites := [7, 9] } }, ?_, ?_⟩
    <;> first | with_reducible rfl | decide +kernel

theorem witness_HostInterface :
    (∃ (s : State), s.domUp 25 = true ∧ s.get BUSMATRIX.PCIE_STAT_LINK_UP = 0) ∧
    (∃ (s : State), s.domUp 25 = true ∧ s.get BUSMATRIX.PCIE_STAT_LINK_UP = 1) ∧
    (∃ (s : State), s.domUp 25 = true) ∧
    (∃ (s : State), s.get BUSMATRIX.PCIE_STAT_LINK_UP ≠ 0) ∧
    (∃ (s : State), s.busUp = true ∧ s.get BUSMATRIX.PCIE_STAT_LINK_UP = 1 ∧ s.get BUSMATRIX.ERR_INFO_VALID = 0) := by
  refine
    ⟨⟨Tests.up, ?_, ?_⟩,
    ⟨Tests.up.set BUSMATRIX.PCIE_STAT_LINK_UP 1, ?_, ?_⟩,
    ⟨(Tests.up.set BUSMATRIX.PCIE_STAT_LINK_UP 1).set FLOW.HQ_RX_EN 1 3 5, ?_⟩,
    ⟨Tests.up.set BUSMATRIX.PCIE_STAT_LINK_UP 1, ?_⟩,
    ⟨Tests.up.set BUSMATRIX.PCIE_STAT_LINK_UP 1, ?_, ?_, ?_⟩⟩
    <;> first | with_reducible rfl | decide +kernel

theorem witness_PageHeaders :
    (∃ (m : Fin 7) (p : Page) (i : Nat) (v : Word) (s : State), i < p.instances ∧ p.code < 0x80 ∧ s.takesWrite m p i 0x024 v.toNat
      ∧ bitsOf v.toNat 16 16 = lockKey ∧ bitOf v.toNat 1 = false) ∧
    (∃ (m : Fin 7) (p : Page) (i : Nat) (v : Word) (s : State), i < p.instances ∧ p.code < 0x80 ∧ s.takesWrite m p i 0x024 v.toNat
      ∧ bitOf v.toNat 1 = true) ∧
    (∃ (m : Fin 7) (p : Page) (i : Nat) (v : Word) (b : Nat) (s : State), i < p.instances ∧ p.code < 0x80
      ∧ s.takesWrite m p i 0x018 v.toNat ∧ bitOf (v.toNat &&& p.events) b = true) ∧
    (∃ (m : Fin 7) (p : Page) (i : Nat) (v : Word) (s : State), i < p.instances ∧ p.code < 0x80 ∧ s.takesWrite m p i 0x010 v.toNat) ∧
    (∃ (m : Fin 7) (s : State), s.takesWrite m .busmatrix 0 0x058 0x80000000) := by
  refine
    ⟨⟨0, .vin, 5, 0x0A557F00, Tests.up, ?_, ?_, ?_, ?_, ?_⟩,
    ⟨0, .vin, 5, 0x00000002, Tests.up.set (HDR.LOCK_OPEN .vin) 1 5, ?_, ?_, ?_, ?_⟩,
    ⟨0, .vin, 5, 4, 2, Tests.up, ?_, ?_, ?_, ?_⟩,
    ⟨0, .vin, 5, 4, Tests.up.putStat (Page.source .vin 5) 6, ?_, ?_, ?_⟩,
    ⟨0, Tests.up.set BUSMATRIX.ERR_INFO_VALID 1, ?_⟩⟩
    <;> first | with_reducible rfl | decide +kernel

theorem witness_EventsAndLog :
    (∃ (e : LogEntry) (rest : List LogEntry) (s : State), s.domUp 25 = true ∧ s.writesPermitted = true ∧ s.evt.logQueue = e :: rest) ∧
    (∃ (m : Fin 7) (v : Word) (s : State), s.takesWrite m .event 0 0x240 v.toNat ∧ bitOf v.toNat 16 = true) ∧
    (∃ (m : Fin 7) (v : Word) (s : State), s.takesWrite m .event 0 0x240 v.toNat ∧ bitOf v.toNat 16 = false ∧ bitOf v.toNat 17 = true) ∧
    (∃ (g : Fin 32) (s : State), bitOf (s.get GPIO.EDGE_RISE_EDGE) g = true) ∧
    (∃ (g : Fin 32) (s : State), bitOf (s.get GPIO.EDGE_FALL_EDGE) g = true) ∧
    (∃ (m : Fin 7) (v : Word) (s : State), s.takesWrite m .global 0 0x04C v.toNat) ∧
    (∃ (m : Fin 7) (s : State), s.takesRead m .reset 0 0x06C) ∧
    (∃ (m : Fin 7) (s : State), s.takesRead m .reset 0 0x074) ∧
    (∃ (m : Fin 7) (s : State), s.takesRead m .ledger 0 0x070) := by
  refine
    ⟨⟨{ stamp := 0, seq := 0, kind := 0, source := 3, count := 0, stat := 1, tail := 0 }, [], { Tests.up with evt := { Tests.up.evt with
      logQueue := [{ stamp := 0, seq := 0, kind := 0, source := 3, count := 0, stat := 1, tail := 0 }] } }, ?_, ?_, ?_⟩,
    ⟨0, 0x10021, Tests.up, ?_, ?_⟩,
    ⟨0, 0x20021, Tests.up.set EVENT.DB_STAT_DB 2 0 1, ?_, ?_, ?_⟩,
    ⟨9, Tests.up.set GPIO.EDGE_RISE_EDGE 0x200, ?_⟩,
    ⟨9, (Tests.up.set GPIO.EDGE_FALL_EDGE 0x200).set GPIO.IN_LEVEL 0x200, ?_⟩,
    ⟨0, 3, Tests.up, ?_⟩,
    ⟨0, { Tests.up with clk := { Tests.up.clk with uptime := 2 ^ 33 } }, ?_⟩,
    ⟨0, { Tests.up with clk := { Tests.up.clk with rtcSeconds := 2 ^ 33, rtcSub := 7 } }, ?_⟩,
    ⟨0, Tests.up.set LEDGER.HID_REFSTAMP 77, ?_⟩⟩
    <;> first | with_reducible rfl | decide +kernel

theorem witness_BoardBusesAndScan :
    (∃ (m : Fin 7) (k : Fin 8) (v : Word) (s t0 : State), s.takesWrite m .gpio 0 (0x084 + 0x10 * k.val) v.toNat
      ∧ t0 = s.writePlain m .gpio 0 (0x084 + 0x10 * k.val) v.toNat ∧ bitOf v.toNat 31 = true ∧ t0.get GPIO.I2C_STAT_BUSY 0 k = 0
      ∧ t0.get GPIO.I2C_CFG_EN 0 k = 1) ∧
    (∃ (k : Fin 8) (s : State), s.get GPIO.I2C_STAT_BUSY 0 k = 1 ∧ s.get GPIO.HID_XWRITE 0 k = 0) ∧
    (∃ (k : Fin 8) (s : State), s.get GPIO.I2C_STAT_BUSY 0 k = 1) ∧
    (∃ (k : Fin 8) (data : BitVec 8) (s : State), s.get GPIO.I2C_CFG_EN 0 k = 1 ∧ s.get GPIO.I2C_CFG_POLL_EN 0 k = 1
      ∧ s.get GPIO.I2C_STAT_BUSY 0 k = 0 ∧ s.get GPIO.I2C_STAT_POLL_VAL 0 k ≠ data.toNat) := by
  refine
    ⟨⟨0, 3, 0x81000000, Tests.up.set GPIO.I2C_CFG_EN 1 0 3, _, ?_, rfl, ?_, ?_, ?_⟩,
    ⟨3, Tests.up.set GPIO.I2C_STAT_BUSY 1 0 3, ?_, ?_⟩,
    ⟨3, Tests.up.set GPIO.I2C_STAT_BUSY 1 0 3, ?_⟩,
    ⟨3, 0x5A#8, (Tests.up.set GPIO.I2C_CFG_EN 1 0 3).set GPIO.I2C_CFG_POLL_EN 1 0 3, ?_, ?_, ?_, ?_⟩⟩
    <;> first | with_reducible rfl | decide +kernel

theorem witness_ConsoleQueries :
    (∃ (s : State), s.domUp 25 = true ∧ s.console.started = false) ∧
    (∃ (s : State), s.domUp 25 = true) ∧
    (∃ (s : State), s.consoleFree) ∧
    (∃ (dropped : Nat) (s : State), s.consoleFree ∧ 0 < dropped) ∧
    (∃ (p : Page) (i off n : Nat) (s : State), s.consoleFree ∧ namesRegister p i off = true ∧ 1 ≤ n ∧ n ≤ 64 ∧ off + 4 * n ≤ 0x1000) ∧
    (∃ (win : Fin 5) (off n : Nat) (s : State), s.consoleFree ∧ off % 8 = 0 ∧ 1 ≤ n ∧ n ≤ 64 ∧ off + 8 * n ≤ (tableWindow win).2) ∧
    (∃ (n : Nat) (s : State), s.consoleFree ∧ 1 ≤ n ∧ n ≤ 64) := by
  refine
    ⟨⟨Tests.up, ?_, ?_⟩,
    ⟨Tests.session, ?_⟩,
    ⟨Tests.session, ?_⟩,
    ⟨3, Tests.session, ?_, ?_⟩,
    ⟨.global, 0, 0x040, 2, Tests.session, ?_, ?_, ?_, ?_, ?_⟩,
    ⟨0, 16, 2, Tests.session, ?_, ?_, ?_, ?_, ?_⟩,
    ⟨2, Tests.session, ?_, ?_, ?_⟩⟩
    <;> first | with_reducible rfl | decide +kernel

theorem witness_ConsoleSessions :
    (∃ (s : State), s.consoleFree ∧ s.get KEYS.LC_STAT_TAMPER_HOLD = 0 ∧ s.get SERVICE.STAT_LOCKED_OUT = 0 ∧ s.console.session = false) ∧
    (∃ (s : State), s.consoleFree ∧ s.get KEYS.LC_STAT_TAMPER_HOLD = 0 ∧ s.get SERVICE.STAT_LOCKED_OUT = 0 ∧ s.console.session = false
      ∧ s.console.challenge.isSome = true ∧ s.lc = lcFIELD) ∧
    (∃ (s : State), s.consoleFree ∧ s.get KEYS.LC_STAT_TAMPER_HOLD = 0 ∧ s.get SERVICE.STAT_LOCKED_OUT = 0 ∧ s.console.session = false
      ∧ s.console.challenge.isSome = true ∧ s.lc = lcFIELD ∧ 2 ≤ (s.console.fails.filter (fun x => s.clk.uptime < x + tenMinutes)).length) ∧
    (∃ (s : State), s.consoleServes ∧ s.console.test = none ∧ s.lc = lcSERVICE) ∧
    (∃ (s : State), s.consoleFree ∧ s.get KEYS.LC_STAT_TAMPER_HOLD = 1) ∧
    (∃ (s : State), s.consoleServes ∧ s.lc = lcSERVICE) ∧
    (∃ (h : Nat) (s : State), s.console.held = some (.fuseImage h true) ∧ s.domUp 25 = true ∧ s.keys.makerImage = none) ∧
    (∃ (h : Nat) (s : State), s.console.held = some (.fuseService h true) ∧ s.domUp 25 = true ∧ s.keys.makerService = none) ∧
    (∃ (s : State), s.console.held.isSome = true) ∧
    (∃ (s : State), s.console.held = some .clearTamper ∧ s.get KEYS.LC_STAT_TAMPER_HOLD = 1 ∧ s.domUp 25 = true) ∧
    (∃ (s : State), s.get SERVICE.STAT_LOCKED_OUT = 1) := by
  refine
    ⟨⟨Tests.con (fun c => { c with session := false }), ?_, ?_, ?_, ?_⟩,
    ⟨State.set (Tests.con (fun c => { c with session := false, challenge := some 7 })) KEYS.LC_STAT_STATE 1, ?_, ?_, ?_, ?_, ?_, ?_⟩,
    ⟨State.set (Tests.con (fun c => { c with session := false, challenge := some 7, fails := [0, 0] })) KEYS.LC_STAT_STATE 1, ?_, ?_, ?_,
      ?_, ?_, ?_, ?_⟩,
    ⟨Tests.session, ?_, ?_, ?_⟩,
    ⟨Tests.session.set KEYS.LC_STAT_TAMPER_HOLD 1, ?_, ?_⟩,
    ⟨Tests.session, ?_, ?_⟩,
    ⟨9, Tests.con (fun c => { c with held := some (.fuseImage 9 true) }), ?_, ?_, ?_⟩,
    ⟨9, Tests.con (fun c => { c with held := some (.fuseService 9 true) }), ?_, ?_, ?_⟩,
    ⟨Tests.con (fun c => { c with held := some .clearTamper }), ?_⟩,
    ⟨State.set (Tests.con (fun c => { c with held := some .clearTamper })) KEYS.LC_STAT_TAMPER_HOLD 1, ?_, ?_, ?_⟩,
    ⟨Tests.session.set SERVICE.STAT_LOCKED_OUT 1, ?_⟩⟩
    <;> first | with_reducible rfl | decide +kernel

theorem witness_ConsoleServiceCommands_1 :
    (∃ (p : Page) (i off : Nat) (v : Word) (w : WriteFacts) (s t0 t1 : State), s.consoleServes ∧ t0 = s.tagTaken
      ∧ t1 = t0.busWrite terora (p.base + 0x1000 * i + off) 4 v.toNat w ∧ namesRegister p i off = true
      ∧ t0.busKind terora (p.base + 0x1000 * i + off) true 4 v.toNat = 0) ∧
    (∃ (lane secs : Nat) (s t0 : State), s.consoleServes ∧ t0 = s.tagTaken ∧ t0.console.test = none ∧ lane < 96 ∧ 1 ≤ secs ∧ secs ≤ 3600
      ∧ t0.laneFree (lane / 4) (lane % 4) = true ∧ t0.laneShadowed (lane / 4) (lane % 4) = false) ∧
    (∃ (lane hoff voff dwell : Nat) (s t0 : State), s.consoleServes ∧ t0 = s.tagTaken ∧ t0.console.test = none ∧ lane < 96 ∧ hoff < 32
      ∧ voff < 64 ∧ 20 ≤ dwell ∧ dwell ≤ 40 ∧ t0.sliceOf false (lane / 4) (lane % 4) < 5
      ∧ t0.get QUAD.RXSL_STAT_STATE (lane / 4) (t0.sliceOf false (lane / 4) (lane % 4)) = slRUN ∧ t0.get QUAD.HID_EYE (lane / 4) = 0) ∧
    (∃ (p : Nat) (s t0 : State), s.consoleServes ∧ t0 = s.tagTaken ∧ t0.console.test = none ∧ p < Page.aport.instances
      ∧ t0.domUp (Page.aport.domain p) = true ∧ t0.unit (apUnit p) ≠ uRETIRED) ∧
    (∃ (c : Nat) (s t0 : State), s.consoleServes ∧ t0 = s.tagTaken ∧ t0.console.test = none ∧ c < 32 ∧ t0.channelEmpty c = true
      ∧ t0.unit (chUnit c) = uRUN) := by
  refine
    ⟨⟨.global, 0, 0x050, 7, plainFacts, Tests.session, _, _, ?_, rfl, rfl, ?_, ?_⟩,
    ⟨5, 10, Tests.session, _, ?_, rfl, ?_, ?_, ?_, ?_, ?_, ?_⟩,
    ⟨5, 3, 9, 20, Tests.session.set QUAD.RXSL_STAT_STATE slRUN 1 1, _, ?_, rfl, ?_, ?_, ?_, ?_, ?_, ?_, ?_, ?_, ?_⟩,
    ⟨3, Tests.session, _, ?_, rfl, ?_, ?_, ?_, ?_⟩,
    ⟨5, Tests.session.set (HDR.STATE .memch) uRUN 5, _, ?_, rfl, ?_, ?_, ?_, ?_⟩⟩
    <;> first | with_reducible rfl | decide +kernel

theorem witness_ConsoleServiceCommands_2 :
    (∃ (n : Nat) (s t0 : State), s.consoleServes ∧ t0 = s.tagTaken ∧ t0.console.test = none ∧ n < 36 ∧ t0.unit (ceUnit n) = uISOLATED) ∧
    (∃ (k b : Nat) (s t0 : State), s.consoleServes ∧ t0 = s.tagTaken ∧ t0.console.test = none ∧ k < 8
      ∧ b = 1 - t0.get SYNTH.SYN_STAT_SEL (12 + k) ∧ t0.synState (12 + k) b = 3 ∧ t0.unit (synUnit (12 + k) b) = uRUN) ∧
    (∃ (s t0 : State), s.consoleServes ∧ t0 = s.tagTaken ∧ t0.console.test = none ∧ t0.sup 0 ≠ suSTANDBY ∧ t0.sup 1 = suSTANDBY
      ∧ t0.get SUPERVISOR.HID_TAKE = 0) ∧
    (∃ (s t0 : State), s.consoleServes ∧ t0 = s.tagTaken ∧ t0.console.test = none) ∧
    (∃ (t1 : ConsoleTest) (s : State), s.console.test = some t1 ∧ s.testOver t1 = true) ∧
    (∃ (s t0 : State), s.consoleServes ∧ t0 = s.tagTaken ∧ t0.busKind terora (Page.nvm.base + 0x044) true 4 1 = 0) ∧
    (∃ (s t0 : State), s.consoleServes ∧ t0 = s.tagTaken ∧ t0.busKind terora (Page.reset.base + 0x048) true 4 (lockKey * 2 ^ 16 + 2) = 0) ∧
    (∃ (s t0 : State), s.consoleServes ∧ t0 = s.tagTaken ∧ t0.busKind terora (Page.reset.base + 0x048) true 4 (lockKey * 2 ^ 16 + 1) = 0) ∧
    (∃ (s t0 : State), s.consoleServes ∧ t0 = s.tagTaken ∧ t0.busKind terora (Page.supervisor.base + 0x04C) true 4 2 = 0) := by
  refine
    ⟨⟨5, Tests.session.set (HDR.STATE .ce) uISOLATED 5, _, ?_, rfl, ?_, ?_, ?_⟩,
    ⟨2, 1, (Tests.session.setSyn 14 1 3).setUnit (synUnit 14 1) uRUN, _, ?_, rfl, ?_, ?_, ?_, ?_, ?_⟩,
    ⟨(Tests.session.set SUPERVISOR.STAT_PHOBOS suACTIVE).set SUPERVISOR.STAT_DEIMOS suSTANDBY, _, ?_, rfl, ?_, ?_, ?_, ?_⟩,
    ⟨Tests.session, _, ?_, rfl, ?_⟩,
    ⟨⟨ctMEM, 5, 0, []⟩, Tests.con (fun c => { c with test := some ⟨ctMEM, 5, 0, []⟩ }), ?_, ?_⟩,
    ⟨Tests.session, _, ?_, rfl, ?_⟩,
    ⟨Tests.session, _, ?_, rfl, ?_⟩,
    ⟨Tests.session, _, ?_, rfl, ?_⟩,
    ⟨Tests.session, _, ?_, rfl, ?_⟩⟩
    <;> first | with_reducible rfl | decide +kernel

theorem witness_FrameOfLanesAndChannels :
    (∃ (m : Fin 7) (q : Fin 24) (n : Fin 4) (s : State), s.takesWrite m .quad q (0x0D0 + 4 * n) 0x400) ∧
    (∃ (m : Fin 7) (q : Fin 24) (n : Fin 4) (s : State), s.takesWrite m .quad q (0x0D0 + 4 * n) 0x100) := by
  refine
    ⟨⟨0, 3, 2, Tests.up, ?_⟩,
    ⟨0, 3, 2, Tests.up, ?_⟩⟩
    <;> first | with_reducible rfl | decide +kernel

theorem witness_FrameOfRegisterCommands :
    (∃ (m : Fin 7) (s : State), s.takesWrite m .busmatrix 0 0x058 0x80000000) ∧
    (∃ (m : Fin 7) (p : Page) (i : Nat) (v : Word) (s : State), i < p.instances ∧ p.code < 0x80 ∧ s.takesWrite m p i 0x018 v.toNat) ∧
    (∃ (m : Fin 7) (p : Page) (i : Nat) (v : Word) (s : State), i < p.instances ∧ p.code < 0x80 ∧ s.takesWrite m p i 0x010 v.toNat) ∧
    (∃ (m : Fin 7) (p : Page) (i : Nat) (v : Word) (s : State), i < p.instances ∧ p.code < 0x80 ∧ s.takesWrite m p i 0x024 v.toNat) ∧
    (∃ (m : Fin 7) (p : Page) (i : Nat) (v : Word) (s : State), i < p.instances ∧ p.code < 0x80 ∧ s.takesWrite m p i 0x024 v.toNat) ∧
    (∃ (m : Fin 7) (v : Word) (s : State), s.takesWrite m .event 0 0x240 v.toNat) ∧
    (∃ (m : Fin 7) (s : State), s.takesRead m .reset 0 0x06C) ∧
    (∃ (m : Fin 7) (s : State), s.takesRead m .reset 0 0x074) ∧
    (∃ (m : Fin 7) (s : State), s.takesRead m .ledger 0 0x070) ∧
    (∃ (m : Fin 7) (v : Word) (s : State), s.takesWrite m .keys 0 0x0B8 v.toNat) ∧
    (∃ (m : Fin 7) (v : Word) (s : State), s.takesWrite m .global 0 0x04C v.toNat) ∧
    (∃ (m : Fin 7) (v : Word) (s : State), s.takesWrite m .thermal 0 0x054 v.toNat) ∧
    (∃ (m : Fin 7) (k : Fin 64) (v : Word) (s : State), s.takesWrite m .audio 6 (0x408 + 0x20 * k.val) v.toNat) := by
  refine
    ⟨⟨0, Tests.up, ?_⟩,
    ⟨0, .vin, 5, 4, Tests.up, ?_, ?_, ?_⟩,
    ⟨0, .vin, 5, 4, Tests.up, ?_, ?_, ?_⟩,
    ⟨0, .vin, 5, 0x0A557F00, Tests.up, ?_, ?_, ?_⟩,
    ⟨0, .vin, 5, 2, Tests.up.set (HDR.LOCK_OPEN .vin) 1 5, ?_, ?_, ?_⟩,
    ⟨0, 0x10021, Tests.up, ?_⟩,
    ⟨0, Tests.up, ?_⟩,
    ⟨0, Tests.up, ?_⟩,
    ⟨0, Tests.up, ?_⟩,
    ⟨0, 0x0A550001, Tests.up, ?_⟩,
    ⟨0, 3, Tests.up, ?_⟩,
    ⟨0, 0x107, Tests.up, ?_⟩,
    ⟨0, 3, 1, Tests.up, ?_⟩⟩
    <;> first | with_reducible rfl | decide +kernel

theorem witness_FrameOfScanChain :
    ∃ (pins value : Nat) (c : Instr), c ∈ [.bypass, .idcode, .samplePreload pins value, .extest pins value, .clamp, .highz, .extestPulse pins value, .extestTrain pins value] := by
  refine
    ⟨5, 9, .bypass, ?_⟩
    <;> first | with_reducible rfl | decide +kernel

theorem witness_StepRunsFront :
    ∃ (c : Instr) (rest : List Instr) (s : State), s.pending = c :: rest := by
  refine
    ⟨.railFault 3, [.bypass], { Tests.up with pending := [.railFault 3, .bypass] }, ?_⟩
    <;> first | with_reducible rfl | decide +kernel

theorem witness_StepIdles :
    (∃ (s : State), s.pending = []) ∧
    (∃ (s : State), s.pending = [] ∧ s.console.buffer = [] ∧ s.get RESET.BKP_STAT_XTAL32_FAIL = 0) := by
  refine
    ⟨⟨Tests.up, ?_⟩,
    ⟨Tests.up, ?_, ?_, ?_⟩⟩
    <;> first | with_reducible rfl | decide +kernel

theorem witness_AncillaryFilters :
    (∃ (i : Fin 192) (p : AncPacket) (k : Fin 16) (s : State), s.ancMatches i p k ∧ (∀ j : Fin 16, j < k → ¬ s.ancMatches i p j)
      ∧ p.bad = false ∧ p.kind = 0) ∧
    (∃ (i : Fin 192) (p : AncPacket) (s : State), (∀ j : Fin 16, ¬ s.ancMatches i p j) ∧ p.bad = false ∧ p.kind = 0
      ∧ s.get VIN.HID_ANCBYTES i + p.bytes ≤ ancBuffer) := by
  refine
    ⟨⟨5, { did := 0x41, sdid := 1, bytes := 20, link := 0, bad := false, kind := 0, payload := 0, line := 9 }, 15, ((Tests.up.set
      VIN.ANC_FILT_VALID 1 5 15).set VIN.ANC_FILT_DID 0x41 5 15).set VIN.ANC_FILT_ANY_SDID 1 5 15, ?_, ?_, ?_, ?_⟩,
    ⟨5, { did := 0x41, sdid := 1, bytes := 20, link := 0, bad := false, kind := 0, payload := 0, line := 9 }, Tests.up, ?_, ?_, ?_, ?_⟩⟩
    <;> first | with_reducible rfl | decide +kernel

theorem witness_RefusedWrites :
    ∃ (m : Fin 7) (addr bytes data k : Nat) (s : State), s.busUp = true ∧ s.busKind m addr true bytes data = k ∧ k ≠ 0 := by
  refine
    ⟨0, 0x3FF000, 4, 7, 1, Tests.up, ?_, ?_, ?_⟩
    <;> first | with_reducible rfl | decide +kernel

theorem witness_WindowWrites :
    (∃ (m : Fin 7) (addr bytes data off : Nat) (s : State), s.busUp = true ∧ s.busKind m addr true bytes data = 0
      ∧ s.decode m addr = .sram off) ∧
    (∃ (m : Fin 7) (addr bytes data off : Nat) (s : State), s.busUp = true ∧ s.busKind m addr true bytes data = 0
      ∧ s.decode m addr = .conv off) := by
  refine
    ⟨⟨0, 0x10000010, 4, 0x01020304, 0x10, Tests.up, ?_, ?_, ?_⟩,
    ⟨0, 0x600010, 4, 0x01020304, 0x10, Tests.up, ?_, ?_, ?_⟩⟩
    <;> first | with_reducible rfl | decide +kernel

theorem witness_PlainRegisterWrites :
    ∃ (m : Fin 7) (addr bytes data : Nat) (w : WriteFacts) (p : Page) (i off : Nat) (s : State), s.busUp = true
      ∧ s.busKind m addr true bytes data = 0 ∧ s.decode m addr = .page p i off ∧ 0x040 ≤ off
      ∧ s.writeSpecial m p i off (BitVec.ofNat 32 data) = none ∧ blockActions m p i off (BitVec.ofNat 32 data) w = []
      ∧ s.get (HDR.COMMIT_MODE p) i ≠ 2 := by
  refine
    ⟨0, 0x25040, 4, 7, plainFacts, .vin, 5, 0x040, Tests.up, ?_, ?_, ?_, ?_, ?_, ?_, ?_⟩
    <;> first | with_reducible rfl | decide +kernel

theorem witness_ClockSelectorsGuarded :
    (∃ (q : Fin 24) (c : PendingCommit) (s t0 : State), s.pendingOf .quad q = some c ∧ c.group = 0 ∧ s.commitReady .quad q = true
      ∧ (∀ e ∈ c.values, e.1.field.page = .quad ∧ e.1.inst = q) ∧ (c.values.map (fun e => e.1)).Nodup ∧ t0 = s.applyTable c.values
      ∧ (4 ≤ t0.get QUAD.TXCLK_SEL_V_SYN q ∨ t0.get QUAD.TXCLK_SEL_F_SYN q < 4 ∨ 8 ≤ t0.get QUAD.TXCLK_SEL_F_SYN q ∨ t0.get QUAD.TXCLK_SEL_E_SYN q < 8 ∨ 10 ≤ t0.get QUAD.TXCLK_SEL_E_SYN q)) ∧
    (∃ (m : Fin 7) (q : Fin 24) (s t0 : State), s.takesWrite m .quad q 0x008 0 ∧ s.commitReady .quad q = true ∧ s.pendingOf .quad q = none
      ∧ s.get (HDR.COMMIT_MODE .quad) q ≠ 1 ∧ ((s.captured .quad q).map (fun e => e.1)).Nodup ∧ t0 = s.applyTable (s.captured .quad q)
      ∧ (4 ≤ t0.get QUAD.TXCLK_SEL_V_SYN q ∨ t0.get QUAD.TXCLK_SEL_F_SYN q < 4 ∨ 8 ≤ t0.get QUAD.TXCLK_SEL_F_SYN q ∨ t0.get QUAD.TXCLK_SEL_E_SYN q < 8 ∨ 10 ≤ t0.get QUAD.TXCLK_SEL_E_SYN q)) := by
  refine
    ⟨⟨3, { page := .quad, inst := 3, master := 0, group := 0, values := [(⟨QUAD.TXCLK_SEL_V_SYN, 3, 0⟩, 4)] }, { (Tests.up.set (HDR.STATE
      .quad) uRUN 3) with commits := [{ page := .quad, inst := 3, master := 0, group := 0, values := [(⟨QUAD.TXCLK_SEL_V_SYN, 3, 0⟩, 4)]
      }] }, _, ?_, ?_, ?_, ?_, ?_, rfl, ?_⟩,
    ⟨0, 3, { (Tests.up.set (HDR.STATE .quad) uRUN 3) with shadow := [(⟨QUAD.TXCLK_SEL_E_SYN, 3, 0⟩, 3)] }, _, ?_, ?_, ?_, ?_, ?_, rfl, ?_⟩⟩
    <;> first | with_reducible rfl | decide +kernel

theorem witness_FrameOfControlPlaneEvents :
    (∃ (s : State), s.consoleFree) ∧
    (∃ (s : State), s.consoleServes) ∧
    (∃ (h : Nat) (s : State), s.console.held = some (.fuseImage h true)) ∧
    (∃ (h : Nat) (s : State), s.console.held = some (.fuseService h true)) := by
  refine
    ⟨⟨Tests.session, ?_⟩,
    ⟨Tests.session, ?_⟩,
    ⟨9, Tests.con (fun c => { c with held := some (.fuseImage 9 true) }), ?_⟩,
    ⟨9, Tests.con (fun c => { c with held := some (.fuseService 9 true) }), ?_⟩⟩
    <;> first | with_reducible rfl | decide +kernel
end

section
/-! SUPPORT. What a command's answer reads as once it has settled; the lowest match of an input's ancillary filters decides what becomes
of a packet (R102). -/
namespace Sys2Proof.Machine

/-- A command that answers a settled state completes with what that state has. -/
theorem completes_done {t : State} {p : State → Prop} (h : p t.settle) : Completes (done t) p := ⟨t.settle, rfl, h⟩

/-! ## Ancillary filters -/

/-- A filter that matches at the head of the list decides. -/
theorem State.ancAction_cons_of_match {s : State} {i k : Nat} {p : AncPacket} (t : List Nat) (h : s.ancMatches i p k) :
    s.ancAction i p (k :: t) = s.get VIN.ANC_FILT_ACTION i k := if_pos h

/-- A filter that does not match leaves the packet to the filters after it. -/
theorem State.ancAction_cons_of_not_match {s : State} {i k : Nat} {p : AncPacket} (t : List Nat) (h : ¬ s.ancMatches i p k) :
    s.ancAction i p (k :: t) = s.ancAction i p t := if_neg h

/-- Of filters in rising order, the lowest that matches decides. -/
theorem State.ancAction_of_lowest {s : State} {i k : Nat} {p : AncPacket} (hk : s.ancMatches i p k) :
    ∀ l : List Nat, l.Pairwise (· < ·) → k ∈ l → (∀ j ∈ l, j < k → ¬ s.ancMatches i p j) →
      s.ancAction i p l = s.get VIN.ANC_FILT_ACTION i k
  | [], _, hmem, _ => absurd hmem List.not_mem_nil
  | a :: t, hsorted, hmem, hlow => by
    obtain ⟨hhead, htail⟩ := List.pairwise_cons.mp hsorted
    rcases List.mem_cons.mp hmem with rfl | hmem
    · exact State.ancAction_cons_of_match t hk
    · rw [State.ancAction_cons_of_not_match t (hlow a List.mem_cons_self (hhead k hmem))]
      exact State.ancAction_of_lowest hk t htail hmem (fun j hj => hlow j (List.mem_cons_of_mem a hj))

/-- Filters of which none matches leave a packet its ACTION 0: it is stored. -/
theorem State.ancAction_of_no_match {s : State} {i : Nat} {p : AncPacket} :
    ∀ l : List Nat, (∀ j ∈ l, ¬ s.ancMatches i p j) → s.ancAction i p l = 0
  | [], _ => rfl
  | a :: t, h => by
    rw [State.ancAction_cons_of_not_match t (h a List.mem_cons_self)]
    exact State.ancAction_of_no_match t (fun j hj => h j (List.mem_cons_of_mem a hj))

/-- The sixteen filters of an input: the lowest that matches decides. -/
theorem State.ancAction_sixteen_of_lowest {s : State} {i : Nat} {p : AncPacket} {k : Fin 16} (hk : s.ancMatches i p k)
    (hlow : ∀ j : Fin 16, j < k → ¬ s.ancMatches i p j) : s.ancAction i p (List.range 16) = s.get VIN.ANC_FILT_ACTION i k :=
  State.ancAction_of_lowest hk _ List.pairwise_lt_range (List.mem_range.mpr k.isLt)
    (fun j hj hjk => hlow ⟨j, List.mem_range.mp hj⟩ hjk)

/-- The sixteen filters of an input: where none matches, the packet is stored. -/
theorem State.ancAction_sixteen_of_no_match {s : State} {i : Nat} {p : AncPacket} (h : ∀ j : Fin 16, ¬ s.ancMatches i p j) :
    s.ancAction i p (List.range 16) = 0 :=
  State.ancAction_of_no_match _ (fun j hj => h ⟨j, List.mem_range.mp hj⟩)

section
variable {s : State} {i : Nat} {p : AncPacket} (hgood : p.bad = false) (hkind : p.kind = 0)
include hgood hkind

/-- A good packet that the filters drop changes nothing. -/
theorem State.ancPacket_dropped (hact : s.ancAction i p (List.range 16) = 1) : s.ancPacket i p = s := by
  simp [State.ancPacket, hgood, hkind, hact]

/-- A good packet that the filters store joins the end of the buffer that fills, where it fits. -/
theorem State.ancFill_ancPacket_stored (hact : s.ancAction i p (List.range 16) = 0)
    (hfits : s.get VIN.HID_ANCBYTES i + p.bytes ≤ ancBuffer) :
    NTable.getD (s.ancPacket i p).ess.ancFill i [] = NTable.getD s.ess.ancFill i [] ++ [p] := by
  have hput : (s.ancPacket i p).ess.ancFill = NTable.put s.ess.ancFill i (NTable.getD s.ess.ancFill i [] ++ [p]) := by
    simp [State.ancPacket, hgood, hkind, hact, hfits]
  rw [hput, NTable.getD_put, if_pos rfl]

end

/-- Settles O50: the filters are asked in rising order, so the lowest that matches decides, and an unmatched packet keeps ACTION 0. -/
theorem ancillaryFilters : Obligations.AncillaryFilters := by
  unfold Obligations.AncillaryFilters
  refine ⟨fun i p k s hk hlow hgood hkind => ?_, fun i p s hnone hgood hkind hfits => ?_⟩
  · have hdecides := State.ancAction_sixteen_of_lowest hk hlow
    exact ⟨fun hdrop => State.ancPacket_dropped hgood hkind (hdecides.trans hdrop),
      fun hstore hfits => State.ancFill_ancPacket_stored hgood hkind (hdecides.trans hstore) hfits⟩
  · exact State.ancFill_ancPacket_stored hgood hkind (State.ancAction_sixteen_of_no_match hnone) hfits

end Sys2Proof.Machine
end

section
/-! SUPPORT. What an input's entry into a state shows, and what a frame start leaves of the frame count and the timecode (Table 3.2, R94,
R109). -/
namespace Sys2Proof.Machine

/-- An event raised on a condition changes no field. -/
theorem Kept.raiseIf {l : List Field} {s t : State} (a : Kept l s t) (c : Bool) (p : Page) (i b : Nat) :
    Kept l s (t.raiseIf c p i b) :=
  a.trans ⟨fun f j k _ => State.raiseIf_get t c p i b f j k, State.raiseIf_le t c p i b⟩

/-- An event raised on a condition that holds reads 1. -/
theorem State.raiseIf_event {c : Bool} (s : State) (p : Page) (i b : Nat) (h : c = true) : (s.raiseIf c p i b).event p i b := by
  subst h
  exact State.raise_stat s p i b

/-! ## Entering a state -/

/-- The fields that entering a state of Table 3.2 may write. -/
abbrev viEnterFields : List Field :=
  [VIN.STAT_STATE, VIN.HID_TRS, VIN.HID_GOOD, VIN.HID_BEGUN, VIN.HID_NOPID, VIN.STAT_TRS_LOCK, VIN.STAT_PID_SEEN, VIN.HID_FRAME,
   VIN.HID_EVER, VIN.FMT_VALID]

theorem State.viEnter_kept (s : State) (i st : Nat) : Kept viEnterFields s (s.viEnter i st) := by
  unfold State.viEnter
  dsimp only
  have h : Kept viEnterFields s (((((s.set VIN.STAT_STATE st i).set VIN.HID_TRS 0 i).set VIN.HID_GOOD 0 i).set VIN.HID_BEGUN 0 i).set
      VIN.HID_NOPID 0 i |>.set VIN.STAT_TRS_LOCK (flag (st = viDETECT || st = viPRESENT)) i) :=
    ((((((Kept.refl _ s).set _ _ _ _ rfl).set _ _ _ _ rfl).set _ _ _ _ rfl).set _ _ _ _ rfl).set _ _ _ _ rfl).set _ _ _ _ rfl
  have h' := Kept.ite (c := st = viDETECT ∨ st = viPRESENT) h (h.set VIN.STAT_PID_SEEN 0 i 0 rfl)
  refine Kept.ite (Kept.refl _ s) (Kept.raiseIf (Kept.set (Kept.ite ?_ h') _ _ _ _ rfl) _ _ _ _)
  exact (h'.set _ _ _ _ rfl).set _ _ _ _ rfl

/-- The state entered is shown. -/
theorem State.viEnter_state (s : State) (i : Nat) {st : Nat} (h : st < 8) : (s.viEnter i st).get VIN.STAT_STATE i = st := by
  unfold State.viEnter
  dsimp only
  split
  · assumption
  · rw [State.raiseIf_get]
    repeat' split
    all_goals simp (disch := decide) only [State.get_set_ne, State.get_set_same]; exact Nat.mod_eq_of_lt h

/-- A state newly entered shows TRS_LOCK in DETECT and PRESENT only. -/
theorem State.viEnter_trsLock {s : State} {i st : Nat} (h : s.get VIN.STAT_STATE i ≠ st) :
    (s.viEnter i st).get VIN.STAT_TRS_LOCK i = flag (st = viDETECT || st = viPRESENT) % 2 := by
  unfold State.viEnter
  dsimp only
  rw [if_neg h, State.raiseIf_get]
  repeat' split
  all_goals simp (disch := decide) only [State.get_set_ne, State.get_set_same]; rfl

/-- A state newly entered shows a valid format in PRESENT only. -/
theorem State.viEnter_fmtValid {s : State} {i st : Nat} (h : s.get VIN.STAT_STATE i ≠ st) :
    (s.viEnter i st).get VIN.FMT_VALID i = flag (st = viPRESENT) % 2 := by
  unfold State.viEnter
  dsimp only
  rw [if_neg h, State.raiseIf_get, State.get_set_same]
  rfl

/-- Leaving PRESENT raises PRESENT_CHG. -/
theorem State.viEnter_leaves_present {s : State} {i st : Nat} (hwas : s.get VIN.STAT_STATE i = viPRESENT) (h : viPRESENT ≠ st) :
    (s.viEnter i st).event .vin i VIN.EV_PRESENT_CHG := by
  unfold State.viEnter
  dsimp only
  rw [if_neg (by rw [hwas]; exact h)]
  exact State.raiseIf_event _ _ _ _ (by simp [hwas])

/-! ## A frame start while PRESENT -/

theorem State.blackDetect_kept (s : State) (i : Nat) (f : SdiFrame) :
    Kept [VIN.HID_BLACK, VIN.HID_NOTBLACK, VIN.STAT_BLACK] s (s.blackDetect i f) :=
  Kept.raiseIf ((((Kept.refl _ s).set _ _ _ _ rfl).set _ _ _ _ rfl).set _ _ _ _ rfl) _ _ _ _

theorem State.freezeDetect_kept (s : State) (i : Nat) (f : SdiFrame) :
    Kept [VIN.HID_SIG, VIN.HID_SAME, VIN.STAT_FREEZE] s (s.freezeDetect i f) :=
  Kept.raiseIf ((((Kept.refl _ s).set _ _ _ _ rfl).set _ _ _ _ rfl).set _ _ _ _ rfl) _ _ _ _

theorem State.timecode_kept (s : State) (i : Nat) (f : SdiFrame) :
    Kept [VIN.TC_FRAMES, VIN.TC_SECONDS, VIN.TC_MINUTES, VIN.TC_HOURS, VIN.TC_RUNNING] s (s.timecode i f) := by
  unfold State.timecode
  split
  · exact (Kept.refl _ s).set _ _ _ _ rfl
  · exact (((((Kept.refl _ s).set _ _ _ _ rfl).set _ _ _ _ rfl).set _ _ _ _ rfl).set _ _ _ _ rfl).set _ _ _ _ rfl

theorem State.ancSwap_kept (s : State) (i : Nat) : Kept [VIN.HID_ANCBYTES] s (s.ancSwap i) :=
  ⟨fun _ _ _ hf => State.get_set_ne _ _ _ _ _ _ (fun e => by subst e; cases hf), StatLe.of_eq rfl⟩

/-- The selected timecode is missing: RUNNING is 0 (R109). -/
theorem State.timecode_missing {s : State} {i : Nat} {f : SdiFrame} (hsel : s.get VIN.TC_SRC_SEL i = 0) (hltc : f.ltc = none) :
    (s.timecode i f).get VIN.TC_RUNNING i = 0 := by
  unfold State.timecode
  rw [if_pos hsel, hltc]
  exact State.get_set_same _ _ _ _ _

/-- A frame start of a PRESENT input raises its frame count, which wraps (R94). -/
theorem State.presentFrame_frame (s : State) (i : Nat) (f : SdiFrame) :
    (s.presentFrame i f).get VIN.HID_FRAME i = (s.get VIN.HID_FRAME i + 1) % 2 ^ 20 := by
  unfold State.presentFrame
  rw [(State.ancSwap_kept _ _).get _ _ _ rfl, (State.timecode_kept _ _ _).get _ _ _ rfl, (State.freezeDetect_kept _ _ _).get _ _ _ rfl,
    (State.blackDetect_kept _ _ _).get _ _ _ rfl]
  exact State.get_set_same _ _ _ _ _

/-- A frame start of a PRESENT input without the selected timecode leaves RUNNING 0. -/
theorem State.presentFrame_running {s : State} {i : Nat} {f : SdiFrame} (hsel : s.get VIN.TC_SRC_SEL i = 0) (hltc : f.ltc = none) :
    (s.presentFrame i f).get VIN.TC_RUNNING i = 0 := by
  unfold State.presentFrame
  rw [(State.ancSwap_kept _ _).get _ _ _ rfl]
  refine State.timecode_missing ?_ hltc
  rw [(State.freezeDetect_kept _ _ _).get _ _ _ rfl, (State.blackDetect_kept _ _ _).get _ _ _ rfl]
  exact (State.get_set_ne _ _ _ _ _ _ (by decide)).trans hsel

end Sys2Proof.Machine
end

section
/-! SUPPORT. What the lines and frames of an SDI input do to its state (R91, R94, R95, R105, R109). -/
namespace Sys2Proof.Machine

section
variable {i : Fin 192} {s : State}

/-- Missing TRS takes an SDI input back to SEARCH. -/
theorem exec_trsMissing (hsdi : s.laneSdi false i = true)
    (hst : s.get VIN.STAT_STATE i = viDETECT ∨ s.get VIN.STAT_STATE i = viPRESENT) :
    exec (.trsMissing i) s = done (s.viEnter i viSEARCH) := if_pos ⟨hsdi, hst⟩

/-- A line with TRS in SEARCH: the fourth in a row leads to DETECT, any before it counts. -/
theorem exec_sdiLineReceived_search {f : SdiLine} (hsdi : s.laneSdi false i = true) (hst : s.get VIN.STAT_STATE i = viSEARCH)
    (htrs : f.trs = true) (hrun : s.viSlicesRun i = true) :
    exec (.sdiLineReceived i f) s =
      if s.get VIN.HID_TRS i + 1 ≥ 4 then done (s.viEnter i viDETECT) else done (s.set VIN.HID_TRS (s.get VIN.HID_TRS i + 1) i) := by
  show execSdiLineReceived i f s = _
  unfold execSdiLineReceived
  simp [hsdi, hst, htrs, hrun]

/-- A frame start of a PRESENT IP input. -/
theorem exec_viFrameStart_ip {f : SdiFrame} (hip : s.laneSdi false i = false) (hst : s.get VIN.STAT_STATE i = viPRESENT) :
    exec (.viFrameStart i f) s = done (s.presentFrame i f) := by
  show execViFrameStart i f s = _
  unfold execViFrameStart
  simp [hip, hst]

/-- A frame start of a PRESENT multi-link input with a skew above 2,000: the error and the skew are noted, and the input goes to SEARCH. -/
theorem exec_viFrameStart_skewed {f : SdiFrame} (hsdi : s.laneSdi false i = true) (hst : s.get VIN.STAT_STATE i = viPRESENT)
    (hlinks : s.viLinks i ≠ 1) (hskew : 2000 < f.skew) :
    ∃ u : State, exec (.viFrameStart i f) s = done (u.viEnter i viSEARCH) ∧ u.get VIN.STAT_SKEW_ERR i = 1 ∧
      u.get VIN.STAT_SKEW i = min 0x1FFF f.skew := by
  have hbad : (s.viLinks i ≠ 1 && 2000 < f.skew) = true := by simp [hlinks, hskew]
  have hexec : exec (.viFrameStart i f) s = execViFrameStart i f s := rfl
  rw [hexec]
  unfold execViFrameStart
  simp only [hsdi, hst, hbad, hlinks]
  refine ⟨_, rfl, ?_, ?_⟩
  · simp (disch := decide) only [State.get_set_ne, State.raiseIf_get, State.get_set_same]
    rfl
  · simp (disch := decide) only [State.get_set_ne, State.raiseIf_get, State.get_set_same]
    exact Nat.mod_eq_of_lt (Nat.lt_of_le_of_lt (Nat.min_le_left _ _) (by decide))

end

/-- Settles O5, case by case: each command enters the state named, or counts, and settling leaves the fields of an input alone. -/
theorem sdiInputs : Obligations.SdiInputs := by
  unfold Obligations.SdiInputs
  refine ⟨fun i s hsdi hst => ?_, fun i s hsdi hst => ?_, fun i f s hsdi hst htrs hrun hcount => ?_,
    fun i f s hsdi hst htrs hrun hcount => ?_, fun i f s hip hst hltc hsel => ?_, fun i f s hsdi hst hlinks hskew => ?_⟩
  · rw [exec_trsMissing hsdi (.inl hst)]
    refine completes_done ⟨?_, ?_⟩ <;> rw [State.settle_get _ _ _ _ (by decide)]
    · exact State.viEnter_state s i (by decide)
    · exact State.viEnter_trsLock (by rw [hst]; decide)
  · rw [exec_trsMissing hsdi (.inr hst)]
    refine completes_done ⟨?_, ?_, ?_⟩
    · rw [State.settle_get _ _ _ _ (by decide)]
      exact State.viEnter_state s i (by decide)
    · rw [State.settle_get _ _ _ _ (by decide)]
      exact State.viEnter_fmtValid (by rw [hst]; decide)
    · exact State.settle_stat _ _ _ _ (State.viEnter_leaves_present hst (by decide))
  · rw [exec_sdiLineReceived_search hsdi hst htrs hrun, hcount]
    refine completes_done ⟨?_, ?_⟩ <;> rw [State.settle_get _ _ _ _ (by decide)]
    · exact State.get_set_same _ _ _ _ _
    · exact (State.get_set_ne _ _ _ _ _ _ (by decide)).trans hst
  · rw [exec_sdiLineReceived_search hsdi hst htrs hrun, hcount]
    refine completes_done ⟨?_, ?_⟩ <;> rw [State.settle_get _ _ _ _ (by decide)]
    · exact State.viEnter_state s i (by decide)
    · exact State.viEnter_trsLock (by rw [hst]; decide)
  · rw [exec_viFrameStart_ip hip hst]
    refine completes_done ⟨?_, ?_⟩ <;> rw [State.settle_get _ _ _ _ (by decide)]
    · exact State.presentFrame_frame s i f
    · exact State.presentFrame_running hsel hltc
  · obtain ⟨u, hexec, herr, hshown⟩ := exec_viFrameStart_skewed hsdi hst hlinks hskew
    have hkept := State.viEnter_kept u i viSEARCH
    rw [hexec]
    refine completes_done ⟨?_, ?_, ?_⟩ <;> rw [State.settle_get _ _ _ _ (by decide)]
    · exact State.viEnter_state u i (by decide)
    · exact (hkept.get _ _ _ rfl).trans herr
    · exact (hkept.get _ _ _ rfl).trans hshown

end Sys2Proof.Machine
end

section
/-! SUPPORT. What a register reads at reset (R119). -/
namespace Sys2Proof.Machine

/-- At reset every field reads its reset value. -/
@[simp] theorem State.reset_get (f : Field) (i k : Nat) : State.reset.get f i k = f.rst.at i k := rfl

/-- At reset a field with a shadow reads its reset value, as shadow and as active value. -/
@[simp] theorem State.reset_rwsRead (key : RegKey) : State.reset.rwsRead key = key.default := ite_self _

/-- Two instances whose fields read alike show one register alike. -/
theorem State.wordOf_congr {s : State} {i j : Nat} :
    ∀ l : List (LayoutRow × Nat), (∀ e ∈ l, s.shownField e.1 i e.2 = s.shownField e.1 j e.2) → s.wordOf i l = s.wordOf j l
  | [], _ => rfl
  | (r, k) :: t, h => by
    rw [State.wordOf, State.wordOf, h _ List.mem_cons_self, State.wordOf_congr t (fun e he => h e (List.mem_cons_of_mem _ he))]

/-- Every row of the VOUT layout stands in every output. -/
theorem vout_layout_instances : ∀ r ∈ Page.vout.layout, r.instLo = 0 ∧ 192 ≤ r.instHi := by decide

/-- Rows that stand in two instances alike are picked alike by a test of the instance. -/
theorem filterMap_rows_congr {β : Type} {i j : Nat} (g : LayoutRow → Option β) :
    ∀ l : List LayoutRow, (∀ r ∈ l, (r.instLo ≤ i ∧ i ≤ r.instHi) ↔ (r.instLo ≤ j ∧ j ≤ r.instHi)) →
      l.filterMap (fun r => if r.instLo ≤ i ∧ i ≤ r.instHi then g r else none) =
        l.filterMap (fun r => if r.instLo ≤ j ∧ j ≤ r.instHi then g r else none)
  | [], _ => rfl
  | r :: t, h => by
    have hhead : (if r.instLo ≤ i ∧ i ≤ r.instHi then g r else none) = if r.instLo ≤ j ∧ j ≤ r.instHi then g r else none :=
      ite_congr (propext (h r List.mem_cons_self)) (fun _ => rfl) (fun _ => rfl)
    rw [List.filterMap_cons, List.filterMap_cons, hhead, filterMap_rows_congr g t (fun x hx => h x (List.mem_cons_of_mem r hx))]

/-- Every output has the same registers. -/
theorem rowsAt_vout (o : Fin 192) (off : Nat) : rowsAt .vout o off = rowsAt .vout 0 off := by
  refine filterMap_rows_congr _ _ (fun r hr => ?_)
  obtain ⟨hlo, hhi⟩ := vout_layout_instances r hr
  omega

/-- VOUT.FMT stands in an IP output as in an SDI output (R118). -/
theorem State.rowAbsent_vout_fmt (s : State) {r : LayoutRow} (hpage : r.field.page = .vout) (hoff : r.field.off = 0x044) (i k : Nat) :
    s.rowAbsent r i k = false := by
  have hne : ∀ g : Field, g.off ≠ 0x044 → r.field ≠ g := fun g hg e => hg (e ▸ hoff)
  simp [State.rowAbsent, hpage, hne VOUT.CFG_MAPPING (by decide), hne VOUT.CFG_DIVISION (by decide),
    hne VOUT.CFG_PID_INSERT (by decide), hne VOUT.AUD_GROUPS_GROUPS (by decide), hne VOUT.STAT_GANGED (by decide)]

/-- At reset a field of VOUT.FMT shows its reset value. -/
theorem State.reset_shownField_vout_fmt {r : LayoutRow} (hpage : r.field.page = .vout) (hoff : r.field.off = 0x044) (hacc : r.acc = .rws)
    (i k : Nat) : State.reset.shownField r i k = r.field.rst.at i k := by
  simp [State.shownField, State.rowAbsent_vout_fmt _ hpage hoff, hacc, RegKey.default]

/-- At reset VOUT.FMT of every output reads as that of output 0. -/
theorem State.reset_wordOf_vout_fmt (o : Fin 192) :
    State.reset.wordOf o (rowsAt .vout o 0x044) = State.reset.wordOf 0 (rowsAt .vout 0 0x044) := by
  have hrows : ∀ e ∈ rowsAt .vout 0 0x044, e.1.field.page = .vout ∧ e.1.field.off = 0x044 ∧ e.1.acc = .rws ∧
      e.1.field.rst = .const (e.1.field.rst.at 0 0) := by decide
  rw [rowsAt_vout]
  refine State.wordOf_congr _ (fun e he => ?_)
  obtain ⟨hpage, hoff, hacc, hrst⟩ := hrows e he
  rw [State.reset_shownField_vout_fmt hpage hoff hacc, State.reset_shownField_vout_fmt hpage hoff hacc, hrst]
  rfl

/-- Settles O49: every output has the registers of output 0, whose fields of VOUT.FMT at reset make up the word. -/
theorem resetFormat : Obligations.ResetFormat := by
  unfold Obligations.ResetFormat
  intro m o
  have hword : State.reset.pageWord m .vout o 0x044 = 0x01010133 :=
    calc State.reset.pageWord m .vout o 0x044
      _ = State.reset.wordOf o (rowsAt .vout o 0x044) := rfl
      _ = State.reset.wordOf 0 (rowsAt .vout 0 0x044) := State.reset_wordOf_vout_fmt o
      _ = 0x01010133 := by decide
  exact ⟨hword, rfl, rfl, rfl, rfl, rfl, rfl, rfl, rfl, rfl, rfl⟩

end Sys2Proof.Machine
end

section
/-! SUPPORT. What the operations that answer a take or a salvo show and leave: a master's RESP, its buffer, a refusal (R167, R171, R406). -/
namespace Sys2Proof.Machine

/-! ## A master's RESP -/

@[simp] theorem State.setResp_code (s : State) (m code index : Nat) : (s.setResp m code index).get ROUTE.RESP_CODE m = code % 2 ^ 8 := by
  unfold State.setResp
  simp (disch := decide) only [State.get_set_ne, State.get_set_same]
  rfl

@[simp] theorem State.setResp_done (s : State) (m code index : Nat) : (s.setResp m code index).get ROUTE.RESP_DONE m = 1 := by
  unfold State.setResp
  simp (disch := decide) only [State.get_set_ne, State.get_set_same]
  rfl

@[simp] theorem State.setResp_busy (s : State) (m code index : Nat) : (s.setResp m code index).get ROUTE.RESP_BUSY m = 0 :=
  State.get_set_same _ _ _ _ _

@[simp] theorem State.setResp_video (s : State) (m code index : Nat) : (s.setResp m code index).video = s.video := rfl

/-- The fields of a master's RESP that an answer writes. -/
abbrev respFields : List Field := [ROUTE.RESP_CODE, ROUTE.RESP_INDEX, ROUTE.RESP_DONE, ROUTE.RESP_BUSY]

/-- An answer writes a master's RESP only. -/
theorem State.setResp_get (s : State) (m code index : Nat) {f : Field} (i k : Nat) (h : respFields.contains f = false) :
    (s.setResp m code index).get f i k = s.get f i k :=
  (((((Kept.refl respFields s).set _ _ _ _ rfl).set _ _ _ _ rfl).set _ _ _ _ rfl).set _ _ _ _ rfl).get f i k h

/-! ## A master's buffer -/

@[simp] theorem State.setHeld_heldTakes (s : State) (m : Nat) (l : List HeldTake) : (s.setHeld m l).heldTakes m = l :=
  NTable.getD_putD_same _ _ _ _

@[simp] theorem State.setHeld_held (s : State) (m : Nat) (l : List HeldTake) :
    (s.setHeld m l).get ROUTE.SALVO_CTL_HELD m = l.length % 2 ^ 10 := State.get_set_same _ _ _ _ _

theorem State.setHeld_get (s : State) (m : Nat) (l : List HeldTake) {f : Field} (i k : Nat) (h : f ≠ ROUTE.SALVO_CTL_HELD) :
    (s.setHeld m l).get f i k = s.get f i k := State.get_set_ne _ _ _ _ _ _ h

@[simp] theorem State.setHeld_pend (s : State) (m : Nat) (l : List HeldTake) : (s.setHeld m l).video.pend = s.video.pend := rfl
@[simp] theorem State.setHeld_timed (s : State) (m : Nat) (l : List HeldTake) : (s.setHeld m l).video.timed = s.video.timed := rfl

/-- What no path uses any more is released; the buffers are kept. -/
@[simp] theorem State.release_heldTakes (s : State) (m : Nat) : s.release.heldTakes m = s.heldTakes m := by
  unfold State.heldTakes
  rw [State.release_video]
  rfl

@[simp] theorem State.settle_heldTakes (s : State) (m : Nat) : s.settle.heldTakes m = s.heldTakes m := by
  unfold State.heldTakes
  rw [State.settle_video]

/-! ## A buffer discarded -/

@[simp] theorem State.discardHeld_heldTakes (s : State) (m : Nat) : (s.discardHeld m).heldTakes m = [] :=
  State.setHeld_heldTakes s m []

@[simp] theorem State.discardHeld_held (s : State) (m : Nat) : (s.discardHeld m).get ROUTE.SALVO_CTL_HELD m = 0 := by
  unfold State.discardHeld
  simp (disch := decide) only [State.get_set_ne, State.setHeld_held]
  rfl

@[simp] theorem State.discardHeld_dst (s : State) (m : Nat) : (s.discardHeld m).get ROUTE.TAKE_DST_SLOT m = 0 := by
  unfold State.discardHeld
  simp (disch := decide) only [State.get_set_ne, State.get_set_same]
  rfl

@[simp] theorem State.discardHeld_batch (s : State) (m : Nat) : (s.discardHeld m).get ROUTE.TAKE_CTL_BATCH m = 0 := by
  unfold State.discardHeld
  simp (disch := decide) only [State.get_set_ne, State.get_set_same]
  rfl

/-! ## A refusal -/

@[simp] theorem State.noteRefusal_video (s : State) (code index m : Nat) (p : Page) (i : Nat) :
    (s.noteRefusal code index m p i).video = s.video := (State.noteRefusal_logged _ _ _ _ _ _).video

@[simp] theorem State.refuseTake_video (s : State) (m code index : Nat) : (s.refuseTake m code index).video = s.video := by
  simp [State.refuseTake, State.bump]

/-- A refusal raises REFUSAL (R533). -/
theorem State.refuseTake_event (s : State) (m code index : Nat) : (s.refuseTake m code index).event .ledger 0 LEDGER.EV_REFUSAL :=
  State.raise_stat _ _ _ _

/-- Beside RESP, a refusal writes the count of the page and the ledger's books. -/
theorem State.refuseTake_get (s : State) (m code index : Nat) {f : Field} (i k : Nat) (hb : booked f = false)
    (hc : f ≠ ROUTE.CNT_REFUSALS) : (s.refuseTake m code index).get f i k = (s.setResp m code index).get f i k :=
  (State.noteRefusal_get _ _ _ _ _ _ _ _ _ hb).trans (State.get_set_ne _ _ _ _ _ _ hc)

@[simp] theorem State.refuseTake_code (s : State) (m code index : Nat) :
    (s.refuseTake m code index).get ROUTE.RESP_CODE m = code % 2 ^ 8 :=
  (State.refuseTake_get s m code index m 0 rfl (by decide)).trans (State.setResp_code s m code index)

@[simp] theorem State.refuseTake_done (s : State) (m code index : Nat) : (s.refuseTake m code index).get ROUTE.RESP_DONE m = 1 :=
  (State.refuseTake_get s m code index m 0 rfl (by decide)).trans (State.setResp_done s m code index)

/-! ## An admission -/

/-- A request admitted and answered: RESP shows code 0 and DONE, a count of the page and the ledger's are raised. -/
def State.grant (s : State) (m : Nat) (count : Field) : State := ((s.setResp m 0 0).bump count).noteDecision 0 0 m .route 0

/-- Beside RESP, an admission writes the count of the page and the ledger's books. -/
theorem State.grant_get (s : State) (m : Nat) {count f : Field} (i k : Nat) (hb : booked f = false) (hc : f ≠ count) :
    (s.grant m count).get f i k = (s.setResp m 0 0).get f i k :=
  (State.noteDecision_get _ _ _ _ _ _ _ _ _ hb).trans (State.get_set_ne _ _ _ _ _ _ hc)

/-- A field that neither the books nor the display hold reads as the request left it. -/
theorem State.release_settle_get (s : State) (f : Field) (i k : Nat) (hs : alwaysShown f = false) (hb : booked f = false) :
    s.release.settle.get f i k = s.get f i k := (State.settle_get _ _ _ _ hs).trans (State.release_get _ _ _ _ hb)

end Sys2Proof.Machine
end

section
/-! SUPPORT. What the decision of a take or a salvo leaves alone: a state follows by the relay shown toward a member, by the marks of
route entries, and by parts that hold no field (R45, R168, R171). -/
namespace Sys2Proof.Machine

/-- Any part of the state but the fields and the events may differ. -/
theorem Kept.plain {l : List Field} {s t : State} (a : Kept l s t) (u : State) (hr : u.regs = t.regs) (he : u.evt = t.evt) : Kept l s u :=
  a.trans ⟨fun f i k _ => by unfold State.get; rw [hr], StatLe.of_eq (by rw [he])⟩

/-- The fields that the decision of a take may write: the relay shown toward a member (R371). -/
abbrev relayFields : List Field := [MESHCTL.PEER_RELAY, MESHCTL.PEER_RELAY_VALID]

/-- The answer of a step of a decision, a code with what it found and the state after, where that state follows by the relay shown. A
predicate of the whole answer, so that the branches of the step can be taken without looking into its parts. -/
def KeptAnswer {α : Type} (s : State) (r : Nat × α × State) : Prop := Kept relayFields s r.2.2

variable {s t : State}

/-- A field outside a list is outside its parts. -/
theorem contains_false_of_subset {l m : List Field} (h : l ⊆ m) {f : Field} (hf : m.contains f = false) : l.contains f = false := by
  simp only [List.contains_eq_mem, decide_eq_false_iff_not] at hf ⊢
  exact fun e => hf (h e)

/-- What writes fields of a list writes fields of any longer list. -/
theorem Kept.subset {l m : List Field} {s t : State} (a : Kept l s t) (h : l ⊆ m) : Kept m s t :=
  a.more (fun _ => contains_false_of_subset h)

/-- The video paths hold no field and no event. -/
theorem Kept.withVideo {l : List Field} (a : Kept l s t) (v : VideoState) : Kept l s { t with video := v } := a.plain _ rfl rfl

/-! ## Building a path -/

theorem Kept.showRelay (a : Kept relayFields s t) (mem : Nat) (links : List Nat) : Kept relayFields s (t.showRelay mem links) := by
  unfold State.showRelay
  dsimp only
  split
  · exact a
  · exact Kept.ite a (((a.set _ _ _ _ rfl).set _ _ _ _ rfl).raise _ _ _)

theorem Kept.openStore (a : Kept relayFields s t) (owner timing bw cap : Nat) (avoid : List Nat) (other : Option Nat) (twin : Bool) :
    KeptAnswer s (t.openStore owner timing bw cap avoid other twin) := by
  fun_cases State.openStore with
  -- a new allocation
  | case3 => exact a.withVideo _
  | _ => exact a

theorem Kept.openStream (a : Kept relayFields s t) (src mem dst prof : Nat) (i o : Fmt) (timing : Nat) (avoidC avoidQ : List Nat)
    (other : Option Nat) (twin : Bool) : KeptAnswer s (t.openStream src mem dst prof i o timing avoidC avoidQ other twin) := by
  fun_cases State.openStream with
  -- a new stream with its store
  | case4 => exact a.withVideo _
  | _ => exact a

theorem Kept.buildHalves (a : Kept relayFields s t) (ask : PathAsk) (i o : Fmt) (kind prof : Nat) :
    KeptAnswer s (t.buildHalves ask i o kind prof) := by
  unfold State.buildHalves
  extract_lets src mem prot owner tm links u p0 r storeId r2 q q2
  have hu : Kept relayFields s u := Kept.ite (a.showRelay mem links) a
  have hr : KeptAnswer s r := hu.openStream ..
  have hr2 : KeptAnswer s r2 := Kept.openStream hr ..
  have hq : KeptAnswer s q := hu.openStore ..
  have hq2 : KeptAnswer s q2 := Kept.openStore hq ..
  clear_value u r r2 q q2
  split
  · split
    · exact hu
    · split
      · exact hr
      · split
        · exact hu
        · exact hr2
  · split
    · split
      · exact hu
      · split
        · exact hq
        · split
          · exact hu
          · exact hq2
    · exact hu

/-! ## Deciding a take -/

section
variable (place : State → Path → State) (hplace : ∀ u p, Kept relayFields u (place u p))
include hplace

theorem State.decidePath_kept (s : State) (ask : PathAsk) : KeptAnswer s (s.decidePath ask place) := by
  fun_cases State.decidePath with
  -- every check passes
  | case5 => exact ((Kept.refl _ s).buildHalves _ _ _ _ _).trans (hplace _ _)
  | _ => exact Kept.refl _ s

theorem State.decideTap_kept (s : State) (w0 : Nat) : KeptAnswer s (s.decideTap w0 place) := by
  fun_cases State.decideTap with
  -- every check passes
  | case6 => exact hplace _ _
  | _ => exact Kept.refl _ s

end

theorem placePending_kept (dst w0 frame origin : Nat) (u : State) (p : Path) : Kept relayFields u (placePending dst w0 frame origin u p) :=
  (Kept.refl _ u).withVideo _

/-- The decision of a take writes the relay shown toward a member only. -/
theorem State.decideTake_kept (s : State) (dst w0 dmember frame : Nat) (f : TakeFacts) :
    Kept relayFields s (s.decideTake dst w0 dmember frame f).2 := by
  fun_cases State.decideTake with
  -- an unroute, a tap, a path
  | case3 => exact (Kept.refl _ s).withVideo _
  | case5 => exact State.decideTap_kept _ (placePending_kept _ _ _ _) _ _
  | case6 => exact State.decidePath_kept _ (placePending_kept _ _ _ _) _ _
  | _ => exact Kept.refl _ s

/-- So does the decision of a salvo. -/
theorem State.decideSalvo_kept : ∀ (l : List HeldTake) (fs : List TakeFacts) (i : Nat) (s : State),
    Kept relayFields s (s.decideSalvo i l fs).2.2
  | [], _, _, s => Kept.refl _ s
  | h :: t, fs, i, s => by
    rw [State.decideSalvo]
    split
    · exact State.decideSalvo_kept t fs.tail (i + 1) s
    · dsimp only
      split
      · exact Kept.refl _ s
      · exact (State.decideTake_kept _ _ _ _ _ _).trans (State.decideSalvo_kept t fs.tail (i + 1) _)

/-- The frames of a salvo's rate groups are marked in the route entries (R172). -/
theorem State.groupFrames_kept (s : State) (l : List (HeldTake × TakeFacts)) : Kept [RTE.W1_PENDING] s (s.groupFrames l) := by
  unfold State.groupFrames
  refine (Kept.refl _ s).foldl _ (fun u e => ?_) l
  split
  · exact Kept.refl _ u
  · exact ((Kept.refl _ u).withVideo _).set _ _ _ _ rfl

end Sys2Proof.Machine
end

section
/-! SUPPORT. What becomes of a take, of a salvo, and of the edge that submits one (R168, R171, R173, R536). -/
namespace Sys2Proof.Machine

/-! ## Takes -/

section
variable {s : State} {m dst w0 : Nat} {f : TakeFacts} (hgate : s.gate .route 0 = 0)
include hgate

/-- A take on this member that is admitted is placed, marked pending and answered. -/
theorem State.submitTake_admitted
    (hcode : (s.decideTake dst w0 localMember (s.takeFrame dst f.pastCut) f).1 = 0) :
    s.submitTake m dst w0 localMember f =
      (((s.decideTake dst w0 localMember (s.takeFrame dst f.pastCut) f).2.markPending dst).grant m ROUTE.CNT_TAKES).release := by
  unfold State.submitTake
  rw [if_neg (by simp [hgate]), if_neg (by simp [hcode]), if_pos rfl]
  rfl

/-- A take that is refused changes the answer only, and names the member that failed. -/
theorem State.submitTake_refused {dmember : Nat}
    (hcode : (s.decideTake dst w0 dmember (s.takeFrame dst f.pastCut) f).1 ≠ 0) :
    s.submitTake m dst w0 dmember f =
      (s.refuseTake m (s.decideTake dst w0 dmember (s.takeFrame dst f.pastCut) f).1 0).setFailMember (s.failMember w0 dmember f) := by
  unfold State.submitTake
  rw [if_neg (by simp [hgate]), if_pos hcode]

end

/-- A take joins the end of a buffer that has room. -/
theorem State.holdTake_room {s : State} {m : Nat} (h : (s.heldTakes m).length < salvoSize) :
    s.holdTake m = s.setHeld m (s.heldTakes m ++
      [{ dst := s.get ROUTE.TAKE_DST_SLOT m, w0 := s.get ROUTE.TAKE_ENTRY_W0 m, dmember := s.takeMember m }]) := if_pos h

/-! ## Salvos -/

/-- The fields that a salvo may write beside the ledger's books. -/
abbrev salvoFields : List Field :=
  respFields ++ relayFields ++ [MESHCTL.SALVO_MEMBER_MEMBER, ROUTE.CNT_REFUSALS, ROUTE.CNT_SALVOS, ROUTE.CNT_TAKES, ROUTE.RESP_WAITING,
    ROUTE.SALVO_CTL_HELD, RTE.W1_PENDING]

section
variable {s : State} {m : Nat} {timed : Bool} {fs : List TakeFacts} (hheld : s.heldTakes m ≠ [])
include hheld

/-- A salvo that the checks of the whole salvo refuse is answered, and its buffer is empty (assumption 12). -/
theorem State.submitSalvo_barred (hcode : s.salvoCode m timed (s.heldTakes m) ≠ 0) :
    s.submitSalvo m timed fs = (s.refuseTake m (s.salvoCode m timed (s.heldTakes m)) 0).setHeld m [] := by
  unfold State.submitSalvo
  rw [if_neg hheld, if_pos hcode]

variable (hcode : s.salvoCode m timed (s.heldTakes m) = 0)
include hcode

/-- A salvo of which a take is refused is answered, its buffer is empty, and the member that failed may be named. -/
theorem State.submitSalvo_refused (hdec : (s.decideSalvo 0 (s.heldTakes m) fs).1 ≠ 0) :
    ∃ u, u = (s.refuseTake m (s.decideSalvo 0 (s.heldTakes m) fs).1 (s.decideSalvo 0 (s.heldTakes m) fs).2.1).setHeld m [] ∧
      Kept [MESHCTL.SALVO_MEMBER_MEMBER] u (s.submitSalvo m timed fs) ∧ (s.submitSalvo m timed fs).video = u.video := by
  refine ⟨_, rfl, ?_⟩
  unfold State.submitSalvo
  rw [if_neg hheld, if_neg (by simp [hcode]), if_pos hdec]
  split
  · exact ⟨Kept.refl _ _, rfl⟩
  · exact ⟨(Kept.refl _ _).set _ _ _ _ rfl, rfl⟩

/-- A salvo that is admitted is placed, answered, and its buffer is empty. -/
theorem State.submitSalvo_admitted (hdec : (s.decideSalvo 0 (s.heldTakes m) fs).1 = 0) :
    ∃ u, Kept salvoFields s u ∧ s.submitSalvo m timed fs = ((u.grant m ROUTE.CNT_SALVOS).setHeld m []).release := by
  have hplaced : Kept salvoFields s (s.decideSalvo 0 (s.heldTakes m) fs).2.2 :=
    (State.decideSalvo_kept _ _ _ _).subset (by decide)
  unfold State.submitSalvo
  rw [if_neg hheld, if_neg (by simp [hcode]), if_neg (by simp [hdec])]
  refine ⟨_, ?_, rfl⟩
  split
  · exact (hplaced.withVideo _).set _ _ _ _ rfl
  · refine Kept.set (hplaced.trans ?_) _ _ _ _ rfl
    exact (State.groupFrames_kept _ _).subset (by decide)

end

/-- A salvo leaves every field but those of its answer, its relays and its route entries. -/
theorem State.submitSalvo_get (s : State) (m : Nat) (timed : Bool) (fs : List TakeFacts) {f : Field} (i k : Nat)
    (hb : booked f = false) (hf : salvoFields.contains f = false) : (s.submitSalvo m timed fs).get f i k = s.get f i k := by
  have hne : ∀ g, salvoFields.contains g = true → f ≠ g := fun g hg e => by subst e; rw [hg] at hf; cases hf
  have hresp : ∀ (u : State) (c x : Nat), (u.setResp m c x).get f i k = u.get f i k :=
    fun u c x => State.setResp_get u m c x i k (contains_false_of_subset (by decide) hf)
  have hrefused : ∀ c x, ((s.refuseTake m c x).setHeld m []).get f i k = s.get f i k := fun c x => by
    rw [State.setHeld_get _ _ _ _ _ (hne _ rfl), State.refuseTake_get _ _ _ _ _ _ hb (hne _ rfl), hresp]
  by_cases hheld : s.heldTakes m = []
  · unfold State.submitSalvo
    rw [if_pos hheld, State.raise_get]
  by_cases hcode : s.salvoCode m timed (s.heldTakes m) = 0
  · by_cases hdec : (s.decideSalvo 0 (s.heldTakes m) fs).1 = 0
    · obtain ⟨u, hu, h⟩ := State.submitSalvo_admitted hheld hcode hdec
      rw [h, State.release_get _ _ _ _ hb, State.setHeld_get _ _ _ _ _ (hne _ rfl), State.grant_get _ _ _ _ hb (hne _ rfl), hresp]
      exact hu.get f i k hf
    · obtain ⟨u, hu, hkept, -⟩ := State.submitSalvo_refused hheld hcode hdec
      rw [hkept.get f i k (contains_false_of_subset (by decide) hf), hu, hrefused]
  · rw [State.submitSalvo_barred hheld hcode, hrefused]

/-! ## Timed salvos -/

/-- A loop whose steps leave the timed salvos leaves them. -/
theorem State.foldl_timed {α : Type} (g : State → α → State) (hg : ∀ u x, (g u x).video.timed = u.video.timed) (l : List α) (t : State) :
    (l.foldl g t).video.timed = t.video.timed :=
  List.foldlRecOn (motive := fun (u : State) => u.video.timed = t.video.timed) l g rfl (fun u h x _ => (hg u x).trans h)

/-- The takes of a timed salvo become pending; the timed salvos that wait are the others. -/
theorem State.commitTimed_waiting (s : State) (z : TimedSalvo) (late : List Nat) :
    (s.commitTimed z late).get ROUTE.RESP_WAITING z.master =
      flag ((s.video.timed.filter (fun x => x ≠ z)).any (fun x => x.master = z.master)) := by
  unfold State.commitTimed
  dsimp only
  rw [State.get_set_same, State.foldl_timed]
  · exact Nat.mod_eq_of_lt (by unfold flag; split <;> decide)
  · exact fun _ _ => rfl

/-! ## A selected edge -/

section
variable {s : State} {g m : Nat} {fs : List TakeFacts}

/-- A master that selects no edge submits nothing. -/
theorem State.trigEdge_cons_unselected (t : List Nat) (h : s.get ROUTE.SALVO_TRIG_EN m = 0) :
    s.trigEdge g fs (m :: t) = s.trigEdge g fs t := by
  rw [State.trigEdge, if_neg (by simp [h])]

theorem State.trigEdge_unselected : ∀ l : List Nat, (∀ n ∈ l, s.get ROUTE.SALVO_TRIG_EN n = 0) → s.trigEdge g fs l = s
  | [], _ => rfl
  | n :: t, h =>
    (State.trigEdge_cons_unselected t (h n List.mem_cons_self)).trans
      (State.trigEdge_unselected t (fun x hx => h x (List.mem_cons_of_mem n hx)))

/-- A master that selects the edge, and has no decision running, submits its salvo. -/
theorem State.trigEdge_selected (t : List Nat) (hen : s.get ROUTE.SALVO_TRIG_EN m = 1) (hg : s.get ROUTE.SALVO_TRIG_GPIO m = g)
    (hbusy : s.get ROUTE.RESP_BUSY m = 0) :
    s.trigEdge g fs (m :: t) = (s.submitSalvo m (decide (s.get ROUTE.SALVO_CTL_TIMED m = 1)) fs).trigEdge g fs t := by
  rw [State.trigEdge, if_pos ⟨hen, hg⟩, if_neg (by simp [hbusy])]

end

end Sys2Proof.Machine
end

section
/-! SUPPORT. What the commands of a take and of a salvo come to where the write is taken (R167, R168, R171, R536). -/
namespace Sys2Proof.Machine

section
variable {m : Fin 7} {v : Word} {s t0 : State}

/-- A write of TAKE_CTL with GO and without BATCH submits the take of the writing master. -/
theorem exec_take {f : TakeFacts} (hw : s.takesWrite m .route 0 0x048 v.toNat) (ht : t0 = s.writePlain m .route 0 0x048 v.toNat)
    (hgo : bitOf v.toNat 0 = true) (hbatch : bitOf v.toNat 1 = false) :
    exec (.take m v f) s = done (t0.submitTake m (t0.get ROUTE.TAKE_DST_SLOT m) (t0.get ROUTE.TAKE_ENTRY_W0 m) (t0.takeMember m) f) := by
  show execTake m v f s = _
  unfold execTake
  rw [State.withWrite_taken hw, ← ht, if_pos (by simp [hgo, hbatch])]

/-- With BATCH the take is held. -/
theorem exec_takeHold (hw : s.takesWrite m .route 0 0x048 v.toNat) (ht : t0 = s.writePlain m .route 0 0x048 v.toNat)
    (hgo : bitOf v.toNat 0 = true) (hbatch : bitOf v.toNat 1 = true) : exec (.takeHold m v) s = done (t0.holdTake m) := by
  show execTakeHold m v s = _
  unfold execTakeHold
  rw [State.withWrite_taken hw, ← ht, if_pos (by simp [hgo, hbatch])]

/-- A write of SALVO_CTL with GO submits the salvo, timed where TIMED is written 1. -/
theorem exec_salvoGo {f : List TakeFacts} (hw : s.takesWrite m .route 0 0x04C v.toNat)
    (ht : t0 = s.writePlain m .route 0 0x04C v.toNat) (hgo : bitOf v.toNat 0 = true) :
    exec (.salvoGo m v f) s = done (t0.submitSalvo m (bitOf v.toNat 2) f) := by
  show execSalvoGo m v f s = _
  unfold execSalvoGo
  rw [State.withWrite_taken hw, ← ht, if_pos hgo]

/-- A write of SALVO_CTL with ABORT discards the buffer. -/
theorem exec_salvoAbort (hw : s.takesWrite m .route 0 0x04C 2) : exec (.salvoAbort m) s = done (s.discardHeld m) := by
  show execSalvoAbort m s = _
  unfold execSalvoAbort
  rw [State.withCheck_taken hw]

/-- The commit instant commits the first timed salvo of the master. -/
theorem exec_timedSalvoCommit {late : List Nat} {z : TimedSalvo} (hz : s.video.timed.find? (fun x => x.master = m.val) = some z) :
    exec (.timedSalvoCommit m late) s = done (s.commitTimed z late).release := by
  show execTimedSalvoCommit m late s = _
  unfold execTimedSalvoCommit
  rw [hz]

/-- An edge on an input pin is offered to the masters in the order of their IDs. -/
theorem exec_salvoTrigEdge {g : Fin 32} {f : List TakeFacts} (hin : bitOf (s.get GPIO.DIR_OUT_EN) g = false) :
    exec (.salvoTrigEdge g f) s = done (s.trigEdge g f (List.range 7)) := if_neg (by simp [hin])

end

/-- An edge that master 1 alone selects submits its salvo, and no other. -/
theorem State.trigEdge_master1 {s : State} {g : Nat} (f : List TakeFacts) (hen : s.get ROUTE.SALVO_TRIG_EN 1 = 1)
    (hg : s.get ROUTE.SALVO_TRIG_GPIO 1 = g) (hothers : ∀ n : Fin 7, n.val ≠ 1 → s.get ROUTE.SALVO_TRIG_EN n = 0)
    (hbusy : s.get ROUTE.RESP_BUSY 1 = 0) :
    s.trigEdge g f (List.range 7) = s.submitSalvo 1 (decide (s.get ROUTE.SALVO_CTL_TIMED 1 = 1)) f := by
  have hbefore : s.trigEdge g f (List.range 7) = s.trigEdge g f [1, 2, 3, 4, 5, 6] :=
    State.trigEdge_cons_unselected [1, 2, 3, 4, 5, 6] (hothers 0 (by decide))
  rw [hbefore, State.trigEdge_selected _ hen hg hbusy]
  refine State.trigEdge_unselected _ (fun n hn => ?_)
  rw [State.submitSalvo_get _ _ _ _ _ _ rfl rfl]
  have hlt : n < 7 ∧ n ≠ 1 := (by decide : ∀ x ∈ [2, 3, 4, 5, 6], x < 7 ∧ x ≠ 1) n hn
  exact hothers ⟨n, hlt.1⟩ hlt.2

/-- Settles O7, command by command: the answer is written after the decision, and neither the books nor the display touch it. -/
theorem takesCommit : Obligations.TakesCommit := by
  unfold Obligations.TakesCommit
  refine ⟨fun m v f s t0 hw ht hgo hbatch hgate hlocal hcode => ?_, fun m v f s t0 r hw ht hgo hbatch hgate hcode hr => ?_,
    fun m v s t0 hw ht hgo hbatch hroom => ?_, fun m v f s t0 hw ht hgo htimed hheld hcode hdec => ?_,
    fun m v f s t0 r hw ht hgo hheld hcode hdec hr => ?_, fun m s hw => ?_, fun m late z s hz => ?_,
    fun g f s hin hen hg hothers hbusy => ?_⟩
  · rw [exec_take hw ht hgo hbatch, hlocal, State.submitTake_admitted hgate hcode]
    refine completes_done ⟨?_, ?_, ?_, ?_⟩ <;>
      rw [State.release_settle_get _ _ _ _ (by decide) (by decide), State.grant_get _ _ _ _ (by decide) (by decide)]
    · exact State.setResp_code _ _ _ _
    · exact State.setResp_done _ _ _ _
    · exact State.setResp_busy _ _ _ _
    · rw [State.setResp_get _ _ _ _ _ _ (by decide)]
      exact State.get_set_same _ _ _ _ _
  · rw [exec_take hw ht hgo hbatch, State.submitTake_refused hgate (by rw [hcode]; exact hr), hcode]
    refine completes_done ⟨?_, ?_, ?_, ?_⟩
    · rw [State.settle_get _ _ _ _ (by decide), State.setFailMember, State.get_set_ne _ _ _ _ _ _ (by decide), State.refuseTake_code]
    · rw [State.settle_get _ _ _ _ (by decide), State.setFailMember, State.get_set_ne _ _ _ _ _ _ (by decide), State.refuseTake_done]
    · rw [State.settle_video, State.setFailMember, State.set_video, State.refuseTake_video]
    · exact State.settle_stat _ _ _ _ (State.refuseTake_event _ _ _ _)
  · rw [exec_takeHold hw ht hgo hbatch, State.holdTake_room hroom]
    refine completes_done ⟨?_, ?_⟩
    · rw [State.settle_get _ _ _ _ (by decide), State.setHeld_held, List.length_append]
      exact Nat.mod_eq_of_lt (by simp only [List.length_singleton]; omega)
    · rw [State.settle_heldTakes, State.setHeld_heldTakes]
  · rw [exec_salvoGo hw ht hgo, htimed]
    obtain ⟨u, -, hu⟩ := State.submitSalvo_admitted hheld hcode hdec
    rw [hu]
    refine completes_done ⟨?_, ?_, ?_, ?_⟩
    · rw [State.release_settle_get _ _ _ _ (by decide) (by decide), State.setHeld_get _ _ _ _ _ (by decide),
        State.grant_get _ _ _ _ (by decide) (by decide)]
      exact State.setResp_code _ _ _ _
    · rw [State.release_settle_get _ _ _ _ (by decide) (by decide), State.setHeld_get _ _ _ _ _ (by decide),
        State.grant_get _ _ _ _ (by decide) (by decide)]
      exact State.setResp_done _ _ _ _
    · rw [State.release_settle_get _ _ _ _ (by decide) (by decide)]
      exact State.setHeld_held _ _ _
    · rw [State.settle_heldTakes, State.release_heldTakes, State.setHeld_heldTakes]
  · rw [exec_salvoGo hw ht hgo]
    obtain ⟨u, hu, hkept, hvideo⟩ := State.submitSalvo_refused hheld hcode (by rw [hdec]; exact hr)
    rw [hdec] at hu
    refine completes_done ⟨?_, ?_, ?_, ?_⟩
    · rw [State.settle_get _ _ _ _ (by decide), hkept.get _ _ _ rfl, hu, State.setHeld_get _ _ _ _ _ (by decide), State.refuseTake_code]
    · rw [State.settle_get _ _ _ _ (by decide), hkept.get _ _ _ rfl, hu]
      exact State.setHeld_held _ _ _
    · rw [State.settle_video, hvideo, hu, State.setHeld_pend, State.refuseTake_video]
    · rw [State.settle_video, hvideo, hu, State.setHeld_timed, State.refuseTake_video]
  · rw [exec_salvoAbort hw]
    refine completes_done ⟨?_, ?_, ?_, ?_⟩
    · rw [State.settle_get _ _ _ _ (by decide), State.discardHeld_held]
    · rw [State.settle_heldTakes, State.discardHeld_heldTakes]
    · rw [State.settle_get _ _ _ _ (by decide), State.discardHeld_dst]
    · rw [State.settle_get _ _ _ _ (by decide), State.discardHeld_batch]
  · rw [exec_timedSalvoCommit hz]
    refine completes_done ?_
    rw [State.release_settle_get _ _ _ _ (by decide) (by decide), State.commitTimed_waiting]
  · rw [exec_salvoTrigEdge hin, State.trigEdge_master1 f hen hg hothers hbusy]
    rfl

end Sys2Proof.Machine
end

section
/-! SUPPORT. What the operations on a memory channel and on a quadrant show: the counts and the history of corrected sectors, the entry
into FAILING, the test and the training; and the start of a generator (R187, R188, R205 to R212, R266). -/
namespace Sys2Proof.Machine

/-! ## Counters, flags and events -/

/-- A saturating sum stays within its width. -/
theorem satAdd_lt (w a b : Nat) : satAdd w a b < 2 ^ w :=
  Nat.lt_of_le_of_lt (Nat.min_le_right _ _) (Nat.sub_lt (Nat.two_pow_pos w) Nat.one_pos)

/-- A counter raised reads one more, up to its limit. -/
@[simp] theorem State.bump_get_same (s : State) (f : Field) (i k : Nat) : (s.bump f i k).get f i k = satAdd f.width (s.get f i k) 1 :=
  (State.get_set_same _ _ _ _ _).trans (Nat.mod_eq_of_lt (satAdd_lt _ _ _))

/-- A counter raised leaves every other field alone. -/
theorem State.bump_get_ne (s : State) {f g : Field} (i k j n : Nat) (h : g ≠ f) : (s.bump f i k).get g j n = s.get g j n :=
  State.get_set_ne _ _ _ _ _ _ h

/-- A flag is one bit. -/
theorem flag_lt (b : Bool) : flag b < 2 := by cases b <;> decide

/-- Where no event is cleared, one that reads 1 stands. -/
theorem StatLe.event {s t : State} (a : StatLe s t) {p : Page} {i b : Nat} (h : s.event p i b) : t.event p i b := a _ _ h

/-! ## Corrected sectors -/

/-- The stamps of the corrections are no register field. -/
theorem Kept.setCorrections {l : List Field} {s t : State} (a : Kept l s t) (k : Nat) (m : List Nat) : Kept l s (t.setCorrections k m) :=
  a.plain _ rfl rfl

/-- Stamps kept under one key leave those under every other. -/
theorem State.setCorrections_other (s : State) {k j : Nat} (m : List Nat) (h : j ≠ k) :
    NTable.getD (s.setCorrections k m).repair.corrections j [] = NTable.getD s.repair.corrections j [] :=
  NTable.getD_putD_ne _ _ _ h

/-- The corrections of a channel are kept apart from those of its sectors. -/
theorem channelKey_ne_sectorKey (c : Fin 32) (sector : Nat) : channelKey c ≠ sectorKey c sector := by
  have hsector := Nat.mod_lt sector (Nat.two_pow_pos 24)
  unfold channelKey sectorKey
  omega

/-- A correction of a sector with fewer than two others within a day only joins the sector's history (R188). -/
theorem State.sectorHistory_few {s : State} {c sector : Nat}
    (h : (recent s.clk.uptime dayPeriods (NTable.getD s.repair.corrections (sectorKey c sector) [])).length < 2) :
    ∃ l, s.sectorHistory c sector = s.setCorrections (sectorKey c sector) l :=
  ⟨_, if_neg (by rw [List.length_append, List.length_singleton]; omega)⟩

/-- A correction below CE_LIMIT of a channel that is not GOOD is shown in CE_RATE and changes no other field (Table 6.8). -/
theorem State.countCorrection_below {s : State} {c : Nat} (hhealth : s.get MEMCH.CH_STAT_HEALTH c ≠ chGOOD)
    (hlimit : (recent s.clk.uptime (s.get MEMCH.CH_CFG_CE_WINDOW c * xtalPerSecond)
      (NTable.getD s.repair.corrections (channelKey c) [])).length + 1 < s.get MEMCH.CH_CFG_CE_LIMIT c) :
    Kept [MEMCH.CE_RATE_COUNT] s (s.countCorrection c) := by
  unfold State.countCorrection
  extract_lets l t limit
  have ht : Kept [MEMCH.CE_RATE_COUNT] s t := ((Kept.refl _ s).setCorrections _ _).set _ _ _ _ rfl
  have hkept : ∀ f, f ≠ MEMCH.CE_RATE_COUNT → t.get f c = s.get f c := fun f hf => State.get_set_ne _ _ _ _ _ _ hf
  have hfew : ¬ limit ≤ l.length := by
    rw [show limit = s.get MEMCH.CH_CFG_CE_LIMIT c from hkept _ (by decide), List.length_append, List.length_singleton]
    omega
  have hnotGood : t.get MEMCH.CH_STAT_HEALTH c ≠ chGOOD := by rwa [hkept _ (by decide)]
  rw [if_neg hfew, if_neg (fun h => hnotGood h.2.1)]
  exact ht

/-! ## The entry into FAILING -/

/-- A channel in RUN that is GOOD or in WATCH enters FAILING; the migration that follows is upkeep (R206). -/
theorem State.failChannel_failing {s : State} {c : Nat} (hrun : s.chanRun c = true) (hhealth : s.get MEMCH.CH_STAT_HEALTH c < 2) :
    (s.failChannel c true).get MEMCH.CH_STAT_HEALTH c = chFAILING := by
  unfold State.failChannel
  rw [if_pos ⟨hrun, hhealth⟩, if_pos rfl]
  exact ((((Upkeep.refl _).noteReserve.logStep _ _ _ _ _ _ _ _).runPlan _ _).get _ _ _ rfl).trans (State.get_set_same _ _ _ _ _)

/-! ## The self-test -/

/-- The unit of a channel is its header's first. -/
theorem State.setUnit_channel (s : State) (c v : Nat) : s.setUnit (chUnit c) v = s.set (HDR.STATE .memch) v c := rfl

/-- The mark that the reserve is spent is one field of the ledger. -/
theorem State.noteReserve_get (s : State) {f : Field} (i k : Nat) (h : f ≠ LEDGER.STAT_RESERVE_SPENT) :
    s.noteReserve.get f i k = s.get f i k := State.get_set_ne _ _ _ _ _ _ h

/-- A test that finds nothing takes the channel to RUN at WATCH and says that it is done (R209). -/
theorem State.channelTested_clean (s : State) (c : Nat) :
    (s.channelTested c 0).event .memch c MEMCH.EV_SELFTEST_DONE ∧ (s.channelTested c 0).get MEMCH.CH_STAT_HEALTH c = chWATCH ∧
      (s.channelTested c 0).get (HDR.STATE .memch) c = uRUN := by
  unfold State.channelTested
  dsimp only
  rw [if_neg (Nat.not_lt_zero _)]
  refine ⟨?_, ?_, ?_⟩
  · rw [State.setUnit_channel]
    refine StatLe.event ?_ (State.raise_stat s .memch c MEMCH.EV_SELFTEST_DONE)
    refine StatLe.trans ?_ ((((Upkeep.refl _).logStep _ _ _ _ _ _ _ _).logStep _ _ _ _ _ _ _ _).noteReserve.recount).stat
    exact (((((StatLe.refl _).set _ _ _ _).set _ _ _ _).trans (State.raiseIf_le _ _ _ _ _)).set _ _ _ _).set _ _ _ _
  · simp (disch := decide) only [State.recount_get, State.noteReserve_get, State.logStep_get, State.get_set_same]
    rfl
  · simp (disch := decide) only [State.recount_get, State.noteReserve_get, State.logStep_get, State.setUnit_channel, State.get_set_ne,
      State.get_set_same]
    rfl

/-! ## Training -/

/-- A field set in several instances reads the value in each of them, and elsewhere as before. -/
theorem State.foldl_set_get (f : Field) (v i : Nat) : ∀ (l : List Nat) (s : State),
    (l.foldl (fun (u : State) c => u.set f v c) s).get f i = if i ∈ l then v % 2 ^ f.width else s.get f i
  | [], _ => (if_neg List.not_mem_nil).symm
  | c :: l, s => by
    rw [List.foldl_cons, State.foldl_set_get f v i l, State.get_set_at]
    by_cases hl : i ∈ l
    · rw [if_pos hl, if_pos (List.mem_cons_of_mem c hl)]
    · by_cases hc : i = c
      · rw [if_neg hl, if_pos ⟨hc, rfl⟩, if_pos (List.mem_cons.mpr (.inl hc))]
      · rw [if_neg hl, if_neg (fun h => hc h.1), if_neg (fun h => (List.mem_cons.mp h).elim hc hl)]

/-! ## The start of an output's generator -/

/-- A take that waits holds no field. -/
@[simp] theorem State.dueAtStart_get (s : State) (o : Nat) (f : Field) (i k : Nat) : (s.dueAtStart o).get f i k = s.get f i k := by
  unfold State.dueAtStart
  split <;> rfl

/-- A transmit slice that follows its clock leaves what follows no clock. -/
theorem State.voSlice_get (s : State) (o : Nat) (run : Bool) (f : Field) (i k : Nat) (h : clocked f = false) :
    (s.voSlice o run).get f i k = s.get f i k := ((Clocked.refl s).voSlice o run).get f i k h

/-- A generator that starts shows no phase error, has left HID_INSERVICE, counts frames from system time's and raises STARTED (R256,
R266). -/
theorem State.startGenerator_shows (s : State) (o : Nat) :
    (s.startGenerator o).get VOUT.PHASE_ERR_ERR o = 0 ∧ (s.startGenerator o).get VOUT.HID_INSERVICE o = 0 ∧
      (s.startGenerator o).get VOUT.FRAME_CNT_COUNT o = s.sysFrame (s.get VOUT.FMT_RATE o) % 2 ^ 20 ∧
      (s.startGenerator o).event .vout o VOUT.EV_STARTED := by
  unfold State.startGenerator
  dsimp only
  refine ⟨?_, ?_, ?_, ((Clocked.refl _).voSlice _ _).stat.event (State.raise_stat _ _ _ _)⟩
  all_goals
    simp (disch := decide) only [State.voSlice_get, State.raise_get, State.dueAtStart_get, State.get_set_ne, State.get_set_same]
    rfl

end Sys2Proof.Machine
end

section
/-! SUPPORT. What the commands on memory channels and quadrants come to (R187, R204 to R213). -/
namespace Sys2Proof.Machine

/-- The fields in which a corrected sector is counted and noted. -/
abbrev countFields : List Field := [MEMCH.CNT_CORR, MEMCH.ERR_ADDR_SECTOR, MEMCH.ERR_ADDR_KIND]

section
variable {c : Fin 32} {s : State} (hrun : s.chanRun c = true)
include hrun

/-- A corrected sector of a running channel, below the thresholds of Table 6.8, is counted and noted with kind 0; beside that the rate is
shown. -/
theorem exec_sectorCorrected {sector : Nat}
    (hfew : (recent s.clk.uptime dayPeriods (NTable.getD s.repair.corrections (sectorKey c sector) [])).length < 2)
    (hhealth : s.get MEMCH.CH_STAT_HEALTH c ≠ chGOOD)
    (hlimit : (recent s.clk.uptime (s.get MEMCH.CH_CFG_CE_WINDOW c * xtalPerSecond)
      (NTable.getD s.repair.corrections (channelKey c) [])).length + 1 < s.get MEMCH.CH_CFG_CE_LIMIT c) :
    ∃ t, exec (.sectorCorrected c sector) s = done t ∧ Kept [MEMCH.CE_RATE_COUNT] ((s.bump MEMCH.CNT_CORR c).noteSector c sector 0) t := by
  refine ⟨_, if_pos hrun, ?_⟩
  have hnoted : Kept countFields s ((s.bump MEMCH.CNT_CORR c).noteSector c sector 0) :=
    (((Kept.refl _ s).bump _ _ _ rfl).set _ _ _ _ rfl).set _ _ _ _ rfl
  obtain ⟨l, hl⟩ := State.sectorHistory_few (s := (s.bump MEMCH.CNT_CORR c).noteSector c sector 0) (sector := sector) hfew
  rw [hl]
  have hkept := hnoted.setCorrections (sectorKey c sector) l
  refine ((Kept.refl _ _).setCorrections _ _).trans (State.countCorrection_below ?_ ?_)
  · rwa [hkept.get MEMCH.CH_STAT_HEALTH c 0 rfl]
  · rw [State.setCorrections_other _ _ (channelKey_ne_sectorKey c sector), hkept.get MEMCH.CH_CFG_CE_WINDOW c 0 rfl,
      hkept.get MEMCH.CH_CFG_CE_LIMIT c 0 rfl]
    exact hlimit

/-- An uncorrectable sector outside the allocations is counted, noted with kind 1 and raised. -/
theorem exec_sectorUncorrectable (sector : Nat) :
    exec (.sectorUncorrectable c sector false) s =
      done (((s.bump MEMCH.CNT_UNCORR c).noteSector c sector 1).raise .memch c MEMCH.EV_UNCORR) := if_pos hrun

/-- The end of a scrub pass. -/
theorem exec_scrubPass {hours : Nat} (hen : s.get SYNCMGR.SCRUB_CFG_EN = 1) (hstage : s.get THERMAL.STAT_STAGE = 0) :
    exec (.scrubPass c hours) s =
      done ((((s.bump MEMCH.CNT_SCRUB_PASS c).set MEMCH.SCRUB_STAT_AGE 0 c).set MEMCH.SCRUB_STAT_LATE (flag (24 < hours)) c).raiseIf
        (24 < hours) .memch c MEMCH.EV_SCRUB_LATE) := if_pos ⟨hrun, hen, hstage⟩

end

/-- A channel in RUN that is lost is DEAD and says so; what is done for its stores is upkeep (R208). -/
theorem exec_channelDead {c : Fin 32} {s : State} (hrun : s.chanRun c = true) :
    ∃ u t, exec (.channelDead c) s = done t ∧ Upkeep ((State.set u MEMCH.CH_STAT_HEALTH chDEAD c).raise .memch c MEMCH.EV_DEAD) t :=
  ⟨s.raiseIf s.reserveSpent .syncmgr 0 SYNCMGR.EV_RESERVE_SPENT, _, if_pos hrun,
    (((((Upkeep.refl _).isolateUnit (chUnit c) 8 0).noteReserve.selAway _ _).loseStills _).replanInto _).runPlan _ _⟩

/-- A write of MIGRATE_OUT to a channel that is GOOD or in WATCH. -/
theorem exec_migrateOut {m : Fin 7} {c : Fin 32} {s : State} (hw : s.takesWrite m .memch c 0x058 1)
    (hhealth : s.get MEMCH.CH_STAT_HEALTH c < 2) :
    exec (.migrateOut m c) s = done ((s.writePlain m .memch c 0x058 1).failChannel c true) ∧
      (s.writePlain m .memch c 0x058 1).get MEMCH.CH_STAT_HEALTH c < 2 := by
  have hplain : (s.writePlain m .memch c 0x058 1).get MEMCH.CH_STAT_HEALTH c = s.get MEMCH.CH_STAT_HEALTH c :=
    State.writePlain_get s _ _ (by decide)
  have hbelow : (s.writePlain m .memch c 0x058 1).get MEMCH.CH_STAT_HEALTH c < 2 := by rwa [hplain]
  refine ⟨?_, hbelow⟩
  show execMigrateOut m c s = _
  unfold execMigrateOut
  rw [State.withWrite_taken hw, if_neg (fun hfailing => absurd hfailing.2 (Nat.ne_of_lt hbelow))]

/-- A write of SELFTEST to a channel that holds no allocation. -/
theorem exec_channelSelftest {m : Fin 7} {c : Fin 32} {s : State} {failing : Nat} (hw : s.takesWrite m .memch c 0x058 2)
    (hempty : (s.writePlain m .memch c 0x058 2).channelEmpty c = true) :
    exec (.channelSelftest m c failing) s = done ((s.writePlain m .memch c 0x058 2).channelTested c failing) := by
  show execChannelSelftest m c failing s = _
  unfold execChannelSelftest
  rw [State.withWrite_taken hw, if_pos hempty]

/-- A retrain leaves every channel of the quadrant TRAINED, and the quadrant in RUN where it was DEGRADED (R212). -/
theorem exec_retrainEnd {q : Fin 4} {s : State} (hup : s.domUp (13 + q) = true) :
    ∃ t, exec (.retrainEnd q) s = done t ∧ (∀ c : Fin 8, t.get MEMCH.CH_STAT_TRAINED (8 * q + c) = 1) ∧
      (s.get SYNCMGR.QUAD_STAT_STATE 0 q = quadDEGRADED → t.get SYNCMGR.QUAD_STAT_STATE 0 q = quadRUN) := by
  refine ⟨_, if_pos hup, fun c => ?_, fun hwas => ?_⟩
  · rw [State.recount_get _ _ _ _ (by decide)]
    have hmem : 8 * q.val + c.val ∈ quadChannels q := List.mem_map.mpr ⟨c, List.mem_range.mpr c.isLt, rfl⟩
    have htrained := (State.foldl_set_get MEMCH.CH_STAT_TRAINED 1 (8 * q + c) (quadChannels q) s).trans (if_pos hmem)
    split
    · exact (State.get_set_ne _ _ _ _ _ _ (by decide)).trans htrained
    · exact htrained
  · have hkept := Kept.foldl (Kept.refl [MEMCH.CH_STAT_TRAINED] s) (fun (u : State) c => u.set MEMCH.CH_STAT_TRAINED 1 c)
      (fun u c => (Kept.refl _ u).set _ _ _ _ rfl) (quadChannels q)
    rw [State.recount_get _ _ _ _ (by decide), if_pos ((hkept.get _ _ _ rfl).trans hwas)]
    exact State.get_set_same _ _ _ _ _

section
variable {m : Fin 7} {v : Word} {s t0 : State} (hw : s.takesWrite m .syncmgr 0 0x070 v.toNat)
  (ht : t0 = s.writePlain m .syncmgr 0 0x070 v.toNat)
include hw ht

/-- A write of EVAC with GO, where no evacuation runs. -/
theorem exec_syncEvacGo (hgo : bitOf v.toNat 4 = true) (hidle : t0.get SYNCMGR.EVAC_BUSY = 0) :
    exec (.syncEvacGo m v) s = done (t0.evacuate m (bitsOf v.toNat 0 2)) := by
  show execSyncEvacGo m v s = _
  unfold execSyncEvacGo
  rw [State.withWrite_taken hw, ← ht, if_pos (by simp [hgo, hidle])]

/-- A write of EVAC with RELEASE, of an EVACUATED quadrant: beside EVAC.BUSY and the books, it is in RUN again. -/
theorem exec_syncEvacRelease (hrelease : bitOf v.toNat 5 = true)
    (hevacuated : t0.get SYNCMGR.QUAD_STAT_STATE 0 (bitsOf v.toNat 0 2) = quadEVACUATED) :
    ∃ t, exec (.syncEvacRelease m v) s = done t ∧ t.get SYNCMGR.QUAD_STAT_STATE 0 (bitsOf v.toNat 0 2) = quadRUN := by
  have hexec : exec (.syncEvacRelease m v) s = execSyncEvacRelease m v s := rfl
  rw [hexec]
  unfold execSyncEvacRelease
  rw [State.withWrite_taken hw, ← ht, if_pos (by simp [hrelease, hevacuated])]
  refine ⟨_, rfl, ?_⟩
  rw [State.recount_get _ _ _ _ (by decide)]
  split
  · exact (State.get_set_ne _ _ _ _ _ _ (by decide)).trans (State.get_set_same _ _ _ _ _)
  · exact State.get_set_same _ _ _ _ _

end

/-- Settles O8, command by command: each writes what is named, and neither the upkeep after it nor the display touches that. -/
theorem memoryChannels : Obligations.MemoryChannels := by
  unfold Obligations.MemoryChannels
  refine ⟨fun c sector s hrun hfew hhealth hlimit => ?_, fun c sector s hrun => ?_, fun c hours s hrun hen hstage => ?_,
    fun c s hwatch => ?_, fun c s hrun => ?_, fun m c s hw hrun hhealth => ?_, fun m c s hw hempty => ?_, fun q s hup => ?_,
    fun m v s hw hgo hidle => exec_syncEvacGo hw rfl hgo hidle, fun m v s hw hrelease hevacuated => ?_, fun o s hstart _ => ?_⟩
  · obtain ⟨t, hexec, hkept⟩ := exec_sectorCorrected hrun hfew hhealth hlimit
    rw [hexec]
    refine completes_done ⟨?_, ?_, ?_⟩ <;> rw [State.settle_get _ _ _ _ (by decide), hkept.get _ _ _ rfl]
    · simp (disch := decide) only [State.noteSector, State.get_set_ne, State.bump_get_same]
      rfl
    · simp (disch := decide) only [State.noteSector, State.get_set_ne, State.get_set_same]
      rfl
    · exact State.get_set_same _ _ _ _ _
  · rw [exec_sectorUncorrectable hrun]
    refine completes_done ⟨?_, ?_, State.settle_stat _ _ _ _ (State.raise_stat _ _ _ _)⟩ <;>
      rw [State.settle_get _ _ _ _ (by decide), State.raise_get]
    · simp (disch := decide) only [State.noteSector, State.get_set_ne, State.bump_get_same]
      rfl
    · exact State.get_set_same _ _ _ _ _
  · rw [exec_scrubPass hrun hen hstage]
    refine completes_done ⟨?_, ?_, ?_⟩ <;> rw [State.settle_get _ _ _ _ (by decide), State.raiseIf_get]
    · simp (disch := decide) only [State.get_set_ne, State.bump_get_same]
      rfl
    · exact (State.get_set_ne _ _ _ _ _ _ (by decide)).trans (State.get_set_same _ _ _ _ _)
    · exact (State.get_set_same _ _ _ _ _).trans (Nat.mod_eq_of_lt (flag_lt _))
  · have hexec : exec (.watchExpire c) s = done (s.set MEMCH.CH_STAT_HEALTH chGOOD c) := if_pos hwatch
    rw [hexec]
    refine completes_done ?_
    rw [State.settle_get _ _ _ _ (by decide)]
    exact State.get_set_same _ _ _ _ _
  · obtain ⟨u, t, hexec, hupkeep⟩ := exec_channelDead hrun
    rw [hexec]
    refine completes_done ⟨State.settle_stat _ _ _ _ (hupkeep.stat.event (State.raise_stat _ _ _ _)), ?_⟩
    rw [State.settle_get _ _ _ _ (by decide), hupkeep.get _ _ _ rfl, State.raise_get]
    exact State.get_set_same _ _ _ _ _
  · obtain ⟨hexec, hbelow⟩ := exec_migrateOut hw hhealth
    rw [hexec]
    refine completes_done ?_
    rw [State.settle_get _ _ _ _ (by decide)]
    exact State.failChannel_failing hrun hbelow
  · rw [exec_channelSelftest hw hempty]
    obtain ⟨hdone, hhealth, hstate⟩ := State.channelTested_clean (s.writePlain m .memch c 0x058 2) c
    refine completes_done ⟨State.settle_stat _ _ _ _ hdone, ?_, ?_⟩ <;> rw [State.settle_get _ _ _ _ (by decide)]
    · exact hhealth
    · exact hstate
  · obtain ⟨t, hexec, htrained, hagain⟩ := exec_retrainEnd hup
    rw [hexec]
    refine completes_done ⟨fun k => ?_, fun hwas => ?_⟩ <;> rw [State.settle_get _ _ _ _ (by decide)]
    · exact htrained k
    · exact hagain hwas
  · obtain ⟨t, hexec, hstate⟩ := exec_syncEvacRelease hw rfl hrelease hevacuated
    rw [hexec]
    refine completes_done ?_
    rw [State.settle_get _ _ _ _ (by decide)]
    exact hstate
  · have hexec : exec (.generatorStart o true) s = done (s.startGenerator o) := if_pos hstart
    rw [hexec]
    obtain ⟨herr, hservice, hcount, hstarted⟩ := State.startGenerator_shows s o
    refine completes_done ⟨?_, ?_, ?_, State.settle_stat _ _ _ _ hstarted⟩ <;> rw [State.settle_get _ _ _ _ (by decide)]
    · exact herr
    · exact hservice
    · exact hcount

end Sys2Proof.Machine
end

section
/-! SUPPORT. What taking the paths of the tables again leaves alone at the end of a rebuild: the states of the supervisors and of the
ledger, and the commits that wait (R412, R574). -/
namespace Sys2Proof.Machine

/-! ## The commits that wait -/

@[simp] theorem State.bump_commits (s : State) (f : Field) (i k : Nat) : (s.bump f i k).commits = s.commits := rfl

@[simp] theorem State.journal_commits (s : State) : s.journal.commits = s.commits := by
  unfold State.journal
  split <;> rfl

@[simp] theorem State.stepWrite_commits (s : State) (e : StepEntry) : (s.stepWrite e).commits = s.commits :=
  (State.journal_commits _).trans (State.raise_commits _ _ _ _)

@[simp] theorem State.stepQueue_commits (s : State) (e : StepEntry) : (s.stepQueue e).commits = s.commits := by
  unfold State.stepQueue
  split
  · rfl
  · exact State.raise_commits _ _ _ _

@[simp] theorem State.logStep_commits (s : State) (u : UnitId) (step outcome detector cause slot frames detail : Nat) :
    (s.logStep u step outcome detector cause slot frames detail).commits = s.commits := by
  unfold State.logStep State.stepEntry
  split
  · exact State.stepQueue_commits _ _
  · exact State.stepWrite_commits _ _

@[simp] theorem State.noteRefusal_commits (s : State) (code index m : Nat) (p : Page) (i : Nat) :
    (s.noteRefusal code index m p i).commits = s.commits := by
  unfold State.noteRefusal
  rw [State.raise_commits, State.bump_commits]
  iterate 7 rw [State.set_commits]

@[simp] theorem State.noteDecision_commits (s : State) (code index m : Nat) (p : Page) (i : Nat) :
    (s.noteDecision code index m p i).commits = s.commits := by
  unfold State.noteDecision
  rw [State.journal_commits]
  split
  · rfl
  · exact State.noteRefusal_commits _ _ _ _ _ _

@[simp] theorem State.showTotals_commits (s : State) (l0 la lb bw cap shares free spares links now : Nat) :
    (s.showTotals l0 la lb bw cap shares free spares links now).commits = s.commits :=
  (State.raiseIf_commits _ _ _ _ _).trans (State.raiseIf_commits _ _ _ _ _)

@[simp] theorem State.recount_commits (s : State) : s.recount.commits = s.commits := by
  unfold State.recount
  split
  · rfl
  · exact State.showTotals_commits s _ _ _ _ _ _ _ _ _ _

/-! ## What a rebuild leaves alone -/

/-- The fields that taking a path again may write: the books, the relay shown toward a member, the mark of a route entry that waits; and
those in which the rebuild's end is counted and shown. -/
def rebuilding (f : Field) : Bool :=
  booked f || (relayFields ++ [RTE.W1_PENDING, LEDGER.CNT_REBUILDS, SUPERVISOR.STAT_MODE]).contains f

/-- One state follows from another by the paths of the tables taken: no other field changes, no event is cleared, and the commits that
wait still wait. -/
structure Rebuilt (s t : State) : Prop where
  get : ∀ f i k, rebuilding f = false → t.get f i k = s.get f i k
  stat : StatLe s t
  commits : t.commits = s.commits

theorem rebuilding_booked {f : Field} (h : rebuilding f = false) : booked f = false := (Bool.or_eq_false_iff.mp h).1

theorem rebuilding_relay {f : Field} (h : rebuilding f = false) : relayFields.contains f = false :=
  contains_false_of_subset (List.subset_append_left _ _) (Bool.or_eq_false_iff.mp h).2

variable {s t u : State}

theorem Rebuilt.refl (s : State) : Rebuilt s s := ⟨fun _ _ _ _ => rfl, StatLe.refl s, rfl⟩

theorem Rebuilt.trans (a : Rebuilt s t) (b : Rebuilt t u) : Rebuilt s u :=
  ⟨fun f i k h => (b.get f i k h).trans (a.get f i k h), a.stat.trans b.stat, b.commits.trans a.commits⟩

theorem Rebuilt.set (a : Rebuilt s t) (f : Field) (v i k : Nat) (h : rebuilding f = true) : Rebuilt s (t.set f v i k) :=
  a.trans ⟨fun g j n hg => State.get_set_ne _ _ _ _ _ _ (fun e => by rw [e, h] at hg; cases hg), StatLe.of_eq rfl, rfl⟩

/-- What only the books hold. -/
theorem Rebuilt.logged (a : Rebuilt s t) (b : Logged t u) (h : u.commits = t.commits) : Rebuilt s u :=
  a.trans ⟨fun f i k hf => b.get f i k (rebuilding_booked hf), b.stat, h⟩

/-- What is neither a field nor an event's state. -/
theorem Rebuilt.plain (a : Rebuilt s t) (u : State) (hr : u.regs = t.regs) (he : u.evt.stat = t.evt.stat) (hc : u.commits = t.commits) :
    Rebuilt s u := a.trans ⟨fun f i k _ => by unfold State.get; rw [hr], StatLe.of_eq he, hc⟩

theorem Rebuilt.raise (a : Rebuilt s t) (p : Page) (i b : Nat) : Rebuilt s (t.raise p i b) :=
  a.logged (Logged.raise t p i b) (State.raise_commits t p i b)

theorem Rebuilt.recount (a : Rebuilt s t) : Rebuilt s t.recount := a.logged t.recount_logged t.recount_commits

theorem Rebuilt.release (a : Rebuilt s t) : Rebuilt s t.release := (a.plain { t with video := t.video.collect } rfl rfl rfl).recount

/-- A loop that takes paths again takes paths again. -/
theorem Rebuilt.foldl {α : Type} (a : Rebuilt s t) (g : State → α → State) (h : ∀ u x, Rebuilt u (g u x)) (l : List α) :
    Rebuilt s (l.foldl g t) := by
  induction l generalizing t with
  | nil => exact a
  | cons x l ih => exact ih (a.trans (h t x))

/-! ## A path taken again -/

/-- The answer of a step of a decision keeps the commits that wait. -/
def CommitsAnswer {α : Type} (s : State) (r : Nat × α × State) : Prop := r.2.2.commits = s.commits

@[simp] theorem State.showRelay_commits (s : State) (mem : Nat) (links : List Nat) : (s.showRelay mem links).commits = s.commits := by
  unfold State.showRelay
  dsimp only
  split
  · rfl
  · split
    · rfl
    · exact State.raise_commits _ _ _ _

theorem State.openStore_commits (s : State) (owner timing bw cap : Nat) (avoid : List Nat) (other : Option Nat) (twin : Bool) :
    CommitsAnswer s (s.openStore owner timing bw cap avoid other twin) := by
  fun_cases State.openStore <;> rfl

theorem State.openStream_commits (s : State) (src mem dst prof : Nat) (i o : Fmt) (timing : Nat) (avoidC avoidQ : List Nat)
    (other : Option Nat) (twin : Bool) : CommitsAnswer s (s.openStream src mem dst prof i o timing avoidC avoidQ other twin) := by
  fun_cases State.openStream <;> rfl

theorem State.buildHalves_commits (s : State) (ask : PathAsk) (i o : Fmt) (kind prof : Nat) :
    CommitsAnswer s (s.buildHalves ask i o kind prof) := by
  unfold State.buildHalves
  extract_lets src mem prot owner tm links u p0 r storeId r2 q q2
  have hu : u.commits = s.commits := by
    unfold u
    split
    · exact State.showRelay_commits s mem links
    · rfl
  have hr : CommitsAnswer s r := (State.openStream_commits u ..).trans hu
  have hr2 : CommitsAnswer s r2 := (State.openStream_commits r.2.2 ..).trans hr
  have hq : CommitsAnswer s q := (State.openStore_commits u ..).trans hu
  have hq2 : CommitsAnswer s q2 := (State.openStore_commits q.2.2 ..).trans hq
  clear_value u r r2 q q2
  split
  · split
    · exact hu
    · split
      · exact hr
      · split
        · exact hu
        · exact hr2
  · split
    · split
      · exact hu
      · split
        · exact hq
        · split
          · exact hu
          · exact hq2
    · exact hu

theorem State.decidePath_commits (s : State) (ask : PathAsk) (dst w0 frame origin : Nat) :
    CommitsAnswer s (s.decidePath ask (placePending dst w0 frame origin)) := by
  fun_cases State.decidePath with
  -- every check passes
  | case5 => exact State.buildHalves_commits s _ _ _ _ _
  | _ => rfl

theorem State.decideTap_commits (s : State) (w : Nat) (dst w0 frame origin : Nat) :
    CommitsAnswer s (s.decideTap w (placePending dst w0 frame origin)) := by
  fun_cases State.decideTap <;> rfl

/-- A path of the tables taken again, or refused (R574). -/
theorem Rebuilt.retryPath (a : Rebuilt s t) (o : Nat) (lk : LockFacts) : Rebuilt s (t.retryPath o lk) := by
  unfold State.retryPath
  split
  · extract_lets w0 c0 place r code
    have hplaced : Rebuilt t r.2.2 := by
      unfold r
      split
      · have hkept := State.decideTap_kept place (placePending_kept _ _ _ _) t w0
        exact ⟨fun f i k h => hkept.get f i k (rebuilding_relay h), hkept.stat, State.decideTap_commits ..⟩
      · have hkept := State.decidePath_kept place (placePending_kept _ _ _ _) t
          { dst := o, w0 := w0, facts := lk, isFallback := false }
        exact ⟨fun f i k h => hkept.get f i k (rebuilding_relay h), hkept.stat, State.decidePath_commits ..⟩
    split
    · exact a.logged (State.noteRefusal_logged _ _ _ _ _ _) (State.noteRefusal_commits _ _ _ _ _ _)
    · exact (((a.trans hplaced).logged (State.noteDecision_logged _ _ _ _ _ _) (State.noteDecision_commits _ _ _ _ _ _)).set _ _ _ _
        rfl).release
  · exact a

theorem Rebuilt.rebuildRoutes (a : Rebuilt s t) (f : List (Nat × LockFacts)) : Rebuilt s (t.rebuildRoutes f) := by
  refine a.foldl _ (fun u o => ?_) _
  split
  · exact (Rebuilt.refl u).retryPath _ _
  · exact Rebuilt.refl u

theorem Rebuilt.settleStill (a : Rebuilt s t) (k : Nat) : Rebuilt s (t.settleStill k) := by
  fun_cases State.settleStill <;> exact a.plain _ rfl rfl rfl

theorem Rebuilt.settleStills (a : Rebuilt s t) : Rebuilt s t.settleStills :=
  (a.foldl _ (fun u k => (Rebuilt.refl u).settleStill k) _).recount

theorem Rebuilt.flushQueue (a : Rebuilt s t) : Rebuilt s t.flushQueue := by
  have hempty : Rebuilt s { t with repair := { t.repair with queue := [] } } := a.plain _ rfl rfl rfl
  exact Rebuilt.foldl (hempty.set REPAIR.STAT_QUEUE 0 0 0 rfl) _
    (fun u e => (Rebuilt.refl u).logged (State.stepWrite_logged u e) (State.stepWrite_commits u e)) t.repair.queue

theorem Rebuilt.logStep (a : Rebuilt s t) (x : UnitId) (step outcome detector cause slot frames detail : Nat) :
    Rebuilt s (t.logStep x step outcome detector cause slot frames detail) :=
  a.logged (State.logStep_logged _ _ _ _ _ _ _ _ _) (State.logStep_commits _ _ _ _ _ _ _ _ _)

theorem Rebuilt.showMode (a : Rebuilt s t) : Rebuilt s t.showMode := a.set SUPERVISOR.STAT_MODE _ 0 0 rfl

theorem Rebuilt.giveHeld (a : Rebuilt s t) : Rebuilt s t.giveHeld := a.plain _ rfl rfl rfl

/-- Where no commit waits, none is applied. -/
theorem State.applyHeld_none (h : s.commits = []) : s.applyHeld = s := by
  unfold State.applyHeld
  rw [h]
  rfl

end Sys2Proof.Machine
end

section
/-! SUPPORT. What the commands of commits and discards come to where the write is taken, and what the end of a rebuild shows (R412, R509 to
R513). -/
namespace Sys2Proof.Machine

/-! ## Commits and discards -/

section
variable {m : Fin 7} {s : State}

/-- A COMMIT of a page in a domain that is up. -/
theorem exec_pageCommit {p : Page} {i : Nat} {f : List (Nat × TakeFacts)} (hi : i < p.instances) (hp : p.code < 0x80)
    (hw : s.takesWrite m p i 0x008 0) (hup : s.domUp (p.domain i) = true) :
    exec (.pageCommit m p i f) s = done (s.submitCommit m p i f) :=
  congrArg done (State.withCtrl_taken hi hp hw hup _)

/-- A pending commit outside a group that is ready at its point. -/
theorem exec_commitPoint {p : Page} {i : Nat} {f : List (Nat × TakeFacts)} {c : PendingCommit} (hc : s.pendingOf p i = some c)
    (hgroup : c.group = 0) (hready : s.commitReady p i = true) : exec (.commitPoint p i f) s = done (s.applyCommit c f) := by
  show execCommitPoint p i f s = _
  unfold execCommitPoint
  rw [hc]
  exact if_pos ⟨hgroup, hready⟩

/-- A write of SHADOW_CTL with DISCARD. -/
theorem exec_shadowDiscard {p : Page} {i : Nat} {v : Word} (hi : i < p.instances) (hp : p.code < 0x80)
    (hw : s.takesWrite m p i 0x020 v.toNat) (hdiscard : bitOf v.toNat 1 = true) :
    exec (.shadowDiscard m p i v) s =
      done (((s.set (HDR.READ_ACTIVE p) (bitsOf v.toNat 0 1) i).set (HDR.GROUP p) (bitsOf v.toNat 8 4) i).discardShadow p i) := by
  show execShadowDiscard m p i v s = _
  unfold execShadowDiscard
  rw [if_neg (by omega), State.withCheck_taken hw]
  exact congrArg done (if_pos hdiscard)

end

/-! ## The end of a rebuild -/

theorem supField_cases (k : Nat) : supField k = SUPERVISOR.STAT_PHOBOS ∨ supField k = SUPERVISOR.STAT_DEIMOS := by
  unfold supField
  split
  · exact .inl rfl
  · exact .inr rfl

/-- The marks of the rebuilding supervisor and of flywheel as the rebuild ends: the supervisor ACTIVE and serving, no rebuild and no
flywheel (R412). -/
def State.serveAgain (s : State) (k : Nat) : State :=
  let t := ((s.setSup k suACTIVE).set SUPERVISOR.STAT_ACTIVE k).set SUPERVISOR.HID_REBUILDER 0
  let t := ((t.set LEDGER.STAT_REBUILDING 0).set LEDGER.STAT_SERVING 1).set SUPERVISOR.HID_FLY 0
  (((t.set SUPERVISOR.HID_HOLD 0).set SUPERVISOR.HID_BOOTFAIL 0).set SUPERVISOR.STAT_ATTEMPT 0).set SUPERVISOR.STAT_BACKOFF 0

theorem State.serveAgain_shows (s : State) (k : Fin 2) :
    (s.serveAgain k).sup k = suACTIVE ∧ (s.serveAgain k).get SUPERVISOR.STAT_ACTIVE = k ∧
      (s.serveAgain k).get LEDGER.STAT_REBUILDING = 0 ∧ (s.serveAgain k).get LEDGER.STAT_SERVING = 1 ∧
      (s.serveAgain k).get SUPERVISOR.HID_FLY = 0 := by
  have hactive : k.val % 2 ^ SUPERVISOR.STAT_ACTIVE.width = k := Nat.mod_eq_of_lt (Nat.lt_trans k.isLt (by decide))
  unfold State.serveAgain State.sup State.setSup
  dsimp only
  refine ⟨?_, ?_, ?_, ?_, ?_⟩
  · rcases supField_cases k with h | h <;> rw [h]
    all_goals
      simp (disch := decide) only [State.get_set_ne, State.get_set_same]
      rfl
  · simp (disch := decide) only [State.get_set_ne, State.get_set_same, hactive]
  all_goals
    simp (disch := decide) only [State.get_set_ne, State.get_set_same]
    rfl

/-- The end of a rebuild in flywheel, where no commit waits: the supervisor serves again, and the paths of the tables are taken with
REBUILT and FLYWHEEL_OUT raised. -/
theorem exec_ledgerRebuildEnd {k : Fin 2} {f : List (Nat × LockFacts)} {s : State} (hrebuild : s.get LEDGER.STAT_REBUILDING = 1)
    (hby : s.get SUPERVISOR.HID_REBUILDER = k + 1) (hnone : s.commits = []) (hfly : s.flywheel = true) :
    ∃ t, exec (.ledgerRebuildEnd f) s = done t ∧ Rebuilt (s.serveAgain k) t ∧ t.event .ledger 0 LEDGER.EV_REBUILT ∧
      t.event .supervisor 0 SUPERVISOR.EV_FLYWHEEL_OUT := by
  have hexec : exec (.ledgerRebuildEnd f) s = execLedgerRebuildEnd f s := rfl
  rw [hexec]
  unfold execLedgerRebuildEnd
  rw [if_neg (by omega), hby, Nat.add_sub_cancel, hfly]
  extract_lets rebuilder fly active serving start taken held last
  have htaken : Rebuilt start taken :=
    (((((Rebuilt.refl start).rebuildRoutes f).settleStills.recount).set LEDGER.CNT_REBUILDS _ 0 0 rfl).raise _ _ _).flushQueue
  have hrebuilt : taken.event .ledger 0 LEDGER.EV_REBUILT := (Rebuilt.refl _).flushQueue.stat.event (State.raise_stat _ _ _ _)
  have hheld : held = taken := State.applyHeld_none (htaken.commits.trans hnone)
  have hlast : last = (taken.raise .supervisor 0 SUPERVISOR.EV_FLYWHEEL_OUT).logStep (supUnit 2) stFLYWHEEL_OUT 0 10 := by
    rw [← hheld]
    exact if_pos rfl
  have hout : Rebuilt (taken.raise .supervisor 0 SUPERVISOR.EV_FLYWHEEL_OUT) last.showMode.giveHeld := by
    rw [hlast]
    exact ((Rebuilt.refl _).logStep _ _ _ _ _ _ _ _).showMode.giveHeld
  have hsince : Rebuilt taken last.showMode.giveHeld := ((Rebuilt.refl taken).raise _ _ _).trans hout
  exact ⟨_, rfl, htaken.trans hsince, hsince.stat.event hrebuilt, hout.stat.event (State.raise_stat _ _ _ _)⟩

/-- Settles O23, command by command: a commit that is taken submits, applies, releases or drops what the command names; what a rebuild
takes again leaves the supervisors and the ledger as it found them. -/
theorem commitsAndDiscards : Obligations.CommitsAndDiscards := by
  unfold Obligations.CommitsAndDiscards
  refine ⟨fun m p i f s hi hp hw hup => exec_pageCommit hi hp hw hup, fun m o f s hw hup => ?_, fun m o f s hw hup => ?_,
    fun p i f c s hc hgroup hready => exec_commitPoint hc hgroup hready, fun m v f s hw => ?_,
    fun m p i v s hi hp hw hdiscard => exec_shadowDiscard hi hp hw hdiscard, fun m v s t0 hw ht => ?_,
    fun k f s hrebuild hby hnone hfly => ?_⟩
  · exact congrArg done (State.withCtrl_taken (by decide) (by decide) hw hup _)
  · exact congrArg done (State.withCtrl_taken (by decide) (by decide) hw hup _)
  · exact congrArg done (State.withCheck_taken hw _)
  · rw [ht]
    exact congrArg done (State.withWrite_taken hw _)
  · obtain ⟨t, hexec, hkept, hrebuilt, hout⟩ := exec_ledgerRebuildEnd hrebuild hby hnone hfly
    obtain ⟨hsup, hactive, hidle, hserving, hflyOver⟩ := State.serveAgain_shows s k
    have hget : ∀ f, alwaysShown f = false → rebuilding f = false → t.settle.get f = (s.serveAgain k).get f := fun f hs hr =>
      (State.settle_get _ _ _ _ hs).trans (hkept.get f 0 0 hr)
    rw [hexec]
    refine completes_done ⟨?_, ?_, ?_, ?_, ?_, State.settle_stat _ _ _ _ hrebuilt, State.settle_stat _ _ _ _ hout⟩
    · refine (hget _ ?_ ?_).trans hsup <;> rcases supField_cases k with h | h <;> rw [h] <;> rfl
    · exact (hget _ (by decide) (by decide)).trans hactive
    · exact (hget _ (by decide) (by decide)).trans hidle
    · exact (hget _ (by decide) (by decide)).trans hserving
    · unfold State.flywheel
      rw [hget _ (by decide) (by decide), hflyOver]
      rfl

end Sys2Proof.Machine
end

section
/-! SUPPORT. What the small commands of the audio matrix, the serial ports and the mesh links leave alone (R284, R294, R295, R313, R362,
R363, R373, R374, R380, R382, R383). -/
namespace Sys2Proof.Machine

variable {l : List RegKey} {s t : State}

/-- An event of a channel writes EVT_CH. -/
theorem OnlyRegs.chEvent (h : OnlyRegs l s t) (ch side bit : Nat) (hch : (⟨AUDIO.EVT_CH_CH, 0, 0⟩ : RegKey) ∈ l)
    (hside : (⟨AUDIO.EVT_CH_SIDE, 0, 0⟩ : RegKey) ∈ l) : OnlyRegs l s (t.chEvent ch side bit) :=
  ((h.set _ _ _ _ hch).set _ _ _ _ hside).raise _ _ _

/-- A command that does nothing leaves everything alone. -/
theorem OnlyRegs.after_done (l : List RegKey) (s : State) : After (done s) (OnlyRegs l s) := (OnlyRegs.refl l s).after

/-- A command that chooses between two answers. -/
theorem After.ite {c : Prop} [Decidable c] {a b : Host.Outcome State Fault Refusal} {p : State → Prop} (ha : After a p) (hb : After b p) :
    After (if c then a else b) p := by
  split
  · exact ha
  · exact hb

/-- A command that acts on a condition leaves alone what its action leaves alone. -/
theorem OnlyRegs.after_if {c : Prop} [Decidable c] (h : OnlyRegs l s t) : After (if c then done t else done s) (OnlyRegs l s) :=
  After.ite h.after (OnlyRegs.after_done l s)

/-- So does a command that a condition keeps from acting. -/
theorem OnlyRegs.after_unless {c : Prop} [Decidable c] (h : OnlyRegs l s t) : After (if c then done s else done t) (OnlyRegs l s) :=
  After.ite (OnlyRegs.after_done l s) h.after

/-- A counter raised on a condition. -/
theorem OnlyRegs.bump_if (h : OnlyRegs l s t) (c : Prop) [Decidable c] (f : Field) (i k : Nat) (m : (⟨f, i, k⟩ : RegKey) ∈ l) :
    OnlyRegs l s (if c then t.bump f i k else t) := OnlyRegs.ite c (h.bump f i k m) h

/-- The end of a remote access writes its answer and the mark that it runs. -/
theorem OnlyRegs.raEnd (h : OnlyRegs l s t) (code : Nat)
    (hl : [⟨MESHCTL.RA_CTL_CODE, 0, 0⟩, ⟨MESHCTL.RA_CTL_DONE, 0, 0⟩, ⟨MESHCTL.HID_RA, 0, 0⟩] ⊆ l) : OnlyRegs l s (t.raEnd code) := by
  simp only [List.cons_subset] at hl
  obtain ⟨hcode, hdone, hrun, -⟩ := hl
  exact ((h.set _ _ _ _ hcode).set _ _ _ _ hdone).set _ _ _ _ hrun

/-- Settles O38, command by command: each acts on a condition or not at all, and what it then writes stands in its clause's list. -/
theorem frameOfAudioAndMeshCommands : Obligations.FrameOfAudioAndMeshCommands := by
  unfold Obligations.FrameOfAudioAndMeshCommands
  refine ⟨fun ch s => ?silence, fun pair s => ?nonpcm, fun k f s => ?meter, fun p tx c s => ?zeroCrossing, fun n s => ?detect,
    fun n inv rev skew s => ?trained, fun n s => ?trainTimeout, fun n s => ?retry, fun n corrected uncorr crcBad s => ?codeword,
    fun n mem delay s => ?time, fun mem s => ?vacancy, fun timedOut s => ?leave, fun code v s => ?remote⟩
  case silence =>
    have hsilent : OnlyRegs [⟨ASTAT.SRC_SILENT, ch, 0⟩, ⟨ASTAT.SRC_OVERLOAD, ch, 0⟩, ⟨AUDIO.EVT_CH_CH, 0, 0⟩, ⟨AUDIO.EVT_CH_SIDE, 0, 0⟩] s
        ((s.set ASTAT.SRC_SILENT 1 ch).chEvent ch 0 AUDIO.EV_SIL_CHG) :=
      ((OnlyRegs.refl _ s).set _ _ _ _ (by simp)).chEvent _ _ _ (by simp) (by simp)
    exact After.ite (OnlyRegs.after_done _ s)
      (After.ite ((hsilent.set _ _ _ _ (by simp)).chEvent _ _ _ (by simp) (by simp)).after hsilent.after)
  case nonpcm =>
    exact OnlyRegs.after_if ((((OnlyRegs.refl _ s).set _ _ _ _ (by simp)).set _ _ _ _ (by simp)).chEvent _ _ _ (by simp) (by simp))
  case meter =>
    refine OnlyRegs.after_if ?_
    iterate 6 refine OnlyRegs.set ?_ _ _ _ _ (by simp)
    exact OnlyRegs.refl _ s
  case zeroCrossing =>
    exact OnlyRegs.after_if ((((OnlyRegs.refl _ s).set _ _ _ _ (by simp)).bump _ _ _ (by simp)).raise _ _ _)
  case detect => exact OnlyRegs.after_if (((OnlyRegs.refl _ s).set _ _ _ _ (by simp)).bump _ _ _ (by simp))
  case trained =>
    refine OnlyRegs.after_if ?_
    iterate 4 refine OnlyRegs.set ?_ _ _ _ _ (by simp)
    exact OnlyRegs.refl _ s
  case trainTimeout => exact OnlyRegs.after_if (((OnlyRegs.refl _ s).set _ _ _ _ (by simp)).raise _ _ _)
  case retry => exact OnlyRegs.after_if ((OnlyRegs.refl _ s).set _ _ _ _ (by simp))
  case codeword =>
    refine OnlyRegs.after_unless (OnlyRegs.raiseIf ?_ _ _ _ _)
    iterate 3 refine OnlyRegs.bump_if ?_ _ _ _ _ (by simp)
    exact OnlyRegs.refl _ s
  case time => exact OnlyRegs.after_unless ((OnlyRegs.refl _ s).set _ _ _ _ (by simp))
  case vacancy => exact ((OnlyRegs.refl _ s).set _ _ _ _ (by simp)).after
  case leave => exact OnlyRegs.after_if ((OnlyRegs.refl _ s).set _ _ _ _ (by simp))
  case remote =>
    refine OnlyRegs.after_unless (OnlyRegs.raEnd ?_ code (by simp))
    exact OnlyRegs.ite _ ((OnlyRegs.refl _ s).set _ _ _ _ (by simp)) (OnlyRegs.refl _ s)

end Sys2Proof.Machine
end

section
/-! SUPPORT. What a taken write or read of a register command leaves alone (R294, R444, R448, R489, R506, R509, R514, R518, R528, R531,
R533). -/
namespace Sys2Proof.Machine

variable {l : List RegKey} {s t : State}

/-! ## Accesses that are taken -/

/-- A write taken by a command that decides on its fields leaves alone what the command does. -/
theorem OnlyRegs.after_withCheck {m : Nat} {p : Page} {i off v : Nat} {act : State → State} (hw : s.takesWrite m p i off v)
    (h : OnlyRegs l s (act s)) : After (done (s.withCheck m p i off v act)) (OnlyRegs l s) := by
  rw [State.withCheck_taken hw]
  exact h.after

/-- So does a write of a header register of a page that exists. -/
theorem OnlyRegs.after_withHeader {m : Nat} {p : Page} {i off v : Nat} {act : State → State} (hi : i < p.instances) (hp : p.code < 0x80)
    (hw : s.takesWrite m p i off v) (h : OnlyRegs l s (act s)) : After (done (s.withHeader m p i off v act)) (OnlyRegs l s) := by
  unfold State.withHeader
  rw [if_neg (by omega)]
  exact OnlyRegs.after_withCheck hw h

/-- So does a read. -/
theorem OnlyRegs.after_withRead {m : Nat} {p : Page} {i off : Nat} {act : State → State} (hr : s.takesRead m p i off)
    (h : OnlyRegs l s (act s)) : After (done (s.withRead m p i off act)) (OnlyRegs l s) := by
  rw [State.withRead_taken hr]
  exact h.after

/-- A write of a register with plain fields leaves alone what the command does to the state with those fields written. -/
theorem OnlyRegs.after_withWrite {m : Nat} {p : Page} {i off v : Nat} {act : State → State} (hw : s.takesWrite m p i off v)
    (h : OnlyRegs l s (act (s.writePlain m p i off v))) : After (done (s.withWrite m p i off v act)) (OnlyRegs l s) := by
  rw [State.withWrite_taken hw]
  exact h.after

/-! ## The plain fields of a word -/

/-- What a write does to a field of an access code: nothing, or it writes a register of a list at once (R508). -/
def plainIn (l : List RegKey) : Access → RegKey → Prop
  | .rw, key | .rwl, key | .w1c, key => key ∈ l
  | .rws, _ => False
  | .ro, _ | .wo, _ | .w1s, _ => True

/-- A plain field of a list written. -/
theorem OnlyRegs.writeField (h : OnlyRegs l s t) (f : Field) (i k v : Nat) :
    ∀ {acc : Access}, plainIn l acc ⟨f, i, k⟩ → OnlyRegs l s (t.writeField acc f i k v)
  | .rw, hin | .rwl, hin | .w1c, hin => h.set _ _ _ _ hin
  | .rws, hin => hin.elim
  | .ro, _ | .wo, _ | .w1s, _ => h

theorem OnlyRegs.writeRows (i v : Nat) : ∀ (rows : List (LayoutRow × Nat)) {t : State}, OnlyRegs l s t →
    (∀ e ∈ rows, plainIn l e.1.acc ⟨e.1.field, i, e.2⟩) → OnlyRegs l s (t.writeRows i v rows)
  | [], _, h, _ => h
  | (r, k) :: rows, t, h, hrows => by
    obtain ⟨hhead, htail⟩ := List.forall_mem_cons.mp hrows
    exact OnlyRegs.writeRows i v rows (OnlyRegs.ite _ h (h.writeField _ _ _ _ hhead)) htail

/-- The plain fields of a word, all of a list, written. -/
theorem OnlyRegs.writePlain (h : OnlyRegs l s t) (m : Nat) (p : Page) (i off v : Nat)
    (hrows : ∀ e ∈ rowsAt p i off, plainIn l e.1.acc ⟨e.1.field, heldInst p i off m, e.2⟩) : OnlyRegs l s (t.writePlain m p i off v) :=
  OnlyRegs.writeRows _ _ _ h hrows

/-! ## Events, locks and doorbells -/

/-- A write of EVT_STAT changes the event core only. -/
theorem State.clearEvents_only (s : State) (p : Page) (i v : Nat) : EvtOnly s (s.clearEvents p i v) := by
  unfold State.clearEvents
  dsimp only
  split
  · exact EvtOnly.refl s
  · split
    · exact (State.putStat_only _ _ _).trans (State.rising_only _ _)
    · exact State.putStat_only _ _ _

/-- A write of PAGE_LOCK writes the page's lock, FREEZE and MASTERS. -/
theorem OnlyRegs.writeLock (s : State) (p : Page) (i v : Nat) :
    OnlyRegs [⟨HDR.LOCK_OPEN p, i, 0⟩, ⟨HDR.FREEZE p, i, 0⟩, ⟨HDR.MASTERS p, i, 0⟩] s (s.writeLock p i v) := by
  unfold State.writeLock
  extract_lets opened taken
  have hsame := OnlyRegs.refl [⟨HDR.LOCK_OPEN p, i, 0⟩, ⟨HDR.FREEZE p, i, 0⟩, ⟨HDR.MASTERS p, i, 0⟩] s
  have hopened := OnlyRegs.ite (bitsOf v 16 16 = lockKey) (hsame.set (HDR.LOCK_OPEN p) 1 i 0 (by simp)) hsame
  have htaken := OnlyRegs.ite (opened.get (HDR.LOCK_OPEN p) i = 1)
    ((hopened.set (HDR.FREEZE p) (bitsOf v 2 1) i 0 (by simp)).set (HDR.MASTERS p) (bitsOf v 8 7 ||| 7) i 0 (by simp)) hopened
  exact OnlyRegs.ite _ (htaken.set _ _ _ _ (by simp)) htaken

/-- A doorbell set or cleared writes its word. -/
theorem OnlyRegs.putDoorbell (s : State) (k : Nat) (b : Bool) :
    OnlyRegs [⟨EVENT.DB_STAT_DB, 0, k / 32⟩] s (s.putDoorbell k b) := by
  have hset := (OnlyRegs.refl [⟨EVENT.DB_STAT_DB, 0, k / 32⟩] s).set EVENT.DB_STAT_DB
    (putBit (s.get EVENT.DB_STAT_DB 0 (k / 32)) (k % 32) b) 0 (k / 32) (by simp)
  exact OnlyRegs.ite _ (hset.evt (State.rising_only _ _)) hset

/-- A write of DB_CTL writes the word of the doorbell it names. -/
theorem OnlyRegs.writeDoorbell (s : State) (v : Nat) :
    OnlyRegs [⟨EVENT.DB_STAT_DB, 0, bitsOf v 0 9 / 32⟩] s (s.writeDoorbell v) :=
  OnlyRegs.ite _ (OnlyRegs.putDoorbell s _ true) (OnlyRegs.ite _ (OnlyRegs.putDoorbell s _ false) (OnlyRegs.refl _ s))

/-- Settles O40, command by command: an access that is taken writes the plain fields of its register and what the command does, and both
stand in the clause's list. -/
theorem frameOfRegisterCommands : Obligations.FrameOfRegisterCommands := by
  unfold Obligations.FrameOfRegisterCommands
  refine ⟨fun m s hw => ?errInfo, fun m p i v s hi hp hw => ?force, fun m p i v s hi hp hw => ?clear, fun m p i v s hi hp hw => ?lockOpen,
    fun m p i v s hi hp hw => ?lockClose, fun m v s hw => ?doorbell, fun m s hr => ?uptime, fun m s hr => ?rtc, fun m s hr => ?refusal,
    fun m v s hw => ?svn, fun m v s hw => ?aperture, fun m v s hw => ?sensor, fun m k v s hw => ?meter⟩
  case errInfo => exact OnlyRegs.after_withCheck hw ((OnlyRegs.refl _ s).set _ _ _ _ (by simp))
  case force => exact OnlyRegs.after_withHeader hi hp hw ((OnlyRegs.refl _ s).evt (State.putStat_only _ _ _))
  case clear => exact OnlyRegs.after_withHeader hi hp hw ((OnlyRegs.refl _ s).evt (State.clearEvents_only _ _ _ _))
  case lockOpen => exact OnlyRegs.after_withHeader hi hp hw (OnlyRegs.writeLock s p i _)
  case lockClose => exact OnlyRegs.after_withHeader hi hp hw (OnlyRegs.writeLock s p i _)
  case doorbell =>
    exact ⟨OnlyRegs.after_withCheck hw (OnlyRegs.writeDoorbell s _), OnlyRegs.after_withCheck hw (OnlyRegs.writeDoorbell s _)⟩
  case uptime => exact OnlyRegs.after_withRead hr ((OnlyRegs.refl _ s).set _ _ _ _ (by simp))
  case rtc => exact OnlyRegs.after_withRead hr (((OnlyRegs.refl _ s).set _ _ _ _ (by simp)).set _ _ _ _ (by simp))
  case refusal => exact OnlyRegs.after_withRead hr ((OnlyRegs.refl _ s).set _ _ _ _ (by simp))
  case svn =>
    exact OnlyRegs.after_withCheck hw (OnlyRegs.ite _ ((OnlyRegs.refl _ s).set _ _ _ _ (by simp)) (OnlyRegs.refl _ s))
  case aperture =>
    have hrows : rowsAt .global 0 0x04C = [(⟨GLOBAL.WIN_CFG_FLOW_APERTURE, 0, 1, .rw, 0, 262143⟩, 0)] := by decide
    refine OnlyRegs.after_withWrite hw ((OnlyRegs.refl _ s).writePlain _ _ _ _ _ ?_)
    rw [hrows]
    simp [plainIn, heldInst]
  case sensor =>
    have hrows : rowsAt .thermal 0 0x054 = [(⟨THERMAL.SENSOR_CTL_INDEX, 0, 1, .rw, 0, 262143⟩, 0),
        (⟨THERMAL.SENSOR_CTL_TEST, 0, 1, .w1s, 0, 262143⟩, 0)] := by decide
    have hplain : OnlyRegs [⟨THERMAL.HID_TESTING, 0, bitsOf v.toNat 0 5⟩, ⟨THERMAL.SENSOR_CTL_INDEX, 0, 0⟩] s
        (s.writePlain m .thermal 0 0x054 v.toNat) := by
      refine (OnlyRegs.refl _ s).writePlain _ _ _ _ _ ?_
      rw [hrows]
      simp [plainIn, heldInst]
    exact OnlyRegs.after_withWrite hw (OnlyRegs.ite _ (hplain.set _ _ _ _ (by simp)) hplain)
  case meter =>
    have hrows : ∀ n : Fin 64, ∀ e ∈ rowsAt .audio 6 (0x408 + 0x20 * n.val), e.1.acc = .w1s := by decide
    have hplain : OnlyRegs [⟨AUDIO.LM_INTEGRATED, 6, k⟩, ⟨AUDIO.LM_RANGE, 6, k⟩, ⟨AUDIO.LM_TRUE_PEAK, 6, k⟩, ⟨AUDIO.LM_SECONDS, 6, k⟩] s
        (s.writePlain m .audio 6 (0x408 + 0x20 * k.val) v.toNat) :=
      (OnlyRegs.refl _ s).writePlain _ _ _ _ _ (fun e he => by simp [plainIn, hrows k e he])
    refine OnlyRegs.after_withWrite hw (OnlyRegs.ite _ ?_ hplain)
    iterate 4 refine OnlyRegs.set ?_ _ _ _ _ (by simp)
    exact hplain

end Sys2Proof.Machine
end

section
/-! SUPPORT. How Cicada answers a crosspoint request, what becomes of the request, and what the held ones come to (R275). -/
namespace Sys2Proof.Machine

/-! ## The answer -/

/-- A decision that admits shows code 0, the index and DONE, and leaves the state after it otherwise as it is, the pool settled. -/
theorem State.xpAnswer_admitted (s : State) (m index : Nat) (u : State) :
    s.xpAnswer m 0 index u =
      (((u.settlePool.set AUDIO.XP_RESP_CODE 0).set AUDIO.XP_RESP_INDEX index).set AUDIO.XP_RESP_DONE 1).noteDecision 0 index m .audio 0 :=
  rfl

/-- An admission shows code 0, its index and DONE in XP_RESP. -/
theorem State.xpAnswer_admitted_shows (s : State) (m index : Nat) (u : State) :
    (s.xpAnswer m 0 index u).get AUDIO.XP_RESP_CODE = 0 ∧ (s.xpAnswer m 0 index u).get AUDIO.XP_RESP_INDEX = index % 2 ^ 12 ∧
      (s.xpAnswer m 0 index u).get AUDIO.XP_RESP_DONE = 1 := by
  rw [State.xpAnswer_admitted]
  refine ⟨?_, ?_, ?_⟩ <;> rw [State.noteDecision_get _ _ _ _ _ _ _ _ _ (by decide)]
  all_goals
    simp (disch := decide) only [State.get_set_ne, State.get_set_same]
    rfl

/-- The pool's use as shown leaves Cicada's own tables alone. -/
@[simp] theorem State.settlePool_audio (s : State) : s.settlePool.audio = s.audio := rfl

/-- The ledger's books leave them alone. -/
@[simp] theorem State.noteDecision_audio (s : State) (code index m : Nat) (p : Page) (i : Nat) :
    (s.noteDecision code index m p i).audio = s.audio := (State.noteDecision_logged _ _ _ _ _ _).audio

/-- An admission leaves Cicada's own tables as the decision made them. -/
@[simp] theorem State.xpAnswer_admitted_audio (s : State) (m index : Nat) (u : State) : (s.xpAnswer m 0 index u).audio = u.audio := by
  simp only [State.xpAnswer_admitted, State.noteDecision_audio, State.set_audio, State.settlePool_audio]

/-- Cicada's own tables hold no field. -/
@[simp] theorem State.withAudio_get (s : State) (a : AudioState) (f : Field) (i k : Nat) :
    ({ s with audio := a } : State).get f i k = s.get f i k := rfl

/-! ## The decision -/

/-- A request whose form, unit and destinations pass waits for its instant. -/
theorem State.xpOne_admitted {s : State} {r : XpReq} (hform : s.xpForm r = 0) (hunit : s.audioCode = 0)
    (hdec : (s.xpDecide r r.targets).1 = 0) :
    s.xpOne r = (0, { (s.xpDecide r r.targets).2 with audio := { (s.xpDecide r r.targets).2.audio with
      pend := (s.xpDecide r r.targets).2.audio.pend ++ [{ r with instant := s.xpInstant r }] } }) := by
  unfold State.xpOne
  rw [if_neg (by simp [hform]), if_neg (by simp [hunit])]
  exact if_neg (by simp [hdec])

/-! ## The commands -/

section
variable {m : Fin 7} {v : Word} {s t0 : State}

/-- GO without BATCH decides the request, where the control plane serves and no decision runs. -/
theorem exec_xpReqGo (hw : s.takesWrite m .audio 0 0x060 v.toNat) (ht : t0 = s.writePlain m .audio 0 0x060 v.toNat)
    (hgo : bitOf v.toNat 31 = true) (hbatch : bitOf v.toNat 24 = false) (hidle : t0.get AUDIO.XP_RESP_BUSY = 0)
    (hgate : t0.gate .audio 0 = 0) :
    exec (.xpReqGo m v) s =
      done (t0.xpAnswer m (t0.xpOne (t0.xpRead m v.toNat)).1 0 (t0.xpOne (t0.xpRead m v.toNat)).2) := by
  show execXpReqGo m v s = _
  unfold execXpReqGo
  rw [State.withWrite_taken hw, ← ht, if_pos (by simp [hgo, hbatch, hidle])]
  simp [hgate]

/-- GO with BATCH holds the request, where there is room. -/
theorem exec_xpReqBatch (hw : s.takesWrite m .audio 0 0x060 v.toNat) (ht : t0 = s.writePlain m .audio 0 0x060 v.toNat)
    (hgo : bitOf v.toNat 31 = true) (hbatch : bitOf v.toNat 24 = true) (hidle : t0.get AUDIO.XP_RESP_BUSY = 0)
    (hroom : t0.audio.held.length < 4096) :
    exec (.xpReqBatch m v) s =
      done { t0 with audio := { t0.audio with held := t0.audio.held ++ [t0.xpRead m v.toNat] } } := by
  show execXpReqBatch m v s = _
  unfold execXpReqBatch
  rw [State.withWrite_taken hw, ← ht, if_pos (by simp [hgo, hbatch, hidle]), if_pos hroom]

/-- XP_GO.GO decides the held requests in order; they are then gone. -/
theorem exec_xpGo (hw : s.takesWrite m .audio 0 0x064 v.toNat) (ht : t0 = s.writePlain m .audio 0 0x064 v.toNat)
    (hgo : bitOf v.toNat 0 = true) (hgate : t0.gate .audio 0 = 0) :
    ∃ u, u = t0.xpAnswer m (t0.xpHeld 0 t0.audio.held).1 (t0.xpHeld 0 t0.audio.held).2.1 (t0.xpHeld 0 t0.audio.held).2.2 ∧
      exec (.xpGo m v) s = done { u with audio := { u.audio with held := [] } } := by
  refine ⟨_, rfl, ?_⟩
  show execXpGo m v s = _
  unfold execXpGo
  rw [State.withWrite_taken hw, ← ht, if_pos hgo]
  simp [hgate]

/-- XP_GO.ABORT discards the held requests. -/
theorem exec_xpAbort (hw : s.takesWrite m .audio 0 0x064 v.toNat) (ht : t0 = s.writePlain m .audio 0 0x064 v.toNat)
    (habort : bitOf v.toNat 1 = true) : exec (.xpAbort m v) s = done { t0 with audio := { t0.audio with held := [] } } := by
  show execXpAbort m v s = _
  unfold execXpAbort
  rw [State.withWrite_taken hw, ← ht, if_pos habort]

end

/-- Settles O15, command by command: XP_RESP shows the admission, and what waits or is held is what the decision left. -/
theorem audioCrosspoints : Obligations.AudioCrosspoints := by
  unfold Obligations.AudioCrosspoints
  refine ⟨fun m v s t0 hw ht hgo hbatch hidle hgate hcode => ?_, fun m v s t0 hw ht hgo hbatch hidle hgate hunit hform hdec haudio => ?_,
    fun m v s t0 hw ht hgo hbatch hidle hroom => ?_, fun m v s t0 hw ht hgo hgate hcode => ?_, fun m v s hw habort => ?_⟩
  · obtain ⟨hshown, hindex, hdone⟩ := State.xpAnswer_admitted_shows t0 m 0 (t0.xpOne (t0.xpRead m v.toNat)).2
    rw [exec_xpReqGo hw ht hgo hbatch hidle hgate, hcode]
    refine completes_done ⟨?_, ?_, ?_⟩ <;> rw [State.settle_get _ _ _ _ (by decide)]
    · exact hshown
    · exact hindex
    · exact hdone
  · rw [exec_xpReqGo hw ht hgo hbatch hidle hgate, State.xpOne_admitted hform hunit hdec]
    refine completes_done ?_
    rw [State.settle_audio, State.xpAnswer_admitted_audio, haudio]
  · rw [exec_xpReqBatch hw ht hgo hbatch hidle hroom]
    refine completes_done ?_
    rw [State.settle_audio]
  · obtain ⟨u, hu, hexec⟩ := exec_xpGo hw ht hgo hgate
    obtain ⟨hshown, -, hdone⟩ := State.xpAnswer_admitted_shows t0 m (t0.xpHeld 0 t0.audio.held).2.1 (t0.xpHeld 0 t0.audio.held).2.2
    rw [hcode] at hu
    rw [← hu] at hshown hdone
    rw [hexec]
    refine completes_done ⟨?_, ?_, ?_⟩
    · rw [State.settle_get _ _ _ _ (by decide), State.withAudio_get, hshown]
    · rw [State.settle_get _ _ _ _ (by decide), State.withAudio_get, hdone]
    · rw [State.settle_audio]
  · rw [exec_xpAbort hw rfl habort]
    refine completes_done ⟨?_, ?_⟩ <;> rw [State.settle_audio]
    rw [State.writePlain_audio]

end Sys2Proof.Machine
end

section
/-! SUPPORT. What Cicada's own operations show and leave: a channel's event, a converter's registers, state and answer, and the halves
(R284, R290, R291, R297). -/
namespace Sys2Proof.Machine

/-! ## Channels -/

/-- An event of a channel names it in EVT_CH. -/
theorem State.chEvent_kept (s : State) (ch side bit : Nat) :
    Kept [AUDIO.EVT_CH_CH, AUDIO.EVT_CH_SIDE] s (s.chEvent ch side bit) :=
  (((Kept.refl _ s).set _ _ _ _ rfl).set _ _ _ _ rfl).raise _ _ _

/-- The event stands. -/
theorem State.chEvent_event (s : State) (ch side bit : Nat) : (s.chEvent ch side bit).event .audio 0 bit := State.raise_stat _ _ _ _

/-- A channel's record set is read back. -/
@[simp] theorem State.setChan_chan (s : State) (d : Nat) (c : Chan) : (s.setChan d c).chan d = c := NTable.getD_putD_same _ _ _ _

@[simp] theorem State.setChan_get (s : State) (d : Nat) (c : Chan) (f : Field) (i k : Nat) : (s.setChan d c).get f i k = s.get f i k := rfl
@[simp] theorem State.setChan_poolWait (s : State) (d : Nat) (c : Chan) : (s.setChan d c).audio.poolWait = s.audio.poolWait := rfl

@[simp] theorem State.settle_chan (s : State) (d : Nat) : s.settle.chan d = s.chan d := by
  unfold State.chan
  rw [State.settle_audio]

/-! ## Converters -/

/-- The fields of a converter that an image sets. -/
abbrev sruImgFields : List Field :=
  [AUDIO.SRU_FIRST, AUDIO.SRU_NCH, AUDIO.SRU_MODE, AUDIO.SRU_FAR_RATE, AUDIO.SRU_HIRATE, AUDIO.SRU_VALID]

theorem State.sruPut_kept (s : State) (k : Nat) (g : SruImg) : Kept sruImgFields s (s.sruPut k g) := by
  unfold State.sruPut
  dsimp only
  iterate 6 with_reducible refine Kept.set ?_ _ _ _ _ rfl
  exact Kept.refl _ s

/-- The image's mode is read back. -/
theorem State.sruPut_mode (s : State) (k : Nat) (g : SruImg) :
    (s.sruPut k g).get AUDIO.SRU_MODE (sruInst k) (sruIdx k) = g.mode % 2 ^ 2 := by
  unfold State.sruPut
  simp (disch := decide) only [State.get_set_ne, State.get_set_same]
  rfl

/-- The image's channels are read back. -/
theorem State.sruPut_nch (s : State) (k : Nat) (g : SruImg) :
    (s.sruPut k g).get AUDIO.SRU_NCH (sruInst k) (sruIdx k) = g.nch % 2 ^ 5 := by
  unfold State.sruPut
  simp (disch := decide) only [State.get_set_ne, State.get_set_same]
  rfl

theorem State.sruEnter_kept (s : State) (k st : Nat) : Kept [AUDIO.SRU_STATE] s (s.sruEnter k st) :=
  Kept.ite (Kept.refl _ s) (((Kept.refl _ s).set _ _ _ _ rfl).raise _ _ _)

/-- The state entered is shown. -/
theorem State.sruEnter_state (s : State) (k : Nat) {st : Nat} (h : st < 4) :
    (s.sruEnter k st).get AUDIO.SRU_STATE (sruInst k) (sruIdx k) = st := by
  unfold State.sruEnter
  split
  · assumption
  · rw [State.raise_get, State.get_set_same]
    exact Nat.mod_eq_of_lt h

/-- A state newly entered raises SRU_CHG. -/
theorem State.sruEnter_event {s : State} {k st : Nat} (h : s.get AUDIO.SRU_STATE (sruInst k) (sruIdx k) ≠ st) :
    (s.sruEnter k st).event .audio 0 AUDIO.EV_SRU_CHG := by
  unfold State.sruEnter
  rw [if_neg h]
  exact State.raise_stat _ _ _ _

/-- An admission writes SRU_RESP, and the ledger counts it. -/
theorem State.sruAnswer_admitted (s : State) (m index : Nat) :
    s.sruAnswer m 0 index =
      (((s.set AUDIO.SRU_RESP_CODE 0 1).set AUDIO.SRU_RESP_INDEX index 1).set AUDIO.SRU_RESP_DONE 1 1).noteDecision 0 0 m .audio 1 :=
  rfl

/-- An admission shows code 0, its index and DONE in SRU_RESP. -/
theorem State.sruAnswer_admitted_shows (s : State) (m index : Nat) :
    (s.sruAnswer m 0 index).get AUDIO.SRU_RESP_CODE 1 = 0 ∧ (s.sruAnswer m 0 index).get AUDIO.SRU_RESP_INDEX 1 = index % 2 ^ 8 ∧
      (s.sruAnswer m 0 index).get AUDIO.SRU_RESP_DONE 1 = 1 := by
  rw [State.sruAnswer_admitted]
  refine ⟨?_, ?_, ?_⟩ <;> rw [State.noteDecision_get _ _ _ _ _ _ _ _ _ (by decide)]
  all_goals
    simp (disch := decide) only [State.get_set_ne, State.get_set_same]
    rfl

/-- Beside SRU_RESP, an admission writes the ledger's books. -/
theorem State.sruAnswer_admitted_get (s : State) (m index : Nat) {f : Field} (i k : Nat) (hb : booked f = false)
    (hf : [AUDIO.SRU_RESP_CODE, AUDIO.SRU_RESP_INDEX, AUDIO.SRU_RESP_DONE].contains f = false) :
    (s.sruAnswer m 0 index).get f i k = s.get f i k := by
  rw [State.sruAnswer_admitted, State.noteDecision_get _ _ _ _ _ _ _ _ _ hb]
  exact ((((Kept.refl _ s).set _ _ _ _ rfl).set _ _ _ _ rfl).set _ _ _ _ rfl).get f i k hf

/-- A request of a converter that passes is admitted. -/
theorem State.sruRequest_admitted {s t0 : State} {m op v : Nat} {act : State → Nat × Nat × State}
    (hw : s.takesWrite m .audio 1 0x044 v) (ht : t0 = s.writePlain m .audio 1 0x044 v) (hgo : bitOf v 31 = true)
    (hop : bitsOf v 8 2 = op) (hidle : t0.get AUDIO.SRU_RESP_BUSY 1 = 0) (hgate : t0.gate .audio 1 = 0) (hunit : t0.audioCode = 0)
    (hcode : (act t0).1 = 0) : s.sruRequest m op v act = (act t0).2.2.sruAnswer m 0 (act t0).2.1 := by
  unfold State.sruRequest
  rw [State.withWrite_taken hw, ← ht, if_pos (by simp [hgo, hop, hidle])]
  simp [hgate, hunit, hcode]

/-! ## The halves -/

/-- A half's state is held in the page's header. -/
theorem State.halfRun_eq (s : State) (h : Nat) : s.halfRun h = decide (s.get (HDR.STATE .audio) 0 h = uRUN) := rfl

/-- An isolation leaves the states of the page's other units alone. -/
theorem State.isolateUnit_other (s : State) (u : UnitId) (d c : Nat) {p : Page} (hp : u.page = p) (hq : p ≠ .quad) {i k : Nat}
    (h : ¬(i = u.inst ∧ k = u.sub)) : (s.isolateUnit u d c).get (HDR.STATE p) i k = s.get (HDR.STATE p) i k := by
  subst hp
  have hbook : booked (HDR.STATE u.page) = false := by cases u.page <;> decide
  have hdrain : HDR.STATE u.page ≠ HDR.DRAIN u.page := fun e => by simp [HDR.STATE, HDR.DRAIN] at e
  unfold State.isolateUnit
  split
  · rfl
  · dsimp only
    rw [State.logStep_get _ _ _ _ _ _ _ _ _ _ _ _ hbook, State.get_set_ne _ _ _ _ _ _ hdrain]
    unfold State.setUnit
    rw [if_neg (by simp [hq]), if_neg (by simp [hq]), State.get_set_at, if_neg h]
    rfl

/-- Where the selected half is out of RUN and the other runs, the halves change places. -/
theorem State.settleHalves_swaps {s : State} {h : Nat} (hsel : s.get AUDIO.ENG_STAT_SEL = h) (hout : s.get (HDR.STATE .audio) 0 h ≠ uRUN)
    (hother : s.get (HDR.STATE .audio) 0 (1 - h) = uRUN) :
    ∃ t, Kept [AUDIO.ENG_STAT_A_RUN, AUDIO.ENG_STAT_B_RUN] s t ∧
      s.settleHalves = ((t.set AUDIO.ENG_STAT_SEL (1 - h)).bump AUDIO.CNT_HALF_SWAPS).raise .audio 0 AUDIO.EV_HALF_SWAP := by
  unfold State.settleHalves
  extract_lets t sel
  have hkept : Kept [AUDIO.ENG_STAT_A_RUN, AUDIO.ENG_STAT_B_RUN] s t := ((Kept.refl _ s).set _ _ _ _ rfl).set _ _ _ _ rfl
  have hstate : ∀ k, t.get (HDR.STATE .audio) 0 k = s.get (HDR.STATE .audio) 0 k := fun k => hkept.get _ _ _ rfl
  have hshown : sel = h := (hkept.get _ _ _ rfl).trans hsel
  refine ⟨t, hkept, ?_⟩
  rw [hshown]
  exact if_pos (by simp [State.halfRun_eq, hstate, hout, hother])

end Sys2Proof.Machine
end

section
/-! SUPPORT. What the commands of Cicada's channels, converters, mix buses, meters and halves come to (R281 to R297). -/
namespace Sys2Proof.Machine

/-! ## Channels -/

/-- A wait for a zero crossing that times out. -/
theorem exec_zcTimeout {ch : Fin 32768} {w : Nat × Nat × Nat} {s : State} (hw : (s.chan ch).waiting = some w) :
    exec (.zcTimeout ch) s =
      done (((s.applyLevels ch w.1 w.2.1 w.2.2).bump AUDIO.CNT_ZC_TIMEOUTS).chEvent ch 1 AUDIO.EV_ZC_TIMEOUT) := by
  show execZcTimeout ch s = _
  unfold execZcTimeout
  rw [hw]

/-- A NONPCM pair without a preamble is PCM again. -/
theorem exec_nonpcmEnd {pair : Fin 16384} {s : State} (hnp : s.get ASTAT.SRC_NONPCM (2 * pair.val) = 1) :
    exec (.nonpcmEnd pair) s =
      done (((s.set ASTAT.SRC_NONPCM 0 (2 * pair.val)).set ASTAT.SRC_NONPCM 0 (2 * pair.val + 1)).chEvent (2 * pair.val) 0
        AUDIO.EV_NONPCM_CHG) := if_pos hnp

/-- The long delay that waits for the pool acts. -/
theorem exec_poolDelayAct {ch : Fin 32768} {n : Nat} {s : State} (hn : NTable.find s.audio.poolWait ch = some n) :
    ∃ t, exec (.poolDelayAct ch) s = done t ∧ t.get XPT.W2_DELAY ch = n % 2 ^ 17 ∧ t.get XPT.W2_LONG ch = 1 ∧
      NTable.find t.audio.poolWait ch = none ∧ (t.chan ch).oldDelay = some (s.get XPT.W2_DELAY ch, 0) := by
  have hexec : exec (.poolDelayAct ch) s = execPoolDelayAct ch s := rfl
  rw [hexec]
  unfold execPoolDelayAct
  rw [hn]
  refine ⟨_, rfl, ?_, ?_, NTable.find_erase_same _ _, ?_⟩
  · simp (disch := decide) only [State.setChan_get, State.get_set_ne, State.get_set_same]
    rfl
  · simp only [State.setChan_get, State.get_set_same]
    rfl
  · rw [State.setChan_chan]
    rfl

/-- A channel that falls silent: SILENT is shown, it is no longer overloaded, and SIL_CHG stands. -/
theorem exec_silenceDetect {ch : Fin 32768} {s : State} (hs : s.get ASTAT.SRC_SILENT ch = 0) :
    ∃ t, exec (.silenceDetect ch) s = done t ∧ t.get ASTAT.SRC_SILENT ch = 1 ∧ t.get ASTAT.SRC_OVERLOAD ch ≠ 1 ∧
      t.event .audio 0 AUDIO.EV_SIL_CHG := by
  have hexec : exec (.silenceDetect ch) s = execSilenceDetect ch s := rfl
  rw [hexec]
  unfold execSilenceDetect
  rw [if_neg (by simp [hs])]
  extract_lets t
  have hsilent : t.get ASTAT.SRC_SILENT ch = 1 := ((State.chEvent_kept _ _ _ _).get _ _ _ rfl).trans (State.get_set_same _ _ _ _ _)
  have hevent : t.event .audio 0 AUDIO.EV_SIL_CHG := State.chEvent_event _ _ _ _
  split
  · have hkept := State.chEvent_kept (t.set ASTAT.SRC_OVERLOAD 0 ch) ch 0 AUDIO.EV_OVL
    refine ⟨_, rfl, ?_, ?_, hkept.stat.event hevent⟩
    · rw [hkept.get _ _ _ rfl, State.get_set_ne _ _ _ _ _ _ (by decide), hsilent]
    · rw [hkept.get _ _ _ rfl, State.get_set_same]
      decide
  · exact ⟨t, rfl, hsilent, ‹_›, hevent⟩

/-! ## Converters -/

section
variable {m : Fin 7} {v : Word} {s t0 : State} (hw : s.takesWrite m .audio 1 0x044 v.toNat)
  (ht : t0 = s.writePlain m .audio 1 0x044 v.toNat) (hgo : bitOf v.toNat 31 = true) (hidle : t0.get AUDIO.SRU_RESP_BUSY 1 = 0)
  (hgate : t0.gate .audio 1 = 0) (hunit : t0.audioCode = 0)
include hw ht hgo hidle hgate hunit

/-- ALLOC takes the first free converter and sets it from the image, acquiring where the image is VALID. -/
theorem exec_sruAlloc {k : Nat} (hop : bitsOf v.toNat 8 2 = 1) (hfree : (List.range 256).find? (fun x => !t0.sruUsed x) = some k)
    (himg : t0.sruImg.code = 0) :
    exec (.sruAlloc m v) s =
      done ((if t0.sruImg.valid = 1 then (t0.sruPut k t0.sruImg).sruEnter k 1 else t0.sruPut k t0.sruImg).sruAnswer m 0 k) := by
  refine congrArg done ((State.sruRequest_admitted hw ht hgo hop hidle hgate hunit ?_).trans ?_)
  all_goals
    rw [hfree]
  exact himg

/-- MODIFY sets a converter in use from a VALID image, and it acquires again. -/
theorem exec_sruModify (hop : bitsOf v.toNat 8 2 = 2) (hused : t0.sruUsed (bitsOf v.toNat 0 8) = true) (himg : t0.sruImg.code = 0)
    (hvalid : t0.get AUDIO.SRU_IMG_VALID 1 = 1) :
    exec (.sruModify m v) s =
      done (((t0.sruPut (bitsOf v.toNat 0 8) t0.sruImg).sruEnter (bitsOf v.toNat 0 8) 1).sruAnswer m 0 (bitsOf v.toNat 0 8)) := by
  have hacquires : t0.sruImg.valid = 1 := hvalid
  refine congrArg done ((State.sruRequest_admitted hw ht hgo hop hidle hgate hunit ?_).trans ?_)
  · simp [hused, himg]
  · simp [hacquires]

/-- FREE clears a converter in use that nothing reads. -/
theorem exec_sruFree (hop : bitsOf v.toNat 8 2 = 3) (hused : t0.sruUsed (bitsOf v.toNat 0 8) = true)
    (hread : t0.sruRead (bitsOf v.toNat 0 8) = false) :
    exec (.sruFree m v) s =
      done ((((t0.sruPut (bitsOf v.toNat 0 8) { first := 0, nch := 0, mode := 0, far := 1, hi := 0, valid := 0 }).sruEnter
        (bitsOf v.toNat 0 8) 0).set AUDIO.SRU_RATIO 0 (sruInst (bitsOf v.toNat 0 8)) (sruIdx (bitsOf v.toNat 0 8))).sruAnswer m 0
          (bitsOf v.toNat 0 8)) :=
  congrArg done (State.sruRequest_admitted hw ht hgo hop hidle hgate hunit (by simp [hused, hread]))

end

/-- A converter in ACQUIRE locks with its ratio. -/
theorem exec_sruLock {k : Fin 256} {ratio : BitVec 32} {s : State} (hst : s.get AUDIO.SRU_STATE (sruInst k) (sruIdx k) = 1) :
    exec (.sruLock k ratio) s = done ((s.sruEnter k 2).set AUDIO.SRU_RATIO ratio.toNat (sruInst k) (sruIdx k)) := if_pos hst

/-- A converter in LOCK loses its far side. -/
theorem exec_sruLost {k : Fin 256} {s : State} (hst : s.get AUDIO.SRU_STATE (sruInst k) (sruIdx k) = 2) :
    exec (.sruLost k) s = done (s.sruEnter k 3) := if_pos hst

/-! ## Mix buses and meters -/

section
variable {m : Fin 7} {v : Word} {s t0 : State}

/-- MIX_REQ gives a bus its lowest run of inputs. -/
theorem exec_mixReq {f : Nat} (hw : s.takesWrite m .audio 4 0x040 v.toNat) (ht : t0 = s.writePlain m .audio 4 0x040 v.toNat)
    (hgo : bitOf v.toNat 31 = true) (hidle : t0.get AUDIO.MIX_RESP_BUSY 4 = 0) (hgate : t0.gate .audio 4 = 0) (hunit : t0.audioCode = 0)
    (hsome : bitsOf v.toNat 16 7 ≠ 0) (hmax : bitsOf v.toNat 16 7 ≤ 64)
    (hrun : t0.mixRun (bitsOf v.toNat 0 9) (bitsOf v.toNat 16 7) = some f) :
    exec (.mixReq m v) s =
      done (((((t0.set AUDIO.MB_FIRST f (busInst (bitsOf v.toNat 0 9)) (busIdx (bitsOf v.toNat 0 9))).set AUDIO.MB_NIN
        (bitsOf v.toNat 16 7) (busInst (bitsOf v.toNat 0 9)) (busIdx (bitsOf v.toNat 0 9))).set AUDIO.MIX_RESP_CODE 0 4).set
          AUDIO.MIX_RESP_DONE 1 4).noteDecision 0 0 m .audio 4) := by
  show execMixReq m v s = _
  unfold execMixReq
  rw [State.withWrite_taken hw, ← ht, if_pos (by simp [hgo, hidle])]
  have hbound : ¬64 < bitsOf v.toNat 16 7 := by omega
  simp [hgate, hunit, hsome, hbound, hrun, State.answerCode]

/-- MIX_CTL.COMMIT makes the levels due at the next sample frame. -/
theorem exec_mixCommit (hw : s.takesWrite m .audio 4 0x048 v.toNat) (ht : t0 = s.writePlain m .audio 4 0x048 v.toNat)
    (hcommit : bitOf v.toNat 0 = true) (hgate : t0.gate .audio 4 = 0) (hunit : t0.audioCode = 0) (hmix : t0.mixCode = 0) :
    exec (.mixCommit m v) s =
      done (((State.set { t0 with audio := { t0.audio with mixDue := true } } AUDIO.MIX_RESP_CODE 0 4).set AUDIO.MIX_RESP_DONE 1
        4).noteDecision 0 0 m .audio 4) := by
  show execMixCommit m v s = _
  unfold execMixCommit
  rw [State.withWrite_taken hw, ← ht, if_pos hcommit]
  simp [hgate, hunit, hmix]

/-- An enabled meter reports its values. -/
theorem exec_meterReport {k : Fin 64} {f : MeterFacts} (hen : s.get AUDIO.LM_EN 6 k = 1) :
    exec (.meterReport k f) s =
      done ((((((s.set AUDIO.LM_MOMENTARY f.momentary 6 k).set AUDIO.LM_SHORT f.short 6 k).set AUDIO.LM_INTEGRATED f.integrated 6
        k).set AUDIO.LM_RANGE f.range 6 k).set AUDIO.LM_TRUE_PEAK f.truePeak 6 k).set AUDIO.LM_SECONDS f.seconds 6 k) := if_pos hen

/-- LM.RESET_INT restarts a meter's integrated values. -/
theorem exec_meterReset {k : Fin 64} (hw : s.takesWrite m .audio 6 (0x408 + 0x20 * k.val) v.toNat) (hreset : bitOf v.toNat 0 = true) :
    exec (.meterReset m k v) s =
      done (((((s.writePlain m .audio 6 (0x408 + 0x20 * k.val) v.toNat).set AUDIO.LM_INTEGRATED 0x8000 6 k).set AUDIO.LM_RANGE 0 6
        k).set AUDIO.LM_TRUE_PEAK 0x8000 6 k).set AUDIO.LM_SECONDS 0 6 k) := by
  show execMeterReset m k v s = _
  unfold execMeterReset
  rw [State.withWrite_taken hw, if_pos hreset]

end

/-! ## Halves -/

/-- A half in service that fails with automatic repair off is isolated, and the other is selected. -/
theorem State.halfFails_swaps {s : State} {h : Nat} (hrun : s.get (HDR.STATE .audio) 0 h = uRUN)
    (hother : s.get (HDR.STATE .audio) 0 (1 - h) = uRUN) (hne : 1 - h ≠ h) (hauto : s.get REPAIR.CFG_AUTO = 0)
    (hsel : s.get AUDIO.ENG_STAT_SEL = h) :
    (s.halfFails h).get (HDR.STATE .audio) 0 h = uISOLATED ∧ (s.halfFails h).get AUDIO.ENG_STAT_SEL = (1 - h) % 2 ∧
      (s.halfFails h).get AUDIO.CNT_HALF_SWAPS = satAdd 32 (s.get AUDIO.CNT_HALF_SWAPS) 1 ∧
      (s.halfFails h).event .audio 0 AUDIO.EV_HALF_SWAP := by
  have hunit : s.unit ⟨.audio, 0, h⟩ = uRUN := hrun
  have hget : ∀ f : Field, (¬unitField .audio f) → booked f = false →
      (s.isolateUnit ⟨.audio, 0, h⟩ 6 0).get f = s.get f :=
    fun f hf hb => State.isolateUnit_get s ⟨.audio, 0, h⟩ 6 0 f 0 0 hf hb
  obtain ⟨hisolated, -⟩ := State.isolateUnit_state s ⟨.audio, 0, h⟩ 6 0 (by simp) (by rw [hunit]; decide) (by rw [hunit]; decide)
  have hstays := State.isolateUnit_other s ⟨.audio, 0, h⟩ 6 0 (p := .audio) rfl (by decide) (i := 0) (k := 1 - h) (fun e => hne e.2)
  obtain ⟨t, hkept, hswap⟩ := State.settleHalves_swaps ((hget AUDIO.ENG_STAT_SEL (by decide) (by decide)).trans hsel)
    (by rw [hisolated]; decide) (hstays.trans hother)
  have hfails : s.halfFails h =
      ((t.set AUDIO.ENG_STAT_SEL (1 - h)).bump AUDIO.CNT_HALF_SWAPS).raise .audio 0 AUDIO.EV_HALF_SWAP := by
    unfold State.halfFails
    dsimp only
    rw [if_neg (by simp [hunit]), State.retireIfLimit_off _ _ ((hget _ (by decide) (by decide)).trans hauto), hswap]
  rw [hfails]
  refine ⟨?_, ?_, ?_, State.raise_stat _ _ _ _⟩
  · rw [State.raise_get, State.bump_get_ne _ _ _ _ _ (by decide), State.get_set_ne _ _ _ _ _ _ (by decide), hkept.get _ _ _ rfl,
      hisolated]
  · rw [State.raise_get, State.bump_get_ne _ _ _ _ _ (by decide), State.get_set_same]
    rfl
  · rw [State.raise_get, State.bump_get_same, State.get_set_ne _ _ _ _ _ _ (by decide), hkept.get _ _ _ rfl,
      hget _ (by decide) (by decide)]
    rfl

/-- Settles O16, command by command: each shows the values its operation writes, and neither the books nor the display touch them. -/
theorem audioProcessing : Obligations.AudioProcessing := by
  unfold Obligations.AudioProcessing
  refine ⟨fun ch w s hw => ?zcTimeout, fun pair s hnp => ?nonpcm, fun ch n s hn => ?poolDelay,
    fun m v k s t0 hw ht hgo hop hidle hgate hunit hfree himg => ?alloc,
    fun m v s t0 hw ht hgo hop hidle hgate hunit hused himg hvalid => ?modify,
    fun m v s t0 hw ht hgo hop hidle hgate hunit hused hread => ?free, fun k ratio s hst => ?lock, fun k s hst => ?lost,
    fun m v f s t0 hw ht hgo hidle hgate hunit hsome hmax hrun hf => ?mixReq,
    fun m v s t0 hw ht hcommit hgate hunit hmix => ?mixCommit, fun k f s hen => ?report, fun m k v s hw hreset => ?reset,
    fun ch s hs => ?silence, fun half s hrun hother hauto hsel => ?half⟩
  case zcTimeout =>
    rw [exec_zcTimeout hw]
    exact completes_done (State.settle_stat _ _ _ _ (State.chEvent_event _ _ _ _))
  case nonpcm =>
    rw [exec_nonpcmEnd hnp]
    refine completes_done ⟨?_, ?_, State.settle_stat _ _ _ _ (State.chEvent_event _ _ _ _)⟩ <;>
      rw [State.settle_get _ _ _ _ (by decide), (State.chEvent_kept _ _ _ _).get _ _ _ rfl]
    · rw [State.get_set_at, if_neg (by omega), State.get_set_same]
      rfl
    · rw [State.get_set_same]
      rfl
  case poolDelay =>
    obtain ⟨t, hexec, hdelay, hlong, hwait, hold⟩ := exec_poolDelayAct hn
    rw [hexec]
    refine completes_done ⟨?_, ?_, ?_, ?_⟩
    · rw [State.settle_get _ _ _ _ (by decide), hdelay]
    · rw [State.settle_get _ _ _ _ (by decide), hlong]
    · rw [State.settle_audio, hwait]
    · rw [State.settle_chan, hold]
  case alloc =>
    rw [exec_sruAlloc hw ht hgo hidle hgate hunit hop hfree himg]
    generalize hu : (if t0.sruImg.valid = 1 then (t0.sruPut k t0.sruImg).sruEnter k 1 else t0.sruPut k t0.sruImg) = u
    have hkept : Kept [AUDIO.SRU_STATE] (t0.sruPut k t0.sruImg) u := hu ▸ Kept.ite (State.sruEnter_kept _ _ _) (Kept.refl _ _)
    obtain ⟨hcode, hindex, hdone⟩ := State.sruAnswer_admitted_shows u m k
    refine completes_done ⟨?_, ?_, ?_, ?_, ?_⟩ <;> rw [State.settle_get _ _ _ _ (by decide)]
    · exact hcode
    · exact hindex
    · exact hdone
    · rw [State.sruAnswer_admitted_get _ _ _ _ _ (by decide) (by decide), hkept.get _ _ _ rfl, State.sruPut_mode]
      rfl
    · rw [State.sruAnswer_admitted_get _ _ _ _ _ (by decide) (by decide), hkept.get _ _ _ rfl, State.sruPut_nch]
      rfl
  case modify =>
    rw [exec_sruModify hw ht hgo hidle hgate hunit hop hused himg hvalid]
    obtain ⟨hcode, -, hdone⟩ := State.sruAnswer_admitted_shows
      ((t0.sruPut (bitsOf v.toNat 0 8) t0.sruImg).sruEnter (bitsOf v.toNat 0 8) 1) m (bitsOf v.toNat 0 8)
    refine completes_done ⟨?_, ?_, ?_⟩ <;> rw [State.settle_get _ _ _ _ (by decide)]
    · exact hcode
    · exact hdone
    · rw [State.sruAnswer_admitted_get _ _ _ _ _ (by decide) (by decide), State.sruEnter_state _ _ (by decide)]
  case free =>
    rw [exec_sruFree hw ht hgo hidle hgate hunit hop hused hread]
    generalize hu : State.set _ AUDIO.SRU_RATIO 0 _ _ = u
    obtain ⟨hcode, -, hdone⟩ := State.sruAnswer_admitted_shows u m (bitsOf v.toNat 0 8)
    refine completes_done ⟨?_, ?_, ?_⟩
    · rw [State.settle_get _ _ _ _ (by decide), hcode]
    · rw [State.settle_get _ _ _ _ (by decide), hdone]
    · unfold State.sruUsed
      rw [State.settle_get _ _ _ _ (by decide), State.sruAnswer_admitted_get _ _ _ _ _ (by decide) (by decide), ← hu,
        State.get_set_ne _ _ _ _ _ _ (by decide), (State.sruEnter_kept _ _ _).get _ _ _ rfl, State.sruPut_mode]
      rfl
  case lock =>
    have hnew : s.get AUDIO.SRU_STATE (sruInst k) (sruIdx k) ≠ 2 := by rw [hst]; decide
    rw [exec_sruLock hst]
    refine completes_done ⟨?_, ?_, State.settle_stat _ _ _ _ (State.sruEnter_event hnew)⟩ <;> rw [State.settle_get _ _ _ _ (by decide)]
    · rw [State.get_set_ne _ _ _ _ _ _ (by decide), State.sruEnter_state _ _ (by decide)]
    · rw [State.get_set_same]
      exact Nat.mod_eq_of_lt ratio.isLt
  case lost =>
    have hnew : s.get AUDIO.SRU_STATE (sruInst k) (sruIdx k) ≠ 3 := by rw [hst]; decide
    rw [exec_sruLost hst]
    refine completes_done ⟨?_, State.settle_stat _ _ _ _ (State.sruEnter_event hnew)⟩
    rw [State.settle_get _ _ _ _ (by decide), State.sruEnter_state _ _ (by decide)]
  case mixReq =>
    rw [exec_mixReq hw ht hgo hidle hgate hunit hsome hmax hrun]
    refine completes_done ⟨?_, ?_, ?_, ?_⟩ <;>
      rw [State.settle_get _ _ _ _ (by decide), State.noteDecision_get _ _ _ _ _ _ _ _ _ (by decide)] <;>
      simp (disch := decide) only [State.get_set_ne, State.get_set_same]
    · rfl
    · rfl
    · exact Nat.mod_eq_of_lt hf
    · exact Nat.mod_eq_of_lt (Nat.lt_of_le_of_lt hmax (by decide))
  case mixCommit =>
    rw [exec_mixCommit hw ht hcommit hgate hunit hmix]
    refine completes_done ⟨?_, ?_, ?_⟩
    · rw [State.settle_get _ _ _ _ (by decide), State.noteDecision_get _ _ _ _ _ _ _ _ _ (by decide),
        State.get_set_ne _ _ _ _ _ _ (by decide), State.get_set_same]
      rfl
    · rw [State.settle_get _ _ _ _ (by decide), State.noteDecision_get _ _ _ _ _ _ _ _ _ (by decide), State.get_set_same]
      rfl
    · rw [State.settle_audio, State.noteDecision_audio, State.set_audio, State.set_audio]
  case report =>
    rw [exec_meterReport hen]
    refine completes_done ⟨?_, ?_, ?_⟩ <;> rw [State.settle_get _ _ _ _ (by decide)] <;>
      simp (disch := decide) only [State.get_set_ne, State.get_set_same] <;> rfl
  case reset =>
    rw [exec_meterReset hw hreset]
    refine completes_done ⟨?_, ?_, ?_, ?_⟩ <;> rw [State.settle_get _ _ _ _ (by decide)] <;>
      simp (disch := decide) only [State.get_set_ne, State.get_set_same] <;> rfl
  case silence =>
    obtain ⟨t, hexec, hsilent, hloud, hevent⟩ := exec_silenceDetect hs
    rw [hexec]
    refine completes_done ⟨?_, ?_, State.settle_stat _ _ _ _ hevent⟩ <;> rw [State.settle_get _ _ _ _ (by decide)]
    · exact hsilent
    · exact hloud
  case half =>
    have hne : 1 - flag half ≠ flag half := by have := flag_lt half; omega
    obtain ⟨hisolated, hselected, hcount, hevent⟩ := State.halfFails_swaps hrun hother hne hauto hsel
    refine completes_done ⟨?_, ?_, ?_, State.settle_stat _ _ _ _ hevent⟩ <;> rw [State.settle_get _ _ _ _ (by decide)]
    · exact hisolated
    · rw [hselected]
      exact Nat.mod_eq_of_lt (by omega)
    · exact hcount

end Sys2Proof.Machine
end

section
/-! SUPPORT. What the operations of a serial port's directions show and leave (R307 to R313, Table 10.3). -/
namespace Sys2Proof.Machine

variable {l : List Field} {s t : State}

/-! ## The state of a direction -/

/-- What writes neither direction's state leaves it alone. -/
theorem Kept.ap (a : Kept l s t) (hrx : l.contains APORT.PORT_STAT_RX_STATE = false) (htx : l.contains APORT.PORT_STAT_TX_STATE = false)
    (p : Nat) (tx : Bool) : t.ap p tx = s.ap p tx := by
  cases tx
  · exact a.get _ _ _ hrx
  · exact a.get _ _ _ htx

/-- Another field set leaves the directions where they are. -/
theorem State.set_ap (s : State) {f : Field} (v i k p : Nat) (tx : Bool) (hrx : APORT.PORT_STAT_RX_STATE ≠ f)
    (htx : APORT.PORT_STAT_TX_STATE ≠ f) : (s.set f v i k).ap p tx = s.ap p tx := by
  cases tx
  · exact State.get_set_ne _ _ _ _ _ _ hrx
  · exact State.get_set_ne _ _ _ _ _ _ htx

/-- So does another counter raised. -/
theorem State.bump_ap (s : State) {f : Field} (i k p : Nat) (tx : Bool) (hrx : APORT.PORT_STAT_RX_STATE ≠ f)
    (htx : APORT.PORT_STAT_TX_STATE ≠ f) : (s.bump f i k).ap p tx = s.ap p tx := State.set_ap _ _ _ _ _ _ hrx htx

/-- So does an event. -/
theorem State.raise_ap (s : State) (q : Page) (i b p : Nat) (tx : Bool) : (s.raise q i b).ap p tx = s.ap p tx :=
  State.raise_get _ _ _ _ _ _ _

/-- A direction's state reads as the command left it. -/
@[simp] theorem State.settle_ap (s : State) (p : Nat) (tx : Bool) : s.settle.ap p tx = s.ap p tx := by
  cases tx <;> exact State.settle_get _ _ _ _ (by decide)

/-- The fields of a direction that entering a state of Table 10.3 writes. -/
abbrev apEnterFields : List Field :=
  [APORT.PORT_STAT_RX_STATE, APORT.PORT_STAT_TX_STATE, APORT.HID_STEP, APORT.HID_CLEAN]

theorem State.apEnter_kept (s : State) (p : Nat) (tx : Bool) (st : Nat) : Kept apEnterFields s (s.apEnter p tx st) := by
  cases tx <;> exact (((Kept.refl _ s).set _ _ _ _ rfl).set _ _ _ _ rfl).set _ _ _ _ rfl

/-- The counts restarted leave the states of the directions alone. -/
theorem State.apEnter_counts (s : State) (p : Nat) (tx : Bool) (st : Nat) :
    Kept [APORT.HID_STEP, APORT.HID_CLEAN] (s.set (portState tx) st p) (s.apEnter p tx st) :=
  ((Kept.refl _ _).set _ _ _ _ rfl).set _ _ _ _ rfl

/-- The state entered is shown. -/
theorem State.apEnter_ap (s : State) (p : Nat) (tx : Bool) {st : Nat} (h : st < 8) : (s.apEnter p tx st).ap p tx = st := by
  have hset : (s.set (portState tx) st p).ap p tx = st := by
    unfold State.ap
    rw [State.get_set_same]
    cases tx <;> exact Nat.mod_eq_of_lt h
  exact ((State.apEnter_counts s p tx st).ap rfl rfl p tx).trans hset

/-- The other direction stays where it is. -/
theorem State.apEnter_ap_other (s : State) (p q : Nat) (tx : Bool) (st : Nat) : (s.apEnter p tx st).ap q (!tx) = s.ap q (!tx) := by
  refine ((State.apEnter_counts s p tx st).ap rfl rfl q (!tx)).trans ?_
  cases tx <;> exact State.get_set_ne _ _ _ _ _ _ (by decide)

/-! ## FIFOs, groups and clocks -/

theorem State.setFifo_kept (s : State) (p : Nat) (tx : Bool) (x : List (List Nat)) :
    Kept [APORT.PORT_STAT_RX_FILL, APORT.PORT_STAT_TX_FILL] s (s.setFifo p tx x) := by
  have hports : Kept [APORT.PORT_STAT_RX_FILL, APORT.PORT_STAT_TX_FILL] s
      { s with ports := { s.ports with fifo := NTable.putD s.ports.fifo (2 * p + flag tx) x [] } } := (Kept.refl _ s).plain _ rfl rfl
  cases tx <;> exact hports.set _ _ _ _ rfl

theorem State.groupSettle_kept (s : State) : Kept [APORT.GRP_CTL_RUNNING] s s.groupSettle :=
  (Kept.refl _ s).foldl _ (fun u _ => Kept.ite ((Kept.refl _ u).set _ _ _ _ rfl) (Kept.refl _ u)) _

/-- A transmit side that is OFF and not enabled stays OFF. -/
theorem State.apCommitted_off {p : Nat} (hoff : s.ap p true = apOFF) (hen : s.get APORT.PORT_CFG_TX_EN p = 0) :
    s.apCommitted p true = s := by
  have hen' : s.get (byDir APORT.PORT_CFG_RX_EN APORT.PORT_CFG_TX_EN true) p = 0 := hen
  unfold State.apCommitted State.apStop
  simp [hen', hoff]

/-- A direction as its clock is lost: what ramps or runs fades, anything else counts its clean frames again (R307). -/
def State.loseClock (s : State) (p : Nat) (tx : Bool) : State :=
  if s.ap p tx = apRAMP ∨ s.ap p tx = apRUN then s.apEnter p tx apFADE else s.set APORT.HID_CLEAN 0 p (flag tx)

theorem State.loseClock_kept (s : State) (p : Nat) (tx : Bool) : Kept apEnterFields s (s.loseClock p tx) :=
  Kept.ite (State.apEnter_kept _ _ _ _) ((Kept.refl _ s).set _ _ _ _ rfl)

/-- A running direction fades. -/
theorem State.loseClock_run {p : Nat} {tx : Bool} (h : s.ap p tx = apRUN) : (s.loseClock p tx).ap p tx = apFADE := by
  unfold State.loseClock
  rw [if_pos (.inr h)]
  exact State.apEnter_ap _ _ _ (by decide)

/-- The other direction stays where it is. -/
theorem State.loseClock_other (s : State) (p q : Nat) (tx : Bool) : (s.loseClock p tx).ap q (!tx) = s.ap q (!tx) := by
  unfold State.loseClock
  split
  · exact State.apEnter_ap_other _ _ _ _ _
  · exact State.set_ap _ _ _ _ _ _ (by decide) (by decide)

end Sys2Proof.Machine
end

section
/-! SUPPORT. What the commands of the serial ports come to, and what they show (R271, R307 to R316). -/
namespace Sys2Proof.Machine

section
variable {p : Fin 16} {tx : Bool} {s : State}

/-- A fade that ends. -/
theorem exec_portFadeEnd (hst : s.ap p tx = apFADE) :
    exec (.portFadeEnd p tx) s = done ((s.apEnter p tx apHOLD).set APORT.HID_STARTING 0 p (flag tx)) := if_pos hst

/-- 16 clean frames in HOLD: the FIFO is brought to its depth and the direction ramps. -/
theorem exec_portRejoin (hst : s.ap p tx = apHOLD) (hclean : s.get APORT.HID_CLEAN p (flag tx) = 16) :
    ∃ (u : State) (wait : Nat), exec (.portRejoin p tx) s =
      done ((((u.apEnter p tx apRAMP).set APORT.HID_WAIT wait p (flag tx)).set APORT.HID_STARTING 0 p (flag tx)).raise .aport p
        APORT.EV_REJOIN) := ⟨_, _, if_pos ⟨hst, hclean⟩⟩

/-- A ramp that ends. -/
theorem exec_portRampEnd (hst : s.ap p tx = apRAMP) :
    exec (.portRampEnd p tx) s = done ((s.apEnter p tx apRUN).set APORT.HID_WAIT 0 p (flag tx)) := if_pos hst

/-- A transmit side that has stopped and is not enabled goes OFF with its FIFO empty. -/
theorem exec_portStopDone (hst : s.ap p true = apSTOP) (hen : s.get APORT.PORT_CFG_TX_EN p = 0) :
    ∃ t, exec (.portStopDone p true) s = done t ∧ t.ap p true = apOFF ∧ t.get APORT.PORT_STAT_TX_FILL p = 0 := by
  have hexec : exec (.portStopDone p true) s = execPortStopDone p true s := rfl
  rw [hexec]
  unfold execPortStopDone
  rw [if_pos hst]
  extract_lets u ports v
  have hfifo : Kept [APORT.PORT_STAT_RX_FILL, APORT.PORT_STAT_TX_FILL] (s.apEnter p true apOFF) u := State.setFifo_kept _ _ _ _
  have hout : Kept [APORT.GRP_CTL_RUNNING] u v := (Kept.refl _ u).plain v rfl rfl
  have hkept : Kept [APORT.GRP_CTL_RUNNING] u v.groupSettle := hout.trans v.groupSettle_kept
  have hoff : v.groupSettle.ap p true = apOFF := by
    rw [hkept.ap rfl rfl, hfifo.ap rfl rfl, State.apEnter_ap _ _ _ (by decide)]
  have hdisabled : v.groupSettle.get APORT.PORT_CFG_TX_EN p = 0 := by
    rw [hkept.get _ _ _ rfl, hfifo.get _ _ _ rfl, (State.apEnter_kept _ _ _ _).get _ _ _ rfl, hen]
  refine ⟨_, rfl, ?_, ?_⟩ <;> rw [State.apCommitted_off hoff hdisabled]
  · exact hoff
  · exact (hkept.get _ _ _ rfl).trans (State.get_set_same _ _ _ _ _)

/-- A clock that is lost: the directions that it serves lose it, and the rest of the port as the loss leaves it is kept. -/
theorem exec_portClkLost (hok : s.get APORT.PORT_STAT_CLK_OK p = 1) :
    ∃ u t, u = (((s.set APORT.PORT_STAT_CLK_OK 0 p).set APORT.FS_MEAS_VALID 0 p).bump APORT.CNT_CLK_LOSSES p).raise .aport p
        APORT.EV_CLK_LOST ∧
      exec (.portClkLost p) s = done t ∧ Kept apEnterFields u t ∧ t.ap p false = (u.loseClock p false).ap p false := by
  have hexec : exec (.portClkLost p) s = execPortClkLost p s := rfl
  rw [hexec]
  unfold execPortClkLost
  rw [if_neg (by simp [hok])]
  extract_lets u fade
  have hrx : fade u false = u.loseClock p false := rfl
  have htx : fade (u.loseClock p false) true = (u.loseClock p false).loseClock p true := rfl
  have hkept := State.loseClock_kept u p false
  refine ⟨u, _, rfl, rfl, ?_, ?_⟩
  · rw [hrx, htx]
    exact Kept.ite hkept (hkept.trans (State.loseClock_kept _ _ _))
  · rw [hrx, htx]
    split
    · rfl
    · exact State.loseClock_other _ _ _ true

/-- A wait for a zero crossing that times out. -/
theorem exec_portZcTimeout {c : Fin 32} (hwait : bitOf (s.get APORT.HID_WAIT p (flag tx)) c = true) :
    exec (.portZcTimeout p tx c) s =
      done (((s.set APORT.HID_WAIT (clrBit (s.get APORT.HID_WAIT p (flag tx)) c) p (flag tx)).bump APORT.CNT_ZC_TIMEOUTS p).raise
        .aport p APORT.EV_ZC_TIMEOUT) := if_pos hwait

/-- A confirmation of a declared SYNC that changes is shown and raised. -/
theorem State.syncDecl_changes {p : Nat} {on : Bool} (hdecl : s.get APORT.PORT_CFG_SYNC_DECL p = 1)
    (hnew : s.get APORT.HID_SYNC p ≠ flag on) :
    (s.syncDecl p on).get APORT.HID_SYNC p = flag on ∧ (s.syncDecl p on).event .aport p APORT.EV_SYNC_CHG := by
  unfold State.syncDecl
  rw [if_neg (by simp [hdecl, hnew])]
  refine ⟨?_, State.raise_stat _ _ _ _⟩
  rw [State.raise_get, State.showClass, State.get_set_ne _ _ _ _ _ _ (by decide), State.get_set_same]
  exact Nat.mod_eq_of_lt (flag_lt on)

end

/-- Settles O17, command by command: each direction shows the state it enters, what the command writes after it leaves that state alone,
and a frame is what the port's or the matrix's own operations make of it. -/
theorem serialAudioPorts : Obligations.SerialAudioPorts := by
  unfold Obligations.SerialAudioPorts
  refine ⟨fun p tx s hst => ?fadeEnd, fun p tx s hst hclean => ?rejoin, fun p tx s hst => ?rampEnd, fun p s hst hen => ?stopDone,
    fun p s hok hrun => ?clkLost, fun p tx c s hwait => ?zcTimeout, fun p s hdecl hsync => ?confirm, fun p s hdecl hsync => ?withdraw,
    fun p f s hon hunit => ?rxFrame, fun p f s hon hunit hmode => ?txFrame, fun f s hup => ?sampleFrame⟩
  case fadeEnd =>
    rw [exec_portFadeEnd hst]
    refine completes_done ⟨?_, ?_⟩
    · rw [State.settle_ap]
      simp (disch := decide) only [State.set_ap, State.apEnter_ap]
    · rw [State.settle_get _ _ _ _ (by decide), State.get_set_same]
      rfl
  case rejoin =>
    obtain ⟨u, wait, hexec⟩ := exec_portRejoin hst hclean
    rw [hexec]
    refine completes_done ⟨?_, ?_, State.settle_stat _ _ _ _ (State.raise_stat _ _ _ _)⟩
    · rw [State.settle_ap]
      simp (disch := decide) only [State.raise_ap, State.set_ap, State.apEnter_ap]
    · rw [State.settle_get _ _ _ _ (by decide), State.raise_get, State.get_set_same]
      rfl
  case rampEnd =>
    rw [exec_portRampEnd hst]
    refine completes_done ⟨?_, ?_⟩
    · rw [State.settle_ap]
      simp (disch := decide) only [State.set_ap, State.apEnter_ap]
    · rw [State.settle_get _ _ _ _ (by decide), State.get_set_same]
      rfl
  case stopDone =>
    obtain ⟨t, hexec, hoff, hfill⟩ := exec_portStopDone hst hen
    rw [hexec]
    refine completes_done ⟨?_, ?_⟩
    · rw [State.settle_ap, hoff]
    · rw [State.settle_get _ _ _ _ (by decide), hfill]
  case clkLost =>
    obtain ⟨u, t, hu, hexec, hkept, hap⟩ := exec_portClkLost hok
    have hstill : u.ap p false = apRUN := by
      rw [hu]
      simp (disch := decide) only [State.raise_ap, State.bump_ap, State.set_ap, hrun]
    rw [hexec]
    refine completes_done ⟨?_, ?_, ?_, ?_, State.settle_stat _ _ _ _ (hkept.stat.event (by rw [hu]; exact State.raise_stat _ _ _ _))⟩
    · rw [State.settle_get _ _ _ _ (by decide), hkept.get _ _ _ rfl, hu, State.raise_get, State.bump_get_ne _ _ _ _ _ (by decide),
        State.get_set_ne _ _ _ _ _ _ (by decide), State.get_set_same]
      rfl
    · rw [State.settle_get _ _ _ _ (by decide), hkept.get _ _ _ rfl, hu, State.raise_get, State.bump_get_ne _ _ _ _ _ (by decide),
        State.get_set_same]
      rfl
    · rw [State.settle_ap, hap, State.loseClock_run hstill]
    · rw [State.settle_get _ _ _ _ (by decide), hkept.get _ _ _ rfl, hu, State.raise_get, State.bump_get_same,
        State.get_set_ne _ _ _ _ _ _ (by decide), State.get_set_ne _ _ _ _ _ _ (by decide)]
      rfl
  case zcTimeout =>
    rw [exec_portZcTimeout hwait]
    refine completes_done ⟨?_, ?_, State.settle_stat _ _ _ _ (State.raise_stat _ _ _ _)⟩ <;>
      rw [State.settle_get _ _ _ _ (by decide), State.raise_get]
    · rw [State.bump_get_ne _ _ _ _ _ (by decide), State.get_set_same]
      rfl
    · rw [State.bump_get_same, State.get_set_ne _ _ _ _ _ _ (by decide)]
      rfl
  case confirm =>
    obtain ⟨hshown, hevent⟩ := State.syncDecl_changes (on := true) hdecl (by rw [hsync]; decide)
    refine completes_done ⟨?_, State.settle_stat _ _ _ _ hevent⟩
    rw [State.settle_get _ _ _ _ (by decide), hshown]
    rfl
  case withdraw =>
    obtain ⟨hshown, hevent⟩ := State.syncDecl_changes (on := false) hdecl (by rw [hsync]; decide)
    refine completes_done ⟨?_, State.settle_stat _ _ _ _ hevent⟩
    rw [State.settle_get _ _ _ _ (by decide), hshown]
    rfl
  case rxFrame => exact if_neg (by simp [hon, hunit])
  case txFrame =>
    have hclock : (if s.get APORT.PORT_CFG_MODE p = 3 then s else s.clockBack p f) = s.clockBack p f := if_neg hmode
    show execPortFrame p true f s = _
    unfold execPortFrame
    rw [if_neg (by simp [hon, hunit]), if_pos rfl, hclock]
    rfl
  case sampleFrame => exact if_neg (by simp [hup])

end Sys2Proof.Machine
end

section
/-! SUPPORT. What the commands of the alignment groups come to (R318). -/
namespace Sys2Proof.Machine

section
variable {s : State}

/-- A trigger taken by a group that is armed and does not run. -/
theorem State.trigger_armed {g : Nat} (harmed : s.get APORT.GRP_CTL_ARMED 0 g = 1) (hidle : s.get APORT.GRP_CTL_RUNNING 0 g = 0) :
    s.trigger g = (s.set APORT.HID_TRIGGERED 1 0 g).raise .aport 0 APORT.EV_TRIGGER := if_pos ⟨harmed, hidle⟩

/-- A group that takes a trigger is marked for its start frame, and TRIGGER stands. -/
theorem State.trigger_armed_shows {g : Nat} (harmed : s.get APORT.GRP_CTL_ARMED 0 g = 1)
    (hidle : s.get APORT.GRP_CTL_RUNNING 0 g = 0) :
    (s.trigger g).settle.get APORT.HID_TRIGGERED 0 g = 1 ∧ (s.trigger g).settle.event .aport 0 APORT.EV_TRIGGER := by
  rw [State.trigger_armed harmed hidle]
  refine ⟨?_, State.settle_stat _ _ _ _ (State.raise_stat _ _ _ _)⟩
  rw [State.settle_get _ _ _ _ (by decide), State.raise_get, State.get_set_same]
  rfl

section
variable {m : Fin 7} {g : Fin 8} {v : Word} (hw : s.takesWrite m .aport 0 (0x200 + 4 * g.val) v.toNat)
include hw

/-- A write of ARM that is taken. -/
theorem exec_grpArm (harm : bitOf v.toNat 16 = true) : exec (.grpArm m g v) s =
    done ((s.writePlain m .aport 0 (0x200 + 4 * g.val) v.toNat).set APORT.GRP_CTL_ARMED 1 0 g) :=
  congrArg done ((State.withWrite_taken hw _).trans (if_pos harm))

/-- A write of DISARM that is taken. -/
theorem exec_grpDisarm (hdisarm : bitOf v.toNat 17 = true) : exec (.grpDisarm m g v) s =
    done ((s.writePlain m .aport 0 (0x200 + 4 * g.val) v.toNat).set APORT.GRP_CTL_ARMED 0 0 g) :=
  congrArg done ((State.withWrite_taken hw _).trans (if_pos hdisarm))

/-- A write of GO that is taken, of a group that selects the register: the group is triggered. -/
theorem exec_grpGo (hgo : bitOf v.toNat 18 = true)
    (htrig : (s.writePlain m .aport 0 (0x200 + 4 * g.val) v.toNat).get APORT.GRP_CTL_TRIG 0 g = 0) :
    exec (.grpGo m g v) s = done ((s.writePlain m .aport 0 (0x200 + 4 * g.val) v.toNat).trigger g) :=
  congrArg done ((State.withWrite_taken hw _).trans (if_pos (by simp [hgo, htrig])))

end

/-- An edge on APSTART triggers the groups that select it, one by one. -/
theorem exec_apstartEdge (s : State) : exec (.apstartEdge none) s =
    done (((List.range 8).filter fun k => s.get APORT.GRP_CTL_TRIG 0 k = 1).foldl State.trigger s) := rfl

/-- A group as it starts: its trigger and its arm are spent, it runs, and its index reads 0. -/
def State.startGroup (s : State) (g : Nat) : State :=
  (((s.set APORT.HID_TRIGGERED 0 0 g).set APORT.GRP_IDX_INDEX 0 0 g).set APORT.GRP_CTL_ARMED 0 0 g).set APORT.GRP_CTL_RUNNING 1 0 g

theorem State.startGroup_shows (s : State) (g : Nat) :
    (s.startGroup g).get APORT.GRP_CTL_RUNNING 0 g = 1 ∧ (s.startGroup g).get APORT.GRP_CTL_ARMED 0 g = 0 ∧
      (s.startGroup g).get APORT.GRP_IDX_INDEX 0 g = 0 ∧ (s.startGroup g).get APORT.HID_TRIGGERED 0 g = 0 := by
  unfold State.startGroup
  refine ⟨?_, ?_, ?_, ?_⟩ <;> simp (disch := decide) only [State.get_set_ne, State.get_set_same] <;> rfl

/-- The start frame of a triggered group: the group starts, and its members enter a state, which writes their directions alone. -/
theorem exec_groupStartFrame {g : Fin 8} (htrig : s.get APORT.HID_TRIGGERED 0 g = 1) (harmed : s.get APORT.GRP_CTL_ARMED 0 g = 1) :
    ∃ t, exec (.groupStartFrame g) s = done t ∧ Kept apEnterFields (s.startGroup g) t :=
  ⟨_, if_pos ⟨htrig, harmed⟩, (Kept.refl _ _).foldl _ (fun t _ => Kept.ite ((Kept.refl _ t).foldl _
    (fun u _ => Kept.ite (State.apEnter_kept u _ _ _) (Kept.refl _ u)) _) (Kept.refl _ t)) _⟩

end

/-- Settles O18, command by command: an arm is what its write leaves, a trigger marks the armed group, and the members that enter HOLD at
the start frame leave the group's own fields alone. -/
theorem portGroups : Obligations.PortGroups := by
  unfold Obligations.PortGroups
  refine ⟨fun m g v s hw harm => ?arm, fun m g v s hw hdisarm => ?disarm, fun m g v s t0 hw ht hgo htrig harmed hidle => ?go,
    fun g s hsel harmed hidle => ?apstart, fun g s htrig harmed => ?startFrame⟩
  case arm =>
    rw [exec_grpArm hw harm]
    refine completes_done ?_
    rw [State.settle_get _ _ _ _ (by decide), State.get_set_same]
    rfl
  case disarm =>
    rw [exec_grpDisarm hw hdisarm]
    refine completes_done ?_
    rw [State.settle_get _ _ _ _ (by decide), State.get_set_same]
    rfl
  case go =>
    subst ht
    rw [exec_grpGo hw hgo htrig]
    exact completes_done (State.trigger_armed_shows harmed hidle)
  case apstart =>
    rw [exec_apstartEdge, hsel]
    exact completes_done (State.trigger_armed_shows harmed hidle)
  case startFrame =>
    obtain ⟨t, hexec, hkept⟩ := exec_groupStartFrame htrig harmed
    obtain ⟨hrunning, harm, hindex, hmark⟩ := s.startGroup_shows g
    rw [hexec]
    refine completes_done ⟨?_, ?_, ?_, ?_⟩ <;> rw [State.settle_get _ _ _ _ (by decide), hkept.get _ _ _ rfl]
    · exact hrunning
    · exact harm
    · exact hindex
    · exact hmark

end Sys2Proof.Machine
end

section
/-! SUPPORT. A loss of lock that reaches beyond the fields its clause of O58 lists: the second half of a memory quadrant's pair out of
lock gates the quadrant, and twins selected there change over (R211, R354, R396). -/
namespace Sys2Proof.Machine

/-- What a command that answers a settled state completes with, that state has. -/
theorem of_completes_done {t : State} {p : State → Prop} (h : Completes (done t) p) : p t.settle := by
  obtain ⟨u, hu, hp⟩ := h
  cases hu
  exact hp

/-- A loop that is LOCKED loses lock. -/
theorem exec_lossOfLock {k : Fin 20} {b : Bool} {s : State} (hexists : synExists k b = true) (hlocked : s.synState k (flag b) = syLOCKED) :
    exec (.lossOfLock k b) s = done (s.lockLost k (flag b)) := if_pos ⟨hexists, hlocked⟩

/-- The store of a synchroniser with its one buffer on channel 0, in quadrant 0. -/
def storeOnChannelZero : Alloc :=
  { kind := .sync, owner := 12, timing := 5, quad := 0, bw := 0, cap := 0, other := none, sets := [[0]], moveTo := none, proved := 0 }

/-- A format that both ends of the path have. -/
def twinFormat : Fmt := { raster := 3, rate := 3, scan := 0, sampling := 0, depth := 0, color := 1, transfer := 0, mapping := 0 }

/-- A protected path with both halves, whose plane A half reads store 0. -/
def twinOnStoreZero : Path :=
  { src := 3, mem := 0, w0 := 0x80010003, kind := 1, plane := 2, store := some 0, store2 := none, stream := none, stream2 := none,
    srcFmt := twinFormat, dstFmt := twinFormat, links := [], twin := true }

/-- Output 5 shows the plane A half of a twin that stands in quadrant 0, and of the quadrant's pair only the selected half is LOCKED. -/
def twinOnLastHalf : State :=
  State.set { State.reset with video := { State.reset.video with active := [(5, twinOnStoreZero)], allocs := [(0, storeOnChannelZero)] } }
    SYNTH.SYN_STAT_STATE syLOCKED 16

/-- The loss of that half selects the twin's other half. -/
theorem twinOnLastHalf_lockLost :
    twinOnLastHalf.get REPAIR.PROT_CFG_SEL 0 5 = 0 ∧ (twinOnLastHalf.lockLost 16 0).get REPAIR.PROT_CFG_SEL 0 5 = 1 := by
  decide +kernel

/-- Refutes O58: its clause of LOSS_OF_LOCK leaves out REPAIR.PROT_CFG.SEL. Where both halves of a memory quadrant's pair are out of lock
the quadrant is gated (R211, R354), and SEL of a twin whose selected half stands there changes at once (R396): here that of output 5,
from 0 to 1. -/
theorem not_frameOfReferenceAndMeshEvents : ¬ Obligations.FrameOfReferenceAndMeshEvents := by
  unfold Obligations.FrameOfReferenceAndMeshEvents
  intro h
  obtain ⟨-, -, -, -, -, -, -, -, -, -, -, -, -, hloss, -⟩ := h
  have hframe := hloss 16 false twinOnLastHalf
  rw [exec_lossOfLock rfl rfl] at hframe
  obtain ⟨hfields, -⟩ := of_completes_done hframe
  obtain ⟨hbefore, hafter⟩ := twinOnLastHalf_lockLost
  have hkept : (twinOnLastHalf.lockLost 16 0).get REPAIR.PROT_CFG_SEL 0 5 = 0 :=
    calc (twinOnLastHalf.lockLost 16 0).get REPAIR.PROT_CFG_SEL 0 5
      _ = (twinOnLastHalf.lockLost 16 0).settle.get REPAIR.PROT_CFG_SEL 0 5 := (State.settle_get _ _ _ _ (by decide)).symm
      _ = twinOnLastHalf.get REPAIR.PROT_CFG_SEL 0 5 := hfields REPAIR.PROT_CFG_SEL 0 5 (.inl (by decide)) (by decide)
      _ = 0 := hbefore
  exact absurd (hkept.symm.trans hafter) (by decide)

end Sys2Proof.Machine
end

section
/-! SUPPORT. What the passing of a period of XTAL32 leaves alone beside the clocks: the seconds that registers count leave the clocks, the
console and the queue alone (R322, R437, R438). -/
namespace Sys2Proof.Machine

/-! ## What only fields of a second's end touch -/

/-- Two states that differ in register fields only. -/
def RegsOnly (s t : State) : Prop := t = { s with regs := t.regs }

variable {s t : State}

theorem RegsOnly.refl (s : State) : RegsOnly s s := rfl

theorem RegsOnly.set (h : RegsOnly s t) (f : Field) (v i k : Nat) : RegsOnly s (t.set f v i k) := by
  unfold RegsOnly at *
  rw [h]
  rfl

theorem RegsOnly.ite {u : State} {c : Prop} [Decidable c] (h : RegsOnly s t) (g : RegsOnly s u) : RegsOnly s (if c then t else u) := by
  split
  · exact h
  · exact g

theorem RegsOnly.trans {u : State} (h : RegsOnly s t) (g : RegsOnly t u) : RegsOnly s u := by
  unfold RegsOnly at *
  rw [g, h]

theorem RegsOnly.foldl {α : Type} (h : RegsOnly s t) (g : State → α → State) (hg : ∀ u x, RegsOnly u (g u x)) :
    ∀ l : List α, RegsOnly s (l.foldl g t) := by
  intro l
  induction l generalizing t with
  | nil => exact h
  | cons x l ih => exact ih (h.trans (hg t x))

theorem RegsOnly.clk (h : RegsOnly s t) : t.clk = s.clk := by unfold RegsOnly at h; rw [h]
theorem RegsOnly.console (h : RegsOnly s t) : t.console = s.console := by unfold RegsOnly at h; rw [h]
theorem RegsOnly.pending (h : RegsOnly s t) : t.pending = s.pending := by unfold RegsOnly at h; rw [h]

/-! ## The parts of a tick -/

theorem State.tickHold_regsOnly (s : State) : RegsOnly s s.tickHold :=
  (RegsOnly.refl s).ite (((RegsOnly.refl s).set _ _ _ _).set _ _ _ _)

theorem State.tickScrub_regsOnly (s : State) : RegsOnly s s.tickScrub :=
  (RegsOnly.refl s).foldl _ (fun u _ => ((RegsOnly.refl u).set _ _ _ _).ite (RegsOnly.refl u)) _

/-- The end of a second writes registers only. -/
theorem State.tickSecond_regsOnly (s : State) : RegsOnly s s.tickSecond := by
  unfold State.tickSecond
  extract_lets n held minute hour
  have hheld : RegsOnly s held := (((RegsOnly.refl s).set _ _ _ _).set _ _ _ _).trans (State.tickHold_regsOnly _)
  have hminute : RegsOnly s minute := (hheld.set _ _ _ _).ite hheld
  have hhour : RegsOnly s hour := (hminute.trans (State.tickScrub_regsOnly minute)).ite hminute
  exact hhour.set _ _ _ _

/-- A step of TEST FF writes registers only. -/
theorem State.tickFf_regsOnly (s : State) : RegsOnly s s.tickFf := by
  unfold State.tickFf
  split
  · exact (((RegsOnly.refl s).set _ _ _ _).set _ _ _ _).ite (RegsOnly.refl s)
  · exact RegsOnly.refl s

/-- With no line buffered, the console's tick leaves the clocks and the queue alone. -/
theorem State.tickConsole_idle (h : s.console.buffer = []) : s.tickConsole.clk = s.clk ∧ s.tickConsole.pending = s.pending := by
  unfold State.tickConsole
  split
  · rw [h]
    exact ⟨(State.tickFf_regsOnly s).clk, (State.tickFf_regsOnly s).pending⟩
  · exact ⟨rfl, rfl⟩

/-- The state as a period of XTAL32 and the second that it may end leave it. -/
def State.tickTime (s : State) : State :=
  if s.tickClocks.clk.sysFs / fsPerSecond = s.clk.sysFs / fsPerSecond then s.tickClocks else s.tickClocks.tickSecond

theorem State.tick_eq (s : State) : s.tick = s.tickTime.tickConsole.settle := rfl

theorem State.tickTime_regsOnly (s : State) : RegsOnly s.tickClocks s.tickTime :=
  (RegsOnly.refl _).ite (State.tickSecond_regsOnly _)

/-- With no line buffered, a tick leaves the clocks as the period of XTAL32 leaves them, and the queue as it is. -/
theorem State.tick_idle (h : s.console.buffer = []) : s.tick.clk = s.tickClocks.clk ∧ s.tick.pending = s.pending := by
  have htime := s.tickTime_regsOnly
  have hbuffer : s.tickTime.console.buffer = [] := (congrArg ConsoleState.buffer htime.console).trans h
  obtain ⟨hclk, hpending⟩ := State.tickConsole_idle hbuffer
  rw [State.tick_eq, State.settle_clk, State.settle_pending]
  exact ⟨hclk.trans htime.clk, hpending.trans htime.pending⟩

/-- With XTAL32 running, a period raises the uptime by one and system time by the period. -/
theorem State.tickClocks_running (h : s.get RESET.BKP_STAT_XTAL32_FAIL = 0) :
    s.tickClocks.clk.uptime = (s.clk.uptime + 1) % 2 ^ 48 ∧ s.tickClocks.clk.sysFs = s.clk.sysFs + fsPerTick := by
  simp [State.tickClocks, h]

/-- A step with nothing waiting is a tick. -/
theorem step_of_idle (h : s.pending = []) : step s = .next s.tick := by
  unfold step
  rw [h]

/-- Settles O43: an empty queue leaves the tick, in which all that follows the clocks leaves them and the queue alone. -/
theorem stepIdles : Obligations.StepIdles := by
  unfold Obligations.StepIdles
  refine ⟨fun s => step_of_idle, fun s hidle hbuffer hrunning => ⟨s.tick, step_of_idle hidle, ?_⟩⟩
  obtain ⟨hclk, hpending⟩ := State.tick_idle hbuffer
  obtain ⟨huptime, hsysFs⟩ := State.tickClocks_running hrunning
  rw [hclk]
  exact ⟨huptime, hsysFs, hpending.trans hidle⟩

end Sys2Proof.Machine
end

section
/-! SUPPORT. What the operations of the reference manager show: a candidate's state and measures, a switch, a dispute and its arbitration
(R329 to R339). -/
namespace Sys2Proof.Machine

/-! ## A candidate's state and measures -/

/-- A candidate that enters another state says so. -/
theorem State.setRc_event {s : State} {k st : Nat} (h : s.rc k ≠ st) : (s.setRc k st).event .refmgr 0 REFMGR.EV_QUAL_CHG := by
  unfold State.setRc
  rw [if_neg h]
  exact State.raise_stat _ _ _ _

/-- What a measure shows beside the frequency: the phase, and what is detected of the format. -/
abbrev measureFields : List Field :=
  [REFMGR.RC_PHASE_NS, REFMGR.RC_STAT_PHASE_VALID, REFMGR.RC_STAT_TIME, REFMGR.RC_DETECT_RASTER, REFMGR.RC_DETECT_RATE,
   REFMGR.RC_DETECT_TRILEVEL, REFMGR.RC_DETECT_TENFIELD, REFMGR.RC_DETECT_AMPL]

/-- A measure shows the frequency, and beside it the phase and the format. -/
theorem State.rcMeasure_kept (s : State) (k : Nat) (f : RcMeas) :
    Kept measureFields ((s.set REFMGR.RC_FREQ_OFFSET (ofSigned 24 f.freq) 0 k).set REFMGR.RC_FREQ_VALID 1 0 k) (s.rcMeasure k f) := by
  unfold State.rcMeasure
  extract_lets measured phase phased timed
  have htimed : Kept measureFields measured timed :=
    (((Kept.refl _ measured).set _ _ _ _ rfl).set _ _ _ _ rfl).set _ _ _ _ rfl
  exact Kept.ite (((((htimed.set _ _ _ _ rfl).set _ _ _ _ rfl).set _ _ _ _ rfl).set _ _ _ _ rfl).set _ _ _ _ rfl) htimed

/-- A measure leaves the candidates' states alone. -/
theorem State.rcMeasure_state (s : State) (k : Nat) (f : RcMeas) (i j : Nat) :
    (s.rcMeasure k f).get REFMGR.RC_STAT_STATE i j = s.get REFMGR.RC_STAT_STATE i j := by
  rw [(s.rcMeasure_kept k f).get _ _ _ rfl, State.get_set_ne _ _ _ _ _ _ (by decide), State.get_set_ne _ _ _ _ _ _ (by decide)]

/-- A measure clears no event. -/
theorem State.rcMeasure_le (s : State) (k : Nat) (f : RcMeas) : StatLe s (s.rcMeasure k f) :=
  (((StatLe.refl s).set _ _ _ _).set _ _ _ _).trans (s.rcMeasure_kept k f).stat

/-- A candidate that becomes ABSENT shows it. -/
theorem State.rcAbsent_state (s : State) (k : Nat) : (s.rcAbsent k).get REFMGR.RC_STAT_STATE 0 k = rcABSENT := by
  have hkept : Kept [REFMGR.RC_STAT_RETURN, REFMGR.RC_STAT_PHASE_VALID, REFMGR.RC_FREQ_VALID, REFMGR.HID_AWAIT, REFMGR.HID_LOST]
      ((s.loseRc k).setRc k rcABSENT) (s.rcAbsent k) := by
    unfold State.rcAbsent
    extract_lets was absent cleared freed
    have hcleared : Kept [REFMGR.RC_STAT_RETURN, REFMGR.RC_STAT_PHASE_VALID, REFMGR.RC_FREQ_VALID, REFMGR.HID_AWAIT, REFMGR.HID_LOST]
        absent cleared := (((Kept.refl _ absent).set _ _ _ _ rfl).set _ _ _ _ rfl).set _ _ _ _ rfl
    have hfreed := Kept.ite (c := cleared.get REFMGR.HID_AWAIT = k + 1) (hcleared.set REFMGR.HID_AWAIT 0 0 0 rfl) hcleared
    exact Kept.ite (hfreed.set _ _ _ _ rfl) hfreed
  rw [hkept.get _ _ _ rfl]
  exact State.setRc_same _ _ _ (by decide)

/-! ## The switch -/

/-- A step of system time shows LAST_STEP and is told to the generators (R335). -/
theorem State.stepTime_kept (s : State) (d : Int) :
    Kept [REFMGR.LAST_STEP_NS_NS, REFMGR.LAST_STEP_S_SECONDS, VOUT.HID_STEP, VOUT.HID_DELTA] s (s.stepTime d) := by
  unfold State.stepTime
  extract_lets clocks stepped shown
  have hshown : Kept [REFMGR.LAST_STEP_NS_NS, REFMGR.LAST_STEP_S_SECONDS, VOUT.HID_STEP, VOUT.HID_DELTA] s shown :=
    (((Kept.refl _ s).plain stepped rfl rfl).set _ _ _ _ rfl).set _ _ _ _ rfl
  refine hshown.foldl _ (fun u o => ?_) _
  exact Kept.ite (((Kept.refl _ u).set _ _ _ _ rfl).set _ _ _ _ rfl) (Kept.refl _ u)

/-- A switch makes its candidate ACTIVE, with no candidate pending and the loop in ACQUIRE, and raises SWITCH (R335, R336). -/
theorem State.switchTo_shows (s : State) {k : Nat} (hk : k < 16) (diff : Int) (ptpCap : Nat) :
    (s.switchTo k diff ptpCap).get REFMGR.RM_STAT_ACTIVE = k ∧ (s.switchTo k diff ptpCap).get REFMGR.RM_STAT_ACTIVE_VALID = 1 ∧
      (s.switchTo k diff ptpCap).get REFMGR.RM_STAT_PENDING_VALID = 0 ∧
      (s.switchTo k diff ptpCap).get REFMGR.RM_STAT_STATE = rmACQUIRE ∧
      (s.switchTo k diff ptpCap).get REFMGR.RC_STAT_STATE 0 k = rcACTIVE ∧
      (s.switchTo k diff ptpCap).event .refmgr 0 REFMGR.EV_SWITCH := by
  unfold State.switchTo
  extract_lets d retired active selected capped opened
  have hkept := (opened.raise .refmgr 0 REFMGR.EV_SWITCH).stepTime_kept d
  have hopened : Kept [REFMGR.HID_CAP, REFMGR.BW_NOW_BW, REFMGR.CNT_SWITCHES, REFMGR.EVT_SLOT_SLOT] selected opened :=
    ((((Kept.refl _ selected).set _ _ _ _ rfl).set _ _ _ _ rfl).bump _ _ _ rfl).set _ _ _ _ rfl
  refine ⟨?_, ?_, ?_, ?_, ?_, hkept.stat.event (State.raise_stat _ _ _ _)⟩ <;>
    rw [hkept.get _ _ _ rfl, State.raise_get, hopened.get _ _ _ rfl]
  · simp (disch := decide) only [selected, State.get_set_ne, State.get_set_same]
    exact Nat.mod_eq_of_lt hk
  · simp (disch := decide) only [selected, State.get_set_ne, State.get_set_same]
    rfl
  · simp (disch := decide) only [selected, State.get_set_ne, State.get_set_same]
    rfl
  · simp (disch := decide) only [selected, State.get_set_ne, State.get_set_same]
    rfl
  · simp (disch := decide) only [selected, active, State.get_set_ne]
    exact State.setRc_same _ _ _ (by decide)

/-! ## Disputes -/

/-- Two candidates with their frequencies measured (R338). -/
def State.rcCompare (s : State) (a b : Nat) (fa fb : Int) : State :=
  (s.set REFMGR.RC_FREQ_OFFSET (ofSigned 24 fa) 0 a).set REFMGR.RC_FREQ_OFFSET (ofSigned 24 fb) 0 b

/-- The frequencies of two slots compared are those measured, as 24 bits hold them. -/
theorem State.rcCompare_gap (s : State) {a b : Nat} (h : a ≠ b) (fa fb : Int) :
    freqGap ((s.rcCompare a b fa fb).rcFreq a) ((s.rcCompare a b fa fb).rcFreq b) =
      freqGap (signedOf 24 (ofSigned 24 fa % 2 ^ 24)) (signedOf 24 (ofSigned 24 fb % 2 ^ 24)) := by
  have hb : (s.rcCompare a b fa fb).get REFMGR.RC_FREQ_OFFSET 0 b = ofSigned 24 fb % 2 ^ 24 := State.get_set_same _ _ _ _ _
  have ha : (s.rcCompare a b fa fb).get REFMGR.RC_FREQ_OFFSET 0 a = ofSigned 24 fa % 2 ^ 24 := by
    unfold State.rcCompare
    rw [State.get_set_at, if_neg (fun e => h e.2)]
    exact State.get_set_same _ _ _ _ _
  unfold State.rcFreq
  rw [ha, hb]

/-- An arbitration REJECTS its loser and raises DISPUTE (R338). -/
theorem State.arbitrate_shows (s : State) (winner loser : Nat) :
    (s.arbitrate winner loser).get REFMGR.RC_STAT_STATE 0 loser = rcREJECTED ∧
      (s.arbitrate winner loser).event .refmgr 0 REFMGR.EV_DISPUTE := by
  unfold State.arbitrate
  extract_lets raised ended held resumed rejected
  have hraised : raised.event .refmgr 0 REFMGR.EV_DISPUTE := State.raise_stat _ _ _ _
  have hended : Kept losing raised ended := Kept.ite (Kept.refl _ raised).endPrepare' (Kept.refl _ raised)
  have hheld : Kept losing raised held := Kept.ite hended.enterHoldover hended
  have hresumed : Kept losing raised resumed := Kept.ite (hheld.set _ _ _ _ rfl) hheld
  have hselected : Kept selecting rejected (if rejected.activeRc.isSome then rejected.select else rejected.beginPrepare winner) :=
    Kept.ite (Kept.refl _ rejected).select ((Kept.refl _ rejected).beginPrepare winner)
  constructor
  · rw [hselected.get _ _ _ rfl]
    exact State.setRc_same _ _ _ (by decide)
  · exact hselected.stat.event (State.setRc_stat _ _ _ _ _ _ (hresumed.stat.event hraised))

end Sys2Proof.Machine
end

section
/-! SUPPORT. What the commands of the reference manager come to (R322, R328 to R342). -/
namespace Sys2Proof.Machine

section
variable {k : Fin 16} {s : State}

/-- An ABSENT candidate's signal returns. -/
theorem exec_candidatePresent {f : RcMeas} (h : s.rc k = rcABSENT) :
    ∃ ret, exec (.candidatePresent k f) s =
      done ((((s.setRc k rcQUALIFYING).rcMeasure k f).set REFMGR.RC_STAT_RETURN ret 0 k).abandonFor k) := ⟨_, if_pos h⟩

/-- A QUALIFYING candidate's signal goes. -/
theorem exec_candidateAbsent {gm : Bool} (h : s.rc k = rcQUALIFYING) (hkind : s.rcKind k ≠ 9) :
    exec (.candidateAbsent k gm) s = done (((s.raiseIf gm .refmgr 0 REFMGR.EV_GM_CHG).rcAbsent k).select) :=
  if_neg (by simp [h, hkind])

/-- A QUALIFIED candidate fails a test: it is QUALIFYING again, without a return, before the selection runs. -/
theorem exec_qualTestFail (h : s.rc k = rcQUALIFIED) :
    ∃ u t, exec (.qualTestFail k) s = done t.select ∧
      Kept [REFMGR.HID_AWAIT] ((State.setRc u k rcQUALIFYING).set REFMGR.RC_STAT_RETURN 0 0 k) t :=
  ⟨_, _, if_pos (.inr h), Kept.ite ((Kept.refl _ _).set _ _ _ _ rfl) (Kept.refl _ _)⟩

/-- A candidate's qualification ends. -/
theorem exec_qualifyEnd {f : RcMeas} (h : s.rc k = rcQUALIFYING) :
    exec (.qualifyEnd k f) s = done (((s.setRc k rcQUALIFIED).rcMeasure k f).select) := if_pos h

end

/-- HOLDOFF ends. -/
theorem exec_holdoffExpire {s : State} (h : s.get REFMGR.HID_HOLDOFF = 1) :
    exec .holdoffExpire s = done (s.set REFMGR.HID_HOLDOFF 0).select := if_pos h

/-- PREPARE ends with a candidate pending. -/
theorem exec_prepareEnd {s : State} {diff : Int} {ptpCap k : Nat} (h : s.pendingRc = some k) :
    exec (.prepareEnd diff ptpCap) s = done (s.switchTo k diff ptpCap) := by
  show execPrepareEnd diff ptpCap s = _
  unfold execPrepareEnd
  rw [h]

section
variable {s : State} (hacquire : s.get REFMGR.RM_STAT_STATE = rmACQUIRE)
include hacquire

/-- A loop step above BW_TRACK only narrows the loop. -/
theorem exec_loopStep_narrows (h : s.bwTrack < s.get REFMGR.BW_NOW_BW / 10) :
    exec .loopStep s = done (s.set REFMGR.BW_NOW_BW (s.get REFMGR.BW_NOW_BW / 10)) := by
  show execLoopStep s = _
  unfold execLoopStep
  rw [if_pos (.inl hacquire), Nat.max_eq_right (Nat.le_of_lt h)]
  exact if_pos (Nat.ne_of_gt h)

/-- A loop step at BW_TRACK locks the loop. -/
theorem exec_loopStep_locks (h : s.get REFMGR.BW_NOW_BW / 10 ≤ s.bwTrack) :
    exec .loopStep s = done ((s.set REFMGR.BW_NOW_BW s.bwTrack).set REFMGR.RM_STAT_STATE rmLOCKED) := by
  show execLoopStep s = _
  unfold execLoopStep
  rw [if_pos (.inl hacquire), Nat.max_eq_left h]
  exact (if_neg (fun hne => hne rfl)).trans (if_pos hacquire)

end

section
variable {a b : Fin 16} {fa fb : Int} {s : State} (hab : a ≠ b)
include hab

/-- Two selectable candidates of the best rank disagree, and an arbiter decides. -/
theorem exec_dispute {w : Nat} (ha : s.selectable a = true) (hb : s.selectable b = true) (hbest : s.bestRc.isSome = true)
    (hranka : s.rcRank a = s.rcRank (s.bestRc.getD 0)) (hrankb : s.rcRank b = s.rcRank (s.bestRc.getD 0))
    (hgap : 100 < freqGap (signedOf 24 (ofSigned 24 fa % 2 ^ 24)) (signedOf 24 (ofSigned 24 fb % 2 ^ 24)))
    (harbiter : (s.rcCompare a b fa fb).arbiter a b = some w) :
    exec (.dispute a b fa fb) s = done ((s.rcCompare a b fa fb).arbitrate w (if w = a.val then b.val else a.val)) := by
  obtain ⟨x, hsome⟩ := Option.isSome_iff_exists.mp hbest
  rw [hsome] at hranka hrankb
  have hfar : 100 < freqGap ((s.rcCompare a b fa fb).rcFreq a) ((s.rcCompare a b fa fb).rcFreq b) := by
    rwa [State.rcCompare_gap s (Fin.val_ne_of_ne hab)]
  show execDispute a b fa fb s = _
  unfold execDispute
  rw [hsome]
  extract_lets t best
  have harbitert : t.arbiter a b = some w := harbiter
  rw [if_pos ⟨hab, ha, hb, hranka, hrankb, hfar⟩, harbitert]
  rfl

/-- A disagreement that has ended leaves no dispute, before the selection runs. -/
theorem exec_disputeEnd (hgap : freqGap (signedOf 24 (ofSigned 24 fa % 2 ^ 24)) (signedOf 24 (ofSigned 24 fb % 2 ^ 24)) < 50) :
    ∃ t, exec (.disputeEnd a b fa fb) s = done (State.set t REFMGR.HID_DISPUTE 0).select := by
  have hnear : freqGap ((s.rcCompare a b fa fb).rcFreq a) ((s.rcCompare a b fa fb).rcFreq b) < 50 := by
    rwa [State.rcCompare_gap s (Fin.val_ne_of_ne hab)]
  exact ⟨_, if_pos hnear⟩

end

/-- A write of a slot's RC_CFG. -/
theorem exec_rmCfgWrite {m : Fin 7} {k : Fin 16} {v : Word} {s : State} (hw : s.takesWrite m .refmgr 0 (0x100 + 0x20 * k.val) v.toNat) :
    exec (.rmCfgWrite m (some k) v) s =
      done ((s.writePlain m .refmgr 0 (0x100 + 0x20 * k.val) v.toNat).set REFMGR.RC_CFG_RANK (bitsOf v.toNat 4 4) 0 k).reselect :=
  congrArg done (State.withWrite_taken hw _)

section
variable {k : Nat} {s : State} (hactive : s.activeRc = some k)
include hactive

/-- System time is copied while the ACTIVE candidate carries time of day. -/
theorem exec_rtcCopy (htime : kindTime (s.rcKind k) = true) : exec .rtcCopy s =
    done { s with clk := { s.clk with rtcSeconds := s.sysSeconds, rtcSub := s.clk.sysFs % fsPerSecond * 32768 / fsPerSecond } } := by
  show execRtcCopy s = _
  unfold execRtcCopy
  rw [hactive]
  exact if_pos htime

/-- The positive leap second of an ACTIVE PTP candidate. -/
theorem exec_leapSecond {i : Nat} (hkind : s.rcKind k = 6) (hi : s.get REFMGR.RC_CFG_SOURCE 0 k = i)
    (hup : s.get REFMGR.UTC_STAT_LEAP61 0 i = 1) (hdown : s.get REFMGR.UTC_STAT_LEAP59 0 i = 0) :
    exec .leapSecond s = done ((((s.set REFMGR.UTC_STAT_OFFSET (s.get REFMGR.UTC_STAT_OFFSET 0 i + 1 + 65536) 0 i).set
      REFMGR.UTC_STAT_LEAP61 0 0 i).set REFMGR.UTC_STAT_LEAP59 0 0 i).raise .refmgr 0 REFMGR.EV_LEAP) := by
  subst hi
  show execLeapSecond s = _
  unfold execLeapSecond
  rw [hactive]
  dsimp only
  rw [hup, hdown]
  exact if_pos ⟨hkind, by decide⟩

end

/-- A read of SYSTIME_S_LO latches system time. -/
theorem exec_systimeRead {m : Fin 7} {s : State} (hr : s.takesRead m .refmgr 0 0x050) : exec (.systimeRead m) s = done s.latchTime :=
  congrArg done (State.withRead_taken hr _)

/-- A run of bits is below the power of its length. -/
theorem bitsOf_mod (x lo n : Nat) : bitsOf x lo n % 2 ^ n = bitsOf x lo n := by
  unfold bitsOf
  exact Nat.mod_mod _ _

/-- Settles O11, command by command: each sets what is named, and neither the selection after it nor the display touches that. -/
theorem referenceManager : Obligations.ReferenceManager := by
  unfold Obligations.ReferenceManager
  refine ⟨fun k f s habsent _ => ?present, fun k gm s hqual hkind => ?absent, fun k s hqual => ?testFails, fun k f s hqual => ?qualifies,
    fun s hholdoff => ?holdoff, fun diff ptpCap k s hpending hk => ?switch, fun s hacquire habove => ?narrows,
    fun s hacquire hat => ?locks, fun a b fa fb w s hab ha hb hbest hranka hrankb hgap harbiter => ?dispute,
    fun a b fa fb s hab hgap => ?disputeEnds, fun m k v s hw => ?rank, fun k s hactive htime => ?rtc,
    fun k s hactive hkind hup hdown => ?leap, fun m s hr => ?systime⟩
  case present =>
    obtain ⟨ret, hexec⟩ := exec_candidatePresent (f := f) habsent
    rw [hexec]
    refine completes_done ⟨?_, State.settle_stat _ _ _ _ (State.abandonFor_stat _ _ _ _ _ ?_)⟩
    · rw [State.settle_get _ _ _ _ (by decide), State.abandonFor_get _ _ _ _ _ rfl, State.get_set_ne _ _ _ _ _ _ (by decide),
        State.rcMeasure_state]
      exact State.setRc_same _ _ _ (by decide)
    · exact ((State.rcMeasure_le _ k f).set _ _ _ _).event (State.setRc_event (by rw [habsent]; decide))
  case absent =>
    rw [exec_candidateAbsent hqual hkind]
    refine completes_done ?_
    rw [State.settle_get _ _ _ _ (by decide), State.select_get _ _ _ _ rfl]
    exact State.rcAbsent_state _ k
  case testFails =>
    obtain ⟨u, t, hexec, hkept⟩ := exec_qualTestFail hqual
    rw [hexec]
    refine completes_done ⟨?_, ?_⟩ <;>
      rw [State.settle_get _ _ _ _ (by decide), State.select_get _ _ _ _ rfl, hkept.get _ _ _ rfl]
    · rw [State.get_set_ne _ _ _ _ _ _ (by decide)]
      exact State.setRc_same _ _ _ (by decide)
    · exact State.get_set_same _ _ _ _ _
  case qualifies =>
    rw [exec_qualifyEnd hqual]
    have hkept := State.rcMeasure_kept (s.setRc k rcQUALIFIED) k f
    refine completes_done ⟨?_, ?_, ?_⟩ <;> rw [State.settle_get _ _ _ _ (by decide), State.select_get _ _ _ _ rfl]
    · rw [State.rcMeasure_state]
      exact State.setRc_same _ _ _ (by decide)
    · rw [hkept.get _ _ _ rfl, State.get_set_ne _ _ _ _ _ _ (by decide)]
      exact State.get_set_same _ _ _ _ _
    · rw [hkept.get _ _ _ rfl]
      exact State.get_set_same _ _ _ _ _
  case holdoff =>
    rw [exec_holdoffExpire hholdoff]
    refine completes_done ?_
    rw [State.settle_get _ _ _ _ (by decide), State.select_get _ _ _ _ rfl]
    exact State.get_set_same _ _ _ _ _
  case switch =>
    rw [exec_prepareEnd hpending]
    obtain ⟨hactive, hvalid, hnone, hstate, hrc, hevent⟩ := State.switchTo_shows s hk diff ptpCap
    refine completes_done ⟨?_, ?_, ?_, ?_, ?_, State.settle_stat _ _ _ _ hevent⟩ <;> rw [State.settle_get _ _ _ _ (by decide)]
    · exact hactive
    · exact hvalid
    · exact hnone
    · exact hstate
    · exact hrc
  case narrows =>
    rw [exec_loopStep_narrows hacquire habove]
    refine completes_done ⟨?_, ?_⟩ <;> rw [State.settle_get _ _ _ _ (by decide)]
    · exact State.get_set_same _ _ _ _ _
    · exact (State.get_set_ne _ _ _ _ _ _ (by decide)).trans hacquire
  case locks =>
    rw [exec_loopStep_locks hacquire hat]
    refine completes_done ⟨?_, ?_⟩ <;> rw [State.settle_get _ _ _ _ (by decide)]
    · exact (State.get_set_ne _ _ _ _ _ _ (by decide)).trans (State.get_set_same _ _ _ _ _)
    · exact State.get_set_same _ _ _ _ _
  case dispute =>
    rw [exec_dispute hab ha hb hbest hranka hrankb hgap harbiter]
    obtain ⟨hrejected, hevent⟩ := State.arbitrate_shows (s.rcCompare a b fa fb) w (if w = a.val then b.val else a.val)
    refine completes_done ⟨?_, State.settle_stat _ _ _ _ hevent⟩
    rw [State.settle_get _ _ _ _ (by decide)]
    exact hrejected
  case disputeEnds =>
    obtain ⟨t, hexec⟩ := exec_disputeEnd (s := s) hab hgap
    rw [hexec]
    refine completes_done ?_
    rw [State.settle_get _ _ _ _ (by decide), State.select_get _ _ _ _ rfl]
    exact State.get_set_same _ _ _ _ _
  case rank =>
    rw [exec_rmCfgWrite hw]
    refine completes_done ?_
    rw [State.settle_get _ _ _ _ (by decide), State.reselect_get _ _ _ _ rfl, State.get_set_same]
    exact bitsOf_mod _ _ _
  case rtc =>
    rw [exec_rtcCopy hactive htime]
    refine completes_done ?_
    rw [State.settle_clk]
    exact ⟨rfl, rfl⟩
  case leap =>
    rw [exec_leapSecond hactive hkind rfl hup hdown]
    refine completes_done ⟨?_, ?_, State.settle_stat _ _ _ _ (State.raise_stat _ _ _ _)⟩ <;>
      rw [State.settle_get _ _ _ _ (by decide), State.raise_get, State.get_set_ne _ _ _ _ _ _ (by decide)]
    · rw [State.get_set_ne _ _ _ _ _ _ (by decide), State.get_set_same]
      exact Nat.add_mod_right _ _
    · exact State.get_set_same _ _ _ _ _
  case systime =>
    rw [exec_systimeRead hr]
    unfold State.latchTime
    refine completes_done ⟨?_, ?_, ?_⟩ <;> rw [State.settle_get _ _ _ _ (by decide)]
    · rw [State.get_set_ne _ _ _ _ _ _ (by decide), State.get_set_ne _ _ _ _ _ _ (by decide), State.get_set_same]
      exact bitsOf_mod _ _ _
    · rw [State.get_set_ne _ _ _ _ _ _ (by decide), State.get_set_same]
      exact bitsOf_mod _ _ _
    · exact State.get_set_same _ _ _ _ _

end Sys2Proof.Machine
end
